-- ==== Sys2Proof/Word.lean ====
section
/-! DEFINITION. The word types of the FL-3256 model and their plainest arithmetic (spec/00_scope.md,
Register notation; spec/09_capture_and_triggers.md R269 for timestamps). -/
namespace Sys2Proof

/-- A register word: 32 bits (spec/00_scope.md, Register notation). -/
abbrev Word := BitVec 32

/-- A byte of tile space, scratchpad or a message. -/
abbrev Byte := BitVec 8

/-- A 64-bit timestamp in the format of R269. -/
abbrev Stamp := BitVec 64

/-- A timestamp lies before another (R269): the count wraps, so the difference decides modulo 2^58. -/
def stampBefore (a b : Stamp) : Bool := decide (2 ^ 57 ≤ (a - b).toNat % 2 ^ 58)

/-- A run of bytes in ascending address order. -/
abbrev Bytes := List Byte

end Sys2Proof
end

