-- ==== Sys2Proof/Syntax.lean ====
section
/-! DEFINITION. The commands of the FL-3256: one constructor of `Instr` per row of spec/opcode_table.json, in the
table's order, and the operand types they carry. The table gives no bits, so the operands are the values the rows'
rules name: the master, the address, the byte enables and the data of an access; the measured value, the verdict or the
time of an event that reaches the device from outside. -/
namespace Sys2Proof

/-- The masters of Table 1.5, in ID order. -/
inductive Master where
  | host | mc | se | sb | pdma | cdma | xdma | dbg
  deriving DecidableEq, Repr

/-- The ID of a master (Table 1.5). -/
def Master.id : Master → Nat
  | .host => 0 | .mc => 1 | .se => 2 | .sb => 3 | .pdma => 4 | .cdma => 5 | .xdma => 6 | .dbg => 7

/-- The master with a given ID; IDs are three bits wide. -/
def Master.ofId (n : Nat) : Master :=
  match n % 8 with
  | 0 => .host | 1 => .mc | 2 => .se | 3 => .sb | 4 => .pdma | 5 => .cdma | 6 => .xdma | _ => .dbg

/-- One 32-bit write access at an address that the command's row fixes: master, byte enables, data (R28). -/
structure BusWrite where
  m : Master
  be : BitVec 4
  data : Word
  deriving DecidableEq, Repr

/-- One read access at an address that the row fixes: master and byte enables (R31). -/
structure BusRead where
  m : Master
  be : BitVec 4
  deriving DecidableEq, Repr

/-- A read of bytes from an address on: the master, and per byte whether it is enabled (R30, R31). -/
structure SpanRead where
  m : Master
  lanes : List Bool
  deriving DecidableEq, Repr

/-- How an event came onto its channel, as the Q7 entry records it (Table 12.4). -/
inductive RaiseKind where
  | source | system | fired | ring
  deriving DecidableEq, Repr

/-- One raise of a Midway channel with its hop count (R331, R333). `src` names the source among those of its kind: several raises
of one source in a Midway cycle are one pulse (R18). -/
structure Raise where
  ch : BitVec 8
  hops : Nat
  kind : RaiseKind
  src : Nat
  deriving DecidableEq, Repr

/-- Bytes of tile space in which stored bits have changed since the last command that told of any: byte address, and the bits that
flip (R280). -/
abbrev Flips := List (Nat × Byte)

/-- What the error-correcting code of the scratchpad reports for one read (R318). -/
inductive EccResult where
  | clean | corrected | uncorrectable
  deriving DecidableEq, Repr

/-- The causes of Table 16.4, in the order of its checks. -/
inductive CartCause where
  | noReply | version | cert | serial | signature | rollback
  deriving DecidableEq, Repr

/-- The code of a verification cause (Table 16.4). -/
def CartCause.code : CartCause → Nat
  | .noReply => 1 | .version => 2 | .cert => 3 | .serial => 4 | .signature => 5 | .rollback => 6

/-- What the SE reads from a cartridge in one verification or challenge: the identity record's fields (Table 16.3) and
the counters of the challenge answer, with the first of checks 1 and 3 to 5 that fails (R412 crypto included); check 2 looks at the
version and check 6 compares the counters with those the device holds. -/
structure CartAnswer where
  verdict : Option CartCause
  proto : BitVec 8
  serial : BitVec 64
  ratedMat : Word
  ratedCyc : BitVec 64
  coupling : List (BitVec 16)
  matings : Word
  cycles : BitVec 64
  deriving DecidableEq, Repr

/-- How a fetch of a tile into a sequencer's banks ends: the array errors since the last command (R280), and how many lane words were
due while the tile was not resident (R147). -/
structure FetchEnd where
  flips : Flips
  late : Nat
  deriving DecidableEq, Repr

/-- How a watch lands (R112): the departure time of the target's first symbol, and how many words of the play in progress are
committed up to the first lane-word boundary that is not. -/
structure Landing where
  ts : Stamp
  words : Nat
  deriving DecidableEq, Repr

/-- The header of a fallback request that carries no data (R394, R395): a READ of a space, or an op that Table 14.3 does not have. -/
inductive FbOp where
  | read (space : BitVec 2)
  | other (op : BitVec 8)
  deriving DecidableEq, Repr

/-- What the host's configuration requests set in the internal endpoint (R377): its power state (D3hot, else D0), and its maximum
payload and read request sizes, 128 bytes doubled so many times. -/
structure Endpoint where
  d3hot : Bool
  payload : Fin 3
  readReq : Fin 6
  deriving DecidableEq, Repr

/-- The endpoint after a reset of the link: D0, payloads of 128 and read requests of 512 bytes. Assumption 137, PRESUMED. -/
def Endpoint.init : Endpoint := ⟨false, 0, 2⟩

/-- The endpoint's identity (R377); its vendor ID is Config.vendor. -/
def Endpoint.deviceId : BitVec 16 := 0x3256
def Endpoint.classCode : BitVec 24 := 0xFF0000

/-- A change of the USB4 link: its CL state (R375), or the endpoint's configuration (R377). -/
inductive LinkState where
  | cl (n : BitVec 2)
  | endpoint (e : Endpoint)
  deriving DecidableEq, Repr

/-- A change of level on a TRIG_IN pin (R340, R341): the first 2 GHz sample that reads the new level, as the time of that sample,
and for how many samples the new level holds. -/
structure TrigEdge where
  sample : Stamp
  held : Nat
  deriving DecidableEq, Repr

/-- What a deep memory request does to its tile. -/
inductive DmOp where
  | read
  | writeWhole (data : Bytes)
  | writePart (off : Nat) (data : List (Option Byte))
  deriving DecidableEq, Repr

/-- A request at the deep memory controller: master, tile, operation, and the sequencer that it is a fetch for. -/
structure DmReq where
  m : Master
  tile : Nat
  op : DmOp
  sq : Option (Fin 20)
  deriving DecidableEq, Repr

/-- The requests that the controller accepts in one cycle (R281), and the array errors since the last command (R280). -/
structure DmCycle where
  reqs : List DmReq
  flips : Flips
  deriving DecidableEq, Repr

/-- One access on a port of a scratchpad bank (R306). `word` is the word index in the bank, `be` the byte enables. -/
structure SpAccess where
  m : Master
  port : Fin 2
  word : Nat
  write : Bool
  data : List (Option Byte)
  deriving DecidableEq, Repr

/-- How two accesses on the two ports of a bank meet at one word (R314, R315): in the same cycle, or the write in the
cycle after the read, or the read in the cycle after the write. -/
inductive SpMeet where
  | sameCycle | secondLater
  deriving DecidableEq, Repr

/-- A second access that meets the first one, and whether the retry meets BUSY again (R316). -/
structure SpCollision where
  other : SpAccess
  meet : SpMeet
  again : Bool
  deriving DecidableEq, Repr

/-- One block as the aligner takes it (R235): its stream bits as decided, before Gray decoding and before RXL_POL.invert, and the
times of its first and last symbols. `fill` is the elastic buffer's fill E in 0.25 ns (R239), `off` the stream bits by which the
block stands off the boundaries that the aligner tried first, and `ppm` a new value of the measured offset, if the CDR
has one (R228). -/
structure RxBlock where
  bits : List Bool
  tsFirst : Stamp
  tsLast : Stamp
  fill : BitVec 8
  off : Nat
  next : Bool
  ppm : Option (BitVec 16)
  deriving DecidableEq, Repr

/-- The blocks that the aligners pass on in one cycle of the capture core (R256): that of the row's lane, and any further ones in the
order in which they come. -/
structure RxCycle where
  block : RxBlock
  more : List (Fin 16 × RxBlock)
  deriving DecidableEq, Repr

/-- The type of a ring frame (Table 16.5) with its payload. -/
inductive FrameBody where
  | idle
  | time (stamp : Stamp)
  | event (entries : List (BitVec 8 × Nat))
  | fingerprint (fp : BitVec 64) (epoch : BitVec 16) (matches_ settled : Bool)
  | epoch (num : BitVec 16) (at_ : BitVec 48)
  | wake
  | discovery (ver : BitVec 8) (nodes : BitVec 16) (delayPs : Nat) (dup told : Bool)
  | other
  deriving DecidableEq, Repr

/-- A frame on the Rolter ring: version, source node, sequence, body and whether its CRC checks (R452). -/
structure Frame where
  ver : BitVec 8
  src : BitVec 4
  seq : BitVec 16
  body : FrameBody
  crcOk : Bool
  deriving DecidableEq, Repr

/-- Why a DMA descriptor ended early (Table 14.2), as the event that ends it reports. -/
inductive DmaEnd where
  | done | hostErr | sram | queue
  deriving DecidableEq, Repr

/-- The cause of a sideband fault (Table 13.5). -/
inductive SdCause where
  | overcurrent | compliance | readback | thermal | supply
  deriving DecidableEq, Repr

/-- The code of a sideband fault (Table 13.5). -/
def SdCause.code : SdCause → Nat
  | .overcurrent => 1 | .compliance => 2 | .readback => 3 | .thermal => 4 | .supply => 5

/-- The commands of the device: one constructor per row of spec/opcode_table.json. -/
inductive Instr where
  -- start-up and supplies
  | powerUp (post : BitVec 4)
  | deviceReady (us : Word) (okA okB : Bool)
  | resetN (lowNs : Nat) (post : BitVec 4)
  | supplyReset (sup : Fin 13)
  | supplyWindowExit (sup : Fin 13)
  | xtalValid
  -- register fabric
  | registerWrite (m : Master) (addr : BitVec 24) (bytes : List (Bool × Byte))
  | aliasWrite (addr : BitVec 24) (w : BusWrite)
  | rcRead (addr : BitVec 24) (r : SpanRead)
  | pageEnable (m : Master) (page : BitVec 8) (on : Bool)
  | blockReset (m : Master) (page : BitVec 8)
  | blockResetDone (page : BitVec 8)
  | levelChange (m : Master) (page : BitVec 8) (expert : Bool)
  | pageLock (m : Master) (page : BitVec 8)
  | checkEnable (m : Master) (page : BitVec 8) (on : Bool)
  | pageCommit (m : Master) (page : BitVec 8)
  | commitDone (page : BitVec 8)
  | keyArm (page : BitVec 8) (w : BusWrite)
  | keyExpire (page : BitVec 8)
  | pageClaim (page : BitVec 8) (ws : List BusWrite)
  | t3Sweep (upsets : List (Nat × Word × Word))
  | checkRecompute (page : BitVec 8)
  | protThaw (w : BusWrite)
  | autothaw (m : Master)
  | thawReq (w : BusWrite)
  | mcThaw (m : Master)
  | mcWatchdogReset
  | vlogPop (w : BusWrite)
  | turnstileAcquire (n : Fin 64) (rs : List BusRead)
  | turnstileRelease (n : Fin 64) (w : BusWrite)
  -- mode and power states
  | modeWrite (w : BusWrite)
  | modeChangeDone
  | reqDormant (m : Master)
  | reqStandby (m : Master)
  | reqArmed (m : Master)
  | dormantEntered
  | standbyEntered
  | armedEntered
  | wake (src : BitVec 8)
  | wakeDone (us : Word) (post : BitVec 4) (okA okB : Bool)
  | armIdleExpiry
  | armSynthWrite (w : BusWrite)
  -- Showbill
  | sbSubmit (w : BusWrite)
  | actEvaluate (slot : Fin 16)
  | actStart (slot : Fin 16)
  | actDurationExpiry (slot : Fin 16)
  | sbAbort (w : BusWrite)
  | sensorSample (tc tj : BitVec 16) (sensor : BitVec 8) (power : BitVec 12)
  | emergClear (w : BusWrite)
  | thermalTrip
  | hkOverdue (task : Fin 5) (res : Fin 64)
  | synthRecal (syn : Fin 9)
  | thermalOffsetCheck
  -- Ringmaster
  | sqPrepare (sq : Fin 20) (w : BusWrite)
  | prepareDone (sq : Fin 20)
  | haltReq (sq : Fin 20) (w : BusWrite)
  | programEntryWrite (sq : Fin 20) (w : BusWrite)
  | pdata3Read (sq : Fin 20) (r : BusRead)
  | seg (sq : Fin 20) (late : Nat)
  | loop (sq : Fin 20)
  | endloop (sq : Fin 20)
  | jumpTest (sq : Fin 20)
  | jumpArm (sq : Fin 20)
  | jumpDisarm (sq : Fin 20)
  | watchFire (sq : Fin 20) (slot : Fin 4) (sooner : Bool)
  | watchLand (sq : Fin 20) (l : Landing)
  | latchSet (sq : Fin 20) (k : Fin 4)
  | wait (sq : Fin 20)
  | waitEnd (sq : Fin 20)
  | waitTimeout (sq : Fin 20)
  | mark (sq : Fin 20)
  | markEmit (sq : Fin 20) (mark : Fin 4) (ts : Stamp)
  | rateAbs (sq : Fin 20)
  | ratePpm (sq : Fin 20)
  | handoffReady (lane : Fin 16)
  | handoffSwitch (lane : Fin 16) (fills : Nat)
  | spliceBegin (sq : Fin 20)
  | spliceStart (sq : Fin 20)
  | spliceEnd (sq : Fin 20)
  | spliceDrainDone (lane : Fin 16)
  | halt (sq : Fin 20)
  -- tiles
  | tileWriteWhole (m : Master) (tile : Nat) (data : Bytes)
  | tileWritePartial (m : Master) (tile : Nat) (off : Nat) (data : List (Option Byte)) (flips : Flips)
  | bar4Read (m : Master) (off : Nat) (len : Nat)
  | bar4Write (m : Master) (off : Nat) (data : List (Option Byte))
  | tileFetchDone (sq : Fin 20) (tile : Nat) (e : FetchEnd)
  -- clocks and synthesizers
  | refSelect (khz : Bool) (w : BusWrite)
  | refLost
  | refReturn (src : BitVec 2) (buildout : Option Word)
  | refFailover (buildout : Word)
  | guardPulse (cs : Fin 2)
  | csLockFault (cs : Fin 2)
  | synthLocked (syn : Fin 15) (band : BitVec 6)
  | synthLockFail (syn : Fin 9)
  | synthLockLoss (syn : Fin 15)
  | laneRateWrite (ls : Fin 8) (w : BusWrite)
  | synApply (syn : Fin 9) (w : BusWrite)
  | synPstep (syn : Fin 15) (w : BusWrite)
  | refoutPstep (n : Fin 4) (w : BusWrite)
  | refoutConfig (n : Fin 4) (w : BusWrite)
  | lanePhaseMove (lane : Fin 16) (w : BusWrite)
  -- transmit lanes
  | errInjectGo (lane : Fin 16) (w : BusWrite)
  | errInjectEvent (lane : Fin 16)
  | errInject (lane : Fin 16) (ts : Stamp)
  -- receive lanes
  | signalDetect (lane : Fin 16)
  | cdrLock (lane : Fin 16) (ppm : BitVec 16)
  | adaptConverged (lane : Fin 16)
  | cdrLockLoss (lane : Fin 16)
  | signalLoss (lane : Fin 16)
  | signalReturn (lane : Fin 16) (quietUs : Nat)
  | adaptBurst (lane : Fin 16) (done : Bool) (eq : List (BitVec 10))
  | adaptRestart (lane : Fin 16) (w : BusWrite)
  | profileSwitchGo (lane : Fin 16) (w : BusWrite)
  | profileSwitchEvent (lane : Fin 16)
  | switchApply (lane : Fin 16)
  | rxBlock (lane : Fin 16) (b : RxCycle)
  -- capture
  | trgTimerExpiry (ce : Fin 2)
  | trgEvent (ce : Fin 2) (ch : BitVec 8)
  | recordClose (lane : Fin 16)
  | recordAgeExpiry (lane : Fin 16)
  | cdmaTileWrite (ce : Fin 2)
  | captureDone (ce : Fin 2)
  -- deep memory
  | dmRequest (c : DmCycle)
  | selfRefreshEnter (stack : Fin 4)
  | stackTempSample (stack : Fin 4) (temp : BitVec 8) (bw : BitVec 10)
  | retrainBurst (stack : Fin 4) (group : Fin 8) (ends last : Bool)
  | clearSweepDone
  | pinRateWrite (w : BusWrite)
  | pinRateChangeStart
  | pinRateChangeDone
  | hazardWrite (w : BusWrite)
  | migrationStart (stack : Fin 4)
  | migrationDone (stack : Fin 4)
  | scrubRead (tile : Nat) (flips : Flips)
  | dmTlogPop (w : BusWrite)
  | tileQuery (w : BusWrite)
  | tileQueryDone
  -- scratchpad and queues
  | bankHandover (bank : Fin 64) (w : BusWrite)
  | zeroFillDone (bank : Fin 64)
  | bankPowerMode (bank : Fin 64) (w : BusWrite)
  | bankRetention (bank : Fin 64)
  | scratchpadAccess (bank : Fin 64) (a : SpAccess) (hit : Option SpCollision) (ecc : EccResult)
  | scratchpadSaveTestRestore (bank : Fin 64) (row : BitVec 8) (pass : Bool)
  | queueCommit (q : Fin 8) (entries : List (BitVec 512))
  | queueRewind (q : Fin 8) (entries : List (BitVec 512))
  | queuePop (q : Fin 8) (r : BusRead)
  | queuePush (w : BusWrite)
  | queueDrop (q : Fin 8) (w : BusWrite)
  | queueFlush (w : BusWrite)
  | queueMismatch (q : Fin 8)
  -- Midway
  | eventRaise (rs : List Raise)
  | lutDelayExpiry (cell : Fin 64)
  | lutCfgWrite (cell : Fin 64) (w : BusWrite)
  | trigInEdge (n : Fin 4) (rising : Bool) (e : TrigEdge)
  | mwFire (w : BusWrite)
  | mwFireMask (k : Fin 8) (w : BusWrite)
  | ringEventFrame (f : Frame)
  -- analog section
  | awgClockFault
  | ftwApply (k : Fin 4) (w : BusWrite)
  | calAmpWrite (k : Fin 4) (w : BusWrite)
  | calSyncNow (k : Fin 4) (w : BusWrite)
  | calSyncEvent (k : Fin 4)
  | injectionSwitchMove (pt : Fin 16)
  | sdTick
  | sdRangeChange (k : Fin 8) (w : BusWrite)
  | sdClampRelease (k : Fin 8)
  | sdFault (k : Fin 8) (cause : SdCause)
  | sdFaultClear (w : BusWrite)
  | monConversion (input : Fin 32) (code : BitVec 12) (skew : Fin 21) (start : BitVec 40)
  -- host link and mailboxes
  | linkUp (gen : BitVec 3)
  | linkDown
  | fallbackEnumerate
  | dmaHeadWrite (ch : Fin 8) (w : BusWrite)
  | dmaEnable (ch : Fin 8) (w : BusWrite)
  | dmaDescriptor (ch : Fin 8) (words : List Word) (hostOk : Bool)
  | dmaCompletion (ch : Fin 8) (fromHost : Bytes) (moved : Nat) (why : DmaEnd) (hostOk : Bool)
  | dmaAbort (ch : Fin 8) (w : BusWrite)
  | fallbackRead (tag : BitVec 16) (op : FbOp) (len : Word) (addr : BitVec 64)
  | fallbackWrite (tag : BitVec 16) (space : BitVec 2) (addr : BitVec 64) (data : Bytes)
  | fallbackTileRead (tag : BitVec 16) (len : Word) (addr : BitVec 64) (why : DmaEnd)
  | fallbackTileWrite (tag : BitVec 16) (addr : BitVec 64) (data : Bytes) (why : DmaEnd)
  | mbDoorbell (ch : Fin 64) (w : BusWrite)
  | mbTake (ch : Fin 64) (w : BusWrite)
  | mbAckw (ch : Fin 64) (w : BusWrite)
  | mbFlush (ch : Fin 64) (w : BusWrite)
  | hello (ch : Fin 64)
  | info (ch : Fin 64)
  | echo (ch : Fin 64)
  | load (ch : Fin 64)
  | actSubmit (ch : Fin 64)
  | actAbort (ch : Fin 64)
  | power (ch : Fin 64)
  | notifyEmergency
  | notifyMcRestart
  -- security and calibration
  | fwUpdate (ch : Fin 64)
  | fwActivate (ch : Fin 64) (intact : Bool × Bool)
  | fwCommit (ch : Fin 64)
  | certGet (ch : Fin 64)
  | attest (ch : Fin 64)
  | dbgChallenge (ch : Fin 64)
  | dbgUnlock (ch : Fin 64)
  | dbgLock (ch : Fin 64)
  | ownerKeySet (ch : Fin 64)
  | calExport (ch : Fin 64)
  | calStage (ch : Fin 64)
  | calCommit (ch : Fin 64)
  | measurementSelect (w : BusWrite)
  -- Safety Net and cartridge
  | pathMoveDone (k : Fin 16)
  | pathFault (k : Fin 16)
  | snFaultRead (r : BusRead)
  | forwardPathMove (slot : Fin 16)
  | cartPresent
  | cartRemoved
  | cartVerify (a : CartAnswer)
  | cartChallenge (a : CartAnswer)
  | cartChallengeRetry (a : CartAnswer)
  | cartChalGo (w : BusWrite) (a : CartAnswer)
  | cartOverride (w : BusWrite)
  -- Rolter ring
  | ringConfig (w : BusWrite)
  | ringDiscoveryFrame (f : Frame)
  | ringTimeSend (loopPs : Option Nat)
  | ringTimeFrame (f : Frame) (pathPs : Nat)
  | ringNomaster
  | ringWakeSend (w : BusWrite)
  | ringFingerprintFrame (f : Frame)
  | ringEpochFrame (f : Frame)
  | fingerprintCompute
  | fingerprintDone
  | epochStage (w : BusWrite)
  | stagedWrite (addr : BitVec 24) (w : BusWrite)
  | epochArm (w : BusWrite)
  | epochBroadcast (w : BusWrite)
  | epochCancel (w : BusWrite)
  | epochApply
  | ringIdleFrame
  | ringInputLocked
  | ringInputLockLost
  | refreshWindowStart (stack : Fin 4)
  | supplyWindowReturn (sup : Fin 13)
  | linkClStateChange (c : LinkState)
  deriving DecidableEq, Repr

end Sys2Proof
end

