-- ==== Sys2Proof/Config.lean ====
section
/-! DEFINITION. What one part fixes for good and the values the spec leaves open: every constant here has no body, so no
proof can see its value (assumptions 5, 6, 9, 11 and 14). -/
namespace Sys2Proof.Config

/-- The device serial number, fused at the factory (GLB_SERIAL, spec/01_device_at_a_glance.md Table 1.4). -/
opaque serial : BitVec 64

/-- The Quohiley vendor ID of the internal endpoint (R377). -/
opaque vendor : BitVec 16

/-- The IDCODE of the test access port without bit 0, which reads 1 (TST_IDCODE, Table 2.10). -/
opaque idcode : BitVec 31

/-- The `n`-th value that the spec leaves open, as a word. The step reads and advances the counter. -/
opaque freeWord : Nat → BitVec 32

/-- Words of the factory's calibration set: 4 to 6 of its header, 16 to 1039 its body (R430). -/
opaque factoryCal : Nat → BitVec 32

/-- How the words of a section of a calibration set's body decide a field marked `cal`, by the field's offset (R430,
Table 15.6). -/
opaque calField : (section_ : List (BitVec 32)) → (off : Nat) → BitVec 32

/-- Byte `i` of the device keys' signature over a message: 64 bytes of Ed25519, 3309 of ML-DSA-65 (R412, R413). -/
opaque edSign : Bytes → Nat → BitVec 8
opaque mlSign : Bytes → Nat → BitVec 8

/-- Whether the Ed25519 half, or the ML-DSA-65 half, of a pair of signatures by a public key verifies over a message (R412). -/
opaque edOk : (key message signature : Bytes) → Bool
opaque mlOk : (key message signature : Bytes) → Bool

/-- Quohiley's firmware keys of each number, whose digests the fuses hold (R416 check 7). -/
opaque firmwareEdKey : Nat → Bytes
opaque firmwareMlKey : Nat → Bytes

/-- The digests of the service key's two public keys, held in fuses (R426). -/
opaque serviceKey : BitVec 512 × BitVec 512

/-- What the factory put into certificate `i` of Table 15.2 around the values that R422 gives. -/
opaque certPart : (i part : Nat) → Bytes

/-- The device's Ed25519 and ML-DSA-65 public keys, byte by byte (R422, R423). -/
opaque edPublicKey : Nat → BitVec 8
opaque mlPublicKey : Nat → BitVec 8

/-- The SE's mask ROM, which measurement 0 covers (Table 15.3). -/
opaque rom : Bytes

/-- The firmware image that the factory stored. -/
opaque factoryImage : Bytes

/-- The fixed delay of the TRIG_IN inputs, in samples of 0.5 ns (R341). -/
opaque trigDelay : Nat

/-- A ring node's own pass-through in ps (R448, R452: at most 24 ns). -/
opaque passThroughPs : Nat

/-- The `n`-th value of a TX lane's filtered noise (R213) for an rms value and a corner frequency, in 10^-9 of 1/1024 UI before
the bound of 7 rms. -/
opaque noise : (lane n rms bw : Nat) → Int

end Sys2Proof.Config
end

