-- ==== Sys2Proof/Machine/Field.lean ====
section
/-! DEFINITION. What a register field is (spec/02_register_pages_and_protection.md, Access classes; spec/00_scope.md
Table 0.5): its place, its access codes, its reset value and its stated range. -/
namespace Sys2Proof.Machine

/-- The kind of a field (Table 0.5). -/
inductive FieldKind where
  | rw | ro | rc | wo | w1
  deriving DecidableEq, Repr

/-- The stated range of a field: none, of an unsigned value, or of a two's complement value. -/
inductive FieldRange where
  | any
  | u (lo hi : Nat)
  | s (lo hi : Int)
  deriving DecidableEq, Repr

/-- One field: the offset of its register (of the first instance, with the strides of the further ones), its lowest bit
and width, its access codes (Table 0.5), its reset value and its stated range. -/
structure Field where
  off : Nat
  lo : Nat
  w : Nat
  st : Nat := 0
  st2 : Nat := 0
  acc : FieldKind := .rw
  pv : Bool := false
  t3 : Bool := false
  lk : Bool := false
  ky : Bool := false
  ck : Bool := false
  rst : Nat := 0
  rng : FieldRange := .any
  deriving DecidableEq, Repr

/-- The same field in the `k`-th instance of its register. -/
def Field.at (f : Field) (k : Nat) : Field := { f with off := f.off + k * f.st }

/-- The same field in instance `j` of a block of registers and `k` within it. -/
def Field.at2 (f : Field) (j k : Nat) : Field := { f with off := f.off + j * f.st + k * f.st2 }

/-- The mask of a field in its word. -/
def Field.mask (f : Field) : Word := BitVec.ofNat 32 (2 ^ f.lo * (2 ^ f.w - 1))

/-- The field's value in a word. -/
def Field.get (f : Field) (w : Word) : Nat := w.toNat / 2 ^ f.lo % 2 ^ f.w

/-- A word with the field set to a value. -/
def Field.put (f : Field) (w : Word) (v : Nat) : Word :=
  (w &&& ~~~f.mask) ||| BitVec.ofNat 32 (2 ^ f.lo * (v % 2 ^ f.w))

/-- A value of `w` bits read as two's complement. -/
def signed (w v : Nat) : Int := if v < 2 ^ (w - 1) then (v : Int) else (v : Int) - (2 ^ w : Nat)

/-- The two's complement of an integer in `w` bits. -/
def unsigned (w : Nat) (i : Int) : Nat := (i % (2 ^ w : Nat)).toNat

/-- The field's value as two's complement. -/
def Field.getS (f : Field) (w : Word) : Int := signed f.w (f.get w)

/-- Whether a value of the field lies in its stated range. Assumption 96, DEDUCED. -/
def Field.inRange (f : Field) (v : Nat) : Bool :=
  match f.rng with
  | .any => true
  | .u lo hi => decide (lo ≤ v) && decide (v ≤ hi)
  | .s lo hi => decide (lo ≤ signed f.w v) && decide (signed f.w v ≤ hi)

/-- Whether a write can change the field (Table 0.5). -/
def Field.writable (f : Field) : Bool :=
  match f.acc with
  | .rw | .wo | .w1 => true
  | .ro | .rc => false

/-- A register: its offset, how many instances at which strides, and its fields. -/
structure Reg where
  off : Nat
  n : Nat := 1
  st : Nat := 65536
  n2 : Nat := 1
  st2 : Nat := 65536
  fields : List Field
  deriving DecidableEq, Repr

/-- Whether an offset is that of an instance of the register. -/
def Reg.hit (r : Reg) (off : Nat) : Bool :=
  decide (r.off ≤ off) &&
    (let d := off - r.off
     decide (d / r.st < r.n) && decide (d % r.st / r.st2 < r.n2) && decide (d % r.st % r.st2 = 0))

end Sys2Proof.Machine
end

