-- ==== Sys2Proof/Machine/RegsA.lean ====
section
/-! DEFINITION. The fields and registers of the common header, the global, reset, Showbill, AON, thermal, protection, Turnstile, thaw, fingerprint and epoch, mailbox and security pages, as the register tables of spec/ list them
(offset, bits, access codes, reset value and stated range; the tables named at each block). -/
namespace Sys2Proof.Machine

/-! Table 2.3, pages every allocated page. -/
def F.PAGE_ID_type : Field := { off := 0x000, lo := 0, w := 8, acc := .ro }
def F.PAGE_ID_instance : Field := { off := 0x000, lo := 8, w := 8, acc := .ro }
def F.PAGE_ID_format : Field := { off := 0x000, lo := 16, w := 4, acc := .ro }
def F.PAGE_ID_rev : Field := { off := 0x000, lo := 24, w := 8, acc := .ro }
def F.PAGE_CAPS_basic : Field := { off := 0x004, lo := 0, w := 1, acc := .ro }
def F.PAGE_CAPS_priv : Field := { off := 0x004, lo := 1, w := 1, acc := .ro }
def F.PAGE_CAPS_lockable : Field := { off := 0x004, lo := 2, w := 1, acc := .ro }
def F.PAGE_CAPS_keyed : Field := { off := 0x004, lo := 3, w := 1, acc := .ro }
def F.PAGE_CAPS_owned : Field := { off := 0x004, lo := 4, w := 1, acc := .ro }
def F.PAGE_CAPS_t3 : Field := { off := 0x004, lo := 5, w := 1, acc := .ro }
def F.PAGE_CAPS_block : Field := { off := 0x004, lo := 16, w := 16, acc := .ro }
def F.PAGE_CTRL_enable : Field := { off := 0x008, lo := 0, w := 1, rst := 0x1 }
def F.PAGE_CTRL_block_reset : Field := { off := 0x008, lo := 1, w := 1, acc := .wo }
def F.PAGE_CTRL_level : Field := { off := 0x008, lo := 2, w := 1 }
def F.PAGE_CTRL_lock : Field := { off := 0x008, lo := 4, w := 1, acc := .w1, pv := true, t3 := true }
def F.PAGE_CTRL_check_en : Field := { off := 0x008, lo := 5, w := 1, pv := true, t3 := true }
def F.PAGE_CTRL_commit : Field := { off := 0x008, lo := 6, w := 1, acc := .wo, pv := true }
def F.PAGE_CTRL_key_armed : Field := { off := 0x008, lo := 8, w := 1, acc := .ro }
def F.PAGE_CTRL_reset_busy : Field := { off := 0x008, lo := 9, w := 1, acc := .ro }
def F.PAGE_CTRL_check_busy : Field := { off := 0x008, lo := 10, w := 1, acc := .ro }
def F.PAGE_CTRL_key_master : Field := { off := 0x008, lo := 12, w := 3, acc := .ro }
def F.PAGE_STAT_state_reject : Field := { off := 0x00C, lo := 0, w := 1, acc := .rc }
def F.PAGE_STAT_level_ignored : Field := { off := 0x00C, lo := 1, w := 1, acc := .rc }
def F.PAGE_STAT_violation : Field := { off := 0x00C, lo := 2, w := 1, acc := .rc }
def F.PAGE_STAT_t3_fixed : Field := { off := 0x00C, lo := 3, w := 1, acc := .rc }
def F.PAGE_STAT_t3_lost : Field := { off := 0x00C, lo := 4, w := 1, acc := .rc }
def F.PAGE_STAT_check_mismatch : Field := { off := 0x00C, lo := 5, w := 1, acc := .rc }
def F.PAGE_STAT_key_expired : Field := { off := 0x00C, lo := 6, w := 1, acc := .rc }
def F.PAGE_STAT_block : Field := { off := 0x00C, lo := 16, w := 16, acc := .rc }
def F.PAGE_IRQ_EN : Field := { off := 0x010, lo := 0, w := 32 }
def F.PAGE_IRQ_MAP_vector : Field := { off := 0x014, lo := 0, w := 6 }
def F.PAGE_UNLOCK : Field := { off := 0x018, lo := 0, w := 32, acc := .wo }
def F.PAGE_CHECK : Field := { off := 0x01C, lo := 0, w := 32, acc := .ro, pv := true }
def F.PAGE_CHECK_REF : Field := { off := 0x020, lo := 0, w := 32, pv := true, t3 := true }
def F.PAGE_OWNER_owner : Field := { off := 0x024, lo := 0, w := 3, t3 := true }
def F.PAGE_OWNER_valid : Field := { off := 0x024, lo := 7, w := 1, t3 := true }

/-- The registers of pages every allocated page (Table 2.3). -/
def hdrRegs : List Reg :=
  [{ off := 0x000, fields := [F.PAGE_ID_type, F.PAGE_ID_instance, F.PAGE_ID_format, F.PAGE_ID_rev] },
    { off := 0x004, fields := [F.PAGE_CAPS_basic, F.PAGE_CAPS_priv, F.PAGE_CAPS_lockable, F.PAGE_CAPS_keyed, F.PAGE_CAPS_owned, F.PAGE_CAPS_t3, F.PAGE_CAPS_block] },
    { off := 0x008, fields := [F.PAGE_CTRL_enable, F.PAGE_CTRL_block_reset, F.PAGE_CTRL_level, F.PAGE_CTRL_lock, F.PAGE_CTRL_check_en, F.PAGE_CTRL_commit, F.PAGE_CTRL_key_armed, F.PAGE_CTRL_reset_busy, F.PAGE_CTRL_check_busy, F.PAGE_CTRL_key_master] },
    { off := 0x00C, fields := [F.PAGE_STAT_state_reject, F.PAGE_STAT_level_ignored, F.PAGE_STAT_violation, F.PAGE_STAT_t3_fixed, F.PAGE_STAT_t3_lost, F.PAGE_STAT_check_mismatch, F.PAGE_STAT_key_expired, F.PAGE_STAT_block] },
    { off := 0x010, fields := [F.PAGE_IRQ_EN] },
    { off := 0x014, fields := [F.PAGE_IRQ_MAP_vector] },
    { off := 0x018, fields := [F.PAGE_UNLOCK] },
    { off := 0x01C, fields := [F.PAGE_CHECK] },
    { off := 0x020, fields := [F.PAGE_CHECK_REF] },
    { off := 0x024, fields := [F.PAGE_OWNER_owner, F.PAGE_OWNER_valid] }]

/-! Table 1.4, pages 0x00. -/
def F.GLB_MODE_mode : Field := { off := 0x040, lo := 0, w := 2, t3 := true }
def F.GLB_MODE_STAT_active : Field := { off := 0x044, lo := 0, w := 2, acc := .ro }
def F.GLB_MODE_STAT_changing : Field := { off := 0x044, lo := 4, w := 1, acc := .ro }
def F.GLB_MODE_STAT_reject : Field := { off := 0x044, lo := 8, w := 2, acc := .rc }
def F.GLB_SERIAL_LO : Field := { off := 0x048, lo := 0, w := 32, acc := .ro }
def F.GLB_SERIAL_HI : Field := { off := 0x04C, lo := 0, w := 32, acc := .ro }

/-- The registers of pages 0x00 (Table 1.4). -/
def glbRegs : List Reg :=
  [{ off := 0x040, fields := [F.GLB_MODE_mode] },
    { off := 0x044, fields := [F.GLB_MODE_STAT_active, F.GLB_MODE_STAT_changing, F.GLB_MODE_STAT_reject] },
    { off := 0x048, fields := [F.GLB_SERIAL_LO] },
    { off := 0x04C, fields := [F.GLB_SERIAL_HI] }]

/-! Table 3.10, pages 0x01. -/
def F.RST_STAT_ready : Field := { off := 0x040, lo := 0, w := 1, acc := .ro }
def F.RST_STAT_boot : Field := { off := 0x040, lo := 1, w := 2, acc := .ro }
def F.RST_STAT_cause : Field := { off := 0x040, lo := 8, w := 4, acc := .ro }
def F.RST_READY_US : Field := { off := 0x044, lo := 0, w := 32, acc := .ro }
def F.CLK_LOCK_cs : Field := { off := 0x048, lo := 0, w := 2, acc := .ro }
def F.CLK_LOCK_ls : Field := { off := 0x048, lo := 2, w := 8, acc := .ro }
def F.CLK_LOCK_ms : Field := { off := 0x048, lo := 10, w := 4, acc := .ro }
def F.CLK_LOCK_ws : Field := { off := 0x048, lo := 14, w := 1, acc := .ro }

/-- The registers of pages 0x01 (Table 3.10). -/
def rstRegs : List Reg :=
  [{ off := 0x040, fields := [F.RST_STAT_ready, F.RST_STAT_boot, F.RST_STAT_cause] },
    { off := 0x044, fields := [F.RST_READY_US] },
    { off := 0x048, fields := [F.CLK_LOCK_cs, F.CLK_LOCK_ls, F.CLK_LOCK_ms, F.CLK_LOCK_ws] }]

/-! Table 3.11, pages 0x02. -/
def F.SB_STATE_cur : Field := { off := 0x040, lo := 0, w := 3, acc := .ro, rst := 0x2 }
def F.SB_STATE_changing : Field := { off := 0x040, lo := 4, w := 1, acc := .ro }
def F.SB_STATE_REQ_req : Field := { off := 0x044, lo := 0, w := 3, rst := 0x2, rng := .u 1 3 }
def F.SB_ARM_SYNTH_ls : Field := { off := 0x048, lo := 0, w := 8 }
def F.SB_ARM_SYNTH_ws : Field := { off := 0x048, lo := 8, w := 1 }
def F.SB_PWR_LIMIT_watts : Field := { off := 0x04C, lo := 0, w := 8, lk := true, rst := 0x96, rng := .u 30 150 }
def F.SB_PWR_NOW : Field := { off := 0x050, lo := 0, w := 12, acc := .ro }
def F.SB_PWR_COMMIT : Field := { off := 0x054, lo := 0, w := 12, acc := .ro, rst := 0x12C }
def F.SB_HK_CTRL_en : Field := { off := 0x058, lo := 0, w := 5, pv := true, t3 := true, rst := 0x1F }
def F.SB_HK_STAT_running : Field := { off := 0x05C, lo := 0, w := 5, acc := .ro }
def F.SB_HK_STAT_overdue : Field := { off := 0x05C, lo := 8, w := 5, acc := .ro }
def F.SB_EMERG_latched : Field := { off := 0x060, lo := 0, w := 1, acc := .ro }
def F.SB_EMERG_cause : Field := { off := 0x060, lo := 1, w := 3, acc := .ro }
def F.SB_EMERG_clear : Field := { off := 0x060, lo := 8, w := 1, acc := .wo }
def F.SB_ARM_IDLE_ms : Field := { off := 0x064, lo := 0, w := 16 }
def F.SB_SUBMIT_slot : Field := { off := 0x068, lo := 0, w := 4, acc := .wo }
def F.SB_ABORT_mask : Field := { off := 0x06C, lo := 0, w := 16, acc := .wo }

/-- The registers of pages 0x02 (Table 3.11). -/
def sbRegs : List Reg :=
  [{ off := 0x040, fields := [F.SB_STATE_cur, F.SB_STATE_changing] },
    { off := 0x044, fields := [F.SB_STATE_REQ_req] },
    { off := 0x048, fields := [F.SB_ARM_SYNTH_ls, F.SB_ARM_SYNTH_ws] },
    { off := 0x04C, fields := [F.SB_PWR_LIMIT_watts] },
    { off := 0x050, fields := [F.SB_PWR_NOW] },
    { off := 0x054, fields := [F.SB_PWR_COMMIT] },
    { off := 0x058, fields := [F.SB_HK_CTRL_en] },
    { off := 0x05C, fields := [F.SB_HK_STAT_running, F.SB_HK_STAT_overdue] },
    { off := 0x060, fields := [F.SB_EMERG_latched, F.SB_EMERG_cause, F.SB_EMERG_clear] },
    { off := 0x064, fields := [F.SB_ARM_IDLE_ms] },
    { off := 0x068, fields := [F.SB_SUBMIT_slot] },
    { off := 0x06C, fields := [F.SB_ABORT_mask] }]

/-! Table 3.12, pages 0x03. -/
def F.ACT_W0_id : Field := { off := 0x100, lo := 0, w := 16, st := 32 }
def F.ACT_W0_prio : Field := { off := 0x100, lo := 16, w := 3, st := 32 }
def F.ACT_W0_start : Field := { off := 0x100, lo := 20, w := 2, st := 32 }
def F.ACT_W0_end_on_halt : Field := { off := 0x100, lo := 22, w := 1, st := 32 }
def F.ACT_LANES_tx : Field := { off := 0x104, lo := 0, w := 16, st := 32 }
def F.ACT_LANES_rx : Field := { off := 0x104, lo := 16, w := 16, st := 32 }
def F.ACT_ENG_sq : Field := { off := 0x108, lo := 0, w := 20, st := 32 }
def F.ACT_ENG_ce : Field := { off := 0x108, lo := 20, w := 2, st := 32 }
def F.ACT_ENG_aw : Field := { off := 0x108, lo := 24, w := 4, st := 32 }
def F.ACT_AUX_sd : Field := { off := 0x10C, lo := 0, w := 8, st := 32 }
def F.ACT_AUX_fwd_ab : Field := { off := 0x10C, lo := 8, w := 1, st := 32 }
def F.ACT_AUX_fwd_ba : Field := { off := 0x10C, lo := 9, w := 1, st := 32 }
def F.ACT_AUX_dm_gbs : Field := { off := 0x10C, lo := 16, w := 10, st := 32 }
def F.ACT_RATE_rate_mbd : Field := { off := 0x110, lo := 0, w := 16, st := 32 }
def F.ACT_DUR : Field := { off := 0x114, lo := 0, w := 32, st := 32 }
def F.ACT_START_LO : Field := { off := 0x118, lo := 0, w := 32, st := 32 }
def F.ACT_START_HI_ts : Field := { off := 0x11C, lo := 0, w := 16, st := 32 }
def F.ACT_START_HI_ev : Field := { off := 0x11C, lo := 16, w := 8, st := 32 }
def F.ACT_STAT_state : Field := { off := 0x300, lo := 0, w := 3, st := 4, acc := .ro }
def F.ACT_STAT_reason : Field := { off := 0x300, lo := 8, w := 4, st := 4, acc := .ro }
def F.ACT_STAT_end : Field := { off := 0x300, lo := 12, w := 2, st := 4, acc := .ro }
def F.ACT_STAT_peak : Field := { off := 0x300, lo := 24, w := 8, st := 4, acc := .ro }

/-- The registers of pages 0x03 (Table 3.12). -/
def actsRegs : List Reg :=
  [{ off := 0x100, n := 16, st := 32, fields := [F.ACT_W0_id, F.ACT_W0_prio, F.ACT_W0_start, F.ACT_W0_end_on_halt] },
    { off := 0x104, n := 16, st := 32, fields := [F.ACT_LANES_tx, F.ACT_LANES_rx] },
    { off := 0x108, n := 16, st := 32, fields := [F.ACT_ENG_sq, F.ACT_ENG_ce, F.ACT_ENG_aw] },
    { off := 0x10C, n := 16, st := 32, fields := [F.ACT_AUX_sd, F.ACT_AUX_fwd_ab, F.ACT_AUX_fwd_ba, F.ACT_AUX_dm_gbs] },
    { off := 0x110, n := 16, st := 32, fields := [F.ACT_RATE_rate_mbd] },
    { off := 0x114, n := 16, st := 32, fields := [F.ACT_DUR] },
    { off := 0x118, n := 16, st := 32, fields := [F.ACT_START_LO] },
    { off := 0x11C, n := 16, st := 32, fields := [F.ACT_START_HI_ts, F.ACT_START_HI_ev] },
    { off := 0x300, n := 16, st := 4, fields := [F.ACT_STAT_state, F.ACT_STAT_reason, F.ACT_STAT_end, F.ACT_STAT_peak] }]

/-! Table 3.14, pages 0x04. -/
def F.AON_STAT_xtal_ok : Field := { off := 0x040, lo := 0, w := 1, acc := .ro }
def F.AON_STAT_wake_src : Field := { off := 0x040, lo := 8, w := 8, acc := .ro }
def F.AON_WAKE_EN_host : Field := { off := 0x044, lo := 0, w := 1, rst := 0x1 }
def F.AON_WAKE_EN_rtc : Field := { off := 0x044, lo := 1, w := 1 }
def F.AON_WAKE_EN_cart : Field := { off := 0x044, lo := 2, w := 1 }
def F.AON_WAKE_EN_ring : Field := { off := 0x044, lo := 3, w := 1 }
def F.AON_WAKE_EN_trig : Field := { off := 0x044, lo := 4, w := 4 }
def F.AON_RTC_LO : Field := { off := 0x048, lo := 0, w := 32, acc := .ro }
def F.AON_RTC_HI : Field := { off := 0x04C, lo := 0, w := 16, acc := .ro }
def F.AON_ALARM_LO : Field := { off := 0x050, lo := 0, w := 32 }
def F.AON_ALARM_HI : Field := { off := 0x054, lo := 0, w := 16 }
def F.AON_RETAIN : Field := { off := 0x058, lo := 0, w := 32, rst := 0xFFFFFFFF }
def F.AON_SCRATCH : Field := { off := 0x05C, lo := 0, w := 32, st := 4 }

/-- The registers of pages 0x04 (Table 3.14). -/
def aonRegs : List Reg :=
  [{ off := 0x040, fields := [F.AON_STAT_xtal_ok, F.AON_STAT_wake_src] },
    { off := 0x044, fields := [F.AON_WAKE_EN_host, F.AON_WAKE_EN_rtc, F.AON_WAKE_EN_cart, F.AON_WAKE_EN_ring, F.AON_WAKE_EN_trig] },
    { off := 0x048, fields := [F.AON_RTC_LO] },
    { off := 0x04C, fields := [F.AON_RTC_HI] },
    { off := 0x050, fields := [F.AON_ALARM_LO] },
    { off := 0x054, fields := [F.AON_ALARM_HI] },
    { off := 0x058, fields := [F.AON_RETAIN] },
    { off := 0x05C, n := 4, st := 4, fields := [F.AON_SCRATCH] }]

/-! Table 3.15, pages 0x05. -/
def F.THERM_TC : Field := { off := 0x040, lo := 0, w := 16, acc := .ro }
def F.THERM_TJ_MAX_temp : Field := { off := 0x044, lo := 0, w := 16, acc := .ro }
def F.THERM_TJ_MAX_sensor : Field := { off := 0x044, lo := 16, w := 8, acc := .ro }
def F.THERM_THETA : Field := { off := 0x048, lo := 0, w := 16, lk := true, rst := 0x12C, rng := .u 50 2000 }
def F.THERM_TAU : Field := { off := 0x04C, lo := 0, w := 24, lk := true, rst := 0x3A98, rng := .u 1000 600000 }
def F.THERM_STAT_band : Field := { off := 0x050, lo := 0, w := 2, acc := .ro, rst := 0x1 }
def F.THERM_STAT_model_exceed : Field := { off := 0x050, lo := 8, w := 1, acc := .rc }
def F.THERM_PRED : Field := { off := 0x054, lo := 0, w := 16, acc := .ro }

/-- The registers of pages 0x05 (Table 3.15). -/
def thermRegs : List Reg :=
  [{ off := 0x040, fields := [F.THERM_TC] },
    { off := 0x044, fields := [F.THERM_TJ_MAX_temp, F.THERM_TJ_MAX_sensor] },
    { off := 0x048, fields := [F.THERM_THETA] },
    { off := 0x04C, fields := [F.THERM_TAU] },
    { off := 0x050, fields := [F.THERM_STAT_band, F.THERM_STAT_model_exceed] },
    { off := 0x054, fields := [F.THERM_PRED] }]

/-! Table 2.7, pages 0x08. -/
def F.PROT_FROZEN_mask : Field := { off := 0x040, lo := 0, w := 8, acc := .ro }
def F.PROT_THAW_mask : Field := { off := 0x044, lo := 0, w := 8, acc := .wo, pv := true }
def F.PROT_AUTOTHAW_mask : Field := { off := 0x048, lo := 0, w := 8, pv := true, t3 := true, ck := true, rst := 0x78 }
def F.PROT_T3_FIXED : Field := { off := 0x04C, lo := 0, w := 32, acc := .rc }
def F.PROT_T3_LOST_count : Field := { off := 0x050, lo := 0, w := 16, acc := .rc }
def F.PROT_T3_LOST_last_page : Field := { off := 0x050, lo := 24, w := 8, acc := .ro }
def F.PROT_CHECK_FAIL_count : Field := { off := 0x054, lo := 0, w := 16, acc := .rc }
def F.PROT_CHECK_FAIL_last_page : Field := { off := 0x054, lo := 24, w := 8, acc := .ro }
def F.VLOG_STAT_count : Field := { off := 0x058, lo := 0, w := 6, acc := .ro }
def F.VLOG_STAT_lost : Field := { off := 0x058, lo := 16, w := 16, acc := .rc }
def F.VLOG_POP_pop : Field := { off := 0x05C, lo := 0, w := 1, acc := .wo, pv := true }
def F.VLOG_INFO_master : Field := { off := 0x060, lo := 0, w := 3, acc := .ro }
def F.VLOG_INFO_no_master : Field := { off := 0x060, lo := 3, w := 1, acc := .ro }
def F.VLOG_INFO_cause : Field := { off := 0x060, lo := 8, w := 4, acc := .ro }
def F.VLOG_INFO_be : Field := { off := 0x060, lo := 12, w := 4, acc := .ro }
def F.VLOG_INFO_valid : Field := { off := 0x060, lo := 31, w := 1, acc := .ro }
def F.VLOG_ADDR_addr : Field := { off := 0x064, lo := 0, w := 24, acc := .ro }
def F.VLOG_DATA : Field := { off := 0x068, lo := 0, w := 32, acc := .ro }
def F.VLOG_TS_LO : Field := { off := 0x06C, lo := 0, w := 32, acc := .ro }
def F.VLOG_TS_HI : Field := { off := 0x070, lo := 0, w := 32, acc := .ro }

/-- The registers of pages 0x08 (Table 2.7). -/
def protRegs : List Reg :=
  [{ off := 0x040, fields := [F.PROT_FROZEN_mask] },
    { off := 0x044, fields := [F.PROT_THAW_mask] },
    { off := 0x048, fields := [F.PROT_AUTOTHAW_mask] },
    { off := 0x04C, fields := [F.PROT_T3_FIXED] },
    { off := 0x050, fields := [F.PROT_T3_LOST_count, F.PROT_T3_LOST_last_page] },
    { off := 0x054, fields := [F.PROT_CHECK_FAIL_count, F.PROT_CHECK_FAIL_last_page] },
    { off := 0x058, fields := [F.VLOG_STAT_count, F.VLOG_STAT_lost] },
    { off := 0x05C, fields := [F.VLOG_POP_pop] },
    { off := 0x060, fields := [F.VLOG_INFO_master, F.VLOG_INFO_no_master, F.VLOG_INFO_cause, F.VLOG_INFO_be, F.VLOG_INFO_valid] },
    { off := 0x064, fields := [F.VLOG_ADDR_addr] },
    { off := 0x068, fields := [F.VLOG_DATA] },
    { off := 0x06C, fields := [F.VLOG_TS_LO] }]
  ++ [{ off := 0x070, fields := [F.VLOG_TS_HI] }]

/-! Table 2.9, pages 0x09. -/
def F.TS_state : Field := { off := 0x200, lo := 0, w := 1, st := 4 }
def F.TS_HOLD_holder0 : Field := { off := 0x300, lo := 0, w := 3, st := 4, acc := .ro }
def F.TS_HOLD_holder1 : Field := { off := 0x300, lo := 4, w := 3, st := 4, acc := .ro }
def F.TS_HOLD_holder2 : Field := { off := 0x300, lo := 8, w := 3, st := 4, acc := .ro }
def F.TS_HOLD_holder3 : Field := { off := 0x300, lo := 12, w := 3, st := 4, acc := .ro }
def F.TS_HOLD_holder4 : Field := { off := 0x300, lo := 16, w := 3, st := 4, acc := .ro }
def F.TS_HOLD_holder5 : Field := { off := 0x300, lo := 20, w := 3, st := 4, acc := .ro }
def F.TS_HOLD_holder6 : Field := { off := 0x300, lo := 24, w := 3, st := 4, acc := .ro }
def F.TS_HOLD_holder7 : Field := { off := 0x300, lo := 28, w := 3, st := 4, acc := .ro }
def F.TS_HOLD_held0 : Field := { off := 0x300, lo := 3, w := 1, st := 4, acc := .ro }
def F.TS_HOLD_held1 : Field := { off := 0x300, lo := 7, w := 1, st := 4, acc := .ro }
def F.TS_HOLD_held2 : Field := { off := 0x300, lo := 11, w := 1, st := 4, acc := .ro }
def F.TS_HOLD_held3 : Field := { off := 0x300, lo := 15, w := 1, st := 4, acc := .ro }
def F.TS_HOLD_held4 : Field := { off := 0x300, lo := 19, w := 1, st := 4, acc := .ro }
def F.TS_HOLD_held5 : Field := { off := 0x300, lo := 23, w := 1, st := 4, acc := .ro }
def F.TS_HOLD_held6 : Field := { off := 0x300, lo := 27, w := 1, st := 4, acc := .ro }
def F.TS_HOLD_held7 : Field := { off := 0x300, lo := 31, w := 1, st := 4, acc := .ro }

/-- The registers of pages 0x09 (Table 2.9). -/
def turnRegs : List Reg :=
  [{ off := 0x200, n := 64, st := 4, fields := [F.TS_state] },
    { off := 0x300, n := 8, st := 4, fields := [F.TS_HOLD_holder0, F.TS_HOLD_holder1, F.TS_HOLD_holder2, F.TS_HOLD_holder3, F.TS_HOLD_holder4, F.TS_HOLD_holder5, F.TS_HOLD_holder6, F.TS_HOLD_holder7, F.TS_HOLD_held0, F.TS_HOLD_held1, F.TS_HOLD_held2, F.TS_HOLD_held3, F.TS_HOLD_held4, F.TS_HOLD_held5, F.TS_HOLD_held6, F.TS_HOLD_held7] }]

/-! Table 2.8, pages 0x0A. -/
def F.THAW_FROZEN_mask : Field := { off := 0x040, lo := 0, w := 8, acc := .ro }
def F.THAW_REQ_req : Field := { off := 0x044, lo := 0, w := 1, acc := .wo }
def F.THAW_REQ_STAT_pending : Field := { off := 0x048, lo := 0, w := 1, acc := .ro }
def F.THAW_LAST_INFO : Field := { off := 0x04C, lo := 0, w := 32, acc := .ro }
def F.THAW_LAST_ADDR : Field := { off := 0x050, lo := 0, w := 32, acc := .ro }
def F.THAW_LAST_DATA : Field := { off := 0x054, lo := 0, w := 32, acc := .ro }
def F.THAW_LAST_TS_LO : Field := { off := 0x058, lo := 0, w := 32, acc := .ro }
def F.THAW_LAST_TS_HI : Field := { off := 0x05C, lo := 0, w := 32, acc := .ro }
def F.THAW_COUNT_count : Field := { off := 0x060, lo := 0, w := 16, acc := .ro }

/-- The registers of pages 0x0A (Table 2.8). -/
def thawRegs : List Reg :=
  [{ off := 0x040, fields := [F.THAW_FROZEN_mask] },
    { off := 0x044, fields := [F.THAW_REQ_req] },
    { off := 0x048, fields := [F.THAW_REQ_STAT_pending] },
    { off := 0x04C, fields := [F.THAW_LAST_INFO] },
    { off := 0x050, fields := [F.THAW_LAST_ADDR] },
    { off := 0x054, fields := [F.THAW_LAST_DATA] },
    { off := 0x058, fields := [F.THAW_LAST_TS_LO] },
    { off := 0x05C, fields := [F.THAW_LAST_TS_HI] },
    { off := 0x060, fields := [F.THAW_COUNT_count] }]

/-! Table 16.7, pages 0x0B. -/
def F.FP_CFG_mode : Field := { off := 0x040, lo := 0, w := 2, rng := .u 0 2 }
def F.FP_CFG_ref : Field := { off := 0x040, lo := 4, w := 4 }
def F.FP_PAGES : Field := { off := 0x044, lo := 0, w := 32, st := 4 }
def F.FP_EXPECT_LO : Field := { off := 0x064, lo := 0, w := 32 }
def F.FP_EXPECT_HI : Field := { off := 0x068, lo := 0, w := 32 }
def F.FP_NOW_LO : Field := { off := 0x06C, lo := 0, w := 32, acc := .ro }
def F.FP_NOW_HI : Field := { off := 0x070, lo := 0, w := 32, acc := .ro }
def F.FP_STAT_match : Field := { off := 0x074, lo := 0, w := 1, acc := .ro, rst := 0x1 }
def F.FP_STAT_unsettled : Field := { off := 0x074, lo := 1, w := 1, acc := .ro }
def F.FP_MISMATCH_nodes : Field := { off := 0x078, lo := 0, w := 16, acc := .ro }
def F.EP_CTRL_stage : Field := { off := 0x07C, lo := 0, w := 1 }
def F.EP_CTRL_arm : Field := { off := 0x07C, lo := 1, w := 1, acc := .wo }
def F.EP_CTRL_broadcast : Field := { off := 0x07C, lo := 2, w := 1, acc := .wo }
def F.EP_CTRL_cancel : Field := { off := 0x07C, lo := 3, w := 1, acc := .wo }
def F.EP_PAGES : Field := { off := 0x080, lo := 0, w := 32, st := 4 }
def F.EP_NUM_num : Field := { off := 0x0A0, lo := 0, w := 16, rng := .u 1 65535 }
def F.EP_AT_LO : Field := { off := 0x0A4, lo := 0, w := 32 }
def F.EP_AT_HI_count : Field := { off := 0x0A8, lo := 0, w := 16 }
def F.EP_STAT_result : Field := { off := 0x0AC, lo := 0, w := 3, acc := .ro }
def F.EP_STAT_armed : Field := { off := 0x0AC, lo := 3, w := 1, acc := .ro }
def F.EP_STAT_master : Field := { off := 0x0AC, lo := 4, w := 3, acc := .ro }
def F.EP_STAT_entries : Field := { off := 0x0AC, lo := 8, w := 11, acc := .ro }
def F.EP_STAT_overflow : Field := { off := 0x0AC, lo := 19, w := 1, acc := .ro }
def F.EP_CUR_num : Field := { off := 0x0B0, lo := 0, w := 16, acc := .ro }
def F.EP_FAIL_addr : Field := { off := 0x0B4, lo := 0, w := 24, acc := .ro }

/-- The registers of pages 0x0B (Table 16.7). -/
def fpepRegs : List Reg :=
  [{ off := 0x040, fields := [F.FP_CFG_mode, F.FP_CFG_ref] },
    { off := 0x044, n := 8, st := 4, fields := [F.FP_PAGES] },
    { off := 0x064, fields := [F.FP_EXPECT_LO] },
    { off := 0x068, fields := [F.FP_EXPECT_HI] },
    { off := 0x06C, fields := [F.FP_NOW_LO] },
    { off := 0x070, fields := [F.FP_NOW_HI] },
    { off := 0x074, fields := [F.FP_STAT_match, F.FP_STAT_unsettled] },
    { off := 0x078, fields := [F.FP_MISMATCH_nodes] },
    { off := 0x07C, fields := [F.EP_CTRL_stage, F.EP_CTRL_arm, F.EP_CTRL_broadcast, F.EP_CTRL_cancel] },
    { off := 0x080, n := 8, st := 4, fields := [F.EP_PAGES] },
    { off := 0x0A0, fields := [F.EP_NUM_num] },
    { off := 0x0A4, fields := [F.EP_AT_LO] }]
  ++ [{ off := 0x0A8, fields := [F.EP_AT_HI_count] },
    { off := 0x0AC, fields := [F.EP_STAT_result, F.EP_STAT_armed, F.EP_STAT_master, F.EP_STAT_entries, F.EP_STAT_overflow] },
    { off := 0x0B0, fields := [F.EP_CUR_num] },
    { off := 0x0B4, fields := [F.EP_FAIL_addr] }]

/-! Table 14.8, pages 0x0C-0x0F. -/
def F.MB_BIND_sender : Field := { off := 0x040, lo := 0, w := 3, st := 4, pv := true, t3 := true, lk := true, ck := true }
def F.MB_BIND_receiver : Field := { off := 0x040, lo := 4, w := 3, st := 4, pv := true, t3 := true, lk := true, ck := true }
def F.MB_BIND_valid : Field := { off := 0x040, lo := 7, w := 1, st := 4, pv := true, t3 := true, lk := true, ck := true }
def F.MB_BIND_wake : Field := { off := 0x040, lo := 8, w := 1, st := 4, pv := true, t3 := true, lk := true, ck := true }
def F.MB_VER_ver : Field := { off := 0x080, lo := 0, w := 16, acc := .ro }
def F.MB_DATA : Field := { off := 0x400, lo := 0, w := 32, st := 128, st2 := 4 }
def F.MB_DOORBELL_seq : Field := { off := 0x440, lo := 0, w := 16, st := 128, acc := .wo }
def F.MB_TAKE_take : Field := { off := 0x444, lo := 0, w := 1, st := 128, acc := .wo }
def F.MB_ACKW_code : Field := { off := 0x448, lo := 0, w := 16, st := 128, acc := .wo }
def F.MB_ACK_code : Field := { off := 0x44C, lo := 0, w := 16, st := 128, acc := .ro }
def F.MB_ACK_seq : Field := { off := 0x44C, lo := 16, w := 16, st := 128, acc := .ro }
def F.MB_STAT_state : Field := { off := 0x450, lo := 0, w := 2, st := 128, acc := .ro }
def F.MB_STAT_flushed : Field := { off := 0x450, lo := 2, w := 1, st := 128, acc := .ro }
def F.MB_STAT_retaken : Field := { off := 0x450, lo := 3, w := 1, st := 128, acc := .ro }
def F.MB_STAT_seq : Field := { off := 0x450, lo := 16, w := 16, st := 128, acc := .ro }
def F.MB_FLUSH_flush : Field := { off := 0x454, lo := 0, w := 1, st := 128, acc := .wo, pv := true }

/-- The registers of pages 0x0C-0x0F (Table 14.8). -/
def mboxRegs : List Reg :=
  [{ off := 0x040, n := 16, st := 4, fields := [F.MB_BIND_sender, F.MB_BIND_receiver, F.MB_BIND_valid, F.MB_BIND_wake] },
    { off := 0x080, fields := [F.MB_VER_ver] },
    { off := 0x400, n := 16, st := 128, n2 := 16, st2 := 4, fields := [F.MB_DATA] },
    { off := 0x440, n := 16, st := 128, fields := [F.MB_DOORBELL_seq] },
    { off := 0x444, n := 16, st := 128, fields := [F.MB_TAKE_take] },
    { off := 0x448, n := 16, st := 128, fields := [F.MB_ACKW_code] },
    { off := 0x44C, n := 16, st := 128, fields := [F.MB_ACK_code, F.MB_ACK_seq] },
    { off := 0x450, n := 16, st := 128, fields := [F.MB_STAT_state, F.MB_STAT_flushed, F.MB_STAT_retaken, F.MB_STAT_seq] },
    { off := 0x454, n := 16, st := 128, fields := [F.MB_FLUSH_flush] }]

/-! Table 15.8, pages 0x10. -/
def F.SEC_BOOT_mode : Field := { off := 0x040, lo := 0, w := 2, acc := .ro }
def F.SEC_BOOT_slot : Field := { off := 0x040, lo := 2, w := 1, acc := .ro }
def F.SEC_BOOT_slot_a : Field := { off := 0x040, lo := 4, w := 2, acc := .ro }
def F.SEC_BOOT_slot_b : Field := { off := 0x040, lo := 6, w := 2, acc := .ro }
def F.SEC_BOOT_fallback : Field := { off := 0x040, lo := 8, w := 1, acc := .ro }
def F.SEC_FW_rev : Field := { off := 0x044, lo := 0, w := 32, acc := .ro }
def F.SEC_SVN_counter : Field := { off := 0x048, lo := 0, w := 6, acc := .ro }
def F.SEC_SVN_run : Field := { off := 0x048, lo := 8, w := 6, acc := .ro }
def F.SEC_KEYS_ed_rev : Field := { off := 0x04C, lo := 0, w := 4, acc := .ro }
def F.SEC_KEYS_ml_rev : Field := { off := 0x04C, lo := 4, w := 4, acc := .ro }
def F.SEC_KEYS_owner : Field := { off := 0x04C, lo := 8, w := 1, acc := .ro }
def F.SEC_DEBUG_unlocked : Field := { off := 0x050, lo := 0, w := 1, acc := .ro }
def F.SEC_DEBUG_by : Field := { off := 0x050, lo := 1, w := 1, acc := .ro }
def F.SEC_DEBUG_ever : Field := { off := 0x050, lo := 2, w := 1, acc := .ro }
def F.SEC_VCOUNT : Field := { off := 0x054, lo := 0, w := 32, acc := .ro }

/-- The registers of pages 0x10 (Table 15.8). -/
def secRegs : List Reg :=
  [{ off := 0x040, fields := [F.SEC_BOOT_mode, F.SEC_BOOT_slot, F.SEC_BOOT_slot_a, F.SEC_BOOT_slot_b, F.SEC_BOOT_fallback] },
    { off := 0x044, fields := [F.SEC_FW_rev] },
    { off := 0x048, fields := [F.SEC_SVN_counter, F.SEC_SVN_run] },
    { off := 0x04C, fields := [F.SEC_KEYS_ed_rev, F.SEC_KEYS_ml_rev, F.SEC_KEYS_owner] },
    { off := 0x050, fields := [F.SEC_DEBUG_unlocked, F.SEC_DEBUG_by, F.SEC_DEBUG_ever] },
    { off := 0x054, fields := [F.SEC_VCOUNT] }]

/-! Table 15.9, pages 0x11. -/
def F.SEC_MEAS_SEL_sel : Field := { off := 0x040, lo := 0, w := 2 }
def F.SEC_MEAS_SEL_ready : Field := { off := 0x040, lo := 31, w := 1, acc := .ro, rst := 0x1 }
def F.SEC_MEAS : Field := { off := 0x080, lo := 0, w := 32, st := 4, acc := .ro }

/-- The registers of pages 0x11 (Table 15.9). -/
def secMeasRegs : List Reg :=
  [{ off := 0x040, fields := [F.SEC_MEAS_SEL_sel, F.SEC_MEAS_SEL_ready] },
    { off := 0x080, n := 16, st := 4, fields := [F.SEC_MEAS] }]

end Sys2Proof.Machine
end

