-- ==== Sys2Proof/Machine/RegsB.lean ====
section
/-! DEFINITION. The fields and registers of the host link, DMA, interrupt, synthesizer and lane pages, as the register tables of spec/ list them
(offset, bits, access codes, reset value and stated range; the tables named at each block). -/
namespace Sys2Proof.Machine

/-! Table 14.9, pages 0x14. -/
def F.HL_STAT_gen : Field := { off := 0x040, lo := 0, w := 3, acc := .ro }
def F.HL_STAT_cl : Field := { off := 0x040, lo := 4, w := 2, acc := .ro }
def F.HL_CFG_max_gen : Field := { off := 0x044, lo := 0, w := 3, rst := 0x4, rng := .u 2 4 }
def F.HL_CFG_lp_en : Field := { off := 0x044, lo := 3, w := 1, rst := 0x1 }
def F.HL_CFG_fallback_en : Field := { off := 0x044, lo := 4, w := 1, rst := 0x1 }
def F.HL_AP_BASE_mib : Field := { off := 0x048, lo := 0, w := 17, rng := .u 0 95231 }
def F.HL_CNT_down : Field := { off := 0x04C, lo := 0, w := 16, acc := .rc }
def F.HL_CNT_ap_out : Field := { off := 0x04C, lo := 16, w := 16, acc := .rc }

/-- The registers of pages 0x14 (Table 14.9). -/
def hlRegs : List Reg :=
  [{ off := 0x040, fields := [F.HL_STAT_gen, F.HL_STAT_cl] },
    { off := 0x044, fields := [F.HL_CFG_max_gen, F.HL_CFG_lp_en, F.HL_CFG_fallback_en] },
    { off := 0x048, fields := [F.HL_AP_BASE_mib] },
    { off := 0x04C, fields := [F.HL_CNT_down, F.HL_CNT_ap_out] }]

/-! Table 14.10, pages 0x15-0x16. -/
def F.DMA_RING_LO_addr : Field := { off := 0x100, lo := 6, w := 26, st := 64 }
def F.DMA_RING_HI : Field := { off := 0x104, lo := 0, w := 32, st := 64 }
def F.DMA_RING_SIZE_log2 : Field := { off := 0x108, lo := 0, w := 4, st := 64, rst := 0x4, rng := .u 4 12 }
def F.DMA_HEAD_idx : Field := { off := 0x10C, lo := 0, w := 12, st := 64 }
def F.DMA_TAIL_idx : Field := { off := 0x110, lo := 0, w := 12, st := 64, acc := .ro }
def F.DMA_CTRL_en : Field := { off := 0x114, lo := 0, w := 1, st := 64 }
def F.DMA_CTRL_abort : Field := { off := 0x114, lo := 1, w := 1, st := 64, acc := .wo }
def F.DMA_CTRL_irq_en : Field := { off := 0x114, lo := 2, w := 1, st := 64 }
def F.DMA_CTRL_vec : Field := { off := 0x114, lo := 8, w := 6, st := 64 }
def F.DMA_STAT_busy : Field := { off := 0x118, lo := 0, w := 1, st := 64, acc := .ro }
def F.DMA_STAT_link : Field := { off := 0x118, lo := 1, w := 1, st := 64, acc := .ro }
def F.DMA_STAT_ring_err : Field := { off := 0x118, lo := 2, w := 1, st := 64, acc := .ro }
def F.DMA_STAT_last : Field := { off := 0x118, lo := 4, w := 4, st := 64, acc := .ro }
def F.DMA_DONE : Field := { off := 0x11C, lo := 0, w := 32, st := 64, acc := .rc }

/-- The registers of pages 0x15-0x16 (Table 14.10). -/
def dmaRegs : List Reg :=
  [{ off := 0x100, n := 4, st := 64, fields := [F.DMA_RING_LO_addr] },
    { off := 0x104, n := 4, st := 64, fields := [F.DMA_RING_HI] },
    { off := 0x108, n := 4, st := 64, fields := [F.DMA_RING_SIZE_log2] },
    { off := 0x10C, n := 4, st := 64, fields := [F.DMA_HEAD_idx] },
    { off := 0x110, n := 4, st := 64, fields := [F.DMA_TAIL_idx] },
    { off := 0x114, n := 4, st := 64, fields := [F.DMA_CTRL_en, F.DMA_CTRL_abort, F.DMA_CTRL_irq_en, F.DMA_CTRL_vec] },
    { off := 0x118, n := 4, st := 64, fields := [F.DMA_STAT_busy, F.DMA_STAT_link, F.DMA_STAT_ring_err, F.DMA_STAT_last] },
    { off := 0x11C, n := 4, st := 64, fields := [F.DMA_DONE] }]

/-! Table 14.11, pages 0x17. -/
def F.MSIX_ADDR_LO : Field := { off := 0x400, lo := 2, w := 30, st := 16 }
def F.MSIX_ADDR_HI : Field := { off := 0x404, lo := 0, w := 32, st := 16 }
def F.MSIX_DATA : Field := { off := 0x408, lo := 0, w := 32, st := 16 }
def F.MSIX_VCTRL_mask : Field := { off := 0x40C, lo := 0, w := 1, st := 16, rst := 0x1 }
def F.MSIX_PBA_LO : Field := { off := 0x800, lo := 0, w := 32, acc := .ro }
def F.MSIX_PBA_HI : Field := { off := 0x804, lo := 0, w := 32, acc := .ro }

/-- The registers of pages 0x17 (Table 14.11). -/
def msixRegs : List Reg :=
  [{ off := 0x400, n := 64, st := 16, fields := [F.MSIX_ADDR_LO] },
    { off := 0x404, n := 64, st := 16, fields := [F.MSIX_ADDR_HI] },
    { off := 0x408, n := 64, st := 16, fields := [F.MSIX_DATA] },
    { off := 0x40C, n := 64, st := 16, fields := [F.MSIX_VCTRL_mask] },
    { off := 0x800, fields := [F.MSIX_PBA_LO] },
    { off := 0x804, fields := [F.MSIX_PBA_HI] }]

/-! Table 6.7, pages 0x18. -/
def F.REF_SEL_src : Field := { off := 0x040, lo := 0, w := 2, rng := .u 0 2 }
def F.REF_IN_KHZ_khz : Field := { off := 0x044, lo := 0, w := 20, rst := 0x186A0, rng := .u 10000 500000 }
def F.REF_CFG_failover : Field := { off := 0x048, lo := 0, w := 1 }
def F.REF_CFG_realign : Field := { off := 0x048, lo := 1, w := 1 }
def F.REF_CFG_los : Field := { off := 0x048, lo := 8, w := 8, rst := 0x14, rng := .u 5 200 }
def F.REF_CFG_qual_ms : Field := { off := 0x048, lo := 16, w := 10, rst := 0xA, rng := .u 1 1000 }
def F.REF_TIMING_coast_ms : Field := { off := 0x04C, lo := 0, w := 10, rst := 0x64, rng := .u 1 1000 }
def F.REF_TIMING_slew : Field := { off := 0x04C, lo := 16, w := 10, rst := 0xA, rng := .u 1 1000 }
def F.REF_STAT_active : Field := { off := 0x050, lo := 0, w := 2, acc := .ro }
def F.REF_STAT_refin_ok : Field := { off := 0x050, lo := 2, w := 1, acc := .ro }
def F.REF_STAT_ring_ok : Field := { off := 0x050, lo := 3, w := 1, acc := .ro }
def F.REF_STAT_coast : Field := { off := 0x050, lo := 4, w := 1, acc := .ro }
def F.REF_STAT_qualifying : Field := { off := 0x050, lo := 5, w := 1, acc := .ro }
def F.REF_STAT_failover : Field := { off := 0x050, lo := 6, w := 1, acc := .ro }
def F.REF_BUILDOUT : Field := { off := 0x054, lo := 0, w := 32, acc := .ro }
def F.CLK_GUARD_count : Field := { off := 0x058, lo := 0, w := 16, acc := .rc }
def F.CLK_GUARD_safe : Field := { off := 0x058, lo := 16, w := 1, acc := .ro }
def F.CLK_GUARD_cs_fault : Field := { off := 0x058, lo := 17, w := 2, acc := .ro }
def F.REFOUT_src : Field := { off := 0x060, lo := 0, w := 3, st := 4, rng := .u 0 4 }
def F.REFOUT_fmt : Field := { off := 0x060, lo := 4, w := 2, st := 4, rng := .u 0 2 }
def F.REFOUT_swing : Field := { off := 0x060, lo := 6, w := 2, st := 4, rst := 0x1, rng := .u 0 2 }
def F.REFOUT_ls : Field := { off := 0x060, lo := 8, w := 3, st := 4 }
def F.REFOUT_div : Field := { off := 0x060, lo := 16, w := 10, st := 4, rst := 0xA, rng := .u 1 1023 }
def F.REFOUT_PSTEP_steps : Field := { off := 0x070, lo := 0, w := 16, st := 4, acc := .wo }

/-- The registers of pages 0x18 (Table 6.7). -/
def refclkRegs : List Reg :=
  [{ off := 0x040, fields := [F.REF_SEL_src] },
    { off := 0x044, fields := [F.REF_IN_KHZ_khz] },
    { off := 0x048, fields := [F.REF_CFG_failover, F.REF_CFG_realign, F.REF_CFG_los, F.REF_CFG_qual_ms] },
    { off := 0x04C, fields := [F.REF_TIMING_coast_ms, F.REF_TIMING_slew] },
    { off := 0x050, fields := [F.REF_STAT_active, F.REF_STAT_refin_ok, F.REF_STAT_ring_ok, F.REF_STAT_coast, F.REF_STAT_qualifying, F.REF_STAT_failover] },
    { off := 0x054, fields := [F.REF_BUILDOUT] },
    { off := 0x058, fields := [F.CLK_GUARD_count, F.CLK_GUARD_safe, F.CLK_GUARD_cs_fault] },
    { off := 0x060, n := 4, st := 4, fields := [F.REFOUT_src, F.REFOUT_fmt, F.REFOUT_swing, F.REFOUT_ls, F.REFOUT_div] },
    { off := 0x070, n := 4, st := 4, fields := [F.REFOUT_PSTEP_steps] }]

/-! Table 6.8, pages 0x19. -/
def F.SYN_INT_n : Field := { off := 0x100, lo := 0, w := 10, st := 32, rst := 0xC8 }
def F.SYN_INT_odiv : Field := { off := 0x100, lo := 16, w := 3, st := 32, rst := 0x2, rng := .u 0 5 }
def F.SYN_FRAC : Field := { off := 0x104, lo := 0, w := 32, st := 32 }
def F.SYN_BAND_band : Field := { off := 0x108, lo := 0, w := 6, st := 32 }
def F.SYN_BAND_force : Field := { off := 0x108, lo := 8, w := 1, st := 32 }
def F.SYN_BAND_found : Field := { off := 0x108, lo := 16, w := 6, st := 32, acc := .ro }
def F.SYN_APPLY_go : Field := { off := 0x10C, lo := 0, w := 1, st := 32, acc := .wo }
def F.SYN_PSTEP_steps : Field := { off := 0x110, lo := 0, w := 16, st := 32, acc := .wo }
def F.SYN_STAT_locked : Field := { off := 0x114, lo := 0, w := 1, st := 32, acc := .ro }
def F.SYN_STAT_coast : Field := { off := 0x114, lo := 1, w := 1, st := 32, acc := .ro }
def F.SYN_STAT_search : Field := { off := 0x114, lo := 2, w := 1, st := 32, acc := .ro }
def F.SYN_STAT_aligned : Field := { off := 0x114, lo := 3, w := 1, st := 32, acc := .ro }
def F.SYN_STAT_fault : Field := { off := 0x114, lo := 4, w := 1, st := 32, acc := .ro }
def F.SYN_STAT_recal : Field := { off := 0x114, lo := 5, w := 1, st := 32, acc := .ro }
def F.SYN_COUNT_got : Field := { off := 0x118, lo := 0, w := 16, st := 32, acc := .ro }
def F.SYN_COUNT_expect : Field := { off := 0x118, lo := 16, w := 16, st := 32, acc := .ro }

/-- The registers of pages 0x19 (Table 6.8). -/
def synCoreRegs : List Reg :=
  [{ off := 0x100, n := 6, st := 32, fields := [F.SYN_INT_n, F.SYN_INT_odiv] },
    { off := 0x104, n := 6, st := 32, fields := [F.SYN_FRAC] },
    { off := 0x108, n := 6, st := 32, fields := [F.SYN_BAND_band, F.SYN_BAND_force, F.SYN_BAND_found] },
    { off := 0x10C, n := 6, st := 32, fields := [F.SYN_APPLY_go] },
    { off := 0x110, n := 6, st := 32, fields := [F.SYN_PSTEP_steps] },
    { off := 0x114, n := 6, st := 32, fields := [F.SYN_STAT_locked, F.SYN_STAT_coast, F.SYN_STAT_search, F.SYN_STAT_aligned, F.SYN_STAT_fault, F.SYN_STAT_recal] },
    { off := 0x118, n := 6, st := 32, fields := [F.SYN_COUNT_got, F.SYN_COUNT_expect] }]

/-! Table 6.8, pages 0x1A. -/
def F.WS_TRIM_trim : Field := { off := 0x040, lo := 0, w := 24, rng := .s (-200000) 200000 }

/-- The registers of pages 0x1A (Table 6.8). -/
def wsRegs : List Reg :=
  [{ off := 0x040, fields := [F.WS_TRIM_trim] },
    { off := 0x100, n := 1, st := 32, fields := [F.SYN_INT_n, F.SYN_INT_odiv] },
    { off := 0x104, n := 1, st := 32, fields := [F.SYN_FRAC] },
    { off := 0x108, n := 1, st := 32, fields := [F.SYN_BAND_band, F.SYN_BAND_force, F.SYN_BAND_found] },
    { off := 0x10C, n := 1, st := 32, fields := [F.SYN_APPLY_go] },
    { off := 0x110, n := 1, st := 32, fields := [F.SYN_PSTEP_steps] },
    { off := 0x114, n := 1, st := 32, fields := [F.SYN_STAT_locked, F.SYN_STAT_coast, F.SYN_STAT_search, F.SYN_STAT_aligned, F.SYN_STAT_fault, F.SYN_STAT_recal] },
    { off := 0x118, n := 1, st := 32, fields := [F.SYN_COUNT_got, F.SYN_COUNT_expect] }]

/-! Table 6.10, 6.8, pages 0x1B-0x1E. -/
def F.LG_RATE0_kbd : Field := { off := 0x040, lo := 0, w := 26, rst := 0x989680, rng := .u 1000000 56000000 }
def F.LG_RATE1_kbd : Field := { off := 0x044, lo := 0, w := 26, rst := 0x989680, rng := .u 1000000 56000000 }
def F.LG_SEL_sel : Field := { off := 0x048, lo := 0, w := 4 }
def F.LG_SLEW_slew0 : Field := { off := 0x04C, lo := 0, w := 8 }
def F.LG_SLEW_slew1 : Field := { off := 0x04C, lo := 8, w := 8 }
def F.LG_SLEW_slew2 : Field := { off := 0x04C, lo := 16, w := 8 }
def F.LG_SLEW_slew3 : Field := { off := 0x04C, lo := 24, w := 8 }
def F.LG_LPHASE_steps : Field := { off := 0x050, lo := 0, w := 16, st := 4, acc := .wo }
def F.LG_STAT_serve : Field := { off := 0x060, lo := 0, w := 4, acc := .ro }
def F.LG_STAT_pending : Field := { off := 0x060, lo := 4, w := 4, acc := .ro }
def F.LG_STAT_ready : Field := { off := 0x060, lo := 8, w := 4, acc := .ro }
def F.LG_STAT_moving : Field := { off := 0x060, lo := 12, w := 4, acc := .ro }
def F.LG_NOW0_kbd : Field := { off := 0x064, lo := 0, w := 26, acc := .ro, rst := 0x989680 }
def F.LG_NOW1_kbd : Field := { off := 0x068, lo := 0, w := 26, acc := .ro, rst := 0x989680 }
def F.LG_OFF : Field := { off := 0x070, lo := 0, w := 24, st := 4, acc := .ro }

/-- The registers of pages 0x1B-0x1E (Table 6.10, 6.8). -/
def lgRegs : List Reg :=
  [{ off := 0x040, fields := [F.LG_RATE0_kbd] },
    { off := 0x044, fields := [F.LG_RATE1_kbd] },
    { off := 0x048, fields := [F.LG_SEL_sel] },
    { off := 0x04C, fields := [F.LG_SLEW_slew0, F.LG_SLEW_slew1, F.LG_SLEW_slew2, F.LG_SLEW_slew3] },
    { off := 0x050, n := 4, st := 4, fields := [F.LG_LPHASE_steps] },
    { off := 0x060, fields := [F.LG_STAT_serve, F.LG_STAT_pending, F.LG_STAT_ready, F.LG_STAT_moving] },
    { off := 0x064, fields := [F.LG_NOW0_kbd] },
    { off := 0x068, fields := [F.LG_NOW1_kbd] },
    { off := 0x070, n := 4, st := 4, fields := [F.LG_OFF] },
    { off := 0x100, n := 2, st := 32, fields := [F.SYN_INT_n, F.SYN_INT_odiv] },
    { off := 0x104, n := 2, st := 32, fields := [F.SYN_FRAC] },
    { off := 0x108, n := 2, st := 32, fields := [F.SYN_BAND_band, F.SYN_BAND_force, F.SYN_BAND_found] }]
  ++ [{ off := 0x10C, n := 2, st := 32, fields := [F.SYN_APPLY_go] },
    { off := 0x110, n := 2, st := 32, fields := [F.SYN_PSTEP_steps] },
    { off := 0x114, n := 2, st := 32, fields := [F.SYN_STAT_locked, F.SYN_STAT_coast, F.SYN_STAT_search, F.SYN_STAT_aligned, F.SYN_STAT_fault, F.SYN_STAT_recal] },
    { off := 0x118, n := 2, st := 32, fields := [F.SYN_COUNT_got, F.SYN_COUNT_expect] }]

/-! Table 7.4, 7.5, pages 0x20-0x2F. -/
def F.TXL_CFG_rate_kbd : Field := { off := 0x040, lo := 0, w := 26, rst := 0x989680, rng := .u 1000000 56000000 }
def F.TXL_CFG_fmt : Field := { off := 0x040, lo := 26, w := 1 }
def F.TXL_NRZ_SWING_mv : Field := { off := 0x044, lo := 0, w := 11, rst := 0x320, rng := .u 100 1200 }
def F.TXL_NRZ_PRE_pre2 : Field := { off := 0x048, lo := 0, w := 12, rng := .s (-125) (125) }
def F.TXL_NRZ_PRE_pre1 : Field := { off := 0x048, lo := 16, w := 12, rng := .s (-300) (300) }
def F.TXL_NRZ_POST_post1 : Field := { off := 0x04C, lo := 0, w := 12, rng := .s (-400) (400) }
def F.TXL_NRZ_POST_post2 : Field := { off := 0x04C, lo := 16, w := 12, rng := .s (-125) (125) }
def F.TXL_PAM_SWING_mv : Field := { off := 0x050, lo := 0, w := 11, rst := 0x320, rng := .u 100 1200 }
def F.TXL_PAM_PRE_pre2 : Field := { off := 0x054, lo := 0, w := 12, rng := .s (-125) (125) }
def F.TXL_PAM_PRE_pre1 : Field := { off := 0x054, lo := 16, w := 12, rng := .s (-300) (300) }
def F.TXL_PAM_POST_post1 : Field := { off := 0x058, lo := 0, w := 12, rng := .s (-400) (400) }
def F.TXL_PAM_POST_post2 : Field := { off := 0x058, lo := 16, w := 12, rng := .s (-125) (125) }
def F.TXL_PAM_LVL_lvl1 : Field := { off := 0x05C, lo := 0, w := 12, rst := 0xEB3, rng := .s (-600) (-100) }
def F.TXL_PAM_LVL_lvl2 : Field := { off := 0x05C, lo := 16, w := 12, rst := 0x14D, rng := .s 100 600 }
def F.TXL_CM_nrz_mv : Field := { off := 0x060, lo := 0, w := 10, rst := 0x258, rng := .u 450 700 }
def F.TXL_CM_pam_mv : Field := { off := 0x060, lo := 16, w := 10, rst := 0x258, rng := .u 450 700 }
def F.TXL_XRATE : Field := { off := 0x100, lo := 0, w := 32, rst := 0x2540BE40, rng := .u 62500000 3500000000 }
def F.TXL_XFMT_fmt : Field := { off := 0x104, lo := 0, w := 1 }
def F.TXL_XNRZ_AMP_code : Field := { off := 0x110, lo := 0, w := 10, rst := 0x280, rng := .u 80 960 }
def F.TXL_XNRZ_TAP_pre2 : Field := { off := 0x114, lo := 0, w := 8, rng := .s (-32) (32) }
def F.TXL_XNRZ_TAP_pre1 : Field := { off := 0x114, lo := 8, w := 8, rng := .s (-77) (77) }
def F.TXL_XNRZ_TAP_post1 : Field := { off := 0x114, lo := 16, w := 8, rng := .s (-102) (102) }
def F.TXL_XNRZ_TAP_post2 : Field := { off := 0x114, lo := 24, w := 8, rng := .s (-32) (32) }
def F.TXL_XPAM_AMP_code : Field := { off := 0x118, lo := 0, w := 10, rst := 0x280, rng := .u 80 960 }
def F.TXL_XPAM_TAP_pre2 : Field := { off := 0x11C, lo := 0, w := 8, rng := .s (-32) (32) }
def F.TXL_XPAM_TAP_pre1 : Field := { off := 0x11C, lo := 8, w := 8, rng := .s (-77) (77) }
def F.TXL_XPAM_TAP_post1 : Field := { off := 0x11C, lo := 16, w := 8, rng := .s (-102) (102) }
def F.TXL_XPAM_TAP_post2 : Field := { off := 0x11C, lo := 24, w := 8, rng := .s (-32) (32) }
def F.TXL_XPAM_LVL_lvl1 : Field := { off := 0x120, lo := 0, w := 10, rst := 0x356, rng := .s (-307) (-51) }
def F.TXL_XPAM_LVL_lvl2 : Field := { off := 0x120, lo := 16, w := 10, rst := 0xAA, rng := .s 51 307 }
def F.TXL_XCM_nrz : Field := { off := 0x124, lo := 0, w := 8, rst := 0xF0, rng := .u 180 280 }
def F.TXL_XCM_pam : Field := { off := 0x124, lo := 8, w := 8, rst := 0xF0, rng := .u 180 280 }
def F.TXL_POL_invert : Field := { off := 0x400, lo := 0, w := 1 }
def F.TXL_LIMIT_swing_mv : Field := { off := 0x404, lo := 0, w := 11, lk := true, rst := 0x4B0, rng := .u 100 1200 }
def F.TXL_JIT_SJ_amp : Field := { off := 0x410, lo := 0, w := 10, rng := .u 0 512 }
def F.TXL_JIT_SJ_en : Field := { off := 0x410, lo := 31, w := 1 }
def F.TXL_JIT_SJF_khz : Field := { off := 0x414, lo := 0, w := 17, rst := 0x3E8, rng := .u 1 100000 }
def F.TXL_JIT_RJ_rms : Field := { off := 0x418, lo := 0, w := 6, rng := .u 0 40 }
def F.TXL_JIT_RJ_bw : Field := { off := 0x418, lo := 8, w := 5, rst := 0xA, rng := .u 1 20 }
def F.TXL_JIT_RJ_en : Field := { off := 0x418, lo := 31, w := 1 }
def F.TXL_JIT_STAT_clip : Field := { off := 0x41C, lo := 0, w := 16, acc := .rc }
def F.TXL_ERR_CTRL_type : Field := { off := 0x420, lo := 0, w := 2, rng := .u 0 2 }
def F.TXL_ERR_CTRL_mode : Field := { off := 0x420, lo := 2, w := 3, rng := .u 0 4 }
def F.TXL_ERR_CTRL_pos_rand : Field := { off := 0x420, lo := 5, w := 1 }
def F.TXL_ERR_CTRL_sym_mask : Field := { off := 0x420, lo := 8, w := 2, rst := 0x1 }
def F.TXL_ERR_CTRL_go : Field := { off := 0x420, lo := 12, w := 1, acc := .wo }
def F.TXL_ERR_POS_off : Field := { off := 0x424, lo := 0, w := 16 }
def F.TXL_ERR_POS_len : Field := { off := 0x424, lo := 16, w := 5, rst := 0x1, rng := .u 1 16 }
def F.TXL_ERR_N : Field := { off := 0x428, lo := 0, w := 32, rst := 0x1 }
def F.TXL_ERR_EV_in_ev : Field := { off := 0x42C, lo := 0, w := 8 }
def F.TXL_ERR_EV_out_ev : Field := { off := 0x42C, lo := 8, w := 8 }
def F.TXL_ERR_EV_out_en : Field := { off := 0x42C, lo := 16, w := 1 }
def F.TXL_ERR_CNT_inj : Field := { off := 0x430, lo := 0, w := 24, acc := .rc }
def F.TXL_ERR_CNT_drop : Field := { off := 0x430, lo := 24, w := 8, acc := .rc }
def F.TXL_ERR_TS_LO : Field := { off := 0x434, lo := 0, w := 32, acc := .ro }
def F.TXL_ERR_TS_HI : Field := { off := 0x438, lo := 0, w := 32, acc := .ro }
def F.TXL_STAT_idle : Field := { off := 0x440, lo := 0, w := 1, acc := .ro, rst := 0x1 }
def F.TXL_STAT_fmt : Field := { off := 0x440, lo := 1, w := 1, acc := .ro }
def F.TXL_STAT_rlm : Field := { off := 0x440, lo := 16, w := 10, acc := .ro, rst := 0x3E7 }

/-- The registers of pages 0x20-0x2F (Table 7.4, 7.5). -/
def txlRegs : List Reg :=
  [{ off := 0x040, fields := [F.TXL_CFG_rate_kbd, F.TXL_CFG_fmt] },
    { off := 0x044, fields := [F.TXL_NRZ_SWING_mv] },
    { off := 0x048, fields := [F.TXL_NRZ_PRE_pre2, F.TXL_NRZ_PRE_pre1] },
    { off := 0x04C, fields := [F.TXL_NRZ_POST_post1, F.TXL_NRZ_POST_post2] },
    { off := 0x050, fields := [F.TXL_PAM_SWING_mv] },
    { off := 0x054, fields := [F.TXL_PAM_PRE_pre2, F.TXL_PAM_PRE_pre1] },
    { off := 0x058, fields := [F.TXL_PAM_POST_post1, F.TXL_PAM_POST_post2] },
    { off := 0x05C, fields := [F.TXL_PAM_LVL_lvl1, F.TXL_PAM_LVL_lvl2] },
    { off := 0x060, fields := [F.TXL_CM_nrz_mv, F.TXL_CM_pam_mv] },
    { off := 0x100, fields := [F.TXL_XRATE] },
    { off := 0x104, fields := [F.TXL_XFMT_fmt] },
    { off := 0x110, fields := [F.TXL_XNRZ_AMP_code] }]
  ++ [{ off := 0x114, fields := [F.TXL_XNRZ_TAP_pre2, F.TXL_XNRZ_TAP_pre1, F.TXL_XNRZ_TAP_post1, F.TXL_XNRZ_TAP_post2] },
    { off := 0x118, fields := [F.TXL_XPAM_AMP_code] },
    { off := 0x11C, fields := [F.TXL_XPAM_TAP_pre2, F.TXL_XPAM_TAP_pre1, F.TXL_XPAM_TAP_post1, F.TXL_XPAM_TAP_post2] },
    { off := 0x120, fields := [F.TXL_XPAM_LVL_lvl1, F.TXL_XPAM_LVL_lvl2] },
    { off := 0x124, fields := [F.TXL_XCM_nrz, F.TXL_XCM_pam] },
    { off := 0x400, fields := [F.TXL_POL_invert] },
    { off := 0x404, fields := [F.TXL_LIMIT_swing_mv] },
    { off := 0x410, fields := [F.TXL_JIT_SJ_amp, F.TXL_JIT_SJ_en] },
    { off := 0x414, fields := [F.TXL_JIT_SJF_khz] },
    { off := 0x418, fields := [F.TXL_JIT_RJ_rms, F.TXL_JIT_RJ_bw, F.TXL_JIT_RJ_en] },
    { off := 0x41C, fields := [F.TXL_JIT_STAT_clip] },
    { off := 0x420, fields := [F.TXL_ERR_CTRL_type, F.TXL_ERR_CTRL_mode, F.TXL_ERR_CTRL_pos_rand, F.TXL_ERR_CTRL_sym_mask, F.TXL_ERR_CTRL_go] }]
  ++ [{ off := 0x424, fields := [F.TXL_ERR_POS_off, F.TXL_ERR_POS_len] },
    { off := 0x428, fields := [F.TXL_ERR_N] },
    { off := 0x42C, fields := [F.TXL_ERR_EV_in_ev, F.TXL_ERR_EV_out_ev, F.TXL_ERR_EV_out_en] },
    { off := 0x430, fields := [F.TXL_ERR_CNT_inj, F.TXL_ERR_CNT_drop] },
    { off := 0x434, fields := [F.TXL_ERR_TS_LO] },
    { off := 0x438, fields := [F.TXL_ERR_TS_HI] },
    { off := 0x440, fields := [F.TXL_STAT_idle, F.TXL_STAT_fmt, F.TXL_STAT_rlm] }]

/-! Table 8.6, 8.7, pages 0x30-0x3F. -/
def F.RXL_CFG_rate_kbd : Field := { off := 0x040, lo := 0, w := 26, rst := 0x989680, rng := .u 1000000 56000000 }
def F.RXL_CFG_fmt : Field := { off := 0x040, lo := 26, w := 1 }
def F.RXL_CFG_en : Field := { off := 0x040, lo := 27, w := 1 }
def F.RXL_ALT_rate_kbd : Field := { off := 0x044, lo := 0, w := 26, rst := 0x989680, rng := .u 1000000 56000000 }
def F.RXL_ALT_fmt : Field := { off := 0x044, lo := 26, w := 1 }
def F.RXL_XRATE : Field := { off := 0x100, lo := 0, w := 32, rst := 0x2540BE40, rng := .u 62500000 3500000000 }
def F.RXL_XALT : Field := { off := 0x104, lo := 0, w := 32, rst := 0x2540BE40, rng := .u 62500000 3500000000 }
def F.RXL_XFMT_fmt : Field := { off := 0x108, lo := 0, w := 1 }
def F.RXL_XFMT_alt : Field := { off := 0x108, lo := 1, w := 1 }
def F.RXL_XCTLE_peak : Field := { off := 0x110, lo := 0, w := 6, rng := .u 0 48 }
def F.RXL_XCTLE_vga : Field := { off := 0x110, lo := 8, w := 6, rng := .u 0 40 }
def F.RXL_XCTLE_force : Field := { off := 0x110, lo := 16, w := 1 }
def F.RXL_XDFE_FORCE_mask : Field := { off := 0x114, lo := 0, w := 8 }
def F.RXL_XCDR_bw : Field := { off := 0x118, lo := 0, w := 2 }
def F.RXL_XDFE_tap : Field := { off := 0x120, lo := 0, w := 10, st := 4 }
def F.RXL_POL_invert : Field := { off := 0x400, lo := 0, w := 1 }
def F.RXL_FRAME_framing : Field := { off := 0x404, lo := 0, w := 2 }
def F.RXL_FRAME_gray : Field := { off := 0x404, lo := 2, w := 1 }
def F.RXL_FRAME_scr : Field := { off := 0x404, lo := 4, w := 2 }
def F.RXL_SCR_SEED_seed : Field := { off := 0x408, lo := 0, w := 23, rst := 0x7FFFFF }
def F.RXL_SCR_RESEED_pat : Field := { off := 0x40C, lo := 0, w := 16 }
def F.RXL_ADAPT_mode : Field := { off := 0x410, lo := 0, w := 2, rng := .u 0 2 }
def F.RXL_ADAPT_restart : Field := { off := 0x410, lo := 4, w := 1, acc := .wo }
def F.RXL_SIGDET_thr_mv : Field := { off := 0x414, lo := 0, w := 7, rst := 0x28, rng := .u 20 120 }
def F.RXL_SIGDET_hold_us : Field := { off := 0x414, lo := 8, w := 8, rst := 0x64, rng := .u 1 255 }
def F.RXL_SWITCH_ev : Field := { off := 0x418, lo := 0, w := 8 }
def F.RXL_SWITCH_en : Field := { off := 0x418, lo := 8, w := 1 }
def F.RXL_SWITCH_go : Field := { off := 0x418, lo := 9, w := 1, acc := .wo }
def F.RXL_EV_lost_ev : Field := { off := 0x41C, lo := 0, w := 8 }
def F.RXL_EV_slip_ev : Field := { off := 0x41C, lo := 8, w := 8 }
def F.RXL_EV_cut_ev : Field := { off := 0x41C, lo := 16, w := 8 }
def F.RXL_EV_lost_en : Field := { off := 0x41C, lo := 24, w := 1 }
def F.RXL_EV_slip_en : Field := { off := 0x41C, lo := 25, w := 1 }
def F.RXL_EV_cut_en : Field := { off := 0x41C, lo := 26, w := 1 }
def F.RXL_STAT_state : Field := { off := 0x420, lo := 0, w := 3, acc := .ro }
def F.RXL_STAT_align : Field := { off := 0x420, lo := 4, w := 2, acc := .ro }
def F.RXL_STAT_prof : Field := { off := 0x420, lo := 6, w := 1, acc := .ro }
def F.RXL_STAT_sigdet : Field := { off := 0x420, lo := 7, w := 1, acc := .ro }
def F.RXL_STAT_ppm : Field := { off := 0x420, lo := 16, w := 16, acc := .ro }
def F.RXL_EQ_NOW_peak : Field := { off := 0x424, lo := 0, w := 6, acc := .ro }
def F.RXL_EQ_NOW_vga : Field := { off := 0x424, lo := 8, w := 6, acc := .ro }
def F.RXL_EQ_NOW_eye_mv : Field := { off := 0x424, lo := 16, w := 10, acc := .ro }
def F.RXL_EQ_NOW_eye_w : Field := { off := 0x424, lo := 26, w := 6, acc := .ro }
def F.RXL_DFE_NOW_lo : Field := { off := 0x428, lo := 0, w := 10, st := 4, acc := .ro }
def F.RXL_DFE_NOW_hi : Field := { off := 0x428, lo := 16, w := 10, st := 4, acc := .ro }
def F.RXL_CNT_lock_lost : Field := { off := 0x438, lo := 0, w := 8, acc := .rc }
def F.RXL_CNT_align_lost : Field := { off := 0x438, lo := 8, w := 8, acc := .rc }
def F.RXL_CNT_code_err : Field := { off := 0x438, lo := 16, w := 16, acc := .rc }
def F.RXL_FWD_target : Field := { off := 0x440, lo := 0, w := 6, rst := 0x14, rng := .u 8 32 }
def F.RXL_FWD_repair : Field := { off := 0x440, lo := 8, w := 1, rst := 0x1 }
def F.RXL_FWD_drain : Field := { off := 0x440, lo := 9, w := 1 }
def F.RXL_FWD_drain_ppm : Field := { off := 0x440, lo := 16, w := 12, rst := 0x3E8, rng := .u 100 3000 }
def F.RXL_IDLE_PAT : Field := { off := 0x444, lo := 0, w := 32, st := 4 }
def F.RXL_IDLE_MASK : Field := { off := 0x44C, lo := 0, w := 32, st := 4 }
def F.RXL_FWD_STAT_elastic : Field := { off := 0x460, lo := 0, w := 8, acc := .ro }
def F.RXL_FWD_STAT_fwd : Field := { off := 0x460, lo := 8, w := 1, acc := .ro }
def F.RXL_FWD_STAT_splice : Field := { off := 0x460, lo := 9, w := 1, acc := .ro }
def F.RXL_FWD_STAT_draining : Field := { off := 0x460, lo := 10, w := 1, acc := .ro }
def F.RXL_FWD_STAT_held : Field := { off := 0x460, lo := 16, w := 12, acc := .ro }
def F.RXL_FWD_CNT_slip : Field := { off := 0x464, lo := 0, w := 8, acc := .rc }
def F.RXL_FWD_CNT_cut : Field := { off := 0x464, lo := 8, w := 8, acc := .rc }
def F.RXL_FWD_CNT_cut_cause : Field := { off := 0x464, lo := 16, w := 2, acc := .ro }

/-- The registers of pages 0x30-0x3F (Table 8.6, 8.7). -/
def rxlRegs : List Reg :=
  [{ off := 0x040, fields := [F.RXL_CFG_rate_kbd, F.RXL_CFG_fmt, F.RXL_CFG_en] },
    { off := 0x044, fields := [F.RXL_ALT_rate_kbd, F.RXL_ALT_fmt] },
    { off := 0x100, fields := [F.RXL_XRATE] },
    { off := 0x104, fields := [F.RXL_XALT] },
    { off := 0x108, fields := [F.RXL_XFMT_fmt, F.RXL_XFMT_alt] },
    { off := 0x110, fields := [F.RXL_XCTLE_peak, F.RXL_XCTLE_vga, F.RXL_XCTLE_force] },
    { off := 0x114, fields := [F.RXL_XDFE_FORCE_mask] },
    { off := 0x118, fields := [F.RXL_XCDR_bw] },
    { off := 0x120, n := 8, st := 4, fields := [F.RXL_XDFE_tap] },
    { off := 0x400, fields := [F.RXL_POL_invert] },
    { off := 0x404, fields := [F.RXL_FRAME_framing, F.RXL_FRAME_gray, F.RXL_FRAME_scr] },
    { off := 0x408, fields := [F.RXL_SCR_SEED_seed] }]
  ++ [{ off := 0x40C, fields := [F.RXL_SCR_RESEED_pat] },
    { off := 0x410, fields := [F.RXL_ADAPT_mode, F.RXL_ADAPT_restart] },
    { off := 0x414, fields := [F.RXL_SIGDET_thr_mv, F.RXL_SIGDET_hold_us] },
    { off := 0x418, fields := [F.RXL_SWITCH_ev, F.RXL_SWITCH_en, F.RXL_SWITCH_go] },
    { off := 0x41C, fields := [F.RXL_EV_lost_ev, F.RXL_EV_slip_ev, F.RXL_EV_cut_ev, F.RXL_EV_lost_en, F.RXL_EV_slip_en, F.RXL_EV_cut_en] },
    { off := 0x420, fields := [F.RXL_STAT_state, F.RXL_STAT_align, F.RXL_STAT_prof, F.RXL_STAT_sigdet, F.RXL_STAT_ppm] },
    { off := 0x424, fields := [F.RXL_EQ_NOW_peak, F.RXL_EQ_NOW_vga, F.RXL_EQ_NOW_eye_mv, F.RXL_EQ_NOW_eye_w] },
    { off := 0x428, n := 4, st := 4, fields := [F.RXL_DFE_NOW_lo, F.RXL_DFE_NOW_hi] },
    { off := 0x438, fields := [F.RXL_CNT_lock_lost, F.RXL_CNT_align_lost, F.RXL_CNT_code_err] },
    { off := 0x440, fields := [F.RXL_FWD_target, F.RXL_FWD_repair, F.RXL_FWD_drain, F.RXL_FWD_drain_ppm] },
    { off := 0x444, n := 2, st := 4, fields := [F.RXL_IDLE_PAT] },
    { off := 0x44C, n := 2, st := 4, fields := [F.RXL_IDLE_MASK] }]
  ++ [{ off := 0x460, fields := [F.RXL_FWD_STAT_elastic, F.RXL_FWD_STAT_fwd, F.RXL_FWD_STAT_splice, F.RXL_FWD_STAT_draining, F.RXL_FWD_STAT_held] },
    { off := 0x464, fields := [F.RXL_FWD_CNT_slip, F.RXL_FWD_CNT_cut, F.RXL_FWD_CNT_cut_cause] }]

end Sys2Proof.Machine
end

