-- ==== Sys2Proof/Machine/RegsC.lean ====
section
/-! DEFINITION. The fields and registers of the sequencer, capture, matcher, deep memory, scratchpad and queue pages, as the register tables of spec/ list them
(offset, bits, access codes, reset value and stated range; the tables named at each block). -/
namespace Sys2Proof.Machine

/-! Table 4.16, pages 0x40-0x53. -/
def F.SQ_CTRL_prepare : Field := { off := 0x040, lo := 0, w := 1, acc := .wo }
def F.SQ_CTRL_halt_req : Field := { off := 0x040, lo := 1, w := 1, acc := .wo }
def F.SQ_STAT_state : Field := { off := 0x044, lo := 0, w := 3, acc := .ro }
def F.SQ_STAT_cause : Field := { off := 0x044, lo := 4, w := 4, acc := .ro }
def F.SQ_STAT_depth : Field := { off := 0x044, lo := 8, w := 4, acc := .ro }
def F.SQ_STAT_pc : Field := { off := 0x044, lo := 16, w := 11, acc := .ro }
def F.SQ_STAT_watches : Field := { off := 0x044, lo := 28, w := 4, acc := .ro }
def F.SQ_START_entry : Field := { off := 0x048, lo := 0, w := 11 }
def F.SQ_CFG_tilebad : Field := { off := 0x04C, lo := 0, w := 1 }
def F.SQ_CFG_hot_tiles : Field := { off := 0x04C, lo := 8, w := 5, rst := 0x2 }
def F.SQ_BLOCK_bits : Field := { off := 0x050, lo := 0, w := 16 }
def F.SQ_LATCH_SEL_ch0 : Field := { off := 0x054, lo := 0, w := 8 }
def F.SQ_LATCH_SEL_ch1 : Field := { off := 0x054, lo := 8, w := 8 }
def F.SQ_LATCH_SEL_ch2 : Field := { off := 0x054, lo := 16, w := 8 }
def F.SQ_LATCH_SEL_ch3 : Field := { off := 0x054, lo := 24, w := 8 }
def F.SQ_LATCH_latch : Field := { off := 0x058, lo := 0, w := 4, acc := .rc }
def F.SQ_EVOUT_halt_ev : Field := { off := 0x05C, lo := 0, w := 8 }
def F.SQ_EVOUT_fault_ev : Field := { off := 0x05C, lo := 8, w := 8 }
def F.SQ_EVOUT_land_ev : Field := { off := 0x05C, lo := 16, w := 8 }
def F.SQ_EVOUT_halt_en : Field := { off := 0x05C, lo := 24, w := 1 }
def F.SQ_EVOUT_fault_en : Field := { off := 0x05C, lo := 25, w := 1 }
def F.SQ_EVOUT_land_en : Field := { off := 0x05C, lo := 26, w := 1 }
def F.SQ_FILL : Field := { off := 0x060, lo := 0, w := 32, st := 4 }
def F.SQ_LREG : Field := { off := 0x070, lo := 0, w := 32, st := 4 }
def F.SQ_PADDR_entry : Field := { off := 0x080, lo := 0, w := 11 }
def F.SQ_PDATA : Field := { off := 0x084, lo := 0, w := 32, st := 4 }
def F.SQ_FAULT_pc : Field := { off := 0x094, lo := 0, w := 11, acc := .ro }
def F.SQ_FAULT_cause : Field := { off := 0x094, lo := 16, w := 4, acc := .ro }
def F.SQ_COUNT_underrun : Field := { off := 0x098, lo := 0, w := 16, acc := .rc }
def F.SQ_COUNT_overrun : Field := { off := 0x098, lo := 16, w := 16, acc := .rc }
def F.SQ_MARK_TS_LO : Field := { off := 0x09C, lo := 0, w := 32, acc := .ro }
def F.SQ_MARK_TS_HI : Field := { off := 0x0A0, lo := 0, w := 32, acc := .ro }
def F.SQ_LAND_TS_LO : Field := { off := 0x0A4, lo := 0, w := 32, acc := .ro }
def F.SQ_LAND_TS_HI : Field := { off := 0x0A8, lo := 0, w := 32, acc := .ro }
def F.SQ_HOT_targets : Field := { off := 0x0AC, lo := 0, w := 7, acc := .ro }
def F.SQ_HOT_tiles : Field := { off := 0x0AC, lo := 8, w := 11, acc := .ro }
def F.SQ_LOOPd : Field := { off := 0x0B0, lo := 0, w := 32, st := 4, acc := .ro }

/-- The registers of pages 0x40-0x53 (Table 4.16). -/
def sqRegs : List Reg :=
  [{ off := 0x040, fields := [F.SQ_CTRL_prepare, F.SQ_CTRL_halt_req] },
    { off := 0x044, fields := [F.SQ_STAT_state, F.SQ_STAT_cause, F.SQ_STAT_depth, F.SQ_STAT_pc, F.SQ_STAT_watches] },
    { off := 0x048, fields := [F.SQ_START_entry] },
    { off := 0x04C, fields := [F.SQ_CFG_tilebad, F.SQ_CFG_hot_tiles] },
    { off := 0x050, fields := [F.SQ_BLOCK_bits] },
    { off := 0x054, fields := [F.SQ_LATCH_SEL_ch0, F.SQ_LATCH_SEL_ch1, F.SQ_LATCH_SEL_ch2, F.SQ_LATCH_SEL_ch3] },
    { off := 0x058, fields := [F.SQ_LATCH_latch] },
    { off := 0x05C, fields := [F.SQ_EVOUT_halt_ev, F.SQ_EVOUT_fault_ev, F.SQ_EVOUT_land_ev, F.SQ_EVOUT_halt_en, F.SQ_EVOUT_fault_en, F.SQ_EVOUT_land_en] },
    { off := 0x060, n := 4, st := 4, fields := [F.SQ_FILL] },
    { off := 0x070, n := 4, st := 4, fields := [F.SQ_LREG] },
    { off := 0x080, fields := [F.SQ_PADDR_entry] },
    { off := 0x084, n := 4, st := 4, fields := [F.SQ_PDATA] }]
  ++ [{ off := 0x094, fields := [F.SQ_FAULT_pc, F.SQ_FAULT_cause] },
    { off := 0x098, fields := [F.SQ_COUNT_underrun, F.SQ_COUNT_overrun] },
    { off := 0x09C, fields := [F.SQ_MARK_TS_LO] },
    { off := 0x0A0, fields := [F.SQ_MARK_TS_HI] },
    { off := 0x0A4, fields := [F.SQ_LAND_TS_LO] },
    { off := 0x0A8, fields := [F.SQ_LAND_TS_HI] },
    { off := 0x0AC, fields := [F.SQ_HOT_targets, F.SQ_HOT_tiles] },
    { off := 0x0B0, n := 8, st := 4, fields := [F.SQ_LOOPd] }]

/-! Table 9.12, pages 0x54,0x56. -/
def F.CE_CFG_mode : Field := { off := 0x040, lo := 0, w := 2, rng := .u 0 1 }
def F.CE_CFG_store_init : Field := { off := 0x040, lo := 2, w := 1, rst := 0x1 }
def F.CE_CFG_lanes : Field := { off := 0x040, lo := 8, w := 8, rst := 0xFF }
def F.CE_REGION_BASE_tile : Field := { off := 0x044, lo := 0, w := 25 }
def F.CE_REGION_LEN_tiles : Field := { off := 0x048, lo := 0, w := 25 }
def F.CE_POST_tiles : Field := { off := 0x04C, lo := 0, w := 25 }
def F.CE_POST_en : Field := { off := 0x04C, lo := 31, w := 1 }
def F.CE_FILT_pat_en : Field := { off := 0x050, lo := 0, w := 4 }
def F.CE_FILT_min_run : Field := { off := 0x050, lo := 8, w := 8, rst := 0x4, rng := .u 1 255 }
def F.CE_EV_trig_ev : Field := { off := 0x054, lo := 0, w := 8 }
def F.CE_EV_close_ev : Field := { off := 0x054, lo := 8, w := 8 }
def F.CE_EV_gap_ev : Field := { off := 0x054, lo := 16, w := 8 }
def F.CE_EV_trig_en : Field := { off := 0x054, lo := 24, w := 1 }
def F.CE_EV_close_en : Field := { off := 0x054, lo := 25, w := 1 }
def F.CE_EV_gap_en : Field := { off := 0x054, lo := 26, w := 1 }
def F.CE_STAT_state : Field := { off := 0x058, lo := 0, w := 3, acc := .ro }
def F.CE_STAT_wrapped : Field := { off := 0x058, lo := 3, w := 1, acc := .ro }
def F.CE_STAT_triggered : Field := { off := 0x058, lo := 4, w := 1, acc := .ro }
def F.CE_STAT_close : Field := { off := 0x058, lo := 8, w := 3, acc := .ro }
def F.CE_WR_TILE_tile : Field := { off := 0x05C, lo := 0, w := 25, acc := .ro }
def F.CE_TRIG_TILE_tile : Field := { off := 0x060, lo := 0, w := 25, acc := .ro }
def F.CE_TRIG_OFF_off : Field := { off := 0x064, lo := 0, w := 12, acc := .ro }
def F.CE_TRIG_TS_LO : Field := { off := 0x068, lo := 0, w := 32, acc := .ro }
def F.CE_TRIG_TS_HI : Field := { off := 0x06C, lo := 0, w := 32, acc := .ro }
def F.CE_SEQ : Field := { off := 0x070, lo := 0, w := 32, acc := .ro }
def F.CE_META_meta_lost : Field := { off := 0x074, lo := 0, w := 16, acc := .rc }
def F.CE_META_retrig : Field := { off := 0x074, lo := 16, w := 16, acc := .rc }
def F.CE_REPLACED : Field := { off := 0x078, lo := 0, w := 32, acc := .rc }
def F.CE_IDLE_VAL_LO : Field := { off := 0x100, lo := 0, w := 32, st := 16 }
def F.CE_IDLE_VAL_HI : Field := { off := 0x104, lo := 0, w := 32, st := 16 }
def F.CE_IDLE_MASK_LO : Field := { off := 0x108, lo := 0, w := 32, st := 16 }
def F.CE_IDLE_MASK_HI : Field := { off := 0x10C, lo := 0, w := 32, st := 16 }

/-- The registers of pages 0x54,0x56 (Table 9.12). -/
def ceRegs : List Reg :=
  [{ off := 0x040, fields := [F.CE_CFG_mode, F.CE_CFG_store_init, F.CE_CFG_lanes] },
    { off := 0x044, fields := [F.CE_REGION_BASE_tile] },
    { off := 0x048, fields := [F.CE_REGION_LEN_tiles] },
    { off := 0x04C, fields := [F.CE_POST_tiles, F.CE_POST_en] },
    { off := 0x050, fields := [F.CE_FILT_pat_en, F.CE_FILT_min_run] },
    { off := 0x054, fields := [F.CE_EV_trig_ev, F.CE_EV_close_ev, F.CE_EV_gap_ev, F.CE_EV_trig_en, F.CE_EV_close_en, F.CE_EV_gap_en] },
    { off := 0x058, fields := [F.CE_STAT_state, F.CE_STAT_wrapped, F.CE_STAT_triggered, F.CE_STAT_close] },
    { off := 0x05C, fields := [F.CE_WR_TILE_tile] },
    { off := 0x060, fields := [F.CE_TRIG_TILE_tile] },
    { off := 0x064, fields := [F.CE_TRIG_OFF_off] },
    { off := 0x068, fields := [F.CE_TRIG_TS_LO] },
    { off := 0x06C, fields := [F.CE_TRIG_TS_HI] }]
  ++ [{ off := 0x070, fields := [F.CE_SEQ] },
    { off := 0x074, fields := [F.CE_META_meta_lost, F.CE_META_retrig] },
    { off := 0x078, fields := [F.CE_REPLACED] },
    { off := 0x100, n := 4, st := 16, fields := [F.CE_IDLE_VAL_LO] },
    { off := 0x104, n := 4, st := 16, fields := [F.CE_IDLE_VAL_HI] },
    { off := 0x108, n := 4, st := 16, fields := [F.CE_IDLE_MASK_LO] },
    { off := 0x10C, n := 4, st := 16, fields := [F.CE_IDLE_MASK_HI] }]

/-! Table 9.13, pages 0x55,0x57. -/
def F.CE_STORED : Field := { off := 0x040, lo := 0, w := 32, st := 4, acc := .rc }
def F.CE_IDLED : Field := { off := 0x060, lo := 0, w := 32, st := 4, acc := .rc }
def F.CE_LOST : Field := { off := 0x080, lo := 0, w := 32, st := 4, acc := .rc }

/-- The registers of pages 0x55,0x57 (Table 9.13). -/
def ceLaneRegs : List Reg :=
  [{ off := 0x040, n := 8, st := 4, fields := [F.CE_STORED] },
    { off := 0x060, n := 8, st := 4, fields := [F.CE_IDLED] },
    { off := 0x080, n := 8, st := 4, fields := [F.CE_LOST] }]

/-! Table 9.14, pages 0x58-0x5A,0x5C-0x5E. -/
def F.MT_CFG_kind : Field := { off := 0x400, lo := 0, w := 3, st := 64, rng := .u 0 3 }
def F.MT_CFG_neg : Field := { off := 0x400, lo := 3, w := 1, st := 64 }
def F.MT_CFG_align : Field := { off := 0x400, lo := 4, w := 2, st := 64, rng := .u 0 1 }
def F.MT_CFG_en : Field := { off := 0x400, lo := 6, w := 1, st := 64 }
def F.MT_CFG_lanes : Field := { off := 0x400, lo := 8, w := 8, st := 64 }
def F.MT_CFG_len : Field := { off := 0x400, lo := 16, w := 7, st := 64, rst := 0x1, rng := .u 1 128 }
def F.MT_POS_off : Field := { off := 0x404, lo := 0, w := 16, st := 64 }
def F.MT_CNT_n : Field := { off := 0x408, lo := 0, w := 16, st := 64, rst := 0x1, rng := .u 1 65535 }
def F.MT_EV_ev : Field := { off := 0x40C, lo := 0, w := 8, st := 64 }
def F.MT_EV_en : Field := { off := 0x40C, lo := 8, w := 1, st := 64 }
def F.MT_VAL : Field := { off := 0x410, lo := 0, w := 32, st := 64, st2 := 4 }
def F.MT_MASK : Field := { off := 0x420, lo := 0, w := 32, st := 64, st2 := 4 }
def F.MT_HITS : Field := { off := 0x430, lo := 0, w := 32, st := 64, acc := .rc }

/-- The registers of pages 0x58-0x5A,0x5C-0x5E (Table 9.14). -/
def mtRegs : List Reg :=
  [{ off := 0x400, n := 16, st := 64, fields := [F.MT_CFG_kind, F.MT_CFG_neg, F.MT_CFG_align, F.MT_CFG_en, F.MT_CFG_lanes, F.MT_CFG_len] },
    { off := 0x404, n := 16, st := 64, fields := [F.MT_POS_off] },
    { off := 0x408, n := 16, st := 64, fields := [F.MT_CNT_n] },
    { off := 0x40C, n := 16, st := 64, fields := [F.MT_EV_ev, F.MT_EV_en] },
    { off := 0x410, n := 16, st := 64, n2 := 4, st2 := 4, fields := [F.MT_VAL] },
    { off := 0x420, n := 16, st := 64, n2 := 4, st2 := 4, fields := [F.MT_MASK] },
    { off := 0x430, n := 16, st := 64, fields := [F.MT_HITS] }]

/-! Table 9.5, 9.4, 9.14, pages 0x5B,0x5F. -/
def F.TRG_CTRL_init : Field := { off := 0x040, lo := 0, w := 4 }
def F.TRG_CTRL_en : Field := { off := 0x040, lo := 4, w := 1 }
def F.TRG_STAT_state : Field := { off := 0x044, lo := 0, w := 4, acc := .ro }
def F.TRG_STAT_running : Field := { off := 0x044, lo := 4, w := 1, acc := .ro }
def F.TRG_ACNT_count : Field := { off := 0x048, lo := 0, w := 16, acc := .ro }
def F.TRG_ELAPSED : Field := { off := 0x04C, lo := 0, w := 32, acc := .ro }
def F.TRG_A_LO : Field := { off := 0x100, lo := 0, w := 32, st := 32 }
def F.TRG_A_HI : Field := { off := 0x104, lo := 0, w := 32, st := 32 }
def F.TRG_B_LO : Field := { off := 0x108, lo := 0, w := 32, st := 32 }
def F.TRG_B_HI : Field := { off := 0x10C, lo := 0, w := 32, st := 32 }
def F.TRG_COND_a_op : Field := { off := 0x110, lo := 0, w := 3, st := 32, rng := .u 0 4 }
def F.TRG_COND_a_next : Field := { off := 0x110, lo := 4, w := 4, st := 32 }
def F.TRG_COND_b_op : Field := { off := 0x110, lo := 8, w := 3, st := 32, rng := .u 0 4 }
def F.TRG_COND_b_next : Field := { off := 0x110, lo := 12, w := 4, st := 32 }
def F.TRG_COND_a_cnt : Field := { off := 0x110, lo := 16, w := 16, st := 32 }
def F.TRG_EV_a_ev : Field := { off := 0x114, lo := 0, w := 8, st := 32 }
def F.TRG_EV_b_ev : Field := { off := 0x114, lo := 8, w := 8, st := 32 }
def F.TRG_EV_ent_ev : Field := { off := 0x114, lo := 16, w := 8, st := 32 }
def F.TRG_EV_ent_en : Field := { off := 0x114, lo := 24, w := 1, st := 32 }
def F.TRG_ACT_trigger : Field := { off := 0x118, lo := 0, w := 1, st := 32 }
def F.TRG_ACT_store : Field := { off := 0x118, lo := 1, w := 2, st := 32, rng := .u 0 2 }
def F.TRG_ACT_stop : Field := { off := 0x118, lo := 3, w := 1, st := 32 }
def F.TRG_TIME : Field := { off := 0x11C, lo := 0, w := 32, st := 32 }

/-- The registers of pages 0x5B,0x5F (Table 9.5, 9.4, 9.14). -/
def mtTrgRegs : List Reg :=
  [{ off := 0x040, fields := [F.TRG_CTRL_init, F.TRG_CTRL_en] },
    { off := 0x044, fields := [F.TRG_STAT_state, F.TRG_STAT_running] },
    { off := 0x048, fields := [F.TRG_ACNT_count] },
    { off := 0x04C, fields := [F.TRG_ELAPSED] },
    { off := 0x100, n := 16, st := 32, fields := [F.TRG_A_LO] },
    { off := 0x104, n := 16, st := 32, fields := [F.TRG_A_HI] },
    { off := 0x108, n := 16, st := 32, fields := [F.TRG_B_LO] },
    { off := 0x10C, n := 16, st := 32, fields := [F.TRG_B_HI] },
    { off := 0x110, n := 16, st := 32, fields := [F.TRG_COND_a_op, F.TRG_COND_a_next, F.TRG_COND_b_op, F.TRG_COND_b_next, F.TRG_COND_a_cnt] },
    { off := 0x114, n := 16, st := 32, fields := [F.TRG_EV_a_ev, F.TRG_EV_b_ev, F.TRG_EV_ent_ev, F.TRG_EV_ent_en] },
    { off := 0x118, n := 16, st := 32, fields := [F.TRG_ACT_trigger, F.TRG_ACT_store, F.TRG_ACT_stop] },
    { off := 0x11C, n := 16, st := 32, fields := [F.TRG_TIME] }]
  ++ [{ off := 0x400, n := 16, st := 64, fields := [F.MT_CFG_kind, F.MT_CFG_neg, F.MT_CFG_align, F.MT_CFG_en, F.MT_CFG_lanes, F.MT_CFG_len] },
    { off := 0x404, n := 16, st := 64, fields := [F.MT_POS_off] },
    { off := 0x408, n := 16, st := 64, fields := [F.MT_CNT_n] },
    { off := 0x40C, n := 16, st := 64, fields := [F.MT_EV_ev, F.MT_EV_en] },
    { off := 0x410, n := 16, st := 64, n2 := 4, st2 := 4, fields := [F.MT_VAL] },
    { off := 0x420, n := 16, st := 64, n2 := 4, st2 := 4, fields := [F.MT_MASK] },
    { off := 0x430, n := 16, st := 64, fields := [F.MT_HITS] }]

/-! Table 10.8, pages 0x60. -/
def F.DM_CFG_pin_rate : Field := { off := 0x040, lo := 0, w := 2, rst := 0x1, rng := .u 0 2 }
def F.DM_CFG_hazard : Field := { off := 0x040, lo := 4, w := 1 }
def F.DM_STAT_rate : Field := { off := 0x044, lo := 0, w := 2, acc := .ro, rst := 0x1 }
def F.DM_STAT_changing : Field := { off := 0x044, lo := 4, w := 1, acc := .ro }
def F.DM_STAT_clearing : Field := { off := 0x044, lo := 5, w := 1, acc := .ro, rst := 0x1 }
def F.DM_STAT_latched : Field := { off := 0x044, lo := 6, w := 1, acc := .ro }
def F.DM_STAT_sr : Field := { off := 0x044, lo := 8, w := 4, acc := .ro }
def F.DM_STAT_migrating : Field := { off := 0x044, lo := 12, w := 4, acc := .ro }
def F.DM_STAT_training : Field := { off := 0x044, lo := 16, w := 4, acc := .ro }
def F.DM_CEIL_gbs : Field := { off := 0x048, lo := 0, w := 11, acc := .ro, rst := 0x4B0 }
def F.DM_CEIL_pc_gbs : Field := { off := 0x048, lo := 16, w := 8, acc := .ro, rst := 0x90 }
def F.DM_SR_idle_us : Field := { off := 0x04C, lo := 0, w := 10, rst := 0x14, rng := .u 1 1000 }
def F.DM_TRAIN_interval_ms : Field := { off := 0x050, lo := 0, w := 16, rst := 0x64, rng := .u 10 1000 }
def F.DM_TRAIN_dtemp : Field := { off := 0x050, lo := 16, w := 8, rst := 0x5, rng := .u 1 20 }
def F.DM_RD_thr : Field := { off := 0x054, lo := 0, w := 16, lk := true, rst := 0x1000, rng := .u 512 16384 }
def F.DM_SCRUB_hours : Field := { off := 0x058, lo := 0, w := 8, rst := 0x18, rng := .u 1 168 }
def F.DM_TILEQ_tile : Field := { off := 0x05C, lo := 0, w := 25, rng := .u 0 24379391 }
def F.DM_TILEA_state : Field := { off := 0x060, lo := 0, w := 2, acc := .ro }
def F.DM_TILEA_done : Field := { off := 0x060, lo := 31, w := 1, acc := .ro }
def F.DM_TILEA_TAG : Field := { off := 0x064, lo := 0, w := 32, acc := .ro }
def F.DM_TLOG_STAT_count : Field := { off := 0x068, lo := 0, w := 5, acc := .ro }
def F.DM_TLOG_STAT_lost : Field := { off := 0x068, lo := 16, w := 16, acc := .rc }
def F.DM_TLOG_POP_pop : Field := { off := 0x06C, lo := 0, w := 1, acc := .wo }
def F.DM_TLOG_TILE_tile : Field := { off := 0x070, lo := 0, w := 25, acc := .ro }
def F.DM_TLOG_INFO_cause : Field := { off := 0x074, lo := 0, w := 4, acc := .ro }
def F.DM_TLOG_INFO_master : Field := { off := 0x074, lo := 4, w := 3, acc := .ro }
def F.DM_TLOG_INFO_sq : Field := { off := 0x074, lo := 8, w := 5, acc := .ro }
def F.DM_TLOG_INFO_sq_valid : Field := { off := 0x074, lo := 13, w := 1, acc := .ro }
def F.DM_TLOG_INFO_stack : Field := { off := 0x074, lo := 16, w := 2, acc := .ro }
def F.DM_TLOG_INFO_lpc : Field := { off := 0x074, lo := 18, w := 5, acc := .ro }
def F.DM_TLOG_INFO_valid : Field := { off := 0x074, lo := 31, w := 1, acc := .ro }
def F.DM_TLOG_TS_LO : Field := { off := 0x078, lo := 0, w := 32, acc := .ro }
def F.DM_TLOG_TS_HI : Field := { off := 0x07C, lo := 0, w := 32, acc := .ro }

/-- The registers of pages 0x60 (Table 10.8). -/
def dmRegs : List Reg :=
  [{ off := 0x040, fields := [F.DM_CFG_pin_rate, F.DM_CFG_hazard] },
    { off := 0x044, fields := [F.DM_STAT_rate, F.DM_STAT_changing, F.DM_STAT_clearing, F.DM_STAT_latched, F.DM_STAT_sr, F.DM_STAT_migrating, F.DM_STAT_training] },
    { off := 0x048, fields := [F.DM_CEIL_gbs, F.DM_CEIL_pc_gbs] },
    { off := 0x04C, fields := [F.DM_SR_idle_us] },
    { off := 0x050, fields := [F.DM_TRAIN_interval_ms, F.DM_TRAIN_dtemp] },
    { off := 0x054, fields := [F.DM_RD_thr] },
    { off := 0x058, fields := [F.DM_SCRUB_hours] },
    { off := 0x05C, fields := [F.DM_TILEQ_tile] },
    { off := 0x060, fields := [F.DM_TILEA_state, F.DM_TILEA_done] },
    { off := 0x064, fields := [F.DM_TILEA_TAG] },
    { off := 0x068, fields := [F.DM_TLOG_STAT_count, F.DM_TLOG_STAT_lost] },
    { off := 0x06C, fields := [F.DM_TLOG_POP_pop] }]
  ++ [{ off := 0x070, fields := [F.DM_TLOG_TILE_tile] },
    { off := 0x074, fields := [F.DM_TLOG_INFO_cause, F.DM_TLOG_INFO_master, F.DM_TLOG_INFO_sq, F.DM_TLOG_INFO_sq_valid, F.DM_TLOG_INFO_stack, F.DM_TLOG_INFO_lpc, F.DM_TLOG_INFO_valid] },
    { off := 0x078, fields := [F.DM_TLOG_TS_LO] },
    { off := 0x07C, fields := [F.DM_TLOG_TS_HI] }]

/-! Table 10.9, pages 0x61-0x64. -/
def F.DMS_STAT_sr : Field := { off := 0x040, lo := 0, w := 1, acc := .ro }
def F.DMS_STAT_train : Field := { off := 0x040, lo := 1, w := 1, acc := .ro }
def F.DMS_STAT_migrating : Field := { off := 0x040, lo := 2, w := 1, acc := .ro }
def F.DMS_STAT_spare_free : Field := { off := 0x040, lo := 3, w := 1, acc := .ro }
def F.DMS_STAT_band : Field := { off := 0x040, lo := 4, w := 2, acc := .ro }
def F.DMS_STAT_temp : Field := { off := 0x040, lo := 8, w := 8, acc := .ro }
def F.DMS_RETIRED : Field := { off := 0x044, lo := 0, w := 32, acc := .ro }
def F.DMS_MAP_pc0 : Field := { off := 0x048, lo := 0, w := 5, st := 4, acc := .ro }
def F.DMS_MAP_pc1 : Field := { off := 0x048, lo := 8, w := 5, st := 4, acc := .ro }
def F.DMS_MAP_pc2 : Field := { off := 0x048, lo := 16, w := 5, st := 4, acc := .ro }
def F.DMS_MAP_pc3 : Field := { off := 0x048, lo := 24, w := 5, st := 4, acc := .ro }
def F.DMS_MAP7_spare : Field := { off := 0x064, lo := 24, w := 5, acc := .ro }
def F.DMS_MAP7_spare_valid : Field := { off := 0x064, lo := 31, w := 1, acc := .ro }
def F.DMS_MIG_lpc : Field := { off := 0x068, lo := 0, w := 5, acc := .ro }
def F.DMS_MIG_from : Field := { off := 0x068, lo := 8, w := 5, acc := .ro }
def F.DMS_MIG_to : Field := { off := 0x068, lo := 16, w := 5, acc := .ro }
def F.DMS_MIG_PTR_slots : Field := { off := 0x06C, lo := 0, w := 18, acc := .ro }
def F.DMS_CNT_corrected : Field := { off := 0x070, lo := 0, w := 16, acc := .rc }
def F.DMS_CNT_uncorr : Field := { off := 0x070, lo := 16, w := 16, acc := .rc }
def F.DMS_RD_CNT : Field := { off := 0x074, lo := 0, w := 32, acc := .rc }
def F.DMS_TRAIN_CNT_done : Field := { off := 0x078, lo := 0, w := 16, acc := .rc }
def F.DMS_TRAIN_CNT_discarded : Field := { off := 0x078, lo := 16, w := 16, acc := .rc }
def F.DMS_BW_gbs : Field := { off := 0x07C, lo := 0, w := 10, acc := .ro }

/-- The registers of pages 0x61-0x64 (Table 10.9). -/
def dmsRegs : List Reg :=
  [{ off := 0x040, fields := [F.DMS_STAT_sr, F.DMS_STAT_train, F.DMS_STAT_migrating, F.DMS_STAT_spare_free, F.DMS_STAT_band, F.DMS_STAT_temp] },
    { off := 0x044, fields := [F.DMS_RETIRED] },
    { off := 0x048, n := 8, st := 4, fields := [F.DMS_MAP_pc0, F.DMS_MAP_pc1, F.DMS_MAP_pc2, F.DMS_MAP_pc3] },
    { off := 0x064, fields := [F.DMS_MAP7_spare, F.DMS_MAP7_spare_valid] },
    { off := 0x068, fields := [F.DMS_MIG_lpc, F.DMS_MIG_from, F.DMS_MIG_to] },
    { off := 0x06C, fields := [F.DMS_MIG_PTR_slots] },
    { off := 0x070, fields := [F.DMS_CNT_corrected, F.DMS_CNT_uncorr] },
    { off := 0x074, fields := [F.DMS_RD_CNT] },
    { off := 0x078, fields := [F.DMS_TRAIN_CNT_done, F.DMS_TRAIN_CNT_discarded] },
    { off := 0x07C, fields := [F.DMS_BW_gbs] }]

/-! Table 11.4, 11.5, pages 0x70-0x77. -/
def F.SPC_CFG_rot_en : Field := { off := 0x040, lo := 0, w := 1, pv := true, t3 := true, rst := 0x1 }
def F.SPC_BUSY : Field := { off := 0x044, lo := 0, w := 32, acc := .rc }
def F.SPC_CONF_count : Field := { off := 0x060, lo := 0, w := 16, st := 4, acc := .rc }
def F.SPC_CONF_bank : Field := { off := 0x060, lo := 16, w := 6, st := 4, acc := .ro }
def F.SPC_CONF_port : Field := { off := 0x060, lo := 22, w := 1, st := 4, acc := .ro }
def F.SPC_CONF_kind : Field := { off := 0x060, lo := 23, w := 1, st := 4, acc := .ro }
def F.SPB_OWN_owner : Field := { off := 0x100, lo := 0, w := 6, st := 32, t3 := true }
def F.SPB_OWN_busy : Field := { off := 0x100, lo := 31, w := 1, st := 32, acc := .ro }
def F.SPB_PWR_mode : Field := { off := 0x104, lo := 0, w := 2, st := 32, rng := .u 0 2 }
def F.SPB_PWR_ret_us : Field := { off := 0x104, lo := 8, w := 8, st := 32, rst := 0x10, rng := .u 1 255 }
def F.SPB_PWR_state : Field := { off := 0x104, lo := 24, w := 2, st := 32, acc := .ro }
def F.SPB_STAT_tested_s : Field := { off := 0x108, lo := 0, w := 16, st := 32, acc := .ro, rst := 0xFFFF }
def F.SPB_STAT_row : Field := { off := 0x108, lo := 16, w := 8, st := 32, acc := .ro }
def F.SPB_ECC_corr : Field := { off := 0x10C, lo := 0, w := 16, st := 32, acc := .rc }
def F.SPB_ECC_uncorr : Field := { off := 0x10C, lo := 16, w := 16, st := 32, acc := .rc }
def F.SPB_REP_factory : Field := { off := 0x110, lo := 0, w := 5, st := 32, acc := .ro }
def F.SPB_REP_runtime : Field := { off := 0x110, lo := 8, w := 5, st := 32, acc := .ro }
def F.SPB_LASTERR_word : Field := { off := 0x114, lo := 0, w := 14, st := 32, acc := .ro }
def F.SPB_LASTERR_cause : Field := { off := 0x114, lo := 16, w := 2, st := 32, acc := .ro }

/-- The registers of pages 0x70-0x77 (Table 11.4, 11.5). -/
def spcRegs : List Reg :=
  [{ off := 0x040, fields := [F.SPC_CFG_rot_en] },
    { off := 0x044, fields := [F.SPC_BUSY] },
    { off := 0x060, n := 8, st := 4, fields := [F.SPC_CONF_count, F.SPC_CONF_bank, F.SPC_CONF_port, F.SPC_CONF_kind] },
    { off := 0x100, n := 8, st := 32, fields := [F.SPB_OWN_owner, F.SPB_OWN_busy] },
    { off := 0x104, n := 8, st := 32, fields := [F.SPB_PWR_mode, F.SPB_PWR_ret_us, F.SPB_PWR_state] },
    { off := 0x108, n := 8, st := 32, fields := [F.SPB_STAT_tested_s, F.SPB_STAT_row] },
    { off := 0x10C, n := 8, st := 32, fields := [F.SPB_ECC_corr, F.SPB_ECC_uncorr] },
    { off := 0x110, n := 8, st := 32, fields := [F.SPB_REP_factory, F.SPB_REP_runtime] },
    { off := 0x114, n := 8, st := 32, fields := [F.SPB_LASTERR_word, F.SPB_LASTERR_cause] }]

/-! Table 11.7, pages 0x78. -/
def F.Q_FLUSH_class : Field := { off := 0x040, lo := 0, w := 4, acc := .wo }
def F.Q_INFO_class : Field := { off := 0x100, lo := 0, w := 2, st := 64, acc := .ro }
def F.Q_INFO_nobank : Field := { off := 0x100, lo := 2, w := 1, st := 64, acc := .ro }
def F.Q_INFO_banks : Field := { off := 0x100, lo := 4, w := 4, st := 64, acc := .ro }
def F.Q_INFO_cap : Field := { off := 0x100, lo := 8, w := 18, st := 64, acc := .ro }
def F.Q_LEVEL_P_used : Field := { off := 0x104, lo := 0, w := 18, st := 64, acc := .ro }
def F.Q_LEVEL_C_avail : Field := { off := 0x108, lo := 0, w := 18, st := 64, acc := .ro }
def F.Q_WM_entries : Field := { off := 0x10C, lo := 0, w := 18, st := 64 }
def F.Q_WM_ev : Field := { off := 0x10C, lo := 18, w := 8, st := 64 }
def F.Q_WM_ev_en : Field := { off := 0x10C, lo := 26, w := 1, st := 64 }
def F.Q_CNT_under : Field := { off := 0x110, lo := 0, w := 16, st := 64, acc := .rc }
def F.Q_CNT_drop : Field := { off := 0x110, lo := 16, w := 16, st := 64, acc := .rc }
def F.Q_EVT_mismatch : Field := { off := 0x114, lo := 0, w := 8, st := 64, acc := .rc }
def F.Q_EVT_flush : Field := { off := 0x114, lo := 8, w := 8, st := 64, acc := .rc }
def F.Q_EVT_overflow : Field := { off := 0x114, lo := 16, w := 16, st := 64, acc := .rc }
def F.Q_RD_TAG_sop : Field := { off := 0x118, lo := 0, w := 1, st := 64, acc := .ro }
def F.Q_RD_TAG_eop : Field := { off := 0x118, lo := 1, w := 1, st := 64, acc := .ro }
def F.Q_RD_TAG_valid : Field := { off := 0x118, lo := 31, w := 1, st := 64, acc := .ro }
def F.Q_RD_LO : Field := { off := 0x11C, lo := 0, w := 32, st := 64, acc := .ro }
def F.Q_RD_HI : Field := { off := 0x120, lo := 0, w := 32, st := 64, acc := .ro }
def F.Q_WR_LO : Field := { off := 0x124, lo := 0, w := 32, st := 64 }
def F.Q_WR_HI : Field := { off := 0x128, lo := 0, w := 32, st := 64, acc := .wo }
def F.Q_DROP_drop : Field := { off := 0x12C, lo := 0, w := 1, st := 64, acc := .wo }

/-- The registers of pages 0x78 (Table 11.7). -/
def q0Regs : List Reg :=
  [{ off := 0x040, fields := [F.Q_FLUSH_class] },
    { off := 0x100, n := 2, st := 64, fields := [F.Q_INFO_class, F.Q_INFO_nobank, F.Q_INFO_banks, F.Q_INFO_cap] },
    { off := 0x104, n := 2, st := 64, fields := [F.Q_LEVEL_P_used] },
    { off := 0x108, n := 2, st := 64, fields := [F.Q_LEVEL_C_avail] },
    { off := 0x10C, n := 2, st := 64, fields := [F.Q_WM_entries, F.Q_WM_ev, F.Q_WM_ev_en] },
    { off := 0x110, n := 2, st := 64, fields := [F.Q_CNT_under, F.Q_CNT_drop] },
    { off := 0x114, n := 2, st := 64, fields := [F.Q_EVT_mismatch, F.Q_EVT_flush, F.Q_EVT_overflow] },
    { off := 0x118, n := 2, st := 64, fields := [F.Q_RD_TAG_sop, F.Q_RD_TAG_eop, F.Q_RD_TAG_valid] },
    { off := 0x11C, n := 2, st := 64, fields := [F.Q_RD_LO] },
    { off := 0x120, n := 2, st := 64, fields := [F.Q_RD_HI] },
    { off := 0x124, n := 2, st := 64, fields := [F.Q_WR_LO] },
    { off := 0x128, n := 2, st := 64, fields := [F.Q_WR_HI] }]
  ++ [{ off := 0x12C, n := 2, st := 64, fields := [F.Q_DROP_drop] }]

/-! Table 11.7, pages 0x79-0x7B. -/

/-- The registers of pages 0x79-0x7B (Table 11.7). -/
def q1Regs : List Reg :=
  [{ off := 0x100, n := 2, st := 64, fields := [F.Q_INFO_class, F.Q_INFO_nobank, F.Q_INFO_banks, F.Q_INFO_cap] },
    { off := 0x104, n := 2, st := 64, fields := [F.Q_LEVEL_P_used] },
    { off := 0x108, n := 2, st := 64, fields := [F.Q_LEVEL_C_avail] },
    { off := 0x10C, n := 2, st := 64, fields := [F.Q_WM_entries, F.Q_WM_ev, F.Q_WM_ev_en] },
    { off := 0x110, n := 2, st := 64, fields := [F.Q_CNT_under, F.Q_CNT_drop] },
    { off := 0x114, n := 2, st := 64, fields := [F.Q_EVT_mismatch, F.Q_EVT_flush, F.Q_EVT_overflow] },
    { off := 0x118, n := 2, st := 64, fields := [F.Q_RD_TAG_sop, F.Q_RD_TAG_eop, F.Q_RD_TAG_valid] },
    { off := 0x11C, n := 2, st := 64, fields := [F.Q_RD_LO] },
    { off := 0x120, n := 2, st := 64, fields := [F.Q_RD_HI] },
    { off := 0x124, n := 2, st := 64, fields := [F.Q_WR_LO] },
    { off := 0x128, n := 2, st := 64, fields := [F.Q_WR_HI] },
    { off := 0x12C, n := 2, st := 64, fields := [F.Q_DROP_drop] }]

end Sys2Proof.Machine
end

