-- ==== Sys2Proof/Machine/RegsD.lean ====
section
/-! DEFINITION. The fields and registers of the Midway, analog, cartridge, Safety Net, ring, calibration and test pages, as the register tables of spec/ list them
(offset, bits, access codes, reset value and stated range; the tables named at each block). -/
namespace Sys2Proof.Machine

/-! Table 12.5, pages 0x80. -/
def F.MW_FIRE_ch : Field := { off := 0x040, lo := 0, w := 8, acc := .wo }
def F.MW_STAT_blocked : Field := { off := 0x044, lo := 0, w := 16, acc := .rc }
def F.MW_STAT_log_lost : Field := { off := 0x044, lo := 16, w := 16, acc := .rc }
def F.MW_STAT2_trig_lost : Field := { off := 0x048, lo := 0, w := 16, acc := .rc }
def F.MW_STAT2_ring_merge : Field := { off := 0x048, lo := 16, w := 16, acc := .rc }
def F.MW_LOOPINFO_ch : Field := { off := 0x04C, lo := 0, w := 8, acc := .ro }
def F.MW_LOOPINFO_cell : Field := { off := 0x04C, lo := 8, w := 6, acc := .ro }
def F.MW_LOOPINFO_task : Field := { off := 0x04C, lo := 14, w := 1, acc := .ro }
def F.MW_TRIG_ev : Field := { off := 0x050, lo := 0, w := 8, st := 4 }
def F.MW_TRIG_edge : Field := { off := 0x050, lo := 8, w := 2, st := 4, rng := .u 0 2 }
def F.MW_TRIG_en : Field := { off := 0x050, lo := 10, w := 1, st := 4 }
def F.MW_TRIG_log : Field := { off := 0x050, lo := 11, w := 1, st := 4 }
def F.MW_TRIG_filt : Field := { off := 0x050, lo := 16, w := 8, st := 4 }
def F.MW_MARK_ev : Field := { off := 0x060, lo := 0, w := 8, st := 4 }
def F.MW_MARK_en : Field := { off := 0x060, lo := 8, w := 1, st := 4 }
def F.MW_MARK_width : Field := { off := 0x060, lo := 16, w := 8, st := 4, rst := 0x2, rng := .u 1 255 }
def F.MW_FIRE : Field := { off := 0x080, lo := 0, w := 32, st := 4, acc := .wo }
def F.MW_LOG : Field := { off := 0x0A0, lo := 0, w := 32, st := 4 }
def F.MW_REXP : Field := { off := 0x0C0, lo := 0, w := 32, st := 4 }
def F.MW_RIMP : Field := { off := 0x0E0, lo := 0, w := 32, st := 4 }

/-- The registers of pages 0x80 (Table 12.5). -/
def mwRegs : List Reg :=
  [{ off := 0x040, fields := [F.MW_FIRE_ch] },
    { off := 0x044, fields := [F.MW_STAT_blocked, F.MW_STAT_log_lost] },
    { off := 0x048, fields := [F.MW_STAT2_trig_lost, F.MW_STAT2_ring_merge] },
    { off := 0x04C, fields := [F.MW_LOOPINFO_ch, F.MW_LOOPINFO_cell, F.MW_LOOPINFO_task] },
    { off := 0x050, n := 4, st := 4, fields := [F.MW_TRIG_ev, F.MW_TRIG_edge, F.MW_TRIG_en, F.MW_TRIG_log, F.MW_TRIG_filt] },
    { off := 0x060, n := 8, st := 4, fields := [F.MW_MARK_ev, F.MW_MARK_en, F.MW_MARK_width] },
    { off := 0x080, n := 8, st := 4, fields := [F.MW_FIRE] },
    { off := 0x0A0, n := 8, st := 4, fields := [F.MW_LOG] },
    { off := 0x0C0, n := 8, st := 4, fields := [F.MW_REXP] },
    { off := 0x0E0, n := 8, st := 4, fields := [F.MW_RIMP] }]

/-! Table 12.6, pages 0x81. -/
def F.MW_LOCK : Field := { off := 0x040, lo := 0, w := 32, st := 4, pv := true, t3 := true, ck := true }
def F.MW_LOCK7_lo : Field := { off := 0x05C, lo := 0, w := 16, pv := true, t3 := true, ck := true }
def F.MW_LOCK7_hi : Field := { off := 0x05C, lo := 16, w := 16, acc := .ro, rst := 0xFFFF }

/-- The registers of pages 0x81 (Table 12.6). -/
def mwLockRegs : List Reg :=
  [{ off := 0x040, n := 7, st := 4, fields := [F.MW_LOCK] },
    { off := 0x05C, fields := [F.MW_LOCK7_lo, F.MW_LOCK7_hi] }]

/-! Table 12.7, pages 0x82-0x85. -/
def F.LUT_IN_a : Field := { off := 0x100, lo := 0, w := 8, st := 32 }
def F.LUT_IN_b : Field := { off := 0x100, lo := 8, w := 8, st := 32 }
def F.LUT_IN_c : Field := { off := 0x100, lo := 16, w := 8, st := 32 }
def F.LUT_IN_a_en : Field := { off := 0x100, lo := 24, w := 1, st := 32 }
def F.LUT_IN_b_en : Field := { off := 0x100, lo := 25, w := 1, st := 32 }
def F.LUT_IN_c_en : Field := { off := 0x100, lo := 26, w := 1, st := 32 }
def F.LUT_TT_out : Field := { off := 0x104, lo := 0, w := 16, st := 32 }
def F.LUT_TT_next : Field := { off := 0x104, lo := 16, w := 16, st := 32 }
def F.LUT_CFG_out_ev : Field := { off := 0x108, lo := 0, w := 8, st := 32 }
def F.LUT_CFG_out_en : Field := { off := 0x108, lo := 8, w := 1, st := 32 }
def F.LUT_CFG_filt : Field := { off := 0x108, lo := 9, w := 2, st := 32 }
def F.LUT_CFG_init_q : Field := { off := 0x108, lo := 11, w := 1, st := 32 }
def F.LUT_CFG_hold : Field := { off := 0x108, lo := 16, w := 16, st := 32, rst := 0x1, rng := .u 1 65535 }
def F.LUT_STAT_q : Field := { off := 0x10C, lo := 0, w := 1, st := 32, acc := .ro }
def F.LUT_STAT_pend : Field := { off := 0x10C, lo := 1, w := 1, st := 32, acc := .ro }
def F.LUT_STAT_supp : Field := { off := 0x10C, lo := 16, w := 16, st := 32, acc := .rc }
def F.LUT_CNT : Field := { off := 0x110, lo := 0, w := 32, st := 32, acc := .rc }

/-- The registers of pages 0x82-0x85 (Table 12.7). -/
def lutRegs : List Reg :=
  [{ off := 0x100, n := 16, st := 32, fields := [F.LUT_IN_a, F.LUT_IN_b, F.LUT_IN_c, F.LUT_IN_a_en, F.LUT_IN_b_en, F.LUT_IN_c_en] },
    { off := 0x104, n := 16, st := 32, fields := [F.LUT_TT_out, F.LUT_TT_next] },
    { off := 0x108, n := 16, st := 32, fields := [F.LUT_CFG_out_ev, F.LUT_CFG_out_en, F.LUT_CFG_filt, F.LUT_CFG_init_q, F.LUT_CFG_hold] },
    { off := 0x10C, n := 16, st := 32, fields := [F.LUT_STAT_q, F.LUT_STAT_pend, F.LUT_STAT_supp] },
    { off := 0x110, n := 16, st := 32, fields := [F.LUT_CNT] }]

/-! Table 12.8, pages 0x86. -/
def F.MW_COINC : Field := { off := 0x040, lo := 0, w := 32, st := 4, acc := .rc }
def F.MW_LOOP : Field := { off := 0x060, lo := 0, w := 32, st := 4, acc := .rc }
def F.MW_CNT : Field := { off := 0x400, lo := 0, w := 32, st := 4, acc := .rc }

/-- The registers of pages 0x86 (Table 12.8). -/
def mwStatRegs : List Reg :=
  [{ off := 0x040, n := 8, st := 4, fields := [F.MW_COINC] },
    { off := 0x060, n := 8, st := 4, fields := [F.MW_LOOP] },
    { off := 0x400, n := 256, st := 4, fields := [F.MW_CNT] }]

/-! Table 13.8, pages 0x88-0x8B. -/
def F.AWG_CFG_src : Field := { off := 0x040, lo := 0, w := 2, rng := .u 0 2 }
def F.AWG_CFG_filt : Field := { off := 0x040, lo := 2, w := 1 }
def F.AWG_CFG_pins : Field := { off := 0x040, lo := 4, w := 1, rst := 0x1 }
def F.AWG_CFG_inj : Field := { off := 0x040, lo := 5, w := 1 }
def F.AWG_CFG_inj_pt : Field := { off := 0x040, lo := 8, w := 4 }
def F.AWG_GAIN_gain : Field := { off := 0x044, lo := 0, w := 16, rst := 0x8000, rng := .u 0 32768 }
def F.AWG_OFFSET_off : Field := { off := 0x048, lo := 0, w := 16 }
def F.AWG_DELAY_steps : Field := { off := 0x04C, lo := 0, w := 12 }
def F.AWG_STAT_active : Field := { off := 0x050, lo := 0, w := 1, acc := .ro }
def F.AWG_STAT_inj_closed : Field := { off := 0x050, lo := 1, w := 1, acc := .ro }
def F.AWG_STAT_inj_open : Field := { off := 0x050, lo := 2, w := 1, acc := .ro }
def F.AWG_STAT_clk_fault : Field := { off := 0x050, lo := 3, w := 1, acc := .ro }
def F.AWG_CLIP : Field := { off := 0x054, lo := 0, w := 32, acc := .rc }
def F.AWG_LAT_ps : Field := { off := 0x058, lo := 0, w := 16, acc := .ro }
def F.CAL_FTW_LO : Field := { off := 0x060, lo := 0, w := 32 }
def F.CAL_FTW_HI_ftw : Field := { off := 0x064, lo := 0, w := 16 }
def F.CAL_AMP_amp : Field := { off := 0x068, lo := 0, w := 15 }
def F.CAL_AMP_phase : Field := { off := 0x068, lo := 16, w := 16 }
def F.CAL_SYNC_ev : Field := { off := 0x06C, lo := 0, w := 8 }
def F.CAL_SYNC_en : Field := { off := 0x06C, lo := 8, w := 1 }
def F.CAL_SYNC_now : Field := { off := 0x06C, lo := 9, w := 1, acc := .wo }

/-- The registers of pages 0x88-0x8B (Table 13.8). -/
def awgRegs : List Reg :=
  [{ off := 0x040, fields := [F.AWG_CFG_src, F.AWG_CFG_filt, F.AWG_CFG_pins, F.AWG_CFG_inj, F.AWG_CFG_inj_pt] },
    { off := 0x044, fields := [F.AWG_GAIN_gain] },
    { off := 0x048, fields := [F.AWG_OFFSET_off] },
    { off := 0x04C, fields := [F.AWG_DELAY_steps] },
    { off := 0x050, fields := [F.AWG_STAT_active, F.AWG_STAT_inj_closed, F.AWG_STAT_inj_open, F.AWG_STAT_clk_fault] },
    { off := 0x054, fields := [F.AWG_CLIP] },
    { off := 0x058, fields := [F.AWG_LAT_ps] },
    { off := 0x060, fields := [F.CAL_FTW_LO] },
    { off := 0x064, fields := [F.CAL_FTW_HI_ftw] },
    { off := 0x068, fields := [F.CAL_AMP_amp, F.CAL_AMP_phase] },
    { off := 0x06C, fields := [F.CAL_SYNC_ev, F.CAL_SYNC_en, F.CAL_SYNC_now] }]

/-! Table 13.9, pages 0x8C. -/
def F.SD_CLK_div : Field := { off := 0x040, lo := 0, w := 16, rst := 0x32, rng := .u 25 50000 }
def F.SD_EV_fault_ev : Field := { off := 0x044, lo := 0, w := 8 }
def F.SD_EV_fault_en : Field := { off := 0x044, lo := 8, w := 1 }
def F.SD_CLR_mask : Field := { off := 0x048, lo := 0, w := 8, acc := .wo }
def F.SD_GSTAT_hv_ok : Field := { off := 0x04C, lo := 0, w := 1, acc := .ro }
def F.SD_CTRL_range : Field := { off := 0x100, lo := 0, w := 3, st := 16, rng := .u 0 4 }
def F.SD_CTRL_src : Field := { off := 0x100, lo := 4, w := 1, st := 16 }
def F.SD_CTRL_rb_en : Field := { off := 0x100, lo := 5, w := 1, st := 16 }
def F.SD_CODE_code : Field := { off := 0x104, lo := 0, w := 16, st := 16 }
def F.SD_STAT_out : Field := { off := 0x108, lo := 0, w := 16, st := 16, acc := .ro }
def F.SD_STAT_fault : Field := { off := 0x108, lo := 16, w := 3, st := 16, acc := .ro }
def F.SD_STAT_clamp : Field := { off := 0x108, lo := 19, w := 1, st := 16, acc := .ro }

/-- The registers of pages 0x8C (Table 13.9). -/
def sdRegs : List Reg :=
  [{ off := 0x040, fields := [F.SD_CLK_div] },
    { off := 0x044, fields := [F.SD_EV_fault_ev, F.SD_EV_fault_en] },
    { off := 0x048, fields := [F.SD_CLR_mask] },
    { off := 0x04C, fields := [F.SD_GSTAT_hv_ok] },
    { off := 0x100, n := 8, st := 16, fields := [F.SD_CTRL_range, F.SD_CTRL_src, F.SD_CTRL_rb_en] },
    { off := 0x104, n := 8, st := 16, fields := [F.SD_CODE_code] },
    { off := 0x108, n := 8, st := 16, fields := [F.SD_STAT_out, F.SD_STAT_fault, F.SD_STAT_clamp] }]

/-! Table 13.10, pages 0x8D. -/
def F.MON_CTRL_en : Field := { off := 0x040, lo := 0, w := 1, rst := 0x1 }
def F.MON_SEQ : Field := { off := 0x044, lo := 0, w := 32, rst := 0xFFFFFFFF }
def F.MON_LOGEN : Field := { off := 0x048, lo := 0, w := 32 }
def F.MON_RB_tol : Field := { off := 0x04C, lo := 0, w := 8, rst := 0x10, rng := .u 1 255 }
def F.MON_RB_settle_us : Field := { off := 0x04C, lo := 8, w := 8, rst := 0xA, rng := .u 1 255 }
def F.MON_RB_count : Field := { off := 0x04C, lo := 16, w := 4, rst := 0x3, rng := .u 1 15 }
def F.MON_EV_win_ev : Field := { off := 0x050, lo := 0, w := 8 }
def F.MON_EV_win_en : Field := { off := 0x050, lo := 8, w := 1 }
def F.MON_WSTAT : Field := { off := 0x054, lo := 0, w := 32, acc := .rc }
def F.MON_WIN_lo : Field := { off := 0x100, lo := 0, w := 12, st := 4 }
def F.MON_WIN_hi : Field := { off := 0x100, lo := 16, w := 12, st := 4, rst := 0xFFF }
def F.MON_WIN_en : Field := { off := 0x100, lo := 31, w := 1, st := 4 }
def F.MON_LAST_code : Field := { off := 0x200, lo := 0, w := 12, st := 4, acc := .ro }
def F.MON_LAST_valid : Field := { off := 0x200, lo := 31, w := 1, st := 4, acc := .ro }

/-- The registers of pages 0x8D (Table 13.10). -/
def monRegs : List Reg :=
  [{ off := 0x040, fields := [F.MON_CTRL_en] },
    { off := 0x044, fields := [F.MON_SEQ] },
    { off := 0x048, fields := [F.MON_LOGEN] },
    { off := 0x04C, fields := [F.MON_RB_tol, F.MON_RB_settle_us, F.MON_RB_count] },
    { off := 0x050, fields := [F.MON_EV_win_ev, F.MON_EV_win_en] },
    { off := 0x054, fields := [F.MON_WSTAT] },
    { off := 0x100, n := 32, st := 4, fields := [F.MON_WIN_lo, F.MON_WIN_hi, F.MON_WIN_en] },
    { off := 0x200, n := 32, st := 4, fields := [F.MON_LAST_code, F.MON_LAST_valid] }]

/-! Table 16.8, pages 0x90. -/
def F.CART_STAT_present : Field := { off := 0x040, lo := 0, w := 1, acc := .ro }
def F.CART_STAT_vstate : Field := { off := 0x040, lo := 1, w := 3, acc := .ro }
def F.CART_STAT_life : Field := { off := 0x040, lo := 4, w := 2, acc := .ro }
def F.CART_STAT_cause : Field := { off := 0x040, lo := 8, w := 4, acc := .ro }
def F.CART_STAT_proto : Field := { off := 0x040, lo := 16, w := 8, acc := .ro }
def F.CART_SER_LO : Field := { off := 0x044, lo := 0, w := 32, acc := .ro }
def F.CART_SER_HI : Field := { off := 0x048, lo := 0, w := 32, acc := .ro }
def F.CART_MATINGS : Field := { off := 0x04C, lo := 0, w := 32, acc := .ro }
def F.CART_CYC_LO : Field := { off := 0x050, lo := 0, w := 32, acc := .ro }
def F.CART_CYC_HI : Field := { off := 0x054, lo := 0, w := 32, acc := .ro }
def F.CART_LIFE_permille : Field := { off := 0x058, lo := 0, w := 11, acc := .ro }
def F.CART_CHAL_go : Field := { off := 0x05C, lo := 0, w := 1, acc := .wo }
def F.CART_OVR_en : Field := { off := 0x100, lo := 0, w := 1, ky := true }

/-- The registers of pages 0x90 (Table 16.8). -/
def cartRegs : List Reg :=
  [{ off := 0x040, fields := [F.CART_STAT_present, F.CART_STAT_vstate, F.CART_STAT_life, F.CART_STAT_cause, F.CART_STAT_proto] },
    { off := 0x044, fields := [F.CART_SER_LO] },
    { off := 0x048, fields := [F.CART_SER_HI] },
    { off := 0x04C, fields := [F.CART_MATINGS] },
    { off := 0x050, fields := [F.CART_CYC_LO] },
    { off := 0x054, fields := [F.CART_CYC_HI] },
    { off := 0x058, fields := [F.CART_LIFE_permille] },
    { off := 0x05C, fields := [F.CART_CHAL_go] },
    { off := 0x100, fields := [F.CART_OVR_en] }]

/-! Table 16.8, pages 0x91. -/
def F.CART_RATED_MAT : Field := { off := 0x040, lo := 0, w := 32, acc := .ro }
def F.CART_RATED_CYC_LO : Field := { off := 0x044, lo := 0, w := 32, acc := .ro }
def F.CART_RATED_CYC_HI : Field := { off := 0x048, lo := 0, w := 32, acc := .ro }
def F.CART_CPL_db : Field := { off := 0x050, lo := 0, w := 16, st := 4, acc := .ro }

/-- The registers of pages 0x91 (Table 16.8). -/
def cartBRegs : List Reg :=
  [{ off := 0x040, fields := [F.CART_RATED_MAT] },
    { off := 0x044, fields := [F.CART_RATED_CYC_LO] },
    { off := 0x048, fields := [F.CART_RATED_CYC_HI] },
    { off := 0x050, n := 16, st := 4, fields := [F.CART_CPL_db] }]

/-! Table 16.8, pages 0x92. -/
def F.SN_CMD_module : Field := { off := 0x040, lo := 0, w := 16, acc := .ro }
def F.SN_POS_module : Field := { off := 0x044, lo := 0, w := 16, acc := .ro }
def F.SN_FAULT_paths : Field := { off := 0x048, lo := 0, w := 16, acc := .rc }
def F.SN_INJ_closed : Field := { off := 0x04C, lo := 0, w := 16, acc := .ro }

/-- The registers of pages 0x92 (Table 16.8). -/
def snRegs : List Reg :=
  [{ off := 0x040, fields := [F.SN_CMD_module] },
    { off := 0x044, fields := [F.SN_POS_module] },
    { off := 0x048, fields := [F.SN_FAULT_paths] },
    { off := 0x04C, fields := [F.SN_INJ_closed] }]

/-! Table 16.9, pages 0x94. -/
def F.RING_CFG_en : Field := { off := 0x040, lo := 0, w := 1 }
def F.RING_CFG_master : Field := { off := 0x040, lo := 1, w := 1 }
def F.RING_CFG_node : Field := { off := 0x040, lo := 4, w := 4 }
def F.RING_IN_DELAY_ps : Field := { off := 0x044, lo := 0, w := 20, rng := .u 0 1000000 }
def F.RING_STAT_lock : Field := { off := 0x048, lo := 0, w := 1, acc := .ro }
def F.RING_STAT_timed : Field := { off := 0x048, lo := 1, w := 1, acc := .ro }
def F.RING_STAT_loop : Field := { off := 0x048, lo := 2, w := 1, acc := .ro }
def F.RING_STAT_dup : Field := { off := 0x048, lo := 3, w := 1, acc := .ro }
def F.RING_STAT_multi : Field := { off := 0x048, lo := 4, w := 1, acc := .ro }
def F.RING_STAT_nomaster : Field := { off := 0x048, lo := 5, w := 1, acc := .ro }
def F.RING_STAT_ver : Field := { off := 0x048, lo := 8, w := 4, acc := .ro }
def F.RING_STAT_nodes : Field := { off := 0x048, lo := 16, w := 5, acc := .ro }
def F.RING_STAT_load : Field := { off := 0x048, lo := 24, w := 8, acc := .ro }
def F.RING_SKEW : Field := { off := 0x04C, lo := 0, w := 32, acc := .ro }
def F.RING_TSTEP : Field := { off := 0x050, lo := 0, w := 32, acc := .ro }
def F.RING_CNT_crc : Field := { off := 0x054, lo := 0, w := 16, acc := .rc }
def F.RING_CNT_noslot : Field := { off := 0x054, lo := 16, w := 16, acc := .rc }
def F.RING_WAKE_send : Field := { off := 0x058, lo := 0, w := 1, acc := .wo }

/-- The registers of pages 0x94 (Table 16.9). -/
def ringRegs : List Reg :=
  [{ off := 0x040, fields := [F.RING_CFG_en, F.RING_CFG_master, F.RING_CFG_node] },
    { off := 0x044, fields := [F.RING_IN_DELAY_ps] },
    { off := 0x048, fields := [F.RING_STAT_lock, F.RING_STAT_timed, F.RING_STAT_loop, F.RING_STAT_dup, F.RING_STAT_multi, F.RING_STAT_nomaster, F.RING_STAT_ver, F.RING_STAT_nodes, F.RING_STAT_load] },
    { off := 0x04C, fields := [F.RING_SKEW] },
    { off := 0x050, fields := [F.RING_TSTEP] },
    { off := 0x054, fields := [F.RING_CNT_crc, F.RING_CNT_noslot] },
    { off := 0x058, fields := [F.RING_WAKE_send] }]

/-! Table 15.10, pages 0x98. -/
def F.CAL_STAT_origin : Field := { off := 0x040, lo := 0, w := 1, acc := .ro }
def F.CAL_STAT_staged : Field := { off := 0x040, lo := 1, w := 1, acc := .ro }
def F.CAL_STAT_reload : Field := { off := 0x040, lo := 2, w := 1, acc := .ro }
def F.CAL_STAT_commits : Field := { off := 0x040, lo := 16, w := 14, acc := .ro }
def F.CAL_ADDR_idx : Field := { off := 0x044, lo := 0, w := 11, rng := .u 0 1039 }
def F.CAL_DATA : Field := { off := 0x048, lo := 0, w := 32, acc := .ro }

/-- The registers of pages 0x98 (Table 15.10). -/
def calRegs : List Reg :=
  [{ off := 0x040, fields := [F.CAL_STAT_origin, F.CAL_STAT_staged, F.CAL_STAT_reload, F.CAL_STAT_commits] },
    { off := 0x044, fields := [F.CAL_ADDR_idx] },
    { off := 0x048, fields := [F.CAL_DATA] }]

/-! Table 2.10, pages 0xF0. -/
def F.TST_POST_logic : Field := { off := 0x040, lo := 0, w := 1, acc := .ro, rst := 0x1 }
def F.TST_POST_sram : Field := { off := 0x040, lo := 1, w := 1, acc := .ro, rst := 0x1 }
def F.TST_POST_fuse : Field := { off := 0x040, lo := 2, w := 1, acc := .ro, rst := 0x1 }
def F.TST_POST_d2d : Field := { off := 0x040, lo := 3, w := 1, acc := .ro, rst := 0x1 }
def F.TST_IDCODE : Field := { off := 0x044, lo := 0, w := 32, acc := .ro }
def F.TST_FACTORY_active : Field := { off := 0x048, lo := 0, w := 1, acc := .ro }

/-- The registers of pages 0xF0 (Table 2.10). -/
def test0Regs : List Reg :=
  [{ off := 0x040, fields := [F.TST_POST_logic, F.TST_POST_sram, F.TST_POST_fuse, F.TST_POST_d2d] },
    { off := 0x044, fields := [F.TST_IDCODE] },
    { off := 0x048, fields := [F.TST_FACTORY_active] }]

end Sys2Proof.Machine
end

