-- ==== Sys2Proof/Machine/RegMap.lean ====
section
/-! DEFINITION. The map of BAR0 (spec/01 Table 1.7, spec/02 Tables 2.1 and 2.2, R16, R21, R23, R37, R484): which block a
page holds, the fields of the register at an offset, and the word a register holds after power-up and RESET_N. -/
namespace Sys2Proof.Machine

/-- The kinds of page: one per register table of the spec. -/
inductive Blk where
  | glb | rst | sb | acts | aon | therm | prot | turn | thaw | fpep | mbox | sec | secMeas | secBare | hl | dma | msix
  | refclk | syn | ws | lg | txl | rxl | sq | ce | ceLane | mt | mtTrg | dm | dms | spc | q0 | q1 | mw | mwLock | lut
  | mwStat | mwBare | awg | sd | mon | cart | cartB | sn | ring | cal | test0 | testN
  deriving DecidableEq, Repr

/-- The block on a page; none on an unallocated page (R16). -/
def blkOf (p : Nat) : Option Blk :=
  if p < 0x20 then
    match p with
    | 0x00 => some .glb | 0x01 => some .rst | 0x02 => some .sb | 0x03 => some .acts | 0x04 => some .aon
    | 0x05 => some .therm | 0x08 => some .prot | 0x09 => some .turn | 0x0A => some .thaw | 0x0B => some .fpep
    | 0x0C | 0x0D | 0x0E | 0x0F => some .mbox
    | 0x10 => some .sec | 0x11 => some .secMeas | 0x12 | 0x13 => some .secBare
    | 0x14 => some .hl | 0x15 | 0x16 => some .dma | 0x17 => some .msix
    | 0x18 => some .refclk | 0x19 => some .syn | 0x1A => some .ws | 0x1B | 0x1C | 0x1D | 0x1E => some .lg
    | _ => none
  else if p < 0x30 then some .txl
  else if p < 0x40 then some .rxl
  else if p < 0x54 then some .sq
  else if p < 0x58 then (if p % 2 = 0 then some .ce else some .ceLane)
  else if p < 0x60 then (if p % 4 = 3 then some .mtTrg else some .mt)
  else if p = 0x60 then some .dm
  else if p < 0x65 then some .dms
  else if p < 0x70 then none
  else if p < 0x78 then some .spc
  else if p = 0x78 then some .q0
  else if p < 0x7C then some .q1
  else if p < 0x80 then none
  else if p < 0x88 then
    match p with
    | 0x80 => some .mw | 0x81 => some .mwLock | 0x86 => some .mwStat | 0x87 => some .mwBare | _ => some .lut
  else if p < 0x8C then some .awg
  else if p < 0x99 then
    match p with
    | 0x8C => some .sd | 0x8D => some .mon | 0x90 => some .cart | 0x91 => some .cartB | 0x92 => some .sn
    | 0x94 => some .ring | 0x98 => some .cal | _ => none
  else if p < 0xF0 then none
  else if p = 0xF0 then some .test0
  else if p < 0x100 then some .testN
  else none

/-- The registers of a block after the common header. All fields of page 0x19 are RO (Table 6.9). -/
def Blk.regs (b : Blk) : List Reg :=
  match b with
  | .glb => glbRegs | .rst => rstRegs | .sb => sbRegs | .acts => actsRegs | .aon => aonRegs | .therm => thermRegs
  | .prot => protRegs | .turn => turnRegs | .thaw => thawRegs | .fpep => fpepRegs | .mbox => mboxRegs
  | .sec => secRegs | .secMeas => secMeasRegs | .secBare => [] | .hl => hlRegs | .dma => dmaRegs | .msix => msixRegs
  | .refclk => refclkRegs
  | .syn => synCoreRegs.map fun r => { r with fields := r.fields.map fun f => { f with acc := .ro } }
  | .ws => wsRegs | .lg => lgRegs | .txl => txlRegs | .rxl => rxlRegs | .sq => sqRegs | .ce => ceRegs
  | .ceLane => ceLaneRegs | .mt => mtRegs | .mtTrg => mtTrgRegs | .dm => dmRegs | .dms => dmsRegs | .spc => spcRegs
  | .q0 => q0Regs | .q1 => q1Regs | .mw => mwRegs | .mwLock => mwLockRegs | .lut => lutRegs | .mwStat => mwStatRegs
  | .mwBare => [] | .awg => awgRegs | .sd => sdRegs | .mon => monRegs | .cart => cartRegs | .cartB => cartBRegs
  | .sn => snRegs | .ring => ringRegs | .cal => calRegs | .test0 => test0Regs | .testN => []

/-- The type code of Table 2.2 and the first page of the type's range (R23). -/
def typeOf (p : Nat) : Nat × Nat :=
  if p < 0x10 then
    match p with
    | 0x00 => (0x01, 0) | 0x01 => (0x02, 1) | 0x02 | 0x03 => (0x03, 2) | 0x04 => (0x04, 4) | 0x05 => (0x05, 5)
    | 0x08 | 0x09 => (0x06, 8) | 0x0A => (0x07, 0x0A) | 0x0B => (0x08, 0x0B) | _ => (0x09, 0x0C)
  else if p < 0x14 then (0x0A, 0x10)
  else if p < 0x18 then (0x0B, 0x14)
  else if p < 0x20 then (0x0C, 0x18)
  else if p < 0x30 then (0x0D, 0x20)
  else if p < 0x40 then (0x0E, 0x30)
  else if p < 0x54 then (0x0F, 0x40)
  else if p < 0x58 then (0x10, 0x54)
  else if p < 0x60 then (0x11, 0x58)
  else if p = 0x60 then (0x12, 0x60)
  else if p < 0x70 then (0x13, 0x61)
  else if p < 0x78 then (0x14, 0x70)
  else if p < 0x80 then (0x15, 0x78)
  else if p < 0x88 then (0x16, 0x80)
  else if p < 0x8C then (0x17, 0x88)
  else if p = 0x8C then (0x18, 0x8C)
  else if p = 0x8D then (0x19, 0x8D)
  else if p < 0x92 then (0x1A, 0x90)
  else if p = 0x92 then (0x1B, 0x92)
  else if p = 0x94 then (0x1C, 0x94)
  else if p = 0x98 then (0x1D, 0x98)
  else (0x1E, 0xF0)

/-- PAGE_CAPS.basic: the pages with a basic level (each block chapter). Assumption 21 covers pages 0x00, 0x08, 0x0A. -/
def hasBasic (p : Nat) : Bool :=
  (decide (0x1A ≤ p) && decide (p ≤ 0x1E)) || (decide (0x20 ≤ p) && decide (p < 0x40)) || decide (p = 0x90)

/-- PAGE_CAPS.priv: the pages that hold CK fields (R484). -/
def isPriv (p : Nat) : Bool := decide (p = 0x08) || (decide (0x0C ≤ p) && decide (p ≤ 0x0F)) || decide (p = 0x81)

/-- PAGE_CAPS.lockable: the pages that hold LK fields (R484). -/
def isLockable (p : Nat) : Bool :=
  decide (p = 0x02) || decide (p = 0x05) || (decide (0x0C ≤ p) && decide (p ≤ 0x0F)) ||
    (decide (0x20 ≤ p) && decide (p ≤ 0x2F)) || decide (p = 0x60)

/-- PAGE_CAPS.keyed: page 0x90 (R484). -/
def isKeyed (p : Nat) : Bool := decide (p = 0x90)

/-- PAGE_CAPS.owned: page 0x0B and pages 0x18 to 0x94 (R484). -/
def isOwned (p : Nat) : Bool := decide (p = 0x0B) || (decide (0x18 ≤ p) && decide (p ≤ 0x94))

/-- PAGE_ID of an allocated page of this revision, A1 (R23, Table 2.3). -/
def pageId (p : Nat) : Word :=
  BitVec.ofNat 32 ((typeOf p).1 + (p - (typeOf p).2) * 0x100 + 0x1_0000 + 0x1100_0000)

/-- PAGE_CAPS of an allocated page (R484); PAGE_CAPS.block reads 0 on every page. -/
def pageCaps (p : Nat) : Word :=
  BitVec.ofNat 32 ((hasBasic p).toNat + (isPriv p).toNat * 2 + (isLockable p).toNat * 4 + (isKeyed p).toNat * 8 +
    (isOwned p).toNat * 16 + 32)

/-- The fields of the common header at an offset below 0x040 (Table 2.3). -/
def hdrFields (off : Nat) : Option (List Field) := (hdrRegs.find? fun r => r.hit off).map Reg.fields

/-- The fields of the register at a word offset of a page, without strides; none for an offset that no table lists. -/
def fieldsAt (p off : Nat) : Option (List Field) :=
  match blkOf p with
  | none => none
  | some b =>
    if off < 0x040 then hdrFields off
    else (b.regs.find? fun r => r.hit off).map Reg.fields

/-- The owner code of a scratchpad bank after power-up (R308, Table 11.6). -/
def bankHome (b : Nat) : Nat :=
  if b < 52 then 0 else if b < 54 then 0x22 else if b < 56 then 0x23 else if b < 60 then 0x20 else 0x21

/-- The class code of a queue (Table 11.3). -/
def queueClass (q : Nat) : Nat := q / 2

/-- Q_INFO of queue `q` that owns `banks` banks (Tables 11.3 and 11.7). -/
def queueInfo (q banks : Nat) : Word :=
  if q < 4 then
    BitVec.ofNat 32 (queueClass q + (if banks = 0 then 4 else 0) + banks * 16 + banks * 16384 * 256)
  else
    BitVec.ofNat 32 (queueClass q + (if q = 5 then 4096 else if q = 6 then 256 else 1024) * 256)

/-- MB_BIND of a channel (Table 14.4). -/
def bindOf (ch : Nat) : Word :=
  if ch < 8 then 0x0190 else if ch < 12 then 0x0181 else if ch < 16 then 0x0081 else if ch < 24 then 0x01A0
  else if ch < 32 then 0x0082 else if ch < 40 then 0x01A1 else if ch < 48 then 0x0192 else 0

/-- SYN_INT of a synthesizer block (Table 6.9). -/
def synIntReset (p off : Nat) : Word :=
  if p = 0x19 then (if off < 0x140 then 0x0064 else 0x2_0060) else if p = 0x1A then 0x00A0 else 0x2_00C8

/-- The words of a calibration set's body for the lane or channel of a page: 16 for an RX lane, 32 for a wideband channel (Table
15.6). -/
def calSection (body : List Word) (p : Nat) : List Word :=
  if p < 0x40 then (body.drop (384 + 16 * (p - 0x30))).take 16 else (body.drop (672 + 32 * (p - 0x88))).take 32

/-- The value that a set's body gives a register marked `cal`. -/
def calValue (body : List Word) (p off : Nat) : Word := Config.calField (calSection body p) off

/-- The body of the factory's set. -/
def factoryBody : List Word := (List.range 1024).map fun i => Config.factoryCal (16 + i)

/-- The reset words that differ from instance to instance, or come from a fuse or a calibration set. -/
def specialReset (p off : Nat) : Option Word :=
  if off = 0 then some (pageId p)
  else if off = 4 then some (pageCaps p)
  else
    match blkOf p with
    | some .glb =>
      if off = 0x48 then some (Config.serial.setWidth 32)
      else if off = 0x4C then some ((Config.serial >>> 32).setWidth 32) else none
    | some .sec => if off = 0x40 then some 0x10 else none
    | some .mbox => if 0x40 ≤ off ∧ off < 0x80 then some (bindOf ((p - 0x0C) * 16 + (off - 0x40) / 4)) else none
    | some .syn | some .ws | some .lg =>
      if 0x100 ≤ off ∧ off < 0x1C0 ∧ off % 0x20 = 0 then some (synIntReset p off) else none
    | some .rxl =>
      if off = 0x110 ∨ off = 0x424 then some (calValue factoryBody p off &&& 0x3F3F) else none
    | some .spc =>
      if 0x100 ≤ off ∧ off % 0x20 = 0 then some (BitVec.ofNat 32 (bankHome ((p - 0x70) * 8 + (off - 0x100) / 0x20)))
      else none
    | some .q0 | some .q1 =>
      if off = 0x100 ∨ off = 0x140 then
        (let q := (p - 0x78) * 2 + (off - 0x100) / 0x40
         some (queueInfo q (if q < 2 then 4 else if q < 4 then 2 else 0)))
      else none
    | some .dms =>
      if off = 0x40 then some 8
      else if 0x48 ≤ off ∧ off < 0x68 then
        (let k := (off - 0x48) / 4
         some (BitVec.ofNat 32 (4 * k * 0x01010101 + 0x03020100 + (if k = 7 then 0x80000000 else 0))))
      else none
    | some .awg => if off = 0x58 then some (calValue factoryBody p off &&& 0xFFFF) else none
    | some .test0 => if off = 0x44 then some (Config.idcode ++ 1#1) else none
    | _ => none

/-- The reset word that a list of fields gives. -/
def fieldsReset (fs : List Field) : Word := fs.foldl (fun w f => f.put w f.rst) 0

/-- The word at a register address after power-up and RESET_N; 0 where no register is. An address is the page number times
0x1_0000 plus the offset. -/
def resetWord (a : Nat) : Word :=
  match fieldsAt (a / 65536) (a % 65536) with
  | none => 0
  | some fs => (specialReset (a / 65536) (a % 65536)).getD (fieldsReset fs)

/-- The pages of the block that a page belongs to, for a block reset (R37). -/
def blockPages (p : Nat) : List Nat :=
  if p = 0x02 ∨ p = 0x03 then [0x02, 0x03]
  else if p = 0x08 ∨ p = 0x09 then [0x08, 0x09]
  else if 0x0C ≤ p ∧ p ≤ 0x0F then [0x0C, 0x0D, 0x0E, 0x0F]
  else if 0x10 ≤ p ∧ p ≤ 0x13 then [0x10, 0x11, 0x12, 0x13]
  else if 0x14 ≤ p ∧ p ≤ 0x17 then [0x14, 0x15, 0x16, 0x17]
  else if p = 0x18 ∨ p = 0x19 then [0x18, 0x19]
  else if 0x54 ≤ p ∧ p ≤ 0x57 then [p / 2 * 2, p / 2 * 2 + 1]
  else if 0x58 ≤ p ∧ p ≤ 0x5F then [p / 4 * 4, p / 4 * 4 + 1, p / 4 * 4 + 2, p / 4 * 4 + 3]
  else if 0x60 ≤ p ∧ p ≤ 0x64 then [0x60, 0x61, 0x62, 0x63, 0x64]
  else if 0x78 ≤ p ∧ p ≤ 0x7B then [0x78, 0x79, 0x7A, 0x7B]
  else if 0x80 ≤ p ∧ p ≤ 0x87 then [0x80, 0x81, 0x82, 0x83, 0x84, 0x85, 0x86, 0x87]
  else if p = 0x90 ∨ p = 0x91 then [0x90, 0x91]
  else [p]

/-- The PAGE_STAT bit that reports a write outside a stated range, where the block's chapter defines one (R485). -/
def rangeBit (p : Nat) : Option Nat :=
  match blkOf p with
  | some .sb | some .therm | some .txl | some .rxl | some .mt | some .mtTrg | some .dm | some .awg | some .sd
  | some .mon => some 16
  | some .lut => some 17
  | some .fpep | some .hl | some .ws | some .lg => some 19
  | some .refclk | some .ring => some 20
  | some .ce | some .spc => some 21
  | some .mw => some 22
  | some .dma => some 24
  | _ => none

end Sys2Proof.Machine
end

