-- ==== Sys2Proof/Machine/Tab.lean ====
section
/-! DEFINITION. Sparse data by key: a list of key and value pairs in one canonical form (keys strictly rising, no entry
equal to what an unlisted key reads as). Registers, memories and the tables of per-instance state all use it. -/
namespace Sys2Proof.Machine

/-- Sparse data keyed by a natural number. -/
abbrev Tab (α : Type) := List (Nat × α)

/-- The value at key `k`; an unlisted key reads as `d k`. -/
def tabGet {α : Type} (d : Nat → α) (t : Tab α) (k : Nat) : α :=
  match t with
  | [] => d k
  | (j, v) :: r => if j = k then v else tabGet d r k

/-- The table with no entry for `k`, keys rising. -/
def tabErase {α : Type} (t : Tab α) (k : Nat) : Tab α :=
  match t with
  | [] => []
  | (j, v) :: r => if j = k then tabErase r k else (j, v) :: tabErase r k

/-- The table with value `v` listed at `k`, keys rising. -/
def tabInsert {α : Type} (t : Tab α) (k : Nat) (v : α) : Tab α :=
  match t with
  | [] => [(k, v)]
  | (j, w) :: r =>
    if k < j then (k, v) :: (j, w) :: r
    else if j = k then (k, v) :: r
    else (j, w) :: tabInsert r k v

/-- Writing `v` at `k`; writing what an unlisted key reads as removes the entry. -/
def tabSet {α : Type} [DecidableEq α] (d : Nat → α) (t : Tab α) (k : Nat) (v : α) : Tab α :=
  if v = d k then tabErase t k else tabInsert t k v

/-- Keys rise strictly, from above `lo`. -/
def tabRising {α : Type} (lo : Option Nat) (t : Tab α) : Bool :=
  match t with
  | [] => true
  | (j, _) :: r => (match lo with | none => true | some l => decide (l < j)) && tabRising (some j) r

/-- No entry equals what its key reads as when unlisted. -/
def tabLean {α : Type} [DecidableEq α] (d : Nat → α) (t : Tab α) : Bool :=
  match t with
  | [] => true
  | (j, v) :: r => decide (v ≠ d j) && tabLean d r

/-- The canonical form. -/
def tabWf {α : Type} [DecidableEq α] (d : Nat → α) (t : Tab α) : Bool :=
  tabRising none t && tabLean d t

/-- The entries of a byte memory at `k` onward. -/
def bytesGet (d : Byte) (t : Tab Byte) (k n : Nat) : Bytes :=
  (List.range n).map fun i => tabGet (fun _ => d) t (k + i)

/-- Bytes written at `k` onward. -/
def bytesSet (d : Byte) (t : Tab Byte) (k : Nat) (bs : Bytes) : Tab Byte :=
  match bs with
  | [] => t
  | b :: r => bytesSet d (tabSet (fun _ => d) t k b) (k + 1) r

/-- Bytes written under enables: a `none` leaves its byte unchanged. -/
def bytesSetEn (d : Byte) (t : Tab Byte) (k : Nat) (bs : List (Option Byte)) : Tab Byte :=
  match bs with
  | [] => t
  | none :: r => bytesSetEn d t (k + 1) r
  | some b :: r => bytesSetEn d (tabSet (fun _ => d) t k b) (k + 1) r

/-- The entries of a byte memory outside `[lo, hi)`; inside reads as unlisted. -/
def bytesClear (t : Tab Byte) (lo hi : Nat) : Tab Byte :=
  t.filter fun e => e.1 < lo || hi ≤ e.1

end Sys2Proof.Machine
end

