-- ==== Sys2Proof/Machine/State.lean ====
section
/-! DEFINITION. The state of the block: the queue of waiting commands, the device (its register file, and what the
registers do not show), and its two addressed memories. `State.reset` is the machine right after reset, before it is
ready. -/
namespace Sys2Proof.Machine

/-- Why a step stops with a fault: the spec gives the block none, so no command raises one. -/
inductive Fault where
  deriving DecidableEq, Repr

/-- Why a step has no meaning. -/
inductive Refusal where
  /-- Raised by an arm whose command has no meaning in the model. Safe: nothing is claimed of the command. -/
  | notModelled (mnemonic : String)
  deriving DecidableEq, Repr

/-! ## Protection (chapter 2) -/

/-- One violation, as the log and the THAW_LAST registers show it (Table 2.7). -/
structure VEntry where
  info : Word
  addr : Word
  data : Word
  ts : Stamp
  deriving DecidableEq, Repr

/-- A 32-bit access of BAR0. -/
structure BusReq where
  m : Master
  write : Bool
  addr : Nat
  be : BitVec 4
  data : Word
  deriving DecidableEq, Repr

/-- A request at the deep memory controller: one of a tile; a read or (with bytes under enables) a write through BAR4, at the byte of
tile space that HL_AP_BASE gave it when it was made (R379); or a query of a tile (R305). -/
inductive Ask where
  | tile (r : DmReq)
  | aperture (m : Master) (addr len : Nat) (w : Option (List (Option Byte)))
  | query (tile : Nat)
  deriving DecidableEq, Repr

/-- A request of a frozen master that stalls in place (Table 2.4): at the register fabric, at a scratchpad bank, at the deep memory
controller. -/
inductive Held where
  | bus (r : BusReq)
  | pad (bank : Nat) (a : SpAccess)
  | ask (a : Ask)
  deriving DecidableEq, Repr

/-- Who issued a request; a query is the host class's (Table 10.2). -/
def Ask.master (a : Ask) : Master := match a with | .tile r => r.m | .aperture m _ _ _ => m | .query _ => .host
def Ask.isQuery (a : Ask) : Bool := match a with | .query _ => true | _ => false
def Held.master (h : Held) : Master := match h with | .bus r => r.m | .pad _ a => a.m | .ask a => a.master

/-- A request of the fallback transport (R395), with what ends a tile request early. -/
inductive FbReq where
  | read (tag : BitVec 16) (space len addr : Nat)
  | write (tag : BitVec 16) (space addr : Nat) (bs : Bytes)
  | other (op : Nat) (tag : BitVec 16)
  | tile (op dir : Nat) (tag : BitVec 16) (len addr : Nat) (bs : Bytes) (why : DmaEnd)
  deriving DecidableEq, Repr

/-- What one 32-bit read of BAR0 answered its master (R31, R62). -/
structure Answer where
  m : Master
  data : Word
  deriving DecidableEq, Repr

/-- The protection machinery behind pages 0x08 and 0x0A. `lastDiff` holds, per page, the value of the previous differing
recompute while a mismatch is open (R53). -/
structure Prot where
  vlog : List VEntry
  thawLast : Tab (Option VEntry)
  thawCount : Tab Nat
  thawPend : Tab Bool
  lastDiff : Tab (Option Word)
  stalled : List Held
  deriving DecidableEq, Repr

def Prot.init : Prot := ⟨[], [], [], [], [], []⟩

/-! ## Output of the device, for the world outside it -/

/-- What the device sends: interrupt messages, writes into host memory, ring frames, replies, pulses and samples. -/
inductive Message where
  | msix (v : Nat) (addr : BitVec 64) (data : Word)
  | usbIrq (v : Nat)
  | hostWrite (addr : BitVec 64) (data : Bytes)
  /-- A pulse on MARK_OUT: the pin, the time of its rising edge and its width in 0.5 ns. -/
  | markPulse (pin : Nat) (at_ : Stamp) (width : Nat)
  /-- The driver output of a TX lane (R203), symbol by symbol: the common mode code and the level in units of 1.25 mV / 2^18; and the
  injected jitter of the interpolator updates among them (R212 to R214) in 10^-9 of 1/1024 UI. -/
  | lane (tx : Nat) (ys : List (Nat × Int)) (jitter : List Int)
  /-- The codes of wideband channel k after step 4 of Table 13.1, one per sample, sample 0 first (R141), with whether step 5's
  sinc compensation applies to them, the fine delay of step 6, and whether the pins are connected (R353, R356). -/
  | awg (k : Nat) (codes : List Int) (sinc : Bool) (delay : Nat) (pins : Bool)
  /-- A frame on RING_OUT. -/
  | ring (f : Frame)
  /-- A response of the fallback transport (Table 14.3): op, status, tag, bytes, fails, first and read data. -/
  | reply (op status : Nat) (tag : BitVec 16) (bytes fails first : Nat) (data : Bytes)
  deriving DecidableEq, Repr

/-! ## Midway (chapter 12) -/

/-- A delivery of an event to a task input: what the subscribing block has yet to take. -/
inductive Task where
  | latch (sq k : Nat)
  | watch (sq slot : Nat)
  | actStart (slot : Nat)
  | errInject (lane : Nat)
  | rxSwitch (lane : Nat)
  | trg (ce : Nat) (ch : BitVec 8)
  | calSync (k : Nat)
  deriving DecidableEq, Repr

/-- What a LUT cell's filter holds besides its registers (R338): the count of the last raising F of HOLDOFF, the hop count
of a pending DELAY raise, and how many F = 1 COUNT has seen. -/
structure Cell where
  heldFrom : Option (BitVec 48)
  delayHops : Nat
  seen : Nat
  deriving DecidableEq, Repr

def Cell.init : Cell := ⟨none, 0, 0⟩

/-- Midway: raises not yet on their channels, deliveries not yet taken, the cells' filters, the events
waiting for the next ring event frame, per task input of a slower domain the cycle of that domain in which its latest pulse
came (R18), the filtered levels of the TRIG_IN pins (R340), and the ns that Midway cycles commanded one by one have brought to the
timebase but not yet to the lanes. -/
structure Midway where
  wire : List Raise
  inbox : List Task
  cells : Tab Cell
  export_ : List (BitVec 8 × Nat)
  pulses : List (Task × Nat)
  pins : BitVec 4
  owed : Nat
  deriving DecidableEq, Repr

def Midway.init : Midway := ⟨[], [], [], [], [], 0, 0⟩

/-! ## Ringmaster (chapters 4 and 5) -/

/-- A frame of the loop stack: iterations left counting the current one (0 endless), the entry after the LOOP, the
channels that raised an event since the iteration's first entry executed, and whether that entry is still to execute. -/
structure LoopFrame where
  left : Word
  start : Nat
  seen : BitVec 256
  fresh : Bool
  deriving DecidableEq, Repr

/-- An armed watch (Table 4.7). -/
structure Watch where
  at_ : Nat
  keep : Bool
  cond : Nat
  target : Nat
  sdepth : Nat
  deriving DecidableEq, Repr

/-- A WAIT in progress: its entry, whether its event has arrived, and the lane words of waiting so far. -/
structure WaitRec where
  entry : BitVec 128
  arrived : Bool
  sent : Nat
  deriving DecidableEq, Repr

/-- A pending mark (Table 4.9): `left` symbols leave before the marked one, once a SEG play follows the MARK; `out` says that
the word holding it is committed. -/
structure MarkRec where
  pinEn : Bool
  pin : Nat
  evEn : Bool
  ev : Nat
  stamp : Bool
  width : Nat
  offset : Nat
  left : Option Nat
  out : Bool
  deriving DecidableEq, Repr

/-- A run of lane words (Table 4.4). -/
structure Seg where
  tile : Nat
  word : Nat
  len : Nat
  reps : Nat
  deriving DecidableEq, Repr

/-- A SEG play in progress: its next word is word `word` of repetition `rep`, both counted from 0. `again` says that it is the
repeat of a WAIT with fill 1, which goes on until the WAIT ends. -/
structure Play where
  seg : Seg
  word : Nat
  rep : Nat
  again : Bool
  deriving DecidableEq, Repr

/-- The state of a tile (R134). -/
inductive TileState where
  | unwritten | valid | bad
  deriving DecidableEq, Repr

/-- A tile's state and tag (R134). -/
structure TileInfo where
  st : TileState
  tag : Word
  deriving DecidableEq, Repr

def TileInfo.init : TileInfo := ⟨.unwritten, 0⟩

/-- A tile in a sequencer's hot store or streaming buffer: its index, how many bytes from its start on can be played (none
where it failed its check, all 4096 otherwise; R318 fails it from a word on), and the contents it held when it was fetched
(R150). -/
structure HeldTile where
  tile : Nat
  good : Nat
  data : Bytes
  deriving DecidableEq, Repr

/-- An open splice bracket: INSERT or REPLACE, the condition it waits for, whether that is met, whether the splice has
started. -/
structure Bracket where
  insert : Bool
  cond : Option Nat
  met : Bool
  started : Bool
  deriving DecidableEq, Repr

/-- A preparation in progress: the cause of its failure and the entry that shows it, if the spec names one, if it fails; the hot tiles still to fetch, and the number
of distinct entry segments. -/
structure Prep where
  err : Option (Nat × Option Nat)
  todo : List Nat
  targets : Nat
  deriving DecidableEq, Repr

/-- What a sequencer holds besides its registers and its program: the play in progress and the last one that began, the stream
bits since the first symbol of the latest play (R105), whether its HALT keeps the fill pattern on the lane, the progress of time
towards its next lane word in symbols per 10^9 (negative where words have left ahead of it), the hot store, the streaming buffer in the order of fetching, the tiles requested for it
and those whose fetch a jump has made useless (R146). `prepared`: its hot targets are resident. -/
structure Sq where
  pc : Nat
  frames : List LoopFrame
  watches : List (Nat × Watch)
  landing : Option (Nat × Watch)
  wait : Option WaitRec
  marks : List MarkRec
  haltReq : Bool
  lastSeg : Option Seg
  play : Option Play
  bits : Nat
  haltFill : Bool
  clock : Int
  controls : Nat
  absRate : Option Nat
  hold : Bool
  bracket : Option Bracket
  prep : Option Prep
  hot : List HeldTile
  stream : List HeldTile
  wanted : List Nat
  dropped : List Nat
  prepared : Bool
  deriving DecidableEq, Repr

def Sq.init : Sq :=
  { pc := 0, frames := [], watches := [], landing := none, wait := none, marks := [], haltReq := false, lastSeg := none,
    play := none, bits := 0, haltFill := false, clock := 0, controls := 0, absRate := none, hold := false, bracket := none,
    prep := none, hot := [], stream := [], wanted := [], dropped := [], prepared := false }

/-! ## Synthesizers (chapter 6) -/

/-- What a synthesizer's loop is doing. -/
inductive SynJob where
  | idle | search | smallStep
  deriving DecidableEq, Repr

/-- Feedback integer, output divider exponent c and 32-bit fraction (R165). -/
structure Tune where
  n : Nat
  c : Nat
  frac : Nat
  deriving DecidableEq, Repr

/-- What a synthesizer holds besides its registers: whether its loop is powered, what it is doing, the tuning it runs at or
is moving to (none: that of the reset values), the tuning last applied at expert level (R196), the band that is forced
(R198), whether it returns to its page's rate once it has locked (R195, R196), and the phase steps taken since power-up in
1/1024 VCO period (R181). -/
structure Syn where
  on : Bool
  job : SynJob
  tune : Option Tune
  applied : Option Tune
  band : Option Nat
  restore : Bool
  steps : Int
  deriving DecidableEq, Repr

def Syn.init : Syn := ⟨false, .idle, none, none, none, false, 0⟩

/-- The hundredths of a femtosecond by which a realignment is ahead of REF_BUILDOUT (R175), and the reference outputs' phase
steps. -/
structure RefLoop where
  slewFrac : Nat
  refoutSteps : Tab Int
  deriving DecidableEq, Repr

def RefLoop.init : RefLoop := ⟨0, []⟩

/-! ## Transmit lanes (chapter 7) -/

/-- A pending handoff: the target synthesizer, the new rate in Bd and format, the SEG plays that still start
before the switch, and whether the switch point came before the target was ready. -/
structure Handoff where
  syn : Nat
  rate : Nat
  pam : Bool
  plays : Nat
  late : Bool
  deriving DecidableEq, Repr

/-- An injection that is pending for a block not yet sent, with the settings in force when it was triggered (R220). -/
structure Shot where
  typ : Nat
  mode : Nat
  rand : Bool
  mask : Nat
  off : Nat
  len : Nat
  deriving DecidableEq, Repr

/-- A symbol in the driver: its level in 1/512, and what the driver held when it entered (R205): the FFE's weights, the amplitude
code, whether the outputs are swapped, and the common mode code. -/
structure Sym where
  level : Int
  taps : List Int
  amp : Nat
  swap : Bool
  cm : Nat
  deriving DecidableEq, Repr

/-- What a TX lane holds besides its registers: the rate in effect in Bd, a pending handoff, a pending injection,
the sum of its phase steps, the offset that a ramp runs to (R186), the phase steps still to take and the progress towards the
next in 1/4,000,000,000 (R188), whether it is lost for the act (R446), whether it idles for the whole act (R184),
and whether it is quiet for the act where a switch found no free synthesizer (R233). Then the way out of electrical idle (R211):
the time still to go in ns, and whether the act's start has yet to begin it. Then the error injector's block count (R217, R219): stream
bits into the present block, whole blocks since mode 2 was written, the stream bits that an injection inverts in the present
block and in the next, and the injections of modes 2 and 3 not yet recorded (R221). Then the driver (R203): the latest symbols, newest
first, and the bit of a forwarded PAM4 symbol whose other bit is still to come, with whether it is a level index's (R234). Last
the jitter generators (R212 to R214): symbols since the latest 4 UI update, the sine's phase in 10^-15 turn, the number of
the next noise value, and the injected phase in 10^-9 of 1/1024 UI. -/
structure Tx where
  rate : Nat
  handoff : Option Handoff
  shot : Option Shot
  moves : Int
  target : Option Int
  phaseLeft : Int
  phaseFrac : Nat
  lost : Bool
  dead : Bool
  quiet : Bool
  exit : Option Nat
  owed : Bool
  pos : Nat
  blocks : Nat
  hit : List Nat
  next : List Nat
  due : Nat
  hist : List Sym
  half : Option (Bool × Bool)
  ui : Nat
  sine : Nat
  noise : Nat
  shift : Int
  deriving DecidableEq, Repr

def Tx.init : Tx :=
  { rate := 10000000000, handoff := none, shot := none, moves := 0, target := none, phaseLeft := 0, phaseFrac := 0,
    lost := false, dead := false, quiet := false, exit := none, owed := false, pos := 0, blocks := 0, hit := [], next := [],
    due := 0, hist := [], half := none, ui := 0, sine := 0, noise := 0, shift := 0 }

/-! ## Receive lanes (chapter 8) -/

/-- What an RX lane holds besides its registers: the rate in Bd and the format in effect (R230), whether a burst gathers data, a
change latched behind it and whether that is a profile switch (R230, R232), whether an equaliser write waits for the burst's end
(R250), whether a switch has yet to arrive, the PAM4 thresholds in use (R226), the equaliser values and thresholds stored per
profile, the state that a return from QUIET restores, the aligner's count in VERIFY, the stream bits by which failed checks have
moved its offset (R235), and the validity of the latest blocks while ALIGNED (newest first), the descramblers (R236). Then the
forwarder: the blocks held, as bits of the line code, the blocks still to come whose positions spliced blocks have taken, by how many
blocks a REPLACE's spliced blocks lead those that have come (R245), whether forwarding ends once the held blocks have left (R241), whether
the present splice was cut (R248), whether a splice has taken place since forwarding began
(R247), the bits of the spliced block in progress, the blocks that a slip has yet to drop (R239), and for the repair of R247 the
descrambler's and the scrambler's histories of 64b/66b payload, the output's running disparity in 8b/10b (true: positive) and
the LFSR at the output in 128b/130b. -/
structure Rx where
  rate : Nat
  pam : Bool
  burst : Bool
  latched : Bool
  toggle : Bool
  eqWait : Bool
  switching : Bool
  thr : List (BitVec 10)
  stored0 : Option (List (BitVec 10))
  stored1 : Option (List (BitVec 10))
  back : Nat
  good : Nat
  off : Nat
  recent : List Bool
  hist : BitVec 58
  key : BitVec 23
  held : List (List Bool)
  owed : Nat
  lead : Int
  ending : Bool
  cut : Bool
  spliced : Bool
  part : List Bool
  drop : Nat
  fin : BitVec 58
  fout : BitVec 58
  disp : Bool
  okey : BitVec 23
  deriving DecidableEq, Repr

def Rx.init : Rx :=
  { rate := 10000000000, pam := false, burst := false, latched := false, toggle := false, eqWait := false, switching := false,
    thr := [], stored0 := none, stored1 := none, back := 1, good := 0, off := 0, recent := [], hist := 0, key := 0, held := [],
    owed := 0, lead := 0, ending := false, cut := false, spliced := false, part := [], drop := 0, fin := 0, fout := 0, disp := false, okey := 0 }

/-! ## Power states and Showbill (chapter 3) -/

/-- A power-state transition in progress. `own` says that the device itself caused it (R486). -/
inductive Trans where
  | none
  | toStandby (own dormant : Bool)
  | toDormant
  | toArmed
  | waking
  deriving DecidableEq, Repr

/-- What power control and Showbill hold besides their registers: the transition in progress, a wake held during DORMANT
entry (R76), the slots whose paths were moved before their start (R436), whether the present spell of model excess has been
reported (R88), the supplies outside their windows, whether the thermal trip caused DORMANT (R92), and the banks and
synthesizers whose housekeeping is overdue (R89). -/
structure Bill where
  trans : Trans
  wakeHeld : BitVec 8
  pathWait : Nat
  exceeding : Bool
  supplyOut : Nat
  tripped : Bool
  lateBanks : Nat
  lateSynths : Nat
  deriving DecidableEq, Repr

def Bill.init : Bill := ⟨.none, 0, 0, false, 0, false, 0, 0⟩

/-! ## Safety Net and cartridge (chapter 16) -/

/-- What the Safety Net and the SE hold besides their registers: the paths whose commanded move is not yet confirmed, the
step of a check cycle (R437: 1 toward module, 2 back), whether a failed challenge waits for its repeat, and whether CART_CHAL.go
has asked for one that is not answered yet (R444). -/
structure Net where
  moving : Nat
  check : Nat
  retry : Bool
  asked : Bool
  deriving DecidableEq, Repr

def Net.init : Net := ⟨0, 0, false, false⟩

/-! ## Deep memory (chapter 10) -/

/-- An entry of the tile error log (R304): the tile, the DM_TLOG_INFO word and the time. -/
structure TLogEntry where
  tile : Nat
  info : Word
  ts : Stamp
  deriving DecidableEq, Repr

/-- A retraining in progress (R298): its group, the bursts so far and the time of the latest. -/
structure Training where
  group : Nat
  bursts : Nat
  at_ : BitVec 48
  deriving DecidableEq, Repr

/-- What a stack holds besides its registers: the logical pseudo-channel whose retirement runs, or has yet to start (R302),
whether an error has met its used spare; by physical pseudo-channel times 48 plus bank, the row-disturbance tables (R290) as (row,
count) lists, and the open row with the time of its last hit (R287); the time of the last request (R291), the retraining in
progress and, per group, the time and the temperature of the last one (R298). -/
structure Stack where
  retire : Option Nat
  exhausted : Bool
  rows : Tab (List (Nat × Nat))
  opened : Tab (Option (Nat × BitVec 48))
  last : BitVec 48
  train : Option Training
  trained : Tab (BitVec 48 × BitVec 8)
  deriving DecidableEq, Repr

def Stack.init : Stack := ⟨none, false, [], [], 0, none, []⟩

/-- What the controller holds: the tile error log, oldest first, and the tiles that have a detection in the present cycle with
whether it has an entry (R304); a query whose answer is not yet shown; the pin rate of a change that is latched or runs, and the
requests that wait for its end (R295); the stacks; the bits of the array that differ from what was written, by byte address (R280);
scrub's next tile, the start of its pass, and the tile and 32-byte units that it has yet to write back (R303). -/
structure DeepMem where
  tlog : List TLogEntry
  logged : List (Nat × Bool)
  query : Option TileInfo
  rate : Nat
  waiting : List Ask
  stackTab : Tab Stack
  flips : Tab Byte
  scrubAt : Nat
  scrubFrom : BitVec 48
  back : Option (Nat × List Nat)
  deriving DecidableEq, Repr

def DeepMem.init : DeepMem := ⟨[], [], none, 1, [], [], [], 0, 0, none⟩

/-! ## Queues and scratchpad (chapter 11) -/

/-- One queue entry: its start and end marks and its 512 bits (64 for Q4 to Q7). -/
structure QEntry where
  sop : Bool
  eop : Bool
  data : BitVec 512
  deriving DecidableEq, Repr

/-- A queue: its committed entries, oldest first, and its read pointer. A packet is written and committed or rewound in one
command, so the tentative write pointer stands at the committed one, behind the entries (R324). -/
structure Queue where
  ready : List QEntry
  rd : Nat
  deriving DecidableEq, Repr

def Queue.init : Queue := ⟨[], 0⟩

/-- What a scratchpad bank holds besides its registers and its bytes: the rotation of its rows (R322), whether the fill that
runs is a handover's (R310), its words while a queue owns it (R323), whether PDMA has placed tiles in it for its sequencer
(R307), and the rows that the present save-test-restore has done (R319). -/
structure Bank where
  rot : Tab (BitVec 6)
  handover : Bool
  words : Tab (BitVec 512)
  placed : Bool
  rows : BitVec 256
  deriving DecidableEq, Repr

def Bank.init : Bank := ⟨[], false, [], false, 0⟩

/-! ## Capture (chapter 9) -/

/-- A block of the capture stream: its bits, the times of its first and last symbols, whether it holds a code error, carries
the replaced mark (R268), is the trigger block (R262), and header word 1 and the post bit as they were when it arrived. -/
structure CapBlk where
  bits : List Bool
  tsFirst : Stamp
  tsLast : Stamp
  err : Bool
  rep : Bool
  trig : Bool
  post : Bool
  w1 : Nat
  deriving DecidableEq, Repr

/-- An open idle run: its first block, the pattern that names it, the blocks in it and its last symbol (R266). -/
structure IdleRun where
  first : CapBlk
  pat : Nat
  n : Nat
  tsLast : Stamp
  deriving DecidableEq, Repr

/-- The losses of a lane that no GAP record covers yet (R276). -/
structure GapRec where
  tsFirst : Stamp
  tsLast : Stamp
  n : Nat
  deriving DecidableEq, Repr

/-- Which block of a lane is the trigger block that is still to come (R262): none, the next one, or the one that holds a symbol. -/
inductive TrigNext where
  | none
  | next
  | holds (ts : Stamp)
  deriving DecidableEq, Repr

/-- What the store path and the matchers hold of one lane: the open DATA record (newest block first), idle blocks too few yet
for a run (newest first), the open idle run, an open gap, which block to come is the trigger block, the latest stream
bits and how many stream bits there were since alignment. -/
structure LaneCap where
  data : List CapBlk
  cand : List CapBlk
  idle : Option IdleRun
  gap : Option GapRec
  trigNext : TrigNext
  tail : List Bool
  pos : Nat
  deriving DecidableEq, Repr

def LaneCap.init : LaneCap := ⟨[], [], none, none, .none, [], 0⟩

/-- A TRIGGER record that waits for the DATA record of its trigger block: the lane that block is on, header lane, time and
aux word. -/
structure TrigPend where
  on_ : Nat
  lane : Nat
  ts : Stamp
  aux : Nat
  deriving DecidableEq, Repr

/-- What a capture engine holds besides its registers: the store gate, whether its act holds it (R274), when the act
started, the matchers' counts (R256) and those disabled for the act (R254), the ALL history, whether TIMER was true since
entry (R259), a waiting TRIGGER record, whether a trigger block has come (R262), blocks lost in the act, tiles still to fill after the present one (R273), the tile
CDMA fills, the next record's number and the lanes. -/
structure Cap where
  gate : Bool
  held : Bool
  since : Stamp
  counts : Tab Nat
  off : Nat
  seen : Nat
  timed : Bool
  trig : Option TrigPend
  came : Bool
  lost : Nat
  post : Option Nat
  buf : Bytes
  seq : Nat
  lanes : Tab LaneCap
  deriving DecidableEq, Repr

def Cap.init : Cap :=
  { gate := true, held := false, since := 0, counts := [], off := 0, seen := 0, timed := false, trig := none, came := false, lost := 0,
    post := none, buf := [], seq := 0, lanes := [] }

/-! ## Host link (chapter 14) -/

/-- What a DMA channel holds besides its registers: words 0 to 7 of the descriptor in progress, the status of an error that has
met it, and the index up to which an abort completes descriptors (R390). -/
structure Dma where
  active : Option (List Word)
  fail : Option Nat
  abortTo : Option Nat
  deriving DecidableEq, Repr

def Dma.init : Dma := ⟨none, none, none⟩

/-- What the mailboxes and the two firmwares hold besides the channel registers: the posted channels in doorbell order (R403),
the taken channels whose command has begun and is not yet acknowledged (R408 to R410), the sequencers that a LOAD in progress
targets and the words of its image (R160), and the notifications that wait for a channel, as word 0 and word 1 (R411). -/
structure Mail where
  order : List Nat
  begun : List Nat
  loading : Nat
  words : Nat
  notes : List (Word × Word)
  asleep : List Nat
  deriving DecidableEq, Repr

def Mail.init : Mail := ⟨[], [], 0, 0, [], []⟩

/-! ## Security and calibration (chapter 15) -/

/-- What the SE and the calibration store hold besides their registers: the images in the slots, byte by byte (none: the one that
the factory stored), and which slot is active, the outstanding debug challenge and the ns since it was issued, the owner key's
digests, the calibration set in store (none: the factory's), the staged one and the `cal` values that the latest loads left in
effect, by register address (R432), whether the cartridge override was set since RESET_N, and the watchdog resets since
RESET_N. -/
structure Sec where
  imageA : Option Bytes
  imageB : Option Bytes
  activeB : Bool
  challenge : Option (Bytes × Nat)
  ownerKey : Option (BitVec 512 × BitVec 512)
  cal : Option (List Word)
  staged : Option (List Word)
  loaded : List (Nat × Word)
  overrideEver : Bool
  mcResets : Nat
  deriving DecidableEq, Repr

def Sec.init : Sec := ⟨none, none, false, none, none, none, none, [], false, 0⟩

/-! ## Ring and epochs (chapter 16) -/

/-- What a ring node holds besides its registers: own frames that wait for an IDLE slot, each with the frame periods that it has
waited, and those that the gathered events have (R452), its next sequence number and that of its latest DISCOVERY frame, whether
it has yielded to another master (R449), the declared loop delay in ps that DISCOVERY found, the latest settled publication of
each node (R457), whether a fingerprint is being computed and whether a covered word changed meanwhile (R456), the staged
writes in ascending address order (R458), the frame version that DISCOVERY found (R450), and the part of the adopted ring time
below 1 ns (R453). -/
structure Ring where
  own : List (FrameBody × Nat)
  evAge : List Nat
  seq : BitVec 16
  disc : Option (BitVec 16)
  yielded : Bool
  declared : Nat
  pubs : List (Nat × BitVec 64 × BitVec 16)
  computing : Bool
  touched : Bool
  store : List (Nat × Word)
  found : Nat
  frac : BitVec 10
  deriving DecidableEq, Repr

def Ring.init : Ring := ⟨[], [], 0, none, false, 0, [], false, false, [], 0, 0⟩

/-! ## Analog section (chapter 13) -/

/-- A wideband channel's Calliope: the tuning word in effect and the accumulator at the channel's next sample (R359, R360). `open_`:
its injection switch is held open in a RUNNING act (R357). -/
structure Awg where
  ftw : BitVec 48
  acc : BitVec 48
  open_ : Bool
  deriving DecidableEq, Repr

def Awg.init : Awg := ⟨0, 0, false⟩

/-- What the sideband DACs and the monitor hold besides their registers: each channel's last applied queue code, the ticks the
present group still stands, whether it had `last`, whether an empty spell has been counted (R367, R368); the inputs being
sequenced and the latest input (R371), the inputs whose latest result was not inside their window (R373), the channels' consecutive
read-back failures and the counts of their latest changes of output (R374), and the count of the latest update tick (R364). -/
structure Analog where
  applied : Tab Nat
  hold : Nat
  last : Bool
  spell : Bool
  seq : Word
  input : Nat
  outside : Word
  failures : Tab Nat
  changed : Tab (Option (BitVec 48))
  ticked : Option (BitVec 48)
  deriving DecidableEq, Repr

def Analog.init : Analog := ⟨[], 0, false, false, 0xFFFFFFFF, 31, 0xFFFFFFFF, [], [], none⟩

/-! ## The device and the state -/

/-- Everything but the queue and the two memories. -/
structure Dev where
  /-- Register words that differ from their reset word, by address. -/
  regs : Tab Word
  /-- How copies 2 and 3 of triplicated fields differ from copy 1, by register address (R49). -/
  upset : Tab (Word × Word)
  /-- The timebase count (R269). -/
  count : BitVec 48
  /-- The 32.768 kHz count and the fraction of a tick, in 1/10^9. -/
  rtc : BitVec 48
  rtcFrac : Nat
  /-- The next free value's number (the model's own; no statement rests on it). -/
  free : Nat
  /-- What register reads answered, newest first, and what the latest read of bytes did (the model's own). -/
  answers : List Answer
  rbytes : Bytes
  sent : List Message
  /-- The vectors that have been requested in the present register fabric cycle (R24, R380). -/
  rose : List Nat
  prot : Prot
  mw : Midway
  /-- Program memory, entry `i` of sequencer `n` at 2048 n + i (R95). -/
  prog : Tab (BitVec 128)
  sqs : Tab Sq
  syns : Tab Syn
  refs : RefLoop
  txs : Tab Tx
  rxs : Tab Rx
  bill : Bill
  queues : Tab Queue
  banks : Tab Bank
  net : Net
  tiles : Tab TileInfo
  dm : DeepMem
  caps : Tab Cap
  dmas : Tab Dma
  /-- The fallback requests that have arrived and are not served yet (R394). -/
  fbq : List FbReq
  mail : Mail
  /-- The internal endpoint's configuration (R377). -/
  ep : Endpoint
  awgs : Tab Awg
  an : Analog
  sec : Sec
  ring : Ring
  deriving DecidableEq, Repr

/-- The two addressed memories: tile space by byte address, and the scratchpad by BAR2 offset. An unlisted byte reads
0. Assumption 26, DESIGN CHOICE. -/
structure Mem where
  tiles : List Host.Cell
  pad : List Host.Cell
  deriving DecidableEq, Repr

/-- The machine. -/
structure State where
  pending : List Instr
  dev : Dev
  mem : Mem
  deriving DecidableEq, Repr

/-- The memories hold their canonical form. -/
def Mem.wf (m : Mem) : Bool := tabWf (fun _ => (0 : Byte)) m.tiles && tabWf (fun _ => (0 : Byte)) m.pad

def Dev.reset : Dev :=
  { regs := [], upset := [], count := 0, rtc := 0, rtcFrac := 0, free := 0, answers := [], rbytes := [], sent := [],
    rose := [], prot := Prot.init, mw := Midway.init, prog := [], sqs := [], syns := [], refs := RefLoop.init, txs := [], rxs := [],
    bill := Bill.init, queues := [], banks := [], net := Net.init, tiles := [], dm := DeepMem.init, caps := [],
    dmas := [], fbq := [], mail := Mail.init, ep := Endpoint.init, awgs := [], an := Analog.init,
    sec := Sec.init, ring := Ring.init }

def Mem.reset : Mem := ⟨[], []⟩

/-- The machine right after reset: every register at its reset value, nothing waiting, not yet ready. -/
def State.reset : State := ⟨[], Dev.reset, Mem.reset⟩

end Sys2Proof.Machine
end

