-- ==== Sys2Proof/Machine/Ops.lean ====
section
/-! DEFINITION. The named operations that every family uses: reading and writing register fields with the vote of
triplicated copies (R49), small sets, time, the power-state questions, and bytes and words. -/
namespace Sys2Proof.Machine

/-! ## Registers -/

/-- The address of a register: page times 0x1_0000 plus offset. -/
def addrOf (p off : Nat) : Nat := 65536 * p + off

/-- The stored word of a register, copy 1 of its triplicated fields. -/
def Dev.raw (d : Dev) (a : Nat) : Word := tabGet resetWord d.regs a

/-- The word of a register with the bitwise majority of triplicated copies (R49). -/
def Dev.reg (d : Dev) (a : Nat) : Word :=
  let u := tabGet (fun _ => ((0 : Word), (0 : Word))) d.upset a
  d.raw a ^^^ (u.1 &&& u.2)

/-- All copies of the masked bits of a register take the bits of `w`. -/
def Dev.putBits (d : Dev) (a : Nat) (mask w : Word) : Dev :=
  let u := tabGet (fun _ => ((0 : Word), (0 : Word))) d.upset a
  { d with
    regs := tabSet resetWord d.regs a ((d.raw a &&& ~~~mask) ||| (w &&& mask))
    upset := tabSet (fun _ => ((0 : Word), (0 : Word))) d.upset a (u.1 &&& ~~~mask, u.2 &&& ~~~mask) }

/-- A field's value. -/
def Dev.rd (d : Dev) (p : Nat) (f : Field) : Nat := f.get (d.reg (addrOf p f.off))

/-- A field's value as two's complement. -/
def Dev.rdS (d : Dev) (p : Nat) (f : Field) : Int := f.getS (d.reg (addrOf p f.off))

/-- Whether a field is not 0. -/
def Dev.on (d : Dev) (p : Nat) (f : Field) : Bool := d.rd p f != 0

/-- The device sets a field of one of its registers. -/
def Dev.wr (d : Dev) (p : Nat) (f : Field) (v : Nat) : Dev :=
  d.putBits (addrOf p f.off) f.mask (f.put 0 v)

/-- A counter field rises by `n` and stops at its highest value. -/
def Dev.bump (d : Dev) (p : Nat) (f : Field) (n : Nat := 1) : Dev :=
  d.wr p f (min (d.rd p f + n) (2 ^ f.w - 1))

/-- A counter field rises by `n` and wraps. -/
def Dev.wrapUp (d : Dev) (p : Nat) (f : Field) (n : Nat := 1) : Dev := d.wr p f (d.rd p f + n)

/-- Bit `i` of a register is 1. -/
def Dev.bit (d : Dev) (p off i : Nat) : Bool := (d.reg (addrOf p off)).getLsbD i

/-- Bit `i` of a register takes a value. -/
def Dev.setBit (d : Dev) (p off i : Nat) (b : Bool) : Dev :=
  d.wr p { off := off, lo := i, w := 1 } b.toNat

/-- A 32-bit pair of registers takes a 64-bit value, low word first. -/
def Dev.wrPair (d : Dev) (p : Nat) (lo hi : Field) (v : BitVec 64) : Dev :=
  (d.wr p lo (v.toNat % 2 ^ 32)).wr p hi (v.toNat / 2 ^ 32)

/-! ## Bits of small sets -/

/-- The members of a bit set below `n`. -/
def bitsOf (n v : Nat) : List Nat := (List.range n).filter fun i => v.testBit i

/-- A bit set with a member added or removed. -/
def withBit (v i : Nat) (b : Bool) : Nat := if v.testBit i = b then v else v ^^^ 2 ^ i

/-- A member of a field that is a bit set changes. -/
def Dev.fbit (d : Dev) (p : Nat) (f : Field) (i : Nat) (b : Bool) : Dev := d.wr p f (withBit (d.rd p f) i b)

/-- Whether a field that is a bit set has a member. -/
def Dev.has (d : Dev) (p : Nat) (f : Field) (i : Nat) : Bool := (d.rd p f).testBit i

/-! ## Time -/

/-- The timestamp of the present timebase count, fine bits 0 (R269). -/
def Dev.now (d : Dev) : Stamp := d.count.setWidth 64 <<< 10

/-! ## Power state and readiness (chapter 3) -/

def Dev.ready (d : Dev) : Bool := d.on 0x01 F.RST_STAT_ready

/-- SB_STATE.cur: 1 DORMANT, 2 STANDBY, 3 ARMED, 4 SHOW. -/
def Dev.power (d : Dev) : Nat := d.rd 0x02 F.SB_STATE_cur

/-- The device takes bus accesses and commands of its masters: ready and not DORMANT (R67, Table 3.3). -/
def Dev.serving (d : Dev) : Bool := d.ready && d.power != 1

/-- HL_STAT.gen: 0 down, 1 the fallback, 2 to 4 USB4. -/
def Dev.linkGen (d : Dev) : Nat := d.rd 0x14 F.HL_STAT_gen

/-- A request of a master reaches the device: it serves, and the host has a link (R381) and an endpoint that is not in D3hot
(R377). -/
def Dev.heard (d : Dev) (m : Master) : Bool := d.serving && !(m == .host && (d.linkGen == 0 || d.ep.d3hot))

/-- The power state is ARMED or SHOW and no transition toward or away from it runs (R486). -/
def Dev.armed (d : Dev) : Bool := (d.power == 3 || d.power == 4) && !d.on 0x02 F.SB_STATE_changing

/-! ## Word lists -/

/-- The little-endian bytes of a word (R22). -/
def wordBytes (w : Word) : Bytes := (List.range 4).map fun i => (w >>> (8 * i)).setWidth 8

/-- A number from bytes, lowest first. -/
def bytesNat (bs : Bytes) : Nat := bs.foldr (fun b n => b.toNat + 256 * n) 0

/-- The lowest `n` bytes of a number. -/
def natBytes (n v : Nat) : Bytes := (List.range n).map fun i => BitVec.ofNat 8 (v / 2 ^ (8 * i))

/-- The mask of the enabled bytes of a word. -/
def beMask (be : BitVec 4) : Word :=
  (if be.getLsbD 0 then 0xFF else 0) ||| (if be.getLsbD 1 then 0xFF00 else 0) |||
    (if be.getLsbD 2 then 0xFF0000 else 0) ||| (if be.getLsbD 3 then 0xFF000000 else 0)

/-- One step of a reflected CRC over a byte. -/
def crcByte (w poly : Nat) (crc : BitVec w) (b : Byte) : BitVec w :=
  (List.range 8).foldl
    (fun c _ => if c.getLsbD 0 then (c >>> 1) ^^^ BitVec.ofNat w poly else c >>> 1) (crc ^^^ b.setWidth w)

/-- CRC-32C (R52): polynomial 0x1EDC_6F41 reflected, initial value and final XOR all ones. -/
def crc32c (bs : Bytes) : Word := bs.foldl (crcByte 32 0x82F63B78) 0xFFFFFFFF ^^^ 0xFFFFFFFF

end Sys2Proof.Machine
end

