-- ==== Sys2Proof/Machine/Crypto.lean ====
section
/-! DEFINITION. The digest and the signatures of the security enclave and the objects that carry them
(spec/15_security_identity_and_calibration.md R412, R413, R416, R422, R430): SHA-512 as FIPS 180-4 gives it, both halves of a
signature, the firmware image, the certificates and the factory's calibration set. -/
namespace Sys2Proof.Machine

/-! ## Byte strings -/

/-- Bytes `a` to `a + n - 1` of a byte string. -/
def slice (bs : Bytes) (a n : Nat) : Bytes := (bs.drop a).take n

def sliceNat (bs : Bytes) (a n : Nat) : Nat := bytesNat (slice bs a n)

def sliceZero (bs : Bytes) (a n : Nat) : Bool := (slice bs a n).all (· == 0)

/-- Word `i` of a header, and bits of it. -/
def headWord (bs : Bytes) (i : Nat) : Nat := bytesNat ((bs.drop (4 * i)).take 4)
def headBits (bs : Bytes) (i hi lo : Nat) : Nat := headWord bs i / 2 ^ lo % 2 ^ (hi + 1 - lo)

/-! ## SHA-512 (R413). Assumption 128, PRESUMED. -/

/-- The largest number whose `k`-th power is at most `n`, below 2^68. -/
def intRoot (k n : Nat) : Nat :=
  (List.range 68).foldl (fun r i => if (r + 2 ^ (67 - i)) ^ k ≤ n then r + 2 ^ (67 - i) else r) 0

/-- The primes below 410: eighty of them. -/
def shaPrimes : List Nat :=
  (List.range 410).filter fun p => decide (2 ≤ p) && (List.range 21).all fun q => decide (q < 2) || p == q || p % q != 0

/-- The first 64 fraction bits of the primes' cube roots, and of the first eight primes' square roots. -/
def shaRounds : List (BitVec 64) := shaPrimes.map fun p => BitVec.ofNat 64 (intRoot 3 (p * 2 ^ 192))
def shaStart : List (BitVec 64) := (shaPrimes.take 8).map fun p => BitVec.ofNat 64 (intRoot 2 (p * 2 ^ 128))

/-- A number from bytes, highest first. -/
def bigNat (bs : Bytes) : Nat := bytesNat bs.reverse

/-- A message with the closing 1 bit, zeros, and its length in bits in 16 bytes. -/
def shaPad (bs : Bytes) : Bytes :=
  bs ++ [0x80] ++ List.replicate ((239 - bs.length % 128) % 128) 0 ++ (natBytes 16 (8 * bs.length)).reverse

/-- The next word of the message schedule, from the words so far, newest first. -/
def shaNext (ws : List (BitVec 64)) : BitVec 64 :=
  let a := ws.getD 1 0
  let b := ws.getD 14 0
  ((a.rotateRight 19) ^^^ (a.rotateRight 61) ^^^ (a >>> 6)) + ws.getD 6 0 +
    ((b.rotateRight 1) ^^^ (b.rotateRight 8) ^^^ (b >>> 7)) + ws.getD 15 0

/-- The eighty words of a block's schedule, newest first. -/
def shaSchedule (block : Bytes) : List (BitVec 64) :=
  let first := (List.range 16).map fun i => BitVec.ofNat 64 (bigNat (slice block (8 * i) 8))
  (List.range 64).foldl (fun ws _ => shaNext ws :: ws) first.reverse

/-- One round on the eight working variables a to h. -/
def shaRound (v : List (BitVec 64)) (k w : BitVec 64) : List (BitVec 64) :=
  let x (i : Nat) : BitVec 64 := v.getD i 0
  let (a, e) := (x 0, x 4)
  let t1 := x 7 + ((e.rotateRight 14) ^^^ (e.rotateRight 18) ^^^ (e.rotateRight 41)) + ((e &&& x 5) ^^^ (~~~e &&& x 6)) + k + w
  let t2 := ((a.rotateRight 28) ^^^ (a.rotateRight 34) ^^^ (a.rotateRight 39)) +
    ((a &&& x 1) ^^^ (a &&& x 2) ^^^ (x 1 &&& x 2))
  [t1 + t2, a, x 1, x 2, x 3 + t1, e, x 5, x 6]

/-- One block on the eight hash values. -/
def shaBlock (h : List (BitVec 64)) (block : Bytes) : List (BitVec 64) :=
  let v := (shaRounds.zip (shaSchedule block).reverse).foldl (fun v x => shaRound v x.1 x.2) h
  List.zipWith (· + ·) h v

/-- The SHA-512 digest of a message, its first byte lowest. -/
@[irreducible] def sha512 (bs : Bytes) : BitVec 512 :=
  let p := shaPad bs
  let h := (List.range (p.length / 128)).foldl (fun h i => shaBlock h (slice p (128 * i) 128)) shaStart
  BitVec.ofNat 512 (bytesNat (h.flatMap fun w => (natBytes 8 w.toNat).reverse))

/-! ## Signatures (R412) -/

/-- The device's public keys: 32 bytes of Ed25519, 1952 bytes of ML-DSA-65. -/
def deviceEdKey : Bytes := (List.range 32).map Config.edPublicKey
def deviceMlKey : Bytes := (List.range 1952).map Config.mlPublicKey

/-- The two halves of the device's signature over a message: 64 bytes, and 3309 bytes followed by 3 zero bytes (R413). -/
def deviceEd (msg : Bytes) : Bytes := (List.range 64).map (Config.edSign msg)
def deviceMl (msg : Bytes) : Bytes := (List.range 3309).map (Config.mlSign msg) ++ [0, 0, 0]
def deviceSignature (msg : Bytes) : Bytes := deviceEd msg ++ deviceMl msg

/-- Each half of a signature verifies; the device's own signatures do under its own keys. -/
def edVerifies (key msg sig : Bytes) : Bool := Config.edOk key msg sig || (key == deviceEdKey && sig == deviceEd msg)
def mlVerifies (key msg sig : Bytes) : Bool := Config.mlOk key msg sig || (key == deviceMlKey && sig == deviceMl msg)

/-- A pair of signatures over a message verifies: both halves do (R412). -/
def pairVerifies (edKey mlKey msg ed ml : Bytes) : Bool := edVerifies edKey msg ed && mlVerifies mlKey msg ml

/-! ## The firmware image (Table 15.1) -/

def imageSvn (bs : Bytes) : Nat := headBits bs 1 21 16
def imageRev (bs : Bytes) : Word := BitVec.ofNat 32 (headWord bs 2)

/-- The payload. -/
def imagePayload (bs : Bytes) : Bytes := slice bs 0x1000 (headWord bs 3)

/-- The image in the bytes that hold it: header and payload. -/
def imageIn (bs : Bytes) : Bytes := bs.take (0x1000 + headWord bs 3)

/-- What R416 finds wrong with an image, in its order. -/
def Dev.imageBad (d : Dev) (bs : Bytes) : Option Nat :=
  let h := headWord bs
  let b := headBits bs
  let len := h 3
  let (ed, ml) := (b 1 11 8, b 1 15 12)
  if h 0 ≠ 0x574D4651 ∨ len < 4096 ∨ 0x3FF000 < len ∨ len % 4096 ≠ 0 ∨ bs.length < 4096 + len then some 3
  else if b 1 7 0 ≠ 1 then some 6
  else if b 1 31 22 ≠ 0 ∨ !sliceZero bs 0x10 0x10 ∨ !sliceZero bs 0xD90 0x270 ∨ 3 < ed ∨ 3 < ml then some 3
  else if d.has 0x10 F.SEC_KEYS_ed_rev ed || d.has 0x10 F.SEC_KEYS_ml_rev ml then some 4
  else if imageSvn bs < d.rd 0x10 F.SEC_SVN_counter then some 4
  else if (sha512 (imagePayload bs)).toNat ≠ sliceNat bs 0x20 64 then some 8
  else if !pairVerifies (Config.firmwareEdKey ed) (Config.firmwareMlKey ml) (slice bs 0 0x60) (slice bs 0x60 64) (slice bs 0xA0 3312) then
    some 8
  else none

/-! ## Certificates (R422, Table 15.2) -/

/-- A serial number as 16 upper-case hex digits in ASCII. -/
def hexDigits (n : BitVec 64) : Bytes :=
  (List.range 16).map fun i =>
    let x := n.toNat / 16 ^ (15 - i) % 16
    BitVec.ofNat 8 (if x < 10 then 48 + x else 55 + x)

/-- The object identifier of the certificate's public key, in DER: 1.3.101.112 or 2.16.840.1.101.3.4.3.18. -/
def certOid (i : Nat) : Bytes :=
  if i < 2 then [6, 3, 0x2B, 0x65, 0x70] else [6, 9, 0x60, 0x86, 0x48, 1, 0x65, 3, 4, 3, 0x12]

/-- A certificate: a leaf names the device serial and then holds the device's public key behind its algorithm; what the factory
put around them is open. Assumption 129, DEDUCED. -/
def certificate (i : Nat) : Bytes :=
  let part := Config.certPart i
  if i % 2 = 0 then
    part 0 ++ hexDigits Config.serial ++ part 1 ++ certOid i ++ part 2 ++ (if i = 0 then deviceEdKey else deviceMlKey) ++ part 3
  else part 0 ++ certOid i ++ part 1

/-! ## The factory's calibration set (R430, Tables 15.5 and 15.6) -/

/-- The header of a set of origin FACTORY over a body, 16 words; its time and its commit count are open. -/
def factoryHeader (body : List Word) : List Word :=
  [0x4C414351, 1, Config.serial.setWidth 32, (Config.serial >>> 32).setWidth 32, Config.factoryCal 4, Config.factoryCal 5,
    Config.factoryCal 6, crc32c (body.flatMap wordBytes)] ++ List.replicate 8 0

/-- The factory's set, 1040 words. -/
def factorySet : List Word := factoryHeader factoryBody ++ factoryBody

end Sys2Proof.Machine
end

