-- ==== Sys2Proof/Machine/LineCode.lean ====
section
/-! DEFINITION. The line codes that the aligner and the repair know by name (spec/08_receive_lanes_and_inline_forwarding.md
Table 8.3, R236, R247): the 8b/10b code, whose tables the spec does not print (assumption 140, PRESUMED), and the two
scramblers. -/
namespace Sys2Proof.Machine

/-- A list of bits, lowest first, as a number. -/
def bitsNat (bs : List Bool) : Nat := bs.foldr (fun b n => b.toNat + 2 * n) 0

/-- The lowest `n` bits of a number. -/
def natBits (n v : Nat) : List Bool := (List.range n).map v.testBit

/-- The bits of bytes, bit 0 of the first byte first (R22). -/
def bytesBits (bs : Bytes) : List Bool := bs.flatMap fun b => natBits 8 b.toNat

/-- Stream bits as whole bytes. -/
def bitsBytes (bits : List Bool) : Bytes :=
  match bits with
  | a :: b :: c :: d :: e :: f :: g :: h :: r => BitVec.ofNat 8 (bitsNat [a, b, c, d, e, f, g, h]) :: bitsBytes r
  | _ => []

/-! ## 8b/10b -/

/-- The sub-block abcdei of D.x at negative running disparity, a first as the highest bit. -/
def six : List Nat :=
  [0b100111, 0b011101, 0b101101, 0b110001, 0b110101, 0b101001, 0b011001, 0b111000,
   0b111001, 0b100101, 0b010101, 0b110100, 0b001101, 0b101100, 0b011100, 0b010111] ++
  [0b011011, 0b100011, 0b010011, 0b110010, 0b001011, 0b101010, 0b011010, 0b111010,
   0b110011, 0b100110, 0b010110, 0b110110, 0b001110, 0b101110, 0b011110, 0b101011]

/-- The sub-block fghj of D.x.y at negative running disparity before it, f first as the highest bit; the last is the alternate
of y = 7. -/
def four : List Nat := [0b1011, 0b1001, 0b0101, 0b1100, 0b1101, 0b1010, 0b0110, 0b1110, 0b0111]

/-- The sub-block fghj of K.28.y at negative running disparity before it. -/
def fourK : List Nat := [0b1011, 0b0110, 0b1010, 0b1100, 0b1101, 0b0101, 0b1001, 0b0111]

/-- Bits of a sub-block, its first bit first. -/
def subBits (n v : Nat) : List Bool := (natBits n v).reverse

/-- How many ones. -/
def onesOf (bs : List Bool) : Nat := (bs.filter id).length

/-- The running disparity after a sub-block or a character: that of its ones where they are not half (true: positive). -/
def dispAfter (rd : Bool) (bs : List Bool) : Bool :=
  if bs.length < 2 * onesOf bs then true else if 2 * onesOf bs < bs.length then false else rd

/-- A sub-block at a running disparity: inverted at positive disparity where it is unbalanced, or where `both` says that it comes in
two balanced forms. -/
def atDisp (rd both : Bool) (bs : List Bool) : List Bool :=
  if rd && (both || 2 * onesOf bs != bs.length) then bs.map (!·) else bs

/-- The ten bits of D.x.y, or of K.x.y, at a running disparity. -/
def encode10 (rd k : Bool) (x y : Nat) : List Bool :=
  let lo := if k && x == 28 then atDisp rd false (subBits 6 0b001111) else atDisp rd (x == 7) (subBits 6 (six.getD x 0))
  let rd := dispAfter rd lo
  let alt := y == 7 && (k || (if rd then x == 11 || x == 13 || x == 14 else x == 17 || x == 18 || x == 20))
  lo ++
    (if k && x == 28 then atDisp rd true (subBits 4 (fourK.getD y 0))
     else if k && y != 7 then atDisp rd (y == 3) (subBits 4 (four.getD y 0))
     else atDisp rd (y == 3) (subBits 4 (four.getD (if alt then 8 else y) 0)))

/-- The characters of the code: every D.x.y, and K.28.0 to K.28.7, K.23.7, K.27.7, K.29.7 and K.30.7. -/
def isK (x y : Nat) : Bool := x == 28 || (y == 7 && (x == 23 || x == 27 || x == 29 || x == 30))

/-- The character that ten bits stand for at a running disparity. -/
def decodeAt (rd : Bool) (c : List Bool) : Option (Bool × Nat × Nat) :=
  let ys (k : Bool) (x : Nat) : Option (Bool × Nat × Nat) :=
    ((List.range 8).find? fun y => (!k || isK x y) && encode10 rd k x y == c).map (k, x, ·)
  let low := c.take 6
  ((List.range 32).filter fun x => (encode10 rd false x 0).take 6 == low).findSome? (fun x => (ys false x).or (ys true x)) |>.or
    (if (encode10 rd true 28 0).take 6 == low then ys true 28 else none)

/-- The character that ten bits stand for at either running disparity; none for an invalid character. -/
def decode10 (c : List Bool) : Option (Bool × Nat × Nat) := (decodeAt false c).or (decodeAt true c)

/-- K28.5 at either disparity. -/
def isComma (c : List Bool) : Bool := c == encode10 false true 28 5 || c == encode10 true true 28 5

/-- A character re-encoded at the output's running disparity, and the disparity then; an invalid one passes unchanged
(R247). -/
def recode (rd : Bool) (c : List Bool) : List Bool × Bool :=
  let o := match decode10 c with
    | some (k, x, y) => encode10 rd k x y
    | none => c
  (o, dispAfter rd o)

/-! ## Scramblers (R236) -/

/-- The self-synchronous descrambler x^58 + x^39 + 1 over a run of bits; bit 0 of the history is the latest. -/
def descramble58 (h : BitVec 58) (bs : List Bool) : List Bool × BitVec 58 :=
  bs.foldl (fun (o, h) b => (o ++ [b ^^ (h.getLsbD 38 ^^ h.getLsbD 57)], (h <<< 1) ||| (if b then 1 else 0))) ([], h)

/-- The scrambler of the same polynomial: its history holds its own output. -/
def scramble58 (h : BitVec 58) (bs : List Bool) : List Bool × BitVec 58 :=
  bs.foldl
    (fun (o, h) b =>
      let c := b ^^ (h.getLsbD 38 ^^ h.getLsbD 57)
      (o ++ [c], (h <<< 1) ||| (if c then 1 else 0))) ([], h)

/-- One step of the LFSR of X^23 + X^21 + X^16 + X^8 + X^5 + X^2 + 1, in the form whose output is its highest bit.
Assumption 102, PRESUMED. -/
def lfsrStep (k : BitVec 23) : BitVec 23 := if k.getLsbD 22 then (k <<< 1) ^^^ 0x210125 else k <<< 1

/-- The additive scrambler, which is its own descrambler, over a run of bits. -/
def scrambleAdd (k : BitVec 23) (bs : List Bool) : List Bool × BitVec 23 :=
  bs.foldl (fun (o, k) b => (o ++ [b ^^ k.getLsbD 22], lfsrStep k)) ([], k)

/-- A 128b/130b block under the additive scrambler (R236): a block that starts with the reseed pattern loads the seed at its
start and passes as it is; the LFSR moves on over every block's payload. -/
def scramble130 (seed : BitVec 23) (pat : Nat) (k : BitVec 23) (bits : List Bool) : List Bool × BitVec 23 :=
  let pay := bits.drop 2
  if bitsNat (pay.take 16) = pat then (bits, (scrambleAdd seed pay).2)
  else
    let (o, k) := scrambleAdd k pay
    (bits.take 2 ++ o, k)

end Sys2Proof.Machine
end

