-- ==== Sys2Proof/Machine/Flags.lean ====
section
/-! DEFINITION. The flags of the block and what they set off: messages that leave the device, status bits and the interrupts they
request (R24, R380), events raised toward Midway (R331), violations and freeze (R55 to R60). -/
namespace Sys2Proof.Machine

/-! ## What leaves the device -/

/-- A message leaves the device; the record of it is the model's own. Assumption 20, DESIGN CHOICE. -/
def Dev.emit (d : Dev) (m : Message) : Dev := { d with sent := m :: d.sent }

/-- The next value that the spec leaves open. Assumption 9, DESIGN CHOICE. -/
def Dev.fresh (d : Dev) : Word × Dev := (Config.freeWord d.free, { d with free := d.free + 1 })

/-- The pending-bit word of an MSI-X vector. -/
def pbaField (v : Nat) : Field := if v < 32 then F.MSIX_PBA_LO else F.MSIX_PBA_HI

/-- The message of a vector leaves: an MSI-X write, or a packet of the fallback transport (R380, R396). -/
def Dev.sendMsix (d : Dev) (v : Nat) : Dev :=
  if d.rd 0x14 F.HL_STAT_gen = 1 then d.emit (.usbIrq v)
  else
    d.emit (.msix v
      (BitVec.ofNat 64 (2 ^ 32 * d.rd 0x17 (F.MSIX_ADDR_HI.at v) + 4 * d.rd 0x17 (F.MSIX_ADDR_LO.at v)))
      (BitVec.ofNat 32 (d.rd 0x17 (F.MSIX_DATA.at v))))

/-- Whether a message of a vector must wait as a pending bit: the vector is masked or the link is down (R380, R381). -/
def Dev.msixHeld (d : Dev) (v : Nat) : Bool :=
  d.rd 0x14 F.HL_STAT_gen == 0 || d.on 0x17 (F.MSIX_VCTRL_mask.at v)

/-- The message of a vector leaves, or waits as its pending bit (R380). -/
def Dev.request (d : Dev) (v : Nat) : Dev :=
  if d.msixHeld v then d.fbit 0x17 (pbaField v) (v % 32) true else d.sendMsix v

/-- A request for a vector: those of one register fabric cycle make one message (R380). Assumption 15, DESIGN CHOICE. -/
def Dev.irq (d : Dev) (v : Nat) : Dev := if v ∈ d.rose then d else { d with rose := v :: d.rose }.request v

/-- The pending messages of the vectors that are not held any more leave (R380, R381). -/
def Dev.flushPending (d : Dev) : Dev :=
  (List.range 64).foldl
    (fun d v =>
      if d.has 0x17 (pbaField v) (v % 32) && !d.msixHeld v then
        (d.fbit 0x17 (pbaField v) (v % 32) false).sendMsix v
      else d) d

/-- Bits of PAGE_STAT become 1; an enabled bit that rises requests the page's vector (R24).
Assumption 15, DESIGN CHOICE. -/
def Dev.statW (d : Dev) (p : Nat) (bits : Word) : Dev :=
  let old := d.reg (addrOf p 0x00C)
  let en := d.reg (addrOf p 0x010)
  let d := d.putBits (addrOf p 0x00C) bits bits
  if (bits &&& ~~~old &&& en) = 0 then d else d.irq (d.rd p F.PAGE_IRQ_MAP_vector)

/-- A cycle ends: the next bits that rise ask for messages of their own (R24), and the next detections on a tile make entries of
their own (R304). -/
def Dev.cycle (d : Dev) : Dev := { d with rose := [], dm := { d.dm with logged := [] } }

/-- One bit of PAGE_STAT becomes 1 (R24). -/
def Dev.stat (d : Dev) (p b : Nat) : Dev := d.statW p (BitVec.twoPow 32 b)

/-- A write refused because of block state (R36). -/
def Dev.stateReject (d : Dev) (p : Nat) : Dev := d.stat p 0

/-- A write outside a stated range (R485). -/
def Dev.rangeReject (d : Dev) (p : Nat) : Dev :=
  match rangeBit p with
  | some b => d.stat p b
  | none => d

/-! ## Events (chapter 12) -/

/-- A raise on its way to its channel. -/
def Dev.raiseAs (d : Dev) (k : RaiseKind) (ch : Nat) (src : Nat) (hops : Nat := 0) : Dev :=
  { d with mw := { d.mw with wire := d.mw.wire ++ [⟨BitVec.ofNat 8 ch, hops, k, src⟩] } }

/-- A source field's number as a source (R18): its page, offset and lowest bit. -/
def sourceOf (p : Nat) (f : Field) : Nat := 32 * addrOf p f.off + f.lo

/-- A raise by a source field. -/
def Dev.raise (d : Dev) (src ch : Nat) : Dev := d.raiseAs .source ch src

/-- A raise of a system channel by its own system source (Table 12.1), one for each channel. Assumption 99, DEDUCED. -/
def Dev.raiseSys (d : Dev) (ch : Nat) : Dev := d.raiseAs .system ch ch

/-- A raise by a source field with its enable. -/
def Dev.raiseIf (d : Dev) (p : Nat) (en ev : Field) : Dev :=
  if d.on p en then d.raise (sourceOf p ev) (d.rd p ev) else d

/-! ## Violations and freeze (R55 to R60) -/

/-- Whether a master is privileged (R14, R15). -/
def Dev.privileged (d : Dev) (m : Master) : Bool :=
  match m with
  | .mc | .se => true
  | .dbg => d.on 0x10 F.SEC_DEBUG_unlocked
  | _ => false

def Dev.frozen (d : Dev) (m : Master) : Bool := d.has 0x08 F.PROT_FROZEN_mask m.id

/-- A log entry's INFO word (Table 2.7). -/
def vInfo (m : Option Master) (cause : Nat) (be : BitVec 4) : Word :=
  BitVec.ofNat 32
    ((match m with | some m => m.id | none => 8) + 2 ^ 8 * cause + 2 ^ 12 * be.toNat + 2 ^ 31)

/-- The violation log takes an entry, or counts one that it has no room for (R59). -/
def Dev.vlogAdd (d : Dev) (e : VEntry) : Dev :=
  if d.prot.vlog.length < 32 then { d with prot := { d.prot with vlog := d.prot.vlog ++ [e] } }
  else d.bump 0x08 F.VLOG_STAT_lost

/-- A master is thawed (R58); a thaw carries out its pending request. -/
def Dev.thaw (d : Dev) (m : Master) : Dev :=
  let d := d.fbit 0x08 F.PROT_FROZEN_mask m.id false
  { d with prot := { d.prot with thawPend := tabSet (fun _ => false) d.prot.thawPend m.id false } }

/-- A violation (R55): status, log, protection event, the master's own record (R60) and its freeze (Table 2.4). -/
def Dev.violation (d : Dev) (m : Master) (cause p addr : Nat) (be : BitVec 4) (data : Word) : Dev :=
  let e : VEntry := ⟨vInfo (some m) cause be, BitVec.ofNat 32 addr, data, d.now⟩
  let d := ((d.stat p 2).vlogAdd e).bump 0x10 F.SEC_VCOUNT
  let d := { d with
    prot := { d.prot with
      thawLast := tabSet (fun _ => none) d.prot.thawLast m.id (some e)
      thawCount := tabSet (fun _ => 0) d.prot.thawCount m.id
        (min (tabGet (fun _ => 0) d.prot.thawCount m.id + 1) 65535) } }
  let d := d.raiseSys 240
  if m = .se then d else d.fbit 0x08 F.PROT_FROZEN_mask m.id true

end Sys2Proof.Machine
end

