-- ==== Sys2Proof/Machine/Inst.lean ====
section
/-! DEFINITION. The records of repeated blocks: reading and replacing the one of instance `n`. -/
namespace Sys2Proof.Machine

def Dev.sq (d : Dev) (n : Nat) : Sq := tabGet (fun _ => Sq.init) d.sqs n
def Dev.setSq (d : Dev) (n : Nat) (s : Sq) : Dev := { d with sqs := tabSet (fun _ => Sq.init) d.sqs n s }
def Dev.tx (d : Dev) (n : Nat) : Tx := tabGet (fun _ => Tx.init) d.txs n
def Dev.setTx (d : Dev) (n : Nat) (t : Tx) : Dev := { d with txs := tabSet (fun _ => Tx.init) d.txs n t }
def Dev.rx (d : Dev) (n : Nat) : Rx := tabGet (fun _ => Rx.init) d.rxs n
def Dev.setRx (d : Dev) (n : Nat) (t : Rx) : Dev := { d with rxs := tabSet (fun _ => Rx.init) d.rxs n t }
def Dev.syn (d : Dev) (n : Nat) : Syn := tabGet (fun _ => Syn.init) d.syns n
def Dev.setSyn (d : Dev) (n : Nat) (t : Syn) : Dev := { d with syns := tabSet (fun _ => Syn.init) d.syns n t }
def Dev.cell (d : Dev) (n : Nat) : Cell := tabGet (fun _ => Cell.init) d.mw.cells n
def Dev.setCell (d : Dev) (n : Nat) (c : Cell) : Dev :=
  { d with mw := { d.mw with cells := tabSet (fun _ => Cell.init) d.mw.cells n c } }
def Dev.queue (d : Dev) (n : Nat) : Queue := tabGet (fun _ => Queue.init) d.queues n
def Dev.setQueue (d : Dev) (n : Nat) (q : Queue) : Dev := { d with queues := tabSet (fun _ => Queue.init) d.queues n q }
def Dev.bank (d : Dev) (n : Nat) : Bank := tabGet (fun _ => Bank.init) d.banks n
def Dev.setBank (d : Dev) (n : Nat) (b : Bank) : Dev := { d with banks := tabSet (fun _ => Bank.init) d.banks n b }

def Dev.cap (d : Dev) (n : Nat) : Cap := tabGet (fun _ => Cap.init) d.caps n
def Dev.setCap (d : Dev) (n : Nat) (c : Cap) : Dev := { d with caps := tabSet (fun _ => Cap.init) d.caps n c }

def Dev.dma (d : Dev) (n : Nat) : Dma := tabGet (fun _ => Dma.init) d.dmas n
def Dev.setDma (d : Dev) (n : Nat) (c : Dma) : Dev := { d with dmas := tabSet (fun _ => Dma.init) d.dmas n c }

/-- The page of DMA channel `ch`, and a field of its block (Table 14.10). -/
def dmaPage (ch : Nat) : Nat := 0x15 + ch / 4
def df (ch : Nat) (f : Field) : Field := f.at (ch % 4)

/-- Some DMA channel is busy (R382). -/
def Dev.dmaBusy (d : Dev) : Bool := (List.range 8).any fun ch => d.on (dmaPage ch) (df ch F.DMA_STAT_busy)

/-- The transfers in progress to the device (through Q2) or from it (through Q3) meet an error (R318, R329). -/
def Dev.dmaFail (d : Dev) (toDevice : Bool) (status : Nat) : Dev :=
  (List.range 8).foldl
    (fun d ch =>
      match (d.dma ch).active with
      | some ws =>
        if (ws.getD 0 0).toNat % 4 = (if toDevice then 0 else 1) then d.setDma ch { d.dma ch with fail := some status } else d
      | none => d) d

def Dev.awg (d : Dev) (n : Nat) : Awg := tabGet (fun _ => Awg.init) d.awgs n
def Dev.setAwg (d : Dev) (n : Nat) (c : Awg) : Dev := { d with awgs := tabSet (fun _ => Awg.init) d.awgs n c }

def Dev.stack (d : Dev) (n : Nat) : Stack := tabGet (fun _ => Stack.init) d.dm.stackTab n
def Dev.setStack (d : Dev) (n : Nat) (b : Stack) : Dev :=
  { d with dm := { d.dm with stackTab := tabSet (fun _ => Stack.init) d.dm.stackTab n b } }

/-! ## Act slots (Table 3.12) -/

/-- ACT_STAT.state of a slot: 0 FREE, 1 EVAL, 2 ADMITTED, 3 RUNNING, 4 DONE, 5 REFUSED, 6 ABORTED. -/
def Dev.actState (d : Dev) (s : Nat) : Nat := d.rd 0x03 (F.ACT_STAT_state.at s)

/-- The slots that are ADMITTED or RUNNING. -/
def Dev.liveSlots (d : Dev) : List Nat := (List.range 16).filter fun s => d.actState s == 2 || d.actState s == 3

/-- The slots that are RUNNING. -/
def Dev.runSlots (d : Dev) : List Nat := (List.range 16).filter fun s => d.actState s == 3

/-- Member `i` of a resource field of a slot's descriptor. -/
def Dev.names (d : Dev) (f : Field) (i s : Nat) : Bool := d.has 0x03 (f.at s) i

/-- An ADMITTED or RUNNING act names resource `i` of a field. -/
def Dev.live (d : Dev) (f : Field) (i : Nat) : Bool := d.liveSlots.any (d.names f i)

/-- A RUNNING act names resource `i` of a field. -/
def Dev.running (d : Dev) (f : Field) (i : Nat) : Bool := d.runSlots.any (d.names f i)

/-- Some act is ADMITTED or RUNNING. -/
def Dev.anyLive (d : Dev) : Bool := !d.liveSlots.isEmpty

/-- The RUNNING slot that names resource `i` of a field. -/
def Dev.slotOf (d : Dev) (f : Field) (i : Nat) : Option Nat := d.runSlots.find? (d.names f i)

/-- The pairs a slot forwards, as receiving lanes: RXk for A to B, RX(k + 8) for B to A (R79). -/
def Dev.fwdSources (d : Dev) (s : Nat) : List Nat :=
  (List.range 16).filter fun r =>
    (if r < 8 then d.on 0x03 (F.ACT_AUX_fwd_ab.at s) else d.on 0x03 (F.ACT_AUX_fwd_ba.at s)) &&
      d.names F.ACT_LANES_rx r s && d.names F.ACT_LANES_tx ((r + 8) % 16) s

def Dev.forwards (d : Dev) (s : Nat) : Bool := d.on 0x03 (F.ACT_AUX_fwd_ab.at s) || d.on 0x03 (F.ACT_AUX_fwd_ba.at s)

/-- A RUNNING act forwards receiving lane `r`. -/
def Dev.forwarding (d : Dev) (r : Nat) : Bool := d.runSlots.any fun s => (d.fwdSources s).contains r

/-- GLB_MODE_STAT.active: 0 BYPASS, 1 EXERCISE, 2 IN-LINE. -/
def Dev.mode (d : Dev) : Nat := d.rd 0x00 F.GLB_MODE_STAT_active

end Sys2Proof.Machine
end

