-- ==== Sys2Proof/Machine/Queue.lean ====
section
/-! DEFINITION. The packet queues Q0 to Q7 (spec/11_scratchpad_and_queues.md, R323 to R330): pushes, pops, drops, resets,
flushes and the watermark. The producer's and the consumer's views agree in the model (assumption 22). -/
namespace Sys2Proof.Machine

def queuePage (q : Nat) : Nat := 0x78 + q / 2

/-- A field of queue `q`'s block. -/
def qf (q : Nat) (f : Field) : Field := f.at (q % 2)

/-- The banks a queue owns, in ascending order (R323). -/
def Dev.queueBanks (d : Dev) (q : Nat) : List Nat :=
  (List.range 64).filter fun b => d.rd (0x70 + b / 8) (F.SPB_OWN_owner.at (b % 8)) == 0x20 + q

/-- The capacity of a queue in entries (Table 11.3). -/
def Dev.queueCap (d : Dev) (q : Nat) : Nat :=
  if q < 4 then 16384 * (d.queueBanks q).length
  else if q = 5 then 4096 else if q = 6 then 256 else 1024

/-- The level rose from `before` (R328). -/
def Dev.watermark (d : Dev) (q before : Nat) : Dev :=
  let wm := d.rd (queuePage q) (qf q F.Q_WM_entries)
  if wm ≠ 0 ∧ before < wm ∧ wm ≤ (d.queue q).ready.length then
    (d.stat (queuePage q) 18).raiseIf (queuePage q) (qf q F.Q_WM_ev_en) (qf q F.Q_WM_ev)
  else d

/-- The entries of a packet, marked at both ends. -/
def packet (es : List (BitVec 512)) : List QEntry :=
  (List.range es.length).map fun i => ⟨i == 0, i + 1 == es.length, es.getD i 0⟩

/-- Entries free in the producer's view. -/
def Dev.queueFree (d : Dev) (q : Nat) : Nat := d.queueCap q - (d.queue q).ready.length

/-- SPB_PWR.state of a bank: 0 ON, 1 RET, 2 OFF, 3 TEST (R311). -/
def Dev.bankState (d : Dev) (b : Nat) : Nat := d.rd (0x70 + b / 8) (F.SPB_PWR_state.at (b % 8))
def Dev.setBankState (d : Dev) (b s : Nat) : Dev := d.wr (0x70 + b / 8) (F.SPB_PWR_state.at (b % 8)) s

/-- An access wakes a bank in RET (R311). -/
def Dev.bankTouch (d : Dev) (b : Nat) : Dev := if d.bankState b = 1 then d.setBankState b 0 else d

/-- A bank is kept ON from now on: it wakes, and a test of it ends (R313, R320). -/
def Dev.bankWake (d : Dev) (b : Nat) : Dev := if d.bankState b = 1 ∨ d.bankState b = 3 then d.setBankState b 0 else d

/-- An entry goes to its place in the queue's banks (R323). -/
def Dev.qStore (d : Dev) (q i : Nat) (e : BitVec 512) : Dev :=
  let bs := d.queueBanks q
  let b := bs.getD (i % bs.length) 0
  (d.setBank b { d.bank b with words := tabSet (fun _ => 0) (d.bank b).words (i / bs.length) e }).bankTouch b

/-- The producer writes entries behind the committed ones. -/
def Dev.qWrite (d : Dev) (q : Nat) (es : List (BitVec 512)) : Dev :=
  let s := d.queue q
  if 4 ≤ q then d
  else
    (List.range es.length).foldl
      (fun d j => d.qStore q ((s.rd + s.ready.length + j) % d.queueCap q) (es.getD j 0)) d

/-- A producer writes a packet and commits it (R324); none where it does not fit. Every bank of a queue that is not empty is ON
(R313). -/
def Dev.qPush (d : Dev) (q : Nat) (es : List (BitVec 512)) : Option Dev :=
  if d.queueFree q < es.length ∨ es = [] then none
  else
    let s := d.queue q
    let d := if q < 4 then (d.queueBanks q).foldl Dev.bankWake (d.qWrite q es) else d
    some ((d.setQueue q { s with ready := s.ready ++ packet es }).watermark q s.ready.length)

/-- The read pointer moves past the oldest `n` entries. -/
def Dev.qAdvance (d : Dev) (q n : Nat) : Dev :=
  let s := d.queue q
  d.setQueue q { ready := s.ready.drop n, rd := (s.rd + n) % d.queueCap q }

/-- The consumer takes the oldest entry, or meets an empty queue (R326). -/
def Dev.qPop (d : Dev) (q : Nat) : Option QEntry × Dev :=
  match (d.queue q).ready with
  | [] => (none, d.bump (queuePage q) (qf q F.Q_CNT_under))
  | e :: _ => (some e, d.qAdvance q 1)

/-- Entries up to and with the next eop leave. -/
def dropPacket (es : List QEntry) : List QEntry :=
  match es with
  | [] => []
  | e :: r => if e.eop then r else dropPacket r

/-- The number of entries of the packet at the head. -/
def headLen (es : List QEntry) : Nat := es.length - (dropPacket es).length

/-- The packet at the head leaves (R327). -/
def Dev.qDrop (d : Dev) (q : Nat) : Dev :=
  if (d.queue q).ready.isEmpty then d
  else (d.qAdvance q (headLen (d.queue q).ready)).bump (queuePage q) (qf q F.Q_CNT_drop)

/-- A packet is written and rewound: it is gone, and the rewind counts (R324). -/
def Dev.qRewind (d : Dev) (q : Nat) (es : List (BitVec 512)) : Dev :=
  (d.qWrite q (es.take (d.queueFree q))).bump (queuePage q) (qf q F.Q_CNT_drop)

/-- The queue holds nothing, and its pointers are reset. -/
def Dev.qReset (d : Dev) (q : Nat) : Dev := d.setQueue q Queue.init

def Dev.queueEmpty (d : Dev) (q : Nat) : Bool := (d.queue q).ready.isEmpty

end Sys2Proof.Machine
end

