-- ==== Sys2Proof/Machine/Midway.lean ====
section
/-! DEFINITION. One Midway cycle (spec/12_midway_event_fabric.md): raises merge on their channels, are counted, logged and
exported, pulse pins, evaluate LUT cells and reach the tasks that subscribe (R331 to R348). -/
namespace Sys2Proof.Machine

/-- One event on its channel in a Midway cycle (R332): the highest hop count of its raises and what was among them. -/
structure OnChannel where
  ch : Nat
  hops : Nat
  coinc : Bool
  fired : Bool
  ring : Bool
  deriving DecidableEq, Repr

/-- Whether a channel refuses software firing and ring import (R344). -/
def Dev.locked (d : Dev) (ch : Nat) : Bool := d.bit 0x81 (0x40 + 4 * (ch / 32)) (ch % 32)

/-- Whether a raise reaches its channel: none on EV000 (R331); a system channel only by its system source (R336); a locked
channel not by software or the ring (R344). -/
def Dev.admits (d : Dev) (r : Raise) : Bool :=
  r.ch != 0 &&
  match r.kind with
  | .system => true
  | .source => decide (r.ch.toNat < 240)
  | .fired | .ring => decide (r.ch.toNat < 240) && !d.locked r.ch.toNat

/-- Blocked raises are counted and reported (R336, R344); raises on EV000 vanish. -/
def Dev.countBlocked (d : Dev) (rs : List Raise) : Dev :=
  let n := (rs.filter fun r => r.ch != 0 && !d.admits r).length
  if n = 0 then d else (d.bump 0x80 F.MW_STAT_blocked n).stat 0x80 18

/-- Whether two raises come from one source (R18). Each write that fires a channel is a raise of its own. -/
def sameSource (a b : Raise) : Bool := a.kind == b.kind && a.src == b.src && a.kind != .fired

/-- The events that admitted raises form, one per channel, in channel order (R332). Raises of one source are one pulse, which is
no coincidence (R18). -/
def merge (rs : List Raise) : List OnChannel :=
  (List.range 256).filterMap fun ch =>
    match rs.filter (fun r => decide (r.ch.toNat = ch)) with
    | [] => none
    | x :: xs =>
      some ⟨ch, (x :: xs).foldl (fun m r => max m r.hops) 0, xs.any (fun r => !sameSource x r),
        (x :: xs).any (fun r => r.kind == .fired), (x :: xs).any (fun r => r.kind == .ring)⟩

/-- An event with hop count 7 is dropped at an input (R333). -/
def Dev.hopDrop (d : Dev) (ch cell : Nat) (task : Bool) : Dev :=
  let d := d.setBit 0x86 (0x60 + 4 * (ch / 32)) (ch % 32) true
  (((d.wr 0x80 F.MW_LOOPINFO_ch ch).wr 0x80 F.MW_LOOPINFO_cell cell).wr 0x80 F.MW_LOOPINFO_task task.toNat).stat 0x80 17

/-- The Q7 entry of an event (Table 12.4). -/
def logEntry (count : BitVec 48) (e : OnChannel) : BitVec 64 :=
  BitVec.ofNat 64
    (count.toNat % 2 ^ 40 + 2 ^ 40 * e.ch + 2 ^ 48 * e.hops + 2 ^ 51 * e.coinc.toNat + 2 ^ 52 * e.fired.toNat +
      2 ^ 53 * e.ring.toNat)

/-- An event joins the ones waiting for the next ring event frame (R346). -/
def Dev.ringExport (d : Dev) (e : OnChannel) : Dev :=
  if d.bit 0x80 (0xC0 + 4 * (e.ch / 32)) (e.ch % 32) && decide (e.hops < 7) then
    if d.mw.export_.any (fun (x : BitVec 8 × Nat) => x.1.toNat == e.ch) then
      let d := { d with mw := { d.mw with
        export_ := d.mw.export_.map fun (x : BitVec 8 × Nat) => if x.1.toNat = e.ch then (x.1, max x.2 e.hops) else x } }
      (d.bump 0x80 F.MW_STAT2_ring_merge).stat 0x80 21
    else { d with mw := { d.mw with export_ := d.mw.export_ ++ [(BitVec.ofNat 8 e.ch, e.hops)] } }
  else d

/-! ## LUT cells (R337, R338) -/

def cellPage (k : Nat) : Nat := 0x82 + k / 16

/-- The events a cell's enabled inputs take in this cycle, by input; a hop count of 7 takes none. -/
def Dev.cellIn (d : Dev) (k : Nat) (es : List OnChannel) (en ch : Field) : Option OnChannel :=
  if d.on (cellPage k) (en.at (k % 16)) then
    es.find? fun e => decide (e.ch = d.rd (cellPage k) (ch.at (k % 16)))
  else none

/-- A cell raises its output (R338). -/
def Dev.cellRaise (d : Dev) (k hops : Nat) : Dev :=
  (d.bump (cellPage k) (F.LUT_CNT.at (k % 16))).raiseAs .source (d.rd (cellPage k) (F.LUT_CFG_out_ev.at (k % 16)))
    (sourceOf (cellPage k) (F.LUT_CFG_out_ev.at (k % 16))) hops

/-- A filter suppresses an output (R338). -/
def Dev.cellSupp (d : Dev) (k : Nat) : Dev :=
  (d.bump (cellPage k) (F.LUT_STAT_supp.at (k % 16))).stat (cellPage k) 16

/-- F = 1 of a cell with out_en meets its filter (R338). -/
def Dev.cellFilter (d : Dev) (k hops : Nat) : Dev :=
  let p := cellPage k
  let hold := d.rd p (F.LUT_CFG_hold.at (k % 16))
  let c := d.cell k
  match d.rd p (F.LUT_CFG_filt.at (k % 16)) with
  | 0 => d.cellRaise k hops
  | 1 =>
    let held := match c.heldFrom with
      | none => false
      | some t => decide ((d.count - t).toNat ≤ hold)
    if held then d.cellSupp k else (d.setCell k { c with heldFrom := some d.count }).cellRaise k hops
  | 2 =>
    if d.on p (F.LUT_STAT_pend.at (k % 16)) then d.cellSupp k
    else (d.setCell k { c with delayHops := hops }).wr p (F.LUT_STAT_pend.at (k % 16)) 1
  | _ =>
    if c.seen + 1 ≥ hold then (d.setCell k { c with seen := 0 }).cellRaise k hops
    else (d.setCell k { c with seen := c.seen + 1 }).cellSupp k

/-- A cell takes the cycle's events (R333, R337). -/
def Dev.cellEval (d : Dev) (es : List OnChannel) (k : Nat) : Dev :=
  let p := cellPage k
  let a := d.cellIn k es F.LUT_IN_a_en F.LUT_IN_a
  let b := d.cellIn k es F.LUT_IN_b_en F.LUT_IN_b
  let c := d.cellIn k es F.LUT_IN_c_en F.LUT_IN_c
  let drop (d : Dev) (e : Option OnChannel) : Dev :=
    match e with
    | some e => if e.hops = 7 then d.hopDrop e.ch k false else d
    | none => d
  let d := drop (drop (drop d a) b) c
  let live (e : Option OnChannel) : Option OnChannel := e.filter fun e => decide (e.hops < 7)
  let ins := [live a, live b, live c]
  if ins.all Option.isNone then d
  else
    let q := d.rd p (F.LUT_STAT_q.at (k % 16))
    let i := (live a).isSome.toNat + 2 * (live b).isSome.toNat + 4 * (live c).isSome.toNat + 8 * q
    let hops := ins.foldl (fun m e => match e with | some e => max m e.hops | none => m) 0
    let f := (d.rd p (F.LUT_TT_out.at (k % 16))).testBit i
    let nq := (d.rd p (F.LUT_TT_next.at (k % 16))).testBit i
    let d := d.wr p (F.LUT_STAT_q.at (k % 16)) nq.toNat
    if f && d.on p (F.LUT_CFG_out_en.at (k % 16)) then d.cellFilter k (hops + 1) else d

/-! ## Deliveries to tasks (R334, Table 12.3); only in ARMED and SHOW (R348) -/

/-- A condition of a program entry names a channel, not a latch (chapter 4, COND). -/
def condIs (cond ch : Nat) : Bool := decide (cond < 256) && decide (cond = ch)

/-- The frequency in Hz of the domain in which a task input stands, where it can be below Midway's 1 GHz (Table 1.8). -/
def Dev.taskHz (d : Dev) (t : Task) : Option Nat :=
  match t with
  | .errInject n => some ((d.tx n).rate / 64)
  | .rxSwitch n => some ((d.rx n).rate / 64)
  | .calSync _ => some 500000000
  | .latch _ _ | .watch _ _ | .actStart _ | .trg _ _ => none

/-- A task input receives an activation; one that comes in the same cycle of a slower domain as the input's latest pulse is part
of it (R18, R332). The domains' cycles count from timebase count 0. Assumption 99, DEDUCED. -/
def Dev.give (d : Dev) (t : Task) : Dev :=
  let put (ps : List (Task × Nat)) : Dev := { d with mw := { d.mw with inbox := d.mw.inbox ++ [t], pulses := ps } }
  match d.taskHz t with
  | none => put d.mw.pulses
  | some hz =>
    let c := d.count.toNat * hz / 1000000000
    if (t, c) ∈ d.mw.pulses then d else put ((t, c) :: d.mw.pulses.filter fun x => x.1 != t)

/-- What a sequencer's inputs take from an event: latches, watches (the lowest slot of those that fire, R115), a WAIT, a
splice condition and the break conditions of its loops (R110). -/
def Dev.sqTakes (d : Dev) (ch n : Nat) : Dev :=
  let p := 0x40 + n
  let s := d.sq n
  let latch (d : Dev) (k : Nat) (f : Field) : Dev := if d.rd p f = ch then d.give (.latch n k) else d
  let d := latch (latch (latch (latch d 0 F.SQ_LATCH_SEL_ch0) 1 F.SQ_LATCH_SEL_ch1) 2 F.SQ_LATCH_SEL_ch2) 3
    F.SQ_LATCH_SEL_ch3
  let firing := (s.watches.filter fun w => condIs w.2.cond ch).map Prod.fst
  let extra := match s.landing with
    | some w => if condIs w.2.cond ch then 1 else 0
    | none => 0
  let d := match (List.range 4).find? (firing.contains ·) with
    | some slot => d.give (.watch n slot)
    | none => d
  let drops := firing.length - 1 + extra
  let d := if drops = 0 then d else (d.bump p F.SQ_COUNT_overrun drops).stat p 19
  let s := { s with
    frames := s.frames.map fun f => if f.fresh then f else { f with seen := f.seen ||| BitVec.twoPow 256 ch }
    wait := s.wait.map fun w =>
      if w.entry.extractLsb' 122 2 = 0 ∧ condIs (w.entry.extractLsb' 110 9).toNat ch then { w with arrived := true } else w
    bracket := s.bracket.map fun b =>
      match b.cond with
      | some c => if condIs c ch then { b with met := true } else b
      | none => b }
  d.setSq n s

/-- The inputs of a sequencer that subscribe to a channel: latches, watches, a watch that waits to land (R115), the break conditions of
its program while an iteration of a loop runs (R110), a WAIT and a splice condition. -/
def Dev.sqWants (d : Dev) (ch n : Nat) : Bool :=
  let p := 0x40 + n
  let s := d.sq n
  decide (d.rd p F.SQ_LATCH_SEL_ch0 = ch) || decide (d.rd p F.SQ_LATCH_SEL_ch1 = ch) ||
    decide (d.rd p F.SQ_LATCH_SEL_ch2 = ch) || decide (d.rd p F.SQ_LATCH_SEL_ch3 = ch) ||
    s.watches.any (fun w => condIs w.2.cond ch) ||
    (match s.landing with | some w => condIs w.2.cond ch | none => false) ||
    (s.frames.any fun f => !f.fresh) && (d.prog.any fun x =>
      decide (x.1 / 2048 = n) && x.2.extractLsb' 124 4 == 3 && x.2.extractLsb' 122 2 == 1 &&
        condIs (x.2.extractLsb' 112 9).toNat ch) ||
    (match s.wait with
      | some w => decide (w.entry.extractLsb' 122 2 = 0) && condIs (w.entry.extractLsb' 110 9).toNat ch
      | none => false) ||
    (match s.bracket with
      | some ⟨_, some c, _, _⟩ => condIs c ch
      | _ => false)

/-- The tasks outside the sequencers that subscribe to a channel. -/
def Dev.tasksOn (d : Dev) (ch : Nat) : List Task :=
  ((List.range 16).filterMap fun s =>
      if d.rd 0x03 { F.ACT_STAT_state with off := 0x300 + 4 * s } = 2 && d.rd 0x03 (F.ACT_W0_start.at s) = 2 &&
          d.rd 0x03 (F.ACT_START_HI_ev.at s) = ch then some (Task.actStart s) else none) ++
  ((List.range 16).filterMap fun n =>
      if d.rd (0x20 + n) F.TXL_ERR_CTRL_mode = 4 && d.rd (0x20 + n) F.TXL_ERR_EV_in_ev = ch then some (Task.errInject n)
      else none) ++
  ((List.range 16).filterMap fun n =>
      if d.on (0x30 + n) F.RXL_SWITCH_en && d.rd (0x30 + n) F.RXL_SWITCH_ev = ch then some (Task.rxSwitch n) else none) ++
  ((List.range 2).filterMap fun c =>
      if d.on (0x5B + 4 * c) F.TRG_CTRL_en &&
          (List.range 16).any (fun j => d.rd (0x5B + 4 * c) (F.TRG_EV_a_ev.at j) = ch ||
            d.rd (0x5B + 4 * c) (F.TRG_EV_b_ev.at j) = ch) then
        some (Task.trg c (BitVec.ofNat 8 ch))
      else none) ++
  ((List.range 4).filterMap fun k =>
      if d.on (0x88 + k) F.CAL_SYNC_en && d.rd (0x88 + k) F.CAL_SYNC_ev = ch then some (Task.calSync k) else none)

/-- A MARK_OUT pin pulses on an event (R342). -/
def Dev.markPin (d : Dev) (ch n : Nat) : Dev :=
  if d.on 0x80 (F.MW_MARK_en.at n) && d.rd 0x80 (F.MW_MARK_ev.at n) = ch then
    d.emit (.markPulse n d.now (d.rd 0x80 (F.MW_MARK_width.at n)))
  else d

/-- An event reaches the tasks, or is dropped at each of their inputs (R333, R334). -/
def Dev.deliver (d : Dev) (e : OnChannel) : Dev :=
  let sqs := (List.range 20).filter (d.sqWants e.ch)
  let pins := (List.range 8).filter fun n => d.on 0x80 (F.MW_MARK_en.at n) && d.rd 0x80 (F.MW_MARK_ev.at n) == e.ch
  if e.hops = 7 then
    if sqs.isEmpty && pins.isEmpty && (d.tasksOn e.ch).isEmpty then d else d.hopDrop e.ch 0 true
  else
    let d := (d.tasksOn e.ch).foldl Dev.give d
    let d := (List.range 20).foldl (fun d n => d.sqTakes e.ch n) d
    pins.foldl (fun d n => d.markPin e.ch n) d

/-- The domains of CS0 run, the count of the timebase and Midway among them: CS0 is on and in no band search (R179). -/
def Dev.timeRuns (d : Dev) : Bool := (d.syn 0).on && (d.syn 0).job != .search

/-! ## The cycle -/

/-- One event on its channel: counted, logged to Q7, exported (R345, R346). -/
def Dev.onChannel (d : Dev) (e : OnChannel) : Dev :=
  let d := d.bump 0x86 (F.MW_CNT.at e.ch)
  let d := if e.coinc then (d.setBit 0x86 (0x40 + 4 * (e.ch / 32)) (e.ch % 32) true).stat 0x80 16 else d
  let d :=
    if d.bit 0x80 (0xA0 + 4 * (e.ch / 32)) (e.ch % 32) then
      match d.qPush 7 [(logEntry d.count e).setWidth 512] with
      | some d => d
      | none => (d.bump 0x80 F.MW_STAT_log_lost).stat 0x80 19
    else d
  d.ringExport e

/-- Of the watches of a sequencer that fire in one cycle on several channels, the lowest slot's event stays; the others are dropped and
counted (R115). `before`: the deliveries that stood in the inbox when the cycle began. -/
def Dev.watchPick (before : Nat) (d : Dev) (n : Nat) : Dev :=
  let new := d.mw.inbox.drop before
  let slot (t : Task) : Option Nat := match t with | .watch q k => if q = n then some k else none | _ => none
  let fired := new.filterMap slot
  match (List.range 4).find? (fired.contains ·) with
  | none => d
  | some k =>
    if fired.length = 1 then d
    else
      let keep := new.filter fun t => match slot t with | some j => j == k | none => true
      let d := { d with mw := { d.mw with inbox := d.mw.inbox.take before ++ keep } }
      (d.bump (0x40 + n) F.SQ_COUNT_overrun (fired.length - 1)).stat (0x40 + n) 19

/-- One Midway cycle over the raises waiting and new ones (R331 to R348): system events first merge on their channels, then
the cells and, in ARMED and SHOW, the tasks take them. In DORMANT and before ready nothing is raised, nor on a page that is forced off
(assumption 24); while Midway's clock stands (R179) the raises wait.
Assumption 74, DEDUCED. -/
def Dev.midwayCycle (d : Dev) (new : List Raise) : Dev :=
  if !d.serving || !d.on 0x80 F.PAGE_CTRL_enable then d
  else if !d.timeRuns then { d with mw := { d.mw with wire := d.mw.wire ++ new } }
  else
    let rs := d.mw.wire ++ new
    let d := { d with mw := { d.mw with wire := [] } }
    let es := merge (rs.filter d.admits)
    let d := d.countBlocked rs
    let d := es.foldl Dev.onChannel d
    let d := (List.range 64).foldl (fun d k => d.cellEval es k) d
    if d.power = 3 ∨ d.power = 4 then
      (List.range 20).foldl (Dev.watchPick d.mw.inbox.length) (es.foldl Dev.deliver d)
    else d

/-- The first delivery that a test picks leaves the inbox; false where there is none. -/
def Dev.take (d : Dev) (f : Task → Bool) : Option (Task × Dev) :=
  match d.mw.inbox.find? f with
  | none => none
  | some t => some (t, { d with mw := { d.mw with inbox := d.mw.inbox.erase t } })

end Sys2Proof.Machine
end

