-- ==== Sys2Proof/Machine/Wave.lean ====
section
/-! DEFINITION. What a TX lane drives (spec/05_segments_tiles_and_hot_residency.md R139, R140; spec/07_transmit_lanes.md R200 to
R203, R210, R212 to R216): levels, the FFE, electrical idle and injected jitter. -/
namespace Sys2Proof.Machine

/-! ## The sine -/

/-- sin(x) for x in units of 2^-80 with 0 ≤ x ≤ π/2, in the same units (assumption 13). -/
def sinTaylor (x : Nat) : Int :=
  let one : Int := 2 ^ 80
  let y : Int := (x : Int)
  ((List.range 18).foldl
    (fun (st : Int × Int) (n : Nat) =>
      (st.1 + st.2, -(st.2 * y / one * y / one) / ((2 * (n : Int) + 2) * (2 * (n : Int) + 3)))) ((0 : Int), y)).1

/-- 2π in units of 2^-80. -/
def twoPi : Nat := 7595904947272677161575987

/-- sin(2π × t / turn) in units of 2^-80, for t below `turn`. -/
def sinTurn (turn t : Nat) : Int :=
  let half := t % (turn / 2)
  let q := if 4 * half ≤ turn then half else turn / 2 - half
  if t < turn / 2 then sinTaylor (twoPi * q / turn) else -(sinTaylor (twoPi * q / turn))

/-! ## Levels and the driver (R139, R140, R200, R203) -/

/-- The format in effect on a TX lane: true for PAM4. -/
def Dev.txPam (d : Dev) (n : Nat) : Bool := d.on (0x20 + n) F.TXL_STAT_fmt

/-- The level of a PAM4 index in 1/512 (R140, R204). -/
def Dev.pamLevel (d : Dev) (n i : Nat) : Int :=
  match i with
  | 0 => -512
  | 1 => d.rdS (0x20 + n) F.TXL_XPAM_LVL_lvl1
  | 2 => d.rdS (0x20 + n) F.TXL_XPAM_LVL_lvl2
  | _ => 512

/-- The level indices of a PAM4 bit stream, the lower bit of each first (R140, R217). -/
def pamIndices (bits : List Bool) : List Nat :=
  match bits with
  | a :: b :: r => (a.toNat + 2 * b.toNat) :: pamIndices r
  | _ => []

/-- The levels that a run of stream bits stands for, symbol 0 first, in 1/512 (R139, R140). -/
def Dev.levels (d : Dev) (n : Nat) (bits : List Bool) : List Int :=
  if d.txPam n then (pamIndices bits).map (d.pamLevel n) else bits.map fun b => if b then 512 else -512

/-- The FFE's weights in 1/256, c₋₂ first, of the profile of a format; the main tap is derived (R203, R206). -/
def Dev.taps (d : Dev) (n : Nat) (pam : Bool) : List Int :=
  let p := 0x20 + n
  let c (x y : Field) : Int := d.rdS p (if pam then y else x)
  let a := c F.TXL_XNRZ_TAP_pre2 F.TXL_XPAM_TAP_pre2
  let b := c F.TXL_XNRZ_TAP_pre1 F.TXL_XPAM_TAP_pre1
  let e := c F.TXL_XNRZ_TAP_post1 F.TXL_XPAM_TAP_post1
  let f := c F.TXL_XNRZ_TAP_post2 F.TXL_XPAM_TAP_post2
  [a, b, 256 - a.natAbs - b.natAbs - e.natAbs - f.natAbs, e, f]

/-- The amplitude code of the profile of a format (R202, R206). -/
def Dev.ampOf (d : Dev) (n : Nat) (pam : Bool) : Nat :=
  d.rd (0x20 + n) (if pam then F.TXL_XPAM_AMP_code else F.TXL_XNRZ_AMP_code)

/-- The common mode code of the profile of a format (R202, R206). -/
def Dev.cmOf (d : Dev) (n : Nat) (pam : Bool) : Nat := d.rd (0x20 + n) (if pam then F.TXL_XCM_pam else F.TXL_XCM_nrz)

/-- A symbol of a level enters the driver with the profile of the format in effect and the polarity as they are now: register writes
take effect at a lane-word boundary (R200, R201, R205). -/
def Dev.symbol (d : Dev) (n : Nat) (level : Int) : Sym :=
  let pam := d.txPam n
  ⟨level, d.taps n pam, d.ampOf n pam, d.on (0x20 + n) F.TXL_POL_invert, d.cmOf n pam⟩

/-- No symbol: what the FFE finds before the first symbol after electrical idle, and after the last one. Assumption 122, DESIGN
CHOICE. -/
def Sym.none : Sym := ⟨0, [], 0, false, 0⟩

/-- The output for the symbol two before the latest of a run of symbols, newest first: its common mode, and
y = (swing / 2) Σ c s in 1.25 mV / 2^18, negated where the outputs are swapped (R200, R203). -/
def ffe (window : List Sym) : Nat × Int :=
  let c := window.getD 2 Sym.none
  let y := (c.taps.zipWith (fun w s => w * s.level) window).foldl (· + ·) 0 * (c.amp : Int)
  (c.cm, if c.swap then -y else y)

/-- Symbols enter the driver; each output leaves once the two symbols that follow it are known (R203). -/
def ffeRun (hist : List Sym) (ss : List Sym) : List (Nat × Int) × List Sym :=
  ss.foldl
    (fun (ys, hist) s =>
      let window := s :: hist
      (if 2 ≤ hist.length then ys ++ [ffe window] else ys, window.take 4)) ([], hist)

/-! ## Injected jitter (R212 to R216) -/

/-- The generators of a lane stand still and no injected phase is left. -/
def Dev.jitterOff (d : Dev) (n : Nat) : Bool :=
  !d.on (0x20 + n) F.TXL_JIT_SJ_en && !d.on (0x20 + n) F.TXL_JIT_RJ_en && (d.tx n).shift == 0

/-- The phase at which the generators aim, in 10^-9 of 1/1024 UI (R212, R213). -/
def Dev.jitterGoal (d : Dev) (n : Nat) : Int :=
  let p := 0x20 + n
  let t := d.tx n
  let sine : Int :=
    if d.on p F.TXL_JIT_SJ_en then 1000000000 * (d.rd p F.TXL_JIT_SJ_amp : Int) * sinTurn (10 ^ 15) t.sine / 2 ^ 80 else 0
  let bound : Int := 7000000000 * (d.rd p F.TXL_JIT_RJ_rms : Int)
  let noise : Int :=
    if d.on p F.TXL_JIT_RJ_en then
      max (-bound) (min bound (Config.noise n t.noise (d.rd p F.TXL_JIT_RJ_rms) (d.rd p F.TXL_JIT_RJ_bw)))
    else 0
  sine + noise

/-- What is left of the slope budget for one 4 UI update, in 10^-9 of 1/1024 UI (R214): 5250 ppm less the interpolator offset and
less a phase move's step (R188). -/
def Dev.jitterBudget (d : Dev) (n : Nat) : Int :=
  4096 * (5250000 - (d.rdS (0x1B + n / 4) (F.LG_OFF.at (n % 4))).natAbs) - (if (d.tx n).phaseLeft = 0 then 0 else 1000000000)

/-- The sine's phase after `k` updates of 4 UI, in 10^-15 turn (R212). Assumption 101, DEDUCED. -/
def Dev.sineUpdates (d : Dev) (n k : Nat) : Nat :=
  ((d.tx n).sine + k * (4000000000000000000 * d.rd (0x20 + n) F.TXL_JIT_SJF_khz / max 1 (d.tx n).rate)) % 10 ^ 15

/-- One 4 UI update of the interpolator (R214): the injected phase goes to its goal, or towards it as far as the budget allows,
which counts as a clip. -/
def Dev.jitterStep (d : Dev) (n : Nat) : Dev :=
  let t := d.tx n
  let goal := d.jitterGoal n
  let most := max 0 (d.jitterBudget n)
  let t := { t with sine := d.sineUpdates n 1, noise := t.noise + 1 }
  if (goal - t.shift).natAbs ≤ most then d.setTx n { t with shift := goal }
  else
    ((d.setTx n { t with shift := if t.shift < goal then t.shift + most else t.shift - most }).bump (0x20 + n)
      F.TXL_JIT_STAT_clip).stat (0x20 + n) 17

/-- The updates among `k` symbols; answers the injected phase after each. With nothing to inject only the generators run on. -/
def Dev.jitterRun (d : Dev) (n k : Nat) : List Int × Dev :=
  let t := d.tx n
  let steps := (t.ui + k) / 4
  let d := d.setTx n { t with ui := (t.ui + k) % 4 }
  if d.jitterOff n then ([], d.setTx n { d.tx n with sine := d.sineUpdates n steps, noise := t.noise + steps })
  else
    (List.range steps).foldl (fun (js, d) _ => let d := d.jitterStep n; (js ++ [(d.tx n).shift], d)) ([], d)

/-! ## Symbols on the pins -/

/-- Symbols of the format in effect leave the driver (R200 to R203, R216). -/
def Dev.drive (d : Dev) (n : Nat) (ls : List Int) : Dev :=
  let (ys, hist) := ffeRun (d.tx n).hist (ls.map (d.symbol n))
  let (js, d) := d.jitterRun n ls.length
  let d := d.setTx n { d.tx n with hist := hist }
  if ys.isEmpty then d else d.emit (.lane n ys js)

/-- The last symbols leave at full amplitude (R210). -/
def Dev.driveOut (d : Dev) (n : Nat) : Dev :=
  let (ys, _) := ffeRun (d.tx n).hist [Sym.none, Sym.none]
  let d := d.setTx n { d.tx n with hist := [], half := none }
  if ys.isEmpty then d else d.emit (.lane n ys [])

/-- A TX lane is in electrical idle (R210), and stays so until an act or a WAIT ends it. -/
def Dev.txIdle (d : Dev) (n : Nat) : Dev :=
  let d := d.driveOut n
  (d.setTx n { d.tx n with exit := none, owed := false }).wr (0x20 + n) F.TXL_STAT_idle 1

end Sys2Proof.Machine
end

