-- ==== Sys2Proof/Machine/Net.lean ====
section
/-! DEFINITION. The Safety Net's paths and the condition of R2 (spec/16_cartridge_safety_net_and_ring.md R433 to R441,
R446): what the device commands, and what follows when the condition stops holding. -/
namespace Sys2Proof.Machine

/-- The TX lane of a path, and the path of a TX lane (Table 16.1). -/
def pathTx (k : Nat) : Nat := (k + 8) % 16

/-- The condition of R2 on the cartridge alone: VERIFIED, or UNVERIFIED with the override (R447). -/
def Dev.cartOk (d : Dev) : Bool :=
  d.rd 0x90 F.CART_STAT_vstate == 2 || (d.rd 0x90 F.CART_STAT_vstate == 3 && d.on 0x90 F.CART_OVR_en)

/-- The condition of R2 for a TX lane: the cartridge's, and its path not faulted (R439). -/
def Dev.r2 (d : Dev) (tx : Nat) : Bool := d.cartOk && !d.has 0x92 F.SN_FAULT_paths (pathTx tx)

/-- The path of a lane is confirmed in module position (R435). -/
def Dev.inModule (d : Dev) (k : Nat) : Bool := d.has 0x92 F.SN_POS_module k

/-- A TX lane may be driven (R9, R435): the condition of R2, EXERCISE or IN-LINE in effect, SHOW, a RUNNING act that names it, its
path in module position, a page that is not forced off (assumption 24), and nothing that idles it for the whole act (R184,
R446). -/
def Dev.mayDrive (d : Dev) (n : Nat) : Bool :=
  d.r2 n && d.mode != 0 && d.power == 4 && d.running F.ACT_LANES_tx n && d.inModule (pathTx n) &&
    d.on (0x20 + n) F.PAGE_CTRL_enable && !(d.tx n).lost && !(d.tx n).dead

/-- The time in ns that an exit from electrical idle takes: 24 ns and 8 lane words (R211). -/
def Dev.exitTime (d : Dev) (n : Nat) : Nat := 24 + (512000000000 + (d.tx n).rate - 1) / (d.tx n).rate

/-- A TX lane begins to leave electrical idle, if it may be driven (R211). -/
def Dev.txDrive (d : Dev) (n : Nat) : Dev :=
  if d.mayDrive n && d.on (0x20 + n) F.TXL_STAT_idle && (d.tx n).exit.isNone then
    d.setTx n { d.tx n with exit := some (d.exitTime n), owed := false }
  else d

/-- The exit from electrical idle ends: the lane drives (R211). -/
def Dev.txExited (d : Dev) (n : Nat) : Dev :=
  if (d.tx n).exit.isSome then (d.setTx n { d.tx n with exit := none }).wr (0x20 + n) F.TXL_STAT_idle 0 else d

/-- The lane drives symbols. -/
def Dev.txDriving (d : Dev) (n : Nat) : Bool := !d.on (0x20 + n) F.TXL_STAT_idle

/-- One path is commanded to a position; a faulted one stays in bypass (R439), and so does every one while a supply is outside its
window (R438). A path that leaves module position first puts its TX lane into electrical idle (R435). Assumption 78, DEDUCED. -/
def Dev.command (d : Dev) (k : Nat) (module : Bool) : Dev :=
  let module := module && !d.has 0x92 F.SN_FAULT_paths k && d.bill.supplyOut == 0
  if d.has 0x92 F.SN_CMD_module k = module then d
  else
    let d := d.fbit 0x92 F.SN_CMD_module k module
    let d := { d with net := { d.net with moving := withBit d.net.moving k true } }
    if module then d else (d.fbit 0x92 F.SN_POS_module k false).txIdle (pathTx k)

/-- An AWG channel is held at code 0: its sequencer faulted in the act, or WS0 lost lock (R354, R355). -/
def Dev.awgClamped (d : Dev) (k : Nat) : Bool :=
  d.on (0x88 + k) F.AWG_STAT_clk_fault || (d.running F.ACT_ENG_sq (16 + k) && d.rd (0x50 + k) F.SQ_STAT_state == 6)

/-- The conditions of R357 for a channel that is routed to a point, on a page that is not forced off (assumption 24). Point `p` is
the contact pair of TXp (R356), so the condition of R2 is that lane's. -/
def Dev.injects (d : Dev) (k p : Nat) : Bool :=
  d.on (0x88 + k) F.PAGE_CTRL_enable && d.on (0x88 + k) F.AWG_CFG_inj && d.rd (0x88 + k) F.AWG_CFG_inj_pt == p &&
    d.running F.ACT_ENG_aw k && d.mode != 0 && d.r2 p && !d.awgClamped k

/-- The injection switch of a point may be closed: a channel injects there (R357, R441). -/
def Dev.injectionOk (d : Dev) (p : Nat) : Bool := (List.range 4).any fun k => d.injects k p

/-- AWG_STAT follows the switches, the acts and the clamps; a switch that is held open in a RUNNING act sets inj_open, once for as
long as that lasts (R350, R357). -/
def Dev.showAwg (d : Dev) : Dev :=
  (List.range 4).foldl
    (fun d k =>
      let p := 0x88 + k
      let pt := d.rd p F.AWG_CFG_inj_pt
      let run := d.running F.ACT_ENG_aw k
      let open_ := d.on p F.AWG_CFG_inj && !d.injects k pt
      let was := (d.awg k).open_
      let d := d.wr p F.AWG_STAT_active (run && !d.awgClamped k).toNat
      let d := d.wr p F.AWG_STAT_inj_closed (d.on p F.AWG_CFG_inj && run && d.has 0x92 F.SN_INJ_closed pt).toNat
      let d := d.wr p F.AWG_STAT_inj_open open_.toNat
      let d := d.setAwg k { d.awg k with open_ := open_ && run }
      if open_ && run && !was then d.stat p 19 else d) d

/-- Injection switches whose channel no longer meets R357 open (R441, R446). -/
def Dev.openInjection (d : Dev) : Dev :=
  ((List.range 16).foldl
    (fun d p => if d.has 0x92 F.SN_INJ_closed p && !d.injectionOk p then d.fbit 0x92 F.SN_INJ_closed p false else d)
    d).showAwg

/-- The condition of R2 has stopped holding for some TX lanes: those that RUNNING acts name idle until the act ends
(R446). -/
def Dev.txLost (d : Dev) : Dev :=
  let lost := (List.range 16).filter fun n =>
    d.running F.ACT_LANES_tx n && !(d.tx n).lost && !d.r2 n
  let d := lost.foldl (fun d n => (d.setTx n { d.tx n with lost := true }).txIdle n) d
  let d := d.openInjection
  if lost.isEmpty then d else d.stat 0x90 19

/-- A change of the cartridge's presence, verification or life state (R445). -/
def Dev.cartChanged (d : Dev) : Dev := (d.stat 0x90 16).raiseSys 254

end Sys2Proof.Machine
end

