-- ==== Sys2Proof/Machine/Power.lean ====
section
/-! DEFINITION. Showbill's power and heat arithmetic (spec/03_power_states_and_showbill.md R82 to R84, R88): the
commitment of an act, the predicted case temperature and the cap. -/
namespace Sys2Proof.Machine

/-- How many members below `n` a field of a slot's descriptor names. -/
def Dev.namesCount (d : Dev) (f : Field) (n s : Nat) : Nat := (bitsOf n (d.rd 0x03 (f.at s))).length

/-- The sum of the coefficients of Table 3.7 over a slot's resources, in microwatts. -/
def Dev.actMicrowatts (d : Dev) (s : Nat) : Nat :=
  let mbd := d.rd 0x03 (F.ACT_RATE_rate_mbd.at s)
  d.namesCount F.ACT_LANES_tx 16 s * (200000 + 12 * mbd) +
  d.namesCount F.ACT_LANES_rx 16 s * (250000 + 10 * mbd) +
  1200000 * d.namesCount F.ACT_ENG_sq 20 s +
  7000000 * d.namesCount F.ACT_ENG_ce 2 s +
  2000000 * (d.rd 0x03 (F.ACT_AUX_fwd_ab.at s) + d.rd 0x03 (F.ACT_AUX_fwd_ba.at s)) +
  45000 * d.rd 0x03 (F.ACT_AUX_dm_gbs.at s) +
  4000000 * d.namesCount F.ACT_ENG_aw 4 s +
  400000 * d.namesCount F.ACT_AUX_sd 8 s

/-- P_act in 0.1 W, rounded up (R82). -/
def Dev.actPower (d : Dev) (s : Nat) : Nat := (d.actMicrowatts s + 99999) / 100000

/-- The synthesizers set in SB_ARM_SYNTH. -/
def Dev.armSynths (d : Dev) : List Nat :=
  (List.range 9).filter fun i => d.bit 0x02 0x048 i

/-- SB_PWR_COMMIT in 0.1 W: base, housekeeping reserve, armed synthesizers and live acts (R82). -/
def Dev.committed (d : Dev) : Nat :=
  240 + 60 + 4 * d.armSynths.length + (d.liveSlots.map d.actPower).foldl (· + ·) 0

/-- SB_PWR_COMMIT shows the present commitment. -/
def Dev.commitPower (d : Dev) : Dev := d.wr 0x02 F.SB_PWR_COMMIT d.committed

/-- e^(-a/b) in units of 2^-60: the Taylor sum of e^(-a/64b), squared six times (assumption 12). -/
def expNeg (a b : Nat) : Nat :=
  if 64 * b ≤ a then 0
  else
    let one : Int := 2 ^ 60
    let y : Int := ((2 ^ 60 * a / (64 * b) : Nat) : Int)
    let sum := (List.range 24).foldl
      (fun (st : Int × Int) (n : Nat) => let t := -(st.2 * y) / one / ((n : Int) + 1); (st.1 + t, t)) (one, one)
    ((List.range 6).foldl (fun v _ => v * v / one) sum.1).toNat

/-- T_C in 10^-4 °C. -/
def Dev.caseTemp (d : Dev) : Int := signed 16 (d.rd 0x05 F.THERM_TC) * 625

/-- The temperature scale of a prediction: 10^-4 °C times 2^40. -/
def tempScale : Int := 2 ^ 40

/-- The rise of R83 at power `p` (0.1 W) in steady state, in 10^-4 °C; 0 if negative. -/
def Dev.rise (d : Dev) (p : Nat) : Nat := d.rd 0x05 F.THERM_THETA * (p - d.rd 0x02 F.SB_PWR_NOW)

/-- T_peak of R83 at power `p` (0.1 W) for a duration in µs (0 open-ended), in 10^-4 °C times 2^40. -/
def Dev.predict (d : Dev) (p dur : Nat) : Int :=
  let factor : Nat := if dur = 0 then 2 ^ 40 else 2 ^ 40 - expNeg dur (1000 * d.rd 0x05 F.THERM_TAU) / 2 ^ 20
  d.caseTemp * tempScale + ((d.rise p * factor : Nat) : Int)

/-- A prediction rounded up to a whole degree (R84). -/
def wholeUp (t : Int) : Int := -((-t) / (10000 * tempScale))

/-- T_peak is above 125 °C, or the power (0.1 W) is above the cap of Table 3.8. -/
def tooHot (t : Int) (p : Nat) : Bool :=
  decide (t > 1250000 * tempScale) || decide ((p : Int) > 1500) ||
    (decide (t > 1050000 * tempScale) &&
      -- p > 1500 - 60 (T - 105), in 0.1 W
      decide ((p : Int) * 10000 * tempScale > 15000000 * tempScale - 60 * (t - 1050000 * tempScale)))

/-- The band of the present T_C (THERM_STAT.band): 0 cold, 1 full, 2 derated, 3 above 125 °C. -/
def bandOf (t : Int) : Nat :=
  if t < -400000 then 0 else if t ≤ 1050000 then 1 else if t ≤ 1250000 then 2 else 3

/-! ## Page rates of lanes (R207, R225) -/

/-- The rate of a TX lane's page in Bd: the basic field in kBd, or the expert one in 16 Bd (R203). -/
def Dev.txPageRate (d : Dev) (n : Nat) : Nat :=
  if d.on (0x20 + n) F.PAGE_CTRL_level then 16 * d.rd (0x20 + n) F.TXL_XRATE else 1000 * d.rd (0x20 + n) F.TXL_CFG_rate_kbd

/-- The format of a TX lane's page: true for PAM4. -/
def Dev.txPageFmt (d : Dev) (n : Nat) : Bool :=
  if d.on (0x20 + n) F.PAGE_CTRL_level then d.on (0x20 + n) F.TXL_XFMT_fmt else d.on (0x20 + n) F.TXL_CFG_fmt

/-- The rate of profile `p` of an RX lane's page in Bd. -/
def Dev.rxPageRate (d : Dev) (n : Nat) (alt : Bool) : Nat :=
  if d.on (0x30 + n) F.PAGE_CTRL_level then 16 * d.rd (0x30 + n) (if alt then F.RXL_XALT else F.RXL_XRATE)
  else 1000 * d.rd (0x30 + n) (if alt then F.RXL_ALT_rate_kbd else F.RXL_CFG_rate_kbd)

/-- The format of profile `p` of an RX lane's page: true for PAM4. -/
def Dev.rxPageFmt (d : Dev) (n : Nat) (alt : Bool) : Bool :=
  if d.on (0x30 + n) F.PAGE_CTRL_level then d.on (0x30 + n) (if alt then F.RXL_XFMT_alt else F.RXL_XFMT_fmt)
  else d.on (0x30 + n) (if alt then F.RXL_ALT_fmt else F.RXL_CFG_fmt)

end Sys2Proof.Machine
end

