-- ==== Sys2Proof/Machine/Synth.lean ====
section
/-! DEFINITION. Synthesizers, lane groups and the reference (spec/06_synthesizers_and_rate_changes.md): tunings, starts
and retunes, which synthesizer serves a lane, the interpolator offset. Synthesizers are numbered CS0, CS1, MS0 to MS3,
LS0 to LS7, WS0 as 0 to 14. -/
namespace Sys2Proof.Machine

/-- The page and the block index of a synthesizer (Table 6.9). -/
def synPage (i : Nat) : Nat := if i < 6 then 0x19 else if i < 14 then 0x1B + (i - 6) / 2 else 0x1A
def synIndex (i : Nat) : Nat := if i < 6 then i else if i < 14 then (i - 6) % 2 else 0

def Dev.synRd (d : Dev) (i : Nat) (f : Field) : Nat := d.rd (synPage i) (f.at (synIndex i))
def Dev.synOn (d : Dev) (i : Nat) (f : Field) : Bool := d.synRd i f != 0
def Dev.synWr (d : Dev) (i : Nat) (f : Field) (v : Nat) : Dev := d.wr (synPage i) (f.at (synIndex i)) v

/-- The synthesizer's bit of CLK_LOCK (Table 3.10). -/
def lockBit (i : Nat) : Nat := if i < 2 then i else if i < 6 then i + 8 else if i < 14 then i - 4 else 14

/-- The page has its expert level selected. -/
def Dev.expert (d : Dev) (p : Nat) : Bool := d.on p F.PAGE_CTRL_level

/-- A tuning's VCO frequency in units of f_loop / 2^32. -/
def Tune.vco (t : Tune) : Nat := 2 ^ 32 * t.n + t.frac

/-- A fraction rounded to the nearest integer. -/
def nearest (a b : Nat) : Nat := (2 * a + b) / (2 * b)

/-- A tuning at `a / b` times f_loop. -/
def tuneAt (c a b : Nat) : Tune :=
  let v := nearest (2 ^ 32 * a) b
  ⟨v / 2 ^ 32, c, v % 2 ^ 32⟩

/-- The smallest c for which (r / 2) 2^c reaches 14 GHz, r in Bd (R166). -/
def laneDivider (bd : Nat) : Nat :=
  ((List.range 6).find? fun c => decide (28000000000 ≤ 2 ^ c * bd)).getD 5

/-- The derived tuning of a lane synthesizer for a rate in Bd (R166). -/
def laneTune (bd : Nat) : Tune := tuneAt (laneDivider bd) (2 ^ laneDivider bd * bd) 200000000

/-- The reference divider of the CS loops for a reference in kHz: the smallest that divides it to 100 MHz or less (R171).
Assumption 51, DESIGN CHOICE. -/
def csDivider (khz : Nat) : Nat := max 1 ((khz + 99999) / 100000)

/-- The tuning of the CS loops for a reference in kHz: 10 GHz from the divided reference (R171). -/
def csTune (khz : Nat) : Tune := tuneAt 0 (10000000 * csDivider khz) khz

/-- The derived tuning of WS0 for a trim in 0.001 ppm (R166, R187 table 6.1): 16 GHz trimmed. -/
def wsTune (trim : Int) : Tune := tuneAt 0 (16000000000 + 16 * trim).toNat 100000000

/-- The tuning of a memory synthesizer for a pin rate code: 0 for 3.2 Gb/s, 1 for 4.8 Gb/s, 2 for 6.4 Gb/s (Table 6.1). -/
def memTune (rate : Nat) : Tune :=
  if rate = 1 then ⟨96, 2, 0⟩ else if rate = 0 then ⟨128, 3, 0⟩ else ⟨128, 2, 0⟩

/-- The tuning in effect or being moved to. -/
def Dev.tune (d : Dev) (i : Nat) : Tune :=
  match (d.syn i).tune with
  | some t => t
  | none => let w := synIntReset (synPage i) (0x100 + 32 * synIndex i); ⟨w.toNat % 1024, w.toNat / 65536, 0⟩

/-- Lane `k` of group `g` and the synthesizers of the group (Table 6.4). -/
def groupPage (lane : Nat) : Nat := 0x1B + lane / 4
def laneSynth (lane : Nat) (odd : Bool) : Nat := 6 + 2 * (lane / 4) + odd.toNat

/-- The rate a lane synthesizer gives, as a ratio in Bd: numerator and denominator. -/
def Tune.rate (t : Tune) : Nat × Nat := (200000000 * t.vco, 2 ^ 32 * 2 ^ t.c)

def Dev.synRate (d : Dev) (i : Nat) : Nat × Nat := (d.tune i).rate

/-- The tuning that a page's basic fields give: LG_RATE or WS_TRIM (R166). -/
def Dev.basicTune (d : Dev) (i : Nat) : Tune :=
  if i < 14 then laneTune (1000 * d.rd (synPage i) (if (i - 6) % 2 = 0 then F.LG_RATE0_kbd else F.LG_RATE1_kbd))
  else wsTune (d.rdS 0x1A F.WS_TRIM_trim)

/-- The tuning at which the page's settings run a synthesizer (R166, R196): the basic one at basic level; at expert level
the values last applied. -/
def Dev.homeTune (d : Dev) (i : Nat) : Tune :=
  if d.expert (synPage i) then (d.syn i).applied.getD (d.basicTune i) else d.basicTune i

/-- The SYN fields read a tuning (R198). -/
def Dev.showTune (d : Dev) (i : Nat) (t : Tune) : Dev :=
  ((d.synWr i F.SYN_INT_n t.n).synWr i F.SYN_INT_odiv t.c).synWr i F.SYN_FRAC t.frac

/-- Whether a lane synthesizer or WS0 skips the band search (R169): SYN_BAND.force was 1 when SYN_APPLY last applied it. -/
def Dev.forced (d : Dev) (i : Nat) : Bool := decide (6 ≤ i) && (d.syn i).band.isSome

/-- Whether a retune is a small step (R168): the VCO moves by at most 2000 ppm and c stays; only a locked loop follows. -/
def smallStep (old new : Tune) : Bool :=
  decide (old.c = new.c) &&
    decide ((if new.vco < old.vco then old.vco - new.vco else new.vco - old.vco) * 500 ≤ old.vco)

/-- A synthesizer's locked bit, on its block and in CLK_LOCK (R167). -/
def Dev.setLocked (d : Dev) (i : Nat) (b : Bool) : Dev :=
  (d.synWr i F.SYN_STAT_locked b.toNat).setBit 0x01 0x048 (lockBit i) b

def Dev.synLocked (d : Dev) (i : Nat) : Bool := d.synOn i F.SYN_STAT_locked

/-- Steps 1 to 5 of R167 begin: the loop is on, its VCO gated, and a search runs unless a band is forced. -/
def Dev.synSearch (d : Dev) (i : Nat) : Dev :=
  let d := d.setSyn i { d.syn i with on := true, job := .search }
  ((d.setLocked i false).synWr i F.SYN_STAT_search (!d.forced i).toNat).synWr i F.SYN_STAT_aligned 0

/-- A start from off; a loop that runs already stays (R74, R190), and one of a page that is forced off (assumption 24). -/
def Dev.synStart (d : Dev) (i : Nat) : Dev :=
  if (d.syn i).on || (decide (6 ≤ i) && !d.on (synPage i) F.PAGE_CTRL_enable) then d else d.synSearch i

/-- SB_HK_STAT.running shows whether the recalibration of some synthesizer runs (R89). -/
def Dev.showRecal (d : Dev) : Dev :=
  d.fbit 0x02 F.SB_HK_STAT_running 2 ((List.range 9).any fun j => d.synOn (6 + j) F.SYN_STAT_recal)

/-- The recalibration of a synthesizer ends (R89, R190). -/
def Dev.endRecal (d : Dev) (i : Nat) : Dev :=
  if d.synOn i F.SYN_STAT_recal then (d.synWr i F.SYN_STAT_recal 0).showRecal else d

/-- The rate in effect of a lane synthesizer, in LG_NOW. -/
def Dev.showRate (d : Dev) (i : Nat) : Dev :=
  if 6 ≤ i ∧ i < 14 then
    let r := (d.tune i).rate
    d.wr (synPage i) (if (i - 6) % 2 = 0 then F.LG_NOW0_kbd else F.LG_NOW1_kbd) (nearest r.1 (1000 * r.2))
  else d

/-- A retune to a tuning (R167, R168), in place of a return to the page's rate that was still to come: nothing to do at the same tuning while locked; a small step keeps lock; otherwise a
search. An idle loop that is off takes the tuning at its start. -/
def Dev.retune (d : Dev) (i : Nat) (t : Tune) : Dev :=
  let old := d.tune i
  let s := d.syn i
  let d := (d.setSyn i { s with tune := some t, restore := false }).showTune i t
  if !s.on then d
  else if old = t && (d.synLocked i || s.job != .idle) then d
  else if d.synLocked i && smallStep old t then d.setSyn i { d.syn i with job := .smallStep }
  else d.synSearch i

/-- The loop goes off; one that was to return to its page's rate takes that tuning (R196). -/
def Dev.synStop (d : Dev) (i : Nat) : Dev :=
  let back := (d.syn i).restore
  let d := d.setSyn i { d.syn i with on := false, job := .idle, restore := false }
  let d := (((d.setLocked i false).synWr i F.SYN_STAT_search 0).synWr i F.SYN_STAT_aligned 0).endRecal i
  if back then d.retune i (d.homeTune i) else d

/-- The nominal frequency of a reference source in kHz (Table 6.3; the ring recovered clock is 156.25 MHz, chapter 16). -/
def Dev.refKhz (d : Dev) (src : Nat) : Nat := if src = 1 then d.rd 0x18 F.REF_IN_KHZ_khz else if src = 2 then 156250 else 100000

/-- A start or retune ends in lock (step 5 of R167). A loop reference gives 4000 counts per MHz in 4 µs: 400 at 100 MHz.
The count is open where the divided reference of a CS loop does not give a whole number. Assumption 50, DEDUCED. -/
def Dev.synLock (d : Dev) (i : Nat) (band : Nat) : Dev :=
  let s := d.syn i
  let d := if s.job = .search then d.synWr i F.SYN_BAND_found (s.band.getD band) else d
  let khz := if i < 2 then d.refKhz (d.rd 0x18 F.REF_STAT_active) else 100000
  let r := 1000 * csDivider khz
  let (count, d) := if 4 * khz % r = 0 then (4 * khz / r, d) else (let (w, d) := d.fresh; (w.toNat % 65536, d))
  let d := (d.synWr i F.SYN_COUNT_got count).synWr i F.SYN_COUNT_expect count
  let d := d.setSyn i { d.syn i with job := .idle }
  (((d.setLocked i true).synWr i F.SYN_STAT_search 0).synWr i F.SYN_STAT_fault 0).showRate i

/-- Lock is lost, or not reached, other than by a requested retune: fault, and unlock on the page (R169, Table 6.8); a loop that was to
return to its page's rate does so now (R196). -/
def Dev.synFault (d : Dev) (i : Nat) : Dev :=
  let d := d.setSyn i { d.syn i with job := .idle }
  let d := (((d.setLocked i false).synWr i F.SYN_STAT_search 0).synWr i F.SYN_STAT_aligned 0).synWr i F.SYN_STAT_fault 1
  let d := if (d.syn i).restore then d.retune i (d.homeTune i) else d
  if 6 ≤ i then d.stat (synPage i) 18 else d

/-- The arm bit of a lane or AWG synthesizer is set, and its loop starts (R190 step 1, R82). -/
def Dev.armSynth (d : Dev) (i : Nat) : Dev :=
  if d.bit 0x02 0x048 (i - 6) then d.synStart i
  else ((d.setBit 0x02 0x048 (i - 6) true).commitPower).synStart i

/-! ## Lanes and their synthesizers -/

/-- The synthesizer a lane now runs on. -/
def Dev.servingSynth (d : Dev) (lane : Nat) : Nat :=
  laneSynth lane (d.has (groupPage lane) F.LG_STAT_serve (lane % 4))

/-- The group's other synthesizer. -/
def Dev.other (d : Dev) (lane : Nat) : Nat :=
  laneSynth lane (!d.has (groupPage lane) F.LG_STAT_serve (lane % 4))

/-- A synthesizer serves a lane (R183): one of an ADMITTED or RUNNING act that runs on it, or one whose pending handoff
targets it. -/
def Dev.serves (d : Dev) (i : Nat) : Bool :=
  decide (6 ≤ i ∧ i < 14) &&
    (List.range 4).any fun k =>
      let lane := (i - 6) / 2 * 4 + k
      d.live F.ACT_LANES_tx lane &&
        (d.servingSynth lane == i || (match (d.tx lane).handoff with | some h => h.syn == i | none => false))

/-- Some act names an AWG channel and is ADMITTED or RUNNING. -/
def Dev.awgLive (d : Dev) : Bool := (List.range 4).any (d.live F.ACT_ENG_aw)

/-- A RUNNING act plays on a lane synthesizer or on WS0 (Table 3.9). -/
def Dev.playsOn (d : Dev) (i : Nat) : Bool :=
  if i = 14 then (List.range 4).any (d.running F.ACT_ENG_aw)
  else
    decide (6 ≤ i ∧ i < 14) &&
      (List.range 4).any fun k =>
        let lane := (i - 6) / 2 * 4 + k
        d.running F.ACT_LANES_tx lane &&
          (d.servingSynth lane == i || (match (d.tx lane).handoff with | some h => h.syn == i | none => false))

/-- A lane's interpolator offset in 0.001 ppm. -/
def Dev.laneOff (d : Dev) (lane : Nat) : Int := d.rdS (groupPage lane) (F.LG_OFF.at (lane % 4))

/-- LG_STAT.moving shows a phase move or an offset ramp in progress. -/
def Dev.showMoving (d : Dev) (lane : Nat) : Dev :=
  let t := d.tx lane
  d.fbit (groupPage lane) F.LG_STAT_moving (lane % 4) (t.target.isSome || t.phaseLeft != 0)

/-- A lane's interpolator offset steps, and any ramp ends (R186, R192). -/
def Dev.setOff (d : Dev) (lane : Nat) (o : Int) : Dev :=
  ((d.wr (groupPage lane) (F.LG_OFF.at (lane % 4)) (unsigned 24 o)).setTx lane { d.tx lane with target := none }).showMoving lane

/-- The offset, in 0.001 ppm to the nearest, that brings rate `num / den` to `rate` Bd (assumption 40). -/
def offsetTo (num den rate : Nat) : Int :=
  (2 * ((rate : Int) * den - num) * 1000000000 + num) / (2 * num)

/-- An offset lies within ±5000 ppm (R185), exactly. -/
def offsetOk (num den rate : Nat) : Bool :=
  decide (((rate : Int) * den - num).natAbs * 200 ≤ num)

/-- The rate of a lane whose synthesizer gives `num / den` and whose offset is `o`, in Bd to the nearest. -/
def rateAt (num den : Nat) (o : Int) : Nat := nearest (num * (1000000000 + o).toNat) (1000000000 * den)

/-- The rate of a lane follows its serving synthesizer and its offset (R185). -/
def Dev.followRate (d : Dev) (lane : Nat) : Dev :=
  let (num, den) := d.synRate (d.servingSynth lane)
  d.setTx lane { d.tx lane with rate := rateAt num den (d.laneOff lane) }

/-- LG_SLEW.slewk of a lane, in ppm per µs. -/
def Dev.laneSlew (d : Dev) (lane : Nat) : Nat :=
  d.rd (groupPage lane)
    (match lane % 4 with | 0 => F.LG_SLEW_slew0 | 1 => F.LG_SLEW_slew1 | 2 => F.LG_SLEW_slew2 | _ => F.LG_SLEW_slew3)

/-- A new offset of a lane (R186): a step with no slew, else a ramp from the present offset. -/
def Dev.aimOff (d : Dev) (lane : Nat) (o : Int) : Dev :=
  if d.laneSlew lane = 0 || o == d.laneOff lane then (d.setOff lane o).followRate lane
  else (d.setTx lane { d.tx lane with target := some o }).showMoving lane

/-- A ramp goes on for `n` ns: `m` ppm per µs is `m` steps of 0.001 ppm per ns (R186). A slew that software sets to 0 during
the ramp ends it at its target. -/
def Dev.ramp (d : Dev) (lane n : Nat) : Dev :=
  match (d.tx lane).target with
  | none => d
  | some t =>
    let o := d.laneOff lane
    let m := d.laneSlew lane * n
    if d.laneSlew lane = 0 ∨ (t - o).natAbs ≤ m then (d.setOff lane t).followRate lane
    else (d.wr (groupPage lane) (F.LG_OFF.at (lane % 4)) (unsigned 24 (if o < t then o + m else o - m))).followRate lane

/-- A phase move goes on for `n` ns, at one step per 4 UI (R188). -/
def Dev.phaseMove (d : Dev) (lane n : Nat) : Dev :=
  let t := d.tx lane
  if t.phaseLeft = 0 then d
  else
    let total := t.phaseFrac + n * t.rate
    let k : Int := ((min (total / 4000000000) t.phaseLeft.natAbs : Nat) : Int) * t.phaseLeft.sign
    let left := t.phaseLeft - k
    (d.setTx lane { t with
      moves := t.moves + k, phaseLeft := left, phaseFrac := if left = 0 then 0 else total % 4000000000 }).showMoving lane

/-- The synthesizer on which a lane would start now (R184): the one that LG_SEL selects, or the other one where that alone is
locked. -/
def Dev.startSynth (d : Dev) (lane : Nat) : Nat :=
  let sel := d.has (groupPage lane) F.LG_SEL_sel (lane % 4)
  laneSynth lane (if !d.synLocked (laneSynth lane sel) && d.synLocked (laneSynth lane !sel) then !sel else sel)

/-- The TX lane of an act is served at its rate at the act's start (R184): false where it stays in electrical idle for the whole act.
Assumption 53, DEDUCED. -/
def Dev.serveLane (d : Dev) (lane rate : Nat) : Bool × Dev :=
  let p := groupPage lane
  let sel := d.has p F.LG_SEL_sel (lane % 4)
  let pick := if d.synLocked (laneSynth lane sel) then some sel else if d.synLocked (laneSynth lane (!sel)) then some (!sel) else none
  match pick with
  | none => (false, d.stat p 17)
  | some odd =>
    let d := d.fbit p F.LG_STAT_serve (lane % 4) odd
    let (num, den) := d.synRate (laneSynth lane odd)
    if offsetOk num den rate then (true, d.setOff lane (offsetTo num den rate)) else (false, d.stat p 17)

/-- A handoff is abandoned before its switch (R195): the target runs on to lock and keeps its rate. -/
def Dev.abandonHandoff (d : Dev) (lane : Nat) : Dev :=
  match (d.tx lane).handoff with
  | none => d
  | some _ =>
    let p := groupPage lane
    let d := d.setTx lane { d.tx lane with handoff := none }
    ((d.fbit p F.LG_STAT_pending (lane % 4) false).fbit p F.LG_STAT_ready (lane % 4) false).stat p 20

/-- A synthesizer on which no RUNNING act plays returns to its page's rate (R196); one that is still starting, searching or retuning
runs on to lock first (R195). -/
def Dev.goHome (d : Dev) (i : Nat) : Dev :=
  if d.playsOn i then d
  else if (d.syn i).on && (d.syn i).job != .idle then d.setSyn i { d.syn i with restore := true }
  else d.retune i (d.homeTune i)

/-- The restore at the end of an act (R100, R196): each lane returns to the synthesizer that LG_SEL selects, with no offset,
and the synthesizers of its group to their pages' rates. -/
def Dev.restoreLane (d : Dev) (lane : Nat) : Dev :=
  let p := groupPage lane
  let d := (d.fbit p F.LG_STAT_serve (lane % 4) (d.has p F.LG_SEL_sel (lane % 4))).setOff lane 0
  (d.goHome (laneSynth lane false)).goHome (laneSynth lane true)

/-- The SYNTH check of R124 for a handoff of a lane: the other synthesizer serves no lane, or only lanes of the same act that
hand off to it at the same rate and format (R193). -/
def Dev.synthFree (d : Dev) (lane bd : Nat) (pam : Bool) : Bool :=
  let b := d.other lane
  (List.range 4).all fun k =>
    let l := lane / 4 * 4 + k
    l == lane || !d.live F.ACT_LANES_tx l ||
      (match (d.tx l).handoff with
       | some h => h.syn != b && d.servingSynth l != b ||
          h.syn == b && h.rate == bd && h.pam == pam && (d.slotOf F.ACT_LANES_tx l == d.slotOf F.ACT_LANES_tx lane)
       | none => d.servingSynth l != b)

/-- A handoff of a lane to the other synthesizer begins (R190 steps 1 to 3; a join where another lane's handoff already
targets it, R193). -/
def Dev.beginHandoff (d : Dev) (lane bd : Nat) (pam : Bool) (plays : Nat) : Dev :=
  let b := d.other lane
  let p := groupPage lane
  let d := d.setTx lane { d.tx lane with handoff := some ⟨b, bd, pam, plays, false⟩ }
  let d := (d.fbit p F.LG_STAT_pending (lane % 4) true).fbit p F.LG_STAT_ready (lane % 4) false
  ((d.endRecal b).retune b (laneTune bd)).armSynth b

/-! ## Writes to the synthesizer pages -/

/-- A page's basic setting of a lane synthesizer or of WS0 changes its tuning (R166, R197). -/
def Dev.homeRetune (d : Dev) (i : Nat) : Dev := d.retune i (d.homeTune i)

/-- SYN_APPLY.go: the staged expert values, the forced band among them, apply as one retune (R198). -/
def Dev.synApplyGo (d : Dev) (i : Nat) : Dev :=
  let t : Tune := ⟨d.synRd i F.SYN_INT_n, d.synRd i F.SYN_INT_odiv, d.synRd i F.SYN_FRAC⟩
  let band := if d.synOn i F.SYN_BAND_force then some (d.synRd i F.SYN_BAND_band) else none
  (d.setSyn i { d.syn i with applied := some t, band := band }).retune i t

/-- A synthesizer's page is back at basic level (R35, R198): nothing is staged or forced any more. -/
def Dev.synBasic (d : Dev) (i : Nat) : Dev :=
  let d := d.setSyn i { d.syn i with applied := none, band := none }
  ((d.synWr i F.SYN_BAND_band 0).synWr i F.SYN_BAND_force 0).homeRetune i

/-- Phase steps of a synthesizer add up (R181). Assumption 52, DEDUCED. -/
def Dev.synStep (d : Dev) (i : Nat) (n : Int) : Dev := d.setSyn i { d.syn i with steps := (d.syn i).steps + n }

/-- Phase steps of a reference output add up; only a source of a divided VCO has them (R181, Table 6.7). -/
def Dev.refoutStep (d : Dev) (n : Nat) (s : Int) : Dev :=
  if 3 ≤ d.rd 0x18 (F.REFOUT_src.at n) then
    let v := tabGet (fun _ => (0 : Int)) d.refs.refoutSteps n + s
    { d with refs := { d.refs with refoutSteps := tabSet (fun _ => (0 : Int)) d.refs.refoutSteps n v } }
  else d

/-- The frequency of a reference output is allowed (R182): at most 1 GHz, or 200 MHz in LVCMOS; `w` is the word to be
written. The LS VCO is the one now in effect. -/
def Dev.refoutOk (d : Dev) (w : Word) : Bool :=
  let src := F.REFOUT_src.get w
  let limit := if F.REFOUT_fmt.get w = 2 then 200000 else 1000000
  let div := F.REFOUT_div.get w
  if src = 1 then decide (d.refKhz (d.rd 0x18 F.REF_SEL_src) ≤ limit)
  else if src = 2 then decide (100000 ≤ limit)
  else if src = 3 then decide (10000000 ≤ limit * div)
  else if src = 4 then decide (100000 * (d.tune (6 + F.REFOUT_ls.get w)).vco ≤ 2 ^ 32 * (limit * div))
  else true

/-- The CS loops close on a source with build-out, at the divider and n that its nominal frequency asks for (R171, R174,
R177). -/
def Dev.closeLoops (d : Dev) (src : Nat) (offset : Word) : Dev :=
  let d := d.wr 0x18 F.REF_BUILDOUT offset.toNat
  let d : Dev := { d with refs := { d.refs with slewFrac := 0 } }
  let t := csTune (d.refKhz src)
  let d := ((d.setSyn 0 { d.syn 0 with tune := some t }).showTune 0 t).setSyn 1 { d.syn 1 with tune := some t }
  let d := (d.showTune 1 t).wr 0x18 F.REF_STAT_active src
  let d := d.wr 0x18 F.REF_STAT_coast 0
  (d.synWr 0 F.SYN_STAT_coast (d.on 0x18 F.CLK_GUARD_cs_fault && d.has 0x18 F.CLK_GUARD_cs_fault 0).toNat).synWr 1
    F.SYN_STAT_coast (d.has 0x18 F.CLK_GUARD_cs_fault 1).toNat

/-- A band search of the CS loops begins under the safe clock (R179). -/
def Dev.csSearch (d : Dev) : Dev := ((d.wr 0x18 F.CLK_GUARD_safe 1).synSearch 0).synSearch 1

/-- With REF_CFG.realign the standing offset shrinks for `n` ns by REF_TIMING.slew, 0.01 ppm being a hundredth of a femtosecond
per ns (R175). -/
def Dev.realign (d : Dev) (n : Nat) : Dev :=
  let v := d.rdS 0x18 F.REF_BUILDOUT
  if v = 0 || !d.on 0x18 F.REF_CFG_realign || d.on 0x18 F.REF_STAT_coast then d
  else
    let total := d.refs.slewFrac + d.rd 0x18 F.REF_TIMING_slew * n
    let k := min (total / 100) v.natAbs
    let left := v - (k : Int) * v.sign
    let d := d.wr 0x18 F.REF_BUILDOUT (unsigned 32 left)
    { d with refs := { d.refs with slewFrac := if left = 0 then 0 else total % 100 } }

/-- Time passes, in ns: the timebase and the 32.768 kHz count rise, offset ramps, phase moves and a realignment go on, a running
trigger sequencer's TRG_ELAPSED counts (chapter 9), a debug challenge ages (R426), and each bank's seconds since its last test count (Table 11.5). -/
def Dev.pass (d : Dev) (n : Nat) : Dev :=
  let d := if d.timeRuns then { d with count := d.count + BitVec.ofNat 48 n } else d
  let n := n + d.mw.owed
  let d := { d with mw := { d.mw with owed := 0 }, sec := { d.sec with challenge := (d.sec.challenge.map fun (x : Bytes × Nat) => (x.1, x.2 + n) : Option (Bytes × Nat)) } }
  let d := (List.range 16).foldl (fun d k => (d.ramp k n).phaseMove k n) (d.realign n)
  let d := [0x5B, 0x5F].foldl
    (fun d p => if d.on p F.TRG_STAT_running then d.bump p F.TRG_ELAPSED n else d) d
  let total := d.rtcFrac + 32768 * n
  let rtc := d.rtc + BitVec.ofNat 48 (total / 1000000000)
  let secs := (d.rtc.toNat + total / 1000000000) / 32768 - d.rtc.toNat / 32768
  let d := { d with rtc := rtc, rtcFrac := total % 1000000000 }
  if secs = 0 then d
  else (List.range 64).foldl (fun d b => d.bump (0x70 + b / 8) (F.SPB_STAT_tested_s.at (b % 8)) secs) d

/-- The timebase reloads from the 32.768 kHz count, converted to 1 GHz counts (R75). -/
def Dev.reloadTime (d : Dev) : Dev :=
  { d with count := BitVec.ofNat 48 (nearest (1000000000 * d.rtc.toNat) 32768) }

end Sys2Proof.Machine
end

