-- ==== Sys2Proof/Machine/Program.lean ====
section
/-! DEFINITION. Program entries (spec/04_ringmaster_programs.md Tables 4.3 to 4.12) and what preparation checks and finds in
a program: legality (R106, R108, R111, R124), hot targets and entry segments (R128, R129, R153), and the look-ahead
(R143). -/
namespace Sys2Proof.Machine

/-- Bits [hi:lo] of an entry. -/
def eb (e : BitVec 128) (hi lo : Nat) : Nat := e.toNat / 2 ^ lo % 2 ^ (hi + 1 - lo)

def opOf (e : BitVec 128) : Nat := eb e 127 124

/-- The tiles of the tile space (R133). -/
def tileCount : Nat := 24379392

/-- Lane words per tile (Table 4.1): `pam` is the lane's format. -/
def wordsPerTile (n : Nat) (pam : Bool) : Nat := if 16 ≤ n then 64 else if pam then 256 else 512

/-- Bits of a lane word. -/
def wordBits (n : Nat) (pam : Bool) : Nat := if 16 ≤ n then 512 else if pam then 128 else 64

/-- The segment of a SEG entry. -/
def segOf (e : BitVec 128) : Seg := ⟨eb e 119 95, eb e 94 86, eb e 85 54, eb e 53 38⟩

/-- The last word lies beyond the tile space. -/
def Seg.beyond (s : Seg) (wpt : Nat) : Bool := decide (tileCount * wpt < s.tile * wpt + s.word + s.len)

/-- The tiles of a segment, in order. -/
def Seg.tiles (s : Seg) (wpt : Nat) : List Nat := (List.range ((s.word + s.len + wpt - 1) / wpt)).map (s.tile + ·)

/-- A condition is well formed: a latch source has bits [7:2] at 0. -/
def condOk (c : Nat) : Bool := decide (c < 260)

/-- A condition names a latch. -/
def condLatch (c : Nat) : Bool := decide (256 ≤ c)

/-- The cause of Table 4.14 with which preparation faults an entry on sequencer `n`, whose lane page has format `pam`. -/
def entryCheck (n : Nat) (pam : Bool) (e : BitVec 128) : Option Nat :=
  let illegal (b : Bool) (r : Option Nat) : Option Nat := if b then r else some 1
  match opOf e with
  | 0 => illegal (eb e 122 0 == 0) none
  | 1 =>
    let s := segOf e
    illegal (eb e 123 120 == 0 && eb e 37 0 == 0 && decide (1 ≤ s.len) && decide (1 ≤ s.reps) &&
        decide (s.word < (if n < 16 then 512 else 64)))
      (if s.beyond (wordsPerTile n pam) then some 5 else none)
  | 2 =>
    illegal (eb e 120 32 == 0 && (if eb e 123 123 = 0 then eb e 122 121 == 0 else eb e 31 0 == 0)) none
  | 3 =>
    illegal (eb e 121 121 == 0 && eb e 111 0 == 0 &&
      (match eb e 123 122 with
       | 0 => eb e 120 112 == 0
       | 1 => condOk (eb e 120 112)
       | _ => false)) none
  | 4 =>
    let sdepth := eb e 94 91
    let depthOk := decide (sdepth ≤ 8) || sdepth == 15
    illegal (eb e 90 0 == 0 &&
      (match eb e 123 122 with
       | 0 => eb e 121 117 == 0 && depthOk &&
          (match eb e 116 115 with
           | 0 => eb e 114 106 == 0
           | 3 => false
           | _ => condOk (eb e 114 106) && condLatch (eb e 114 106))
       | 1 => eb e 119 118 != 3 && eb e 116 115 == 1 && condOk (eb e 114 106) && depthOk
       | 2 => eb e 119 91 == 0
       | _ => false)) none
  | 5 =>
    let lane := decide (1 ≤ eb e 79 48) && eb e 95 80 == 0
    illegal (eb e 121 120 != 3 && eb e 98 96 == 0 && eb e 47 0 == 0 &&
      (match eb e 123 122 with
       | 0 => condOk (eb e 118 110) && (if eb e 119 119 = 1 then lane else eb e 109 99 == 0 && eb e 95 48 == 0)
       | 1 => eb e 119 99 == 0
       | 2 => eb e 119 99 == 0 && lane
       | _ => false)) none
  | 6 =>
    illegal (eb e 69 0 == 0 && (if eb e 123 123 = 1 then decide (1 ≤ eb e 109 102) else eb e 122 120 == 0 && eb e 109 102 == 0) &&
      (if eb e 119 119 = 1 then true else eb e 118 111 == 0)) none
  | 7 =>
    illegal (decide (n < 16) && eb e 68 0 == 0 &&
      (match eb e 123 122 with
       | 0 => eb e 121 120 != 3 && eb e 92 69 == 0
       | 1 => eb e 121 93 == 0
       | _ => false))
      (if eb e 123 122 = 0 then
        (if 1000000 ≤ eb e 118 93 ∧ eb e 118 93 ≤ 56000000 then none else some 5)
      else if (signed 24 (eb e 92 69)).natAbs ≤ 5000000 then none else some 5)
  | 8 =>
    illegal (decide (n < 16) && eb e 111 0 == 0 &&
      (match eb e 123 122 with
       | 0 => eb e 121 112 == 0
       | 3 => false
       | _ => if eb e 121 121 = 1 then condOk (eb e 120 112) else eb e 120 112 == 0)) none
  | _ => some 1

/-- The entries of a sequencer's program that are not all zero, by index; an all-zero entry is a legal HALT (R95). -/
def Dev.progOf (d : Dev) (n : Nat) : List (Nat × BitVec 128) :=
  (d.prog.filter fun x => decide (x.1 / 2048 = n)).map fun x => (x.1 % 2048, x.2)

/-- Entry `i` of sequencer `n` (R95); there is none past 2047. -/
def Dev.entry (d : Dev) (n i : Nat) : BitVec 128 := if 2048 ≤ i then 0 else tabGet (fun _ => 0) d.prog (2048 * n + i)

def Dev.setEntry (d : Dev) (n i : Nat) (e : BitVec 128) : Dev :=
  { d with prog := tabSet (fun _ => 0) d.prog (2048 * n + i) e }

/-- From a hot target through control entries and unconditional TEST jumps to the first SEG (R128); none past a HALT, past
entry 2047, or where control entries run in a ring. -/
def entrySeg (get : Nat → BitVec 128) (fuel i : Nat) : Option Seg :=
  match fuel with
  | 0 => none
  | fuel + 1 =>
    if 2048 ≤ i then none
    else
      let e := get i
      match opOf e with
      | 0 => none
      | 1 => some (segOf e)
      | 4 => entrySeg get fuel (if eb e 123 122 = 0 ∧ eb e 116 115 = 0 then eb e 105 95 else i + 1)
      | _ => entrySeg get fuel (i + 1)

/-- The nearest SEG above an entry, in entry order (R128). -/
def segAbove (get : Nat → BitVec 128) (i : Nat) : Option Nat :=
  ((List.range i).reverse).find? fun j => opOf (get j) == 1

/-- The hot targets of a program (R128): the start entry and those its entries name. -/
def hotTargets (get : Nat → BitVec 128) (start : Nat) (es : List (Nat × BitVec 128)) : List Nat :=
  start :: es.flatMap fun (i, e) =>
    match opOf e with
    | 2 => [i + 1]
    | 4 => if eb e 123 122 = 2 then [] else [eb e 105 95]
    | 5 => (if eb e 119 119 = 1 then [eb e 109 99] else []) ++
        (if eb e 121 120 = 1 then (segAbove get i).toList else [])
    | _ => []

/-- The distinct entry segments of a program, by first tile, word and length. Assumption 42, DEDUCED. -/
def entrySegs (get : Nat → BitVec 128) (start : Nat) (es : List (Nat × BitVec 128)) : List Seg :=
  ((hotTargets get start es).filterMap (entrySeg get 2049)).foldl
    (fun l s => if l.any fun t => t.tile == s.tile && t.word == s.word && t.len == s.len then l else l ++ [s]) []

/-- The hot tiles of an entry segment: its first `hot` tiles. -/
def Seg.hotTiles (s : Seg) (wpt hot : Nat) : List Nat := (s.tiles wpt).take hot

/-- The banks a sequencer owns (R307). -/
def Dev.seqBanks (d : Dev) (n : Nat) : Nat :=
  ((List.range 64).filter fun b => d.rd (0x70 + b / 8) (F.SPB_OWN_owner.at (b % 8)) == n + 1).length

/-- What preparation finds (R98, R128, R129, R153): the first failure with its entry, the hot tiles to fetch, each once, and
the number of entry segments. A failure that names no entry is recorded at the start entry (assumption 30). -/
def Dev.prepare (d : Dev) (n : Nat) : Prep :=
  let pam := if n < 16 then d.txPageFmt n else false
  let start := d.rd (0x40 + n) F.SQ_START_entry
  let es := d.progOf n
  let wpt := wordsPerTile n pam
  match es.findSome? (fun (i, e) => (entryCheck n pam e).map (·, some i)) with
  | some f => ⟨some f, [], 0⟩
  | none =>
    let segs := entrySegs (d.entry n) start es
    let hot := d.rd (0x40 + n) F.SQ_CFG_hot_tiles
    let tiles := segs.flatMap (Seg.hotTiles · wpt hot)
    let todo := tiles.foldl (fun l t => if l.contains t then l else l ++ [t]) []
    if 64 < segs.length then ⟨some (13, none), [], segs.length⟩
    else if d.seqBanks n = 0 ∨ 1048576 * d.seqBanks n < 262144 + 4096 * tiles.length then
      ⟨some (14, none), [], segs.length⟩
    else ⟨none, todo, segs.length⟩

/-! ## The loop stack (R109, R110) -/

/-- ENDLOOP without a break on the innermost frame: whether execution returns to the frame's start, and the frames then. -/
def endloop (f : LoopFrame) (r : List LoopFrame) : Option Nat × List LoopFrame :=
  if f.left = 0 then (some f.start, { f with seen := 0, fresh := true } :: r)
  else if f.left = 1 then (none, r)
  else (some f.start, { f with left := f.left - 1, seen := 0, fresh := true } :: r)

/-- The tiles that a play still draws from the streaming buffer from a word of a repetition on, in the order of need, at most
64. The repetitions of a run share the buffered copies where all its tiles that are not hot fit into the buffer; otherwise each
repetition fetches them again (R145). Assumption 43, DESIGN CHOICE. -/
def Seg.needs (s : Seg) (wpt : Nat) (hot : List Nat) (word : Nat) (more : Bool) : List Nat :=
  let n := (s.word + s.len + wpt - 1) / wpt
  let first := (s.word + word) / wpt
  let from_ (i : Nat) : List Nat := ((List.range (min (n - i) 1152)).map (s.tile + i + ·)).filter fun t => !hot.contains t
  let all := from_ 0
  let rest := from_ first
  if !more then rest.take 64
  else if n ≤ 1152 ∧ all.length ≤ 64 then rest ++ all.filter fun t => decide (t < s.tile + first)
  else (rest ++ all).take 64

/-- A point of the look-ahead's path (R143): the entry, the loop stack with, for each frame, how many tiles were asked for when its
present iteration began, the tiles asked for, the format that plays take, a handoff to come as its format and the plays before it
(R123), and the taken jumps so far with the stack and the number of tiles. -/
structure Scan where
  pc : Nat
  frames : List (LoopFrame × Option Nat)
  tiles : List Nat
  pam : Bool
  handoff : Option (Bool × Nat)
  jumps : List (Nat × List (LoopFrame × Option Nat) × Nat)
  deriving DecidableEq, Repr

/-- The look-ahead passes an entry of sequencer `n`; none where it stops: at a HALT, where the program cannot go on, and in a ring of
entries that asks for nothing. A loop whose iteration asks for nothing is passed at once. Assumption 43, DESIGN CHOICE. -/
def lookStep (get : Nat → BitVec 128) (lreg : Nat → Word) (n : Nat) (hot : List Nat) (c : Scan) : Option Scan :=
  let e := get c.pc
  let on (c : Scan) : Option Scan := some { c with pc := c.pc + 1 }
  match opOf e with
  | 0 => none
  | 1 =>
    let g := segOf e
    let c := match c.handoff with
      | some (pam, 0) => { c with pam := pam, handoff := none }
      | some (pam, k + 1) => { c with handoff := some (pam, k) }
      | none => c
    on { c with tiles := (c.tiles ++ g.needs (wordsPerTile n c.pam) hot 0 (decide (1 < g.reps))).take 64 }
  | 2 =>
    let k := if eb e 123 123 = 0 then BitVec.ofNat 32 (eb e 31 0) else lreg (eb e 122 121)
    if 8 ≤ c.frames.length then none
    else on { c with frames := (⟨k, c.pc + 1, 0, true⟩, some c.tiles.length) :: c.frames }
  | 3 =>
    match c.frames with
    | [] => none
    | (f, since) :: r =>
      if since = some c.tiles.length then (if f.left = 0 then none else on { c with frames := r })
      else
        match endloop f [] with
        | (some p, fs) => some { c with pc := p, frames := fs.map (·, some c.tiles.length) ++ r }
        | (none, _) => on { c with frames := r }
  | 4 =>
    if eb e 123 122 = 0 ∧ eb e 116 115 = 0 then
      let depth := eb e 94 91
      let here := (c.pc, c.frames, c.tiles.length)
      if c.jumps.contains here || (depth != 15 && decide (c.frames.length < depth)) then none
      else
        some { c with
          pc := eb e 105 95, jumps := here :: c.jumps
          frames := if depth = 15 then c.frames else c.frames.drop (c.frames.length - depth) }
    else on c
  | 7 =>
    if eb e 123 122 = 0 ∧ eb e 121 120 ≠ 0 then
      let pam := match c.handoff with | some h => h.1 | none => c.pam
      on { c with pam := pam, handoff := if (eb e 121 120 == 2) == pam then none else some (eb e 121 120 == 2, eb e 119 119) }
    else on c
  | _ => on c

/-- The tiles that the look-ahead asks for from a point on (R143): at most 64, in program order, once for each play. The steps are bounded
far beyond what loops eight deep can take. Assumption 43, DESIGN CHOICE. -/
def lookAhead (get : Nat → BitVec 128) (lreg : Nat → Word) (n : Nat) (hot : List Nat) (fuel : Nat) (c : Scan) : List Nat :=
  match fuel with
  | 0 => c.tiles
  | fuel + 1 =>
    if 2048 ≤ c.pc ∨ 64 ≤ c.tiles.length then c.tiles.take 64
    else
      match lookStep get lreg n hot c with
      | some c => lookAhead get lreg n hot fuel c
      | none => c.tiles

/-- The needs, in order, take the copies that are resident; the copies that none takes are released, and the needs that take none are
requested (R144). -/
def assign (needs : List Nat) (stream : List HeldTile) : List HeldTile × List Nat :=
  let r := needs.foldl
    (fun (st : List HeldTile × List HeldTile × List Nat) t =>
      match st.2.1.find? fun h => h.tile == t with
      | some h => (st.1 ++ [h], st.2.1.erase h, st.2.2)
      | none => (st.1, st.2.1, st.2.2 ++ [t])) (([] : List HeldTile), stream, ([] : List Nat))
  (r.1, r.2.2)

end Sys2Proof.Machine
end

