-- ==== Sys2Proof/Machine/Wideband.lean ====
section
/-! DEFINITION. Wideband channels and Calliope (spec/13_analog_outputs.md R350 to R361): the accumulator, the sine, the sample
path of Table 13.1 as far as saturation. -/
namespace Sys2Proof.Machine

/-- A new tuning word takes effect; the accumulator keeps its value (R360). -/
def Dev.setFtw (d : Dev) (k : Nat) (ftw : BitVec 48) : Dev := d.setAwg k { d.awg k with ftw := ftw }

/-- The accumulator is 0 at the next sample (R359, R361). -/
def Dev.calZero (d : Dev) (k : Nat) : Dev := d.setAwg k { d.awg k with acc := 0 }

/-- round(amp × sin(2π × t / 2^48)), halves away from zero (R359). -/
def sineCode (amp : Nat) (t : BitVec 48) : Int :=
  let turn := t.toNat
  let half := turn % 2 ^ 47
  let q := if half ≤ 2 ^ 46 then half else 2 ^ 47 - half
  let v : Nat := (sinTaylor (twoPi * q / 2 ^ 48)).toNat * amp
  let r : Int := ((v + 2 ^ 79) / 2 ^ 80 : Nat)
  if turn < 2 ^ 47 then r else -r

/-- Calliope's sample for an accumulator value. -/
def Dev.calSample (d : Dev) (k : Nat) (acc : BitVec 48) : Int :=
  sineCode (d.rd (0x88 + k) F.CAL_AMP_amp) (acc + BitVec.ofNat 48 (2 ^ 32 * d.rd (0x88 + k) F.CAL_AMP_phase))

/-- Steps 1 to 4 of Table 13.1: the code of a sample and whether step 4 saturated it. -/
def Dev.awgCode (d : Dev) (k : Nat) (seq cal : Int) : Int × Bool :=
  let p := 0x88 + k
  let s := match d.rd p F.AWG_CFG_src with
    | 0 => seq
    | 1 => cal
    | _ => seq + cal
  let g := s * (d.rd p F.AWG_GAIN_gain : Int)
  let r : Int := if 0 ≤ g then ((2 * g.natAbs + 32768) / 65536 : Nat) else -(((2 * g.natAbs + 32768) / 65536 : Nat) : Int)
  let v := r + signed 16 (d.rd p F.AWG_OFFSET_off)
  if v < -32768 then (-32768, true) else if 32767 < v then (32767, true) else (v, false)

/-- The samples of an AWG lane word, sample 0 first (R141). -/
def wordSamples (bs : Bytes) : List Int :=
  match bs with
  | a :: b :: r => signed 16 (a.toNat + 256 * b.toNat) :: wordSamples r
  | _ => []

/-- `m` samples of a channel leave with the given sequencer samples (R350, R351): at code 0 while it is clamped or runs in no act
(R354, R355), else through the sample path, where saturation counts in AWG_CLIP. Assumption 75, DEDUCED. -/
def Dev.awgRun (d : Dev) (k m : Nat) (seq : List Int) : Dev :=
  let p := 0x88 + k
  let a := d.awg k
  let send (d : Dev) (codes : List Int) : Dev :=
    d.emit (.awg k codes (d.on p F.AWG_CFG_filt) (d.rd p F.AWG_DELAY_steps) (d.on p F.AWG_CFG_pins))
  if !d.running F.ACT_ENG_aw k || d.awgClamped k then send d (List.replicate m 0)
  else
    let out := (List.range m).map fun i => d.awgCode k (seq.getD i 0) (d.calSample k (a.acc + a.ftw * BitVec.ofNat 48 i))
    let d := d.setAwg k { a with acc := a.acc + a.ftw * BitVec.ofNat 48 m }
    let d := send d (out.map Prod.fst)
    let clips := (out.filter Prod.snd).length
    if clips = 0 then d
    else
      let first := d.rd p F.AWG_CLIP == 0
      let d := d.bump p F.AWG_CLIP clips
      if first then d.stat p 17 else d

/-- A lane word's 32 samples leave. Assumption 75, DEDUCED. -/
def Dev.awgWord (d : Dev) (k : Nat) (seq : List Int) : Dev := d.awgRun k 32 seq

/-- An act that names the channel starts: the accumulator is 0 at its first sample (R359). -/
def Dev.awgStart (d : Dev) (k : Nat) : Dev := d.calZero k

end Sys2Proof.Machine
end

