-- ==== Sys2Proof/Machine/LaneOut.lean ====
section
/-! DEFINITION. A TX lane's data stream (spec/07_transmit_lanes.md R209, R217 to R220): its blocks, the bits that an injection
inverts, the marks that its symbols pass (spec/04_ringmaster_programs.md R119, R121). -/
namespace Sys2Proof.Machine

def rxPage (n : Nat) : Nat := 0x30 + n
def txPage (n : Nat) : Nat := 0x20 + n
def sqPage (n : Nat) : Nat := 0x40 + n
def cePage (c : Nat) : Nat := 0x54 + 2 * c

/-- The TX lane onto which a lane forwards, and back (R237). -/
def fwdTx (n : Nat) : Nat := (n + 8) % 16

/-- The running act forwards onto the sequencer's lane. -/
def Dev.sqForwards (d : Dev) (n : Nat) : Bool := decide (n < 16) && d.forwarding (fwdTx n)

/-- The format in effect on the sequencer's lane. -/
def Dev.sqPam (d : Dev) (n : Nat) : Bool := decide (n < 16) && d.txPam n

/-- Bits of a block of a lane's framing (Table 8.3); a RAW block is a lane word of the format in effect. -/
def Dev.rxBlockBits (d : Dev) (n : Nat) : Nat :=
  match d.rd (rxPage n) F.RXL_FRAME_framing with
  | 1 => 10
  | 2 => 66
  | 3 => 130
  | _ => if (d.rx n).pam then 128 else 64

/-- Stream bits of a block on a TX lane (R105, R217). -/
def Dev.txBlockBits (d : Dev) (n : Nat) : Nat :=
  if d.sqForwards n then d.rxBlockBits (fwdTx n)
  else
    let b := d.rd (sqPage n) F.SQ_BLOCK_bits
    if b = 0 then wordBits n (d.sqPam n) else b

/-! ## The error injector's settings (R218) -/

/-- A position fits inside the block (R218): one bit for BIT and SYMBOL, `len` for BLOCK; random positions always do. -/
def posFits (block typ off len : Nat) (rand : Bool) : Bool :=
  if typ = 2 then decide (off + len ≤ block) else rand || decide (off < block)

/-- The injector's setting fits the present block. -/
def Dev.errFits (d : Dev) (n : Nat) : Bool :=
  let p := txPage n
  posFits (d.txBlockBits n) (d.rd p F.TXL_ERR_CTRL_type) (d.rd p F.TXL_ERR_POS_off) (d.rd p F.TXL_ERR_POS_len)
    (d.on p F.TXL_ERR_CTRL_pos_rand)

/-- A block that has become too short for the position stops injection and sets range_reject (R218); `old` is the device before
the change. -/
def Dev.errRecheck (d old : Dev) (n : Nat) : Dev :=
  if old.errFits n && !d.errFits n then d.stat (txPage n) 16 else d

/-- The stream bits that an injection inverts (R218): type, first bit, length, symbol mask; a mask of 0 inverts none.
Assumption 136, DESIGN CHOICE. -/
def flips (typ off len mask : Nat) (pam : Bool) : List Nat :=
  match typ with
  | 0 => [off]
  | 1 => if pam then (bitsOf 2 mask).map (2 * (off / 2) + ·) else [off]
  | _ => (List.range len).map (off + ·)

/-! ## Stream bits -/

/-- The stream bits that modes 2 and 3 invert in the block that begins (R219): it is an N-th one since the mode was written, or a free
value falls below TXL_ERR_N. The position is the set one or a free one inside the block (R218). N = 0 injects nothing
(assumption 136). Assumption 55, DEDUCED. -/
def Dev.errAuto (d : Dev) (n blocks : Nat) : Option (List Nat) × Dev :=
  let p := txPage n
  let every := d.rd p F.TXL_ERR_N
  let typ := d.rd p F.TXL_ERR_CTRL_type
  let (due, d) : Bool × Dev :=
    match d.rd p F.TXL_ERR_CTRL_mode with
    | 2 => (every != 0 && blocks % every == 0, d)
    | 3 => (let (w, d) := d.fresh; (decide (w.toNat < every), d))
    | _ => (false, d)
  if due && d.errFits n then
    let (off, d) : Nat × Dev := if d.on p F.TXL_ERR_CTRL_pos_rand && typ != 2 then
        (let (w, d) := d.fresh; (w.toNat % d.txBlockBits n, d))
      else (d.rd p F.TXL_ERR_POS_off, d)
    (some (flips typ off (d.rd p F.TXL_ERR_POS_len) (d.rd p F.TXL_ERR_CTRL_sym_mask) (d.txPam n)), d)
  else (none, d)

/-- A block begins at the injector: it takes the injection that waits for it, or one of modes 2 and 3, and at most one (R219, R220). -/
def Dev.errBlock (d : Dev) (n : Nat) : Dev :=
  let t := d.tx n
  let t : Tx := { t with blocks := t.blocks + 1, hit := t.next, next := [] }
  if !t.hit.isEmpty then d.setTx n t
  else
    match d.errAuto n t.blocks with
    | (some hit, d) => d.setTx n { t with hit := hit, due := t.due + 1 }
    | (none, d) => d.setTx n t

/-- Stream bits pass the injector: those that the present block's injection hits are inverted (R217). -/
def Dev.injectRun (d : Dev) (n : Nat) (bits : List Bool) : List Bool × Dev :=
  bits.foldl
    (fun (o, d) b =>
      let d := if (d.tx n).pos = 0 then d.errBlock n else d
      let t := d.tx n
      (o ++ [b ^^ t.hit.contains t.pos], d.setTx n { t with pos := (t.pos + 1) % d.txBlockBits n })) ([], d)

/-- The block count of an idle lane runs on over `k` stream bits; an injection that did not leave stays in its block (R209, R217). -/
def Dev.countBlocks (d : Dev) (n k : Nat) : Dev :=
  let t := d.tx n
  let b := d.txBlockBits n
  d.setTx n { t with
    pos := (t.pos + k) % b, blocks := t.blocks + ((t.pos + k + b - 1) / b - (t.pos + b - 1) / b)
    hit := if t.pos + k < b then t.hit else [] }

/-- A lane word passes on a lane that sends no symbols: the generators run on, and in electrical idle the block count (R209). -/
def Dev.silentWord (d : Dev) (n : Nat) : Dev :=
  let d := (d.jitterRun n 64).2
  if d.on (txPage n) F.TXL_STAT_idle then d.countBlocks n (wordBits n (d.sqPam n)) else d

/-- The next stream bit begins a block: the first symbol of a play (R105), or of forwarding. -/
def Dev.blockStart (d : Dev) (n : Nat) : Dev := d.setTx n { d.tx n with pos := 0, hit := [] }

/-- `k` symbols or samples leave (R119): a mark whose symbol is among them is committed, and raises its event (R121). -/
def Dev.markRun (d : Dev) (n k : Nat) : Dev :=
  let s := d.sq n
  let reached (m : MarkRec) : Bool := !m.out && (match m.left with | some l => decide (l < k) | none => false)
  let evs := (s.marks.filter fun m => reached m && m.evEn).map MarkRec.ev
  let d := d.setSq n { s with
    marks := s.marks.map fun m => { m with out := m.out || reached m, left := m.left.map (· - k) } }
  evs.foldl (fun d ev => d.raise (sourceOf (sqPage n) F.SQ_MARK_TS_LO) ev) d

/-- Stream bits leave a TX lane: through the injector, as levels, to the driver. In electrical idle nothing leaves and only the generators and
the block count run on (R209, R217). -/
def Dev.laneSend (d : Dev) (n : Nat) (bits : List Bool) : Dev :=
  if d.txDriving n then
    let (out, d) := d.injectRun n bits
    let ls := d.levels n out
    (d.drive n ls).markRun n ls.length
  else (d.jitterRun n (bits.length / (if d.txPam n then 2 else 1))).2.countBlocks n bits.length

/-! ## What a play has next (R142, R145, R147, R154) -/

/-- The next word of a play: its bytes, not resident yet, or of a tile that failed. -/
inductive Due where
  | word (bytes : Bytes)
  | late
  | bad
  deriving DecidableEq, Repr

/-- Bytes of a lane word of a sequencer's output in the format in effect (Table 4.1, R142). -/
def Dev.wordLen (d : Dev) (n : Nat) : Nat := wordBits n (d.sqPam n) / 8

/-- The word of a play that is due, from the hot copy where there is one (R145). -/
def Dev.dueOf (d : Dev) (n : Nat) (p : Play) : Due :=
  let s := d.sq n
  let wpt := wordsPerTile n (d.sqPam n)
  let w := p.seg.word + p.word
  match (s.hot ++ s.stream).find? fun h => h.tile == p.seg.tile + w / wpt with
  | none => .late
  | some h =>
    let o := w % wpt * d.wordLen n
    if o + d.wordLen n ≤ h.good then .word ((h.data.drop o).take (d.wordLen n)) else .bad

/-- Where a play stands after its next word (R108); none after its last. The repeat of a WAIT starts over (R117). -/
def Play.next (p : Play) : Option Play :=
  if p.word + 1 < p.seg.len then some { p with word := p.word + 1 }
  else if p.rep + 1 < p.seg.reps then some { p with word := 0, rep := p.rep + 1 }
  else if p.again then some { p with word := 0, rep := 0 }
  else none

/-- The words that a play, or a repeat in progress, still has. -/
def Play.left (p : Play) : Nat := (p.seg.reps - p.rep) * p.seg.len - p.word

/-! ## The fill pattern (R103, chapter 5) -/

/-- A lane word of the fill pattern: SQ_FILL0 and SQ_FILL1 in NRZ, all four in PAM4; mid-scale on SQ16 to SQ19 (R118, R154). -/
def Dev.fillWord (d : Dev) (n : Nat) : Bytes :=
  if 16 ≤ n then List.replicate 64 0
  else (List.range (if d.sqPam n then 4 else 2)).flatMap fun k => wordBytes (d.reg (addrOf (sqPage n) (0x60 + 4 * k)))

/-- Fill words committed (R103, R147). -/
def Dev.underrun (d : Dev) (n words : Nat) : Dev :=
  if words = 0 then d else (d.bump (sqPage n) F.SQ_COUNT_underrun words).stat (sqPage n) 18

/-- `k` stream bits of the fill pattern, counted as the words that they take (R103). -/
def Dev.fillBits (d : Dev) (n k : Nat) : List Bool × Dev :=
  let w := bytesBits (d.fillWord n)
  (((List.replicate (k / w.length + 1) w).flatten).take k, d.underrun n ((k + w.length - 1) / w.length))

end Sys2Proof.Machine
end

