-- ==== Sys2Proof/Machine/Rx.lean ====
section
/-! DEFINITION. Receive lanes and the forwarder (spec/08_receive_lanes_and_inline_forwarding.md): lane states, profiles,
alignment, descrambling, and what happens to a forwarded block. -/
namespace Sys2Proof.Machine

/-- RXL_STAT.state: 0 OFF, 1 SIGNAL, 2 ACQUIRE, 3 ADAPT, 4 TRACK, 5 HOLD, 6 QUIET (Table 8.1). -/
def Dev.rxState (d : Dev) (n : Nat) : Nat := d.rd (rxPage n) F.RXL_STAT_state

def Dev.setRxState (d : Dev) (n s : Nat) : Dev := d.wr (rxPage n) F.RXL_STAT_state s

/-- The aligner of a lane is ALIGNED. -/
def Dev.aligned (d : Dev) (n : Nat) : Bool := d.rd (rxPage n) F.RXL_STAT_align == 2

/-- The profile in effect (RXL_STAT.prof). -/
def Dev.rxProf (d : Dev) (n : Nat) : Bool := d.on (rxPage n) F.RXL_STAT_prof

/-- The lane is at the rate and the format of its profile (R230); a RAW block may become too short for the injector of the TX lane onto
which it forwards (R218). -/
def Dev.rxFollow (d : Dev) (n : Nat) : Dev :=
  (d.setRx n { d.rx n with rate := d.rxPageRate n (d.rxProf n), pam := d.rxPageFmt n (d.rxProf n) }).errRecheck d (fwdTx n)

/-- The conditions of R223 under which a lane receives, on a page that is not forced off (assumption 24); a lane whose path is not confirmed in module position is isolated
(R435, R439). -/
def Dev.rxWanted (d : Dev) (n : Nat) : Bool :=
  d.on (rxPage n) F.PAGE_CTRL_enable && (d.power == 3 || d.power == 4) && d.inModule n && !d.has 0x92 F.SN_FAULT_paths n &&
    ((d.mode == 1 && (d.on (rxPage n) F.RXL_CFG_en || d.running F.ACT_LANES_rx n)) || (d.mode == 2 && d.forwarding n))

/-! ## The equaliser -/

/-- The equaliser values in use: CTLE, VGA, taps 1 to 8, eye height, eye width, and the PAM4 thresholds. -/
def Dev.rxEq (d : Dev) (n : Nat) : List (BitVec 10) :=
  let p := rxPage n
  let v (f : Field) : BitVec 10 := BitVec.ofNat 10 (d.rd p f)
  [v F.RXL_EQ_NOW_peak, v F.RXL_EQ_NOW_vga] ++
    (List.range 8).map (fun k => v ((if k % 2 = 0 then F.RXL_DFE_NOW_lo else F.RXL_DFE_NOW_hi).at (k / 2))) ++
    [v F.RXL_EQ_NOW_eye_mv, v F.RXL_EQ_NOW_eye_w] ++ (d.rx n).thr

/-- Adapted values stay within their bounds (R226, chapter 8): 24 dB of peaking and 20 dB of gain in 0.5 dB, tap 1 within ±205/512,
the others within ±77/512. -/
def eqBound (i : Nat) (v : BitVec 10) : Nat :=
  let tap (m : Int) : Nat := unsigned 10 (max (-m) (min m (signed 10 v.toNat)))
  if i = 0 then min 48 v.toNat else if i = 1 then min 40 v.toNat else if i = 2 then tap 205 else if i < 10 then tap 77 else v.toNat

/-- The equaliser takes values; forced ones hold the written codes, at expert level (R226, R250). -/
def Dev.setRxEq (d : Dev) (n : Nat) (vs : List (BitVec 10)) : Dev :=
  let p := rxPage n
  let x := d.on p F.PAGE_CTRL_level
  let force := x && d.on p F.RXL_XCTLE_force
  let v (i : Nat) : Nat := eqBound i (vs.getD i 0)
  let d := d.wr p F.RXL_EQ_NOW_peak (if force then d.rd p F.RXL_XCTLE_peak else v 0)
  let d := d.wr p F.RXL_EQ_NOW_vga (if force then d.rd p F.RXL_XCTLE_vga else v 1)
  let d := (List.range 8).foldl
    (fun d k =>
      d.wr p ((if k % 2 = 0 then F.RXL_DFE_NOW_lo else F.RXL_DFE_NOW_hi).at (k / 2))
        (if x && d.has p F.RXL_XDFE_FORCE_mask k then d.rd p (F.RXL_XDFE_tap.at k) else v (k + 2))) d
  let d := (d.wr p F.RXL_EQ_NOW_eye_mv (v 10)).wr p F.RXL_EQ_NOW_eye_w (v 11)
  d.setRx n { d.rx n with thr := vs.drop 12 }

/-- A written equaliser setting takes effect: at once outside a burst, at the burst's end within one (R250). -/
def Dev.rxEqWrite (d : Dev) (n : Nat) : Dev :=
  if (d.rx n).burst then d.setRx n { d.rx n with eqWait := true } else d.setRxEq n (d.rxEq n)

/-- A burst stops gathering: an equaliser write that waited for its end takes effect (R250). -/
def Dev.rxBurstEnd (d : Dev) (n : Nat) : Dev :=
  let wait := (d.rx n).eqWait
  let d := d.setRx n { d.rx n with burst := false, eqWait := false }
  if wait then d.setRxEq n (d.rxEq n) else d

/-- The values stored for the profile in effect (R232). -/
def Dev.rxStored (d : Dev) (n : Nat) : Option (List (BitVec 10)) :=
  if d.rxProf n then (d.rx n).stored1 else (d.rx n).stored0

/-- The profile in effect stores its values, as it leaves TRACK, HOLD or ADAPT. -/
def Dev.rxStore (d : Dev) (n : Nat) : Dev :=
  let vs := d.rxEq n
  let r := d.rx n
  if 3 ≤ d.rxState n ∧ d.rxState n ≤ 5 then
    d.setRx n (if d.rxProf n then { r with stored1 := some vs } else { r with stored0 := some vs })
  else d

/-! ## What a TX lane that forwards sends (R234, R247) -/

/-- Gray decoding of PAM4 symbols: level indices 0, 1, 2, 3 give 00, 01, 11, 10 (R234). It undoes itself. -/
def grayDecode (bs : List Bool) : List Bool :=
  match bs with
  | a :: b :: r => (a != b) :: b :: grayDecode r
  | r => r

/-- The stream of the line code: Gray decoded where RXL_FRAME.gray says so, in PAM4 (R234). `odd`: the bits begin with the upper bit of a
symbol, and `next` is the upper bit of their last one. -/
def Dev.lineBits (d : Dev) (n : Nat) (odd next : Bool) (bits : List Bool) : List Bool :=
  if d.on (rxPage n) F.RXL_FRAME_gray && (d.rx n).pam then
    if odd then
      match bits with
      | [] => []
      | u :: r => u :: (grayDecode (r ++ [next])).take r.length
    else grayDecode bits
  else bits

/-- The blocks of a lane begin with the upper bit of a symbol (R234, R235). -/
def Dev.rxOdd (d : Dev) (n : Nat) : Bool := (d.rx n).pam && (d.rx n).off % 2 == 1

/-- The repair that keeps the line code valid across every switch (R247): 1 for 8b/10b, 2 for 64b/66b with scr = 1, 3 for 128b/130b
with scr = 2, else 0. -/
def Dev.repairCode (d : Dev) (n : Nat) : Nat :=
  let p := rxPage n
  if d.on p F.RXL_FWD_repair then
    match d.rd p F.RXL_FRAME_framing, d.rd p F.RXL_FRAME_scr with
    | 1, _ => 1
    | 2, 1 => 2
    | 3, 2 => 3
    | _, _ => 0
  else 0

/-- A forwarded block of the line code as it arrives: from the first splice on, repair 2 carries its payload unscrambled (R247). -/
def Dev.repairIn (d : Dev) (n : Nat) (line : List Bool) : List Bool × Dev :=
  if d.repairCode n = 2 then
    let r := d.rx n
    let (o, h) := descramble58 r.fin (line.drop 2)
    (if r.spliced then line.take 2 ++ o else line, d.setRx n { r with fin := h })
  else (line, d)

/-- A block of the line code as it leaves (R247): `own` says that it is a spliced one. Assumption 103, DEDUCED. -/
def Dev.repairOut (d : Dev) (n : Nat) (own : Bool) (line : List Bool) : List Bool × Dev :=
  let p := rxPage n
  let r := d.rx n
  match d.repairCode n with
  | 1 =>
    if r.spliced then
      let (o, rd) := recode r.disp line
      (o, d.setRx n { r with disp := rd })
    else (line, d.setRx n { r with disp := dispAfter r.disp line })
  | 2 =>
    if r.spliced then
      let (o, h) := scramble58 r.fout (line.drop 2)
      (line.take 2 ++ o, d.setRx n { r with fout := h })
    else (line, d.setRx n { r with fout := (descramble58 r.fout (line.drop 2)).2 })
  | 3 =>
    let (o, k) := scramble130 (BitVec.ofNat 23 (d.rd p F.RXL_SCR_SEED_seed)) (d.rd p F.RXL_SCR_RESEED_pat) r.okey line
    (if own then o else line, d.setRx n { r with okey := k })
  | _ => (line, d)

/-- The level indices of a stream of PAM4 symbols, whose bits are those of the line code or, where marked, the indices' own (R234): whole
symbols, and the bit of one that is not whole yet. -/
def symbolBits (gray : Bool) (bits : List (Bool × Bool)) : List Bool × Option (Bool × Bool) :=
  match bits with
  | (a, own) :: (b, _) :: r =>
    let x := symbolBits gray r
    ((if gray && !own then a != b else a) :: b :: x.1, x.2)
  | [x] => ([], some x)
  | [] => ([], none)

/-- Bits go to the TX lane that forwards: as they are where `own`, else out of the line code. -/
def Dev.fwdSend (d : Dev) (n : Nat) (own : Bool) (bits : List Bool) : Dev :=
  let t := fwdTx n
  if d.txPam t then
    let (out, half) := symbolBits (d.on (rxPage n) F.RXL_FRAME_gray) ((d.tx t).half.toList ++ bits.map (·, own))
    (d.setTx t { d.tx t with half := half }).laneSend t out
  else d.laneSend t bits

/-- A block leaves on the TX lane: a spliced one as its words hold it, a forwarded one out of the line code; after a repair, either out
of the line code. -/
def Dev.sendBlock (d : Dev) (n : Nat) (own : Bool) (bits : List Bool) : Dev :=
  let plain := own && d.repairCode n == 0
  let (line, d) := d.repairOut n own (if own then d.lineBits n (d.rxOdd n) false bits else bits)
  d.fwdSend n plain (if plain then bits else line)

/-- The TX lane sends forwarded quiet: it stays out of electrical idle and drives nothing (R241). -/
def Dev.fwdQuiet (d : Dev) (n : Nat) : Dev :=
  let d := (d.wr (rxPage n) F.RXL_FWD_STAT_fwd 0).driveOut (fwdTx n)
  d.setRx n { d.rx n with owed := 0, lead := 0, ending := false, spliced := false }

/-! ## The splice buffer (R245, R246) -/

/-- The sequencer of the TX lane that a receiving lane feeds is inside a bracket whose splice runs. -/
def Dev.splicing (d : Dev) (n : Nat) : Bool := d.on (rxPage n) F.RXL_FWD_STAT_splice

/-- The sequencer of the lane that a receiving lane feeds splices by INSERT. -/
def Dev.inserting (d : Dev) (n : Nat) : Bool := match (d.sq (fwdTx n)).bracket with | some b => b.insert | none => false

/-- RXL_FWD_STAT.held shows the blocks held; an empty buffer drains no more (R246). -/
def Dev.showHeld (d : Dev) (n : Nat) : Dev :=
  let k := (d.rx n).held.length
  let d := d.wr (rxPage n) F.RXL_FWD_STAT_held (min k 4095)
  if k = 0 then d.wr (rxPage n) F.RXL_FWD_STAT_draining 0 else d

/-- A block joins the splice buffer. -/
def Dev.holdBlock (d : Dev) (n : Nat) (bits : List Bool) : Dev :=
  (d.setRx n { d.rx n with held := (d.rx n).held ++ [bits] }).showHeld n

/-- The oldest `k` held blocks leave. -/
def Dev.sendHeld (d : Dev) (n k : Nat) : Dev :=
  let bs := (d.rx n).held
  ((bs.take k).foldl (fun d b => d.sendBlock n false b) (d.setRx n { d.rx n with held := bs.drop k })).showHeld n

/-- Forwarding goes on behind the last spliced block: the blocks that came while a REPLACE's spliced blocks had not, leave at once; the
others drain (R245, R246); and where forwarding was to end, it ends once none is left (R241). -/
def Dev.spliceOver (d : Dev) (n : Nat) : Dev :=
  let r := d.rx n
  let d := (d.setRx n { r with lead := max 0 r.lead }).sendHeld n (-r.lead).toNat
  if !(d.rx n).held.isEmpty then d.wr (rxPage n) F.RXL_FWD_STAT_draining 1
  else if r.ending then d.fwdQuiet n
  else d

/-- Forwarding ends: behind the spliced block in progress and the blocks held (R233, R241). -/
def Dev.fwdStop (d : Dev) (n : Nat) : Dev :=
  if !d.on (rxPage n) F.RXL_FWD_STAT_fwd then d
  else if (d.rx n).held.isEmpty && (d.rx n).part.isEmpty then d.fwdQuiet n
  else d.setRx n { d.rx n with ending := true }

/-- The spliced block in progress, completed with fill, and all blocks held leave. -/
def Dev.fwdFlush (d : Dev) (n : Nat) : Dev :=
  let part := (d.rx n).part
  let d :=
    if part.isEmpty then d
    else
      let (bits, d) := d.fillBits (fwdTx n) (d.rxBlockBits n - part.length)
      (d.setRx n { d.rx n with part := [] }).sendBlock n true (part ++ bits)
  d.sendHeld n (d.rx n).held.length

/-! ## Splice cuts and loss of alignment (R235, R241, R248) -/

/-- A splice is cut (R248): once the spliced block in progress has been sent to its end, the TX lane returns to forwarding. -/
def Dev.cutSplice (d : Dev) (n cause : Nat) : Dev :=
  let p := rxPage n
  if d.splicing n then
    let d := (d.wr p F.RXL_FWD_STAT_splice 0).bump p F.RXL_FWD_CNT_cut
    let d := (d.wr p F.RXL_FWD_CNT_cut_cause cause).stat p 20
    let d := d.raiseIf p F.RXL_EV_cut_en F.RXL_EV_cut_ev
    let d := d.setRx n { d.rx n with cut := true }
    if (d.rx n).part.isEmpty then d.spliceOver n else d
  else d

/-- A spliced block leaves. Under REPLACE it takes the position of a forwarded one: of the oldest held, or of one still to come
(R245). -/
def Dev.spliceBlock (d : Dev) (n : Nat) (bits : List Bool) : Dev :=
  let d := d.sendBlock n true bits
  if d.inserting n then d
  else
    let r := d.rx n
    match r.held with
    | _ :: held => ((d.setRx n { r with held := held, lead := r.lead + 1 }).showHeld n).bump (cePage (n / 8)) F.CE_REPLACED
    | [] => d.setRx n { r with owed := r.owed + 1, lead := r.lead + 1 }

/-- Spliced bits of a sequencer's word: each whole block leaves; a cut splice sends the block in progress, and discards what follows it
(R244, R248). -/
def Dev.spliceBits (d : Dev) (n : Nat) (bits : List Bool) : Dev :=
  let b := d.rxBlockBits n
  let all := (d.rx n).part ++ bits
  if d.splicing n then
    let k := all.length / b
    let d := (List.range k).foldl (fun d i => d.spliceBlock n ((all.drop (i * b)).take b)) d
    d.setRx n { d.rx n with part := all.drop (k * b) }
  else if (d.rx n).part.isEmpty then d
  else if all.length < b then d.setRx n { d.rx n with part := all }
  else ((d.setRx n { d.rx n with part := [] }).spliceBlock n (all.take b)).spliceOver n

/-- The aligner returns to HUNT; a move from ALIGNED is counted and cuts a splice (R235, R248). -/
def Dev.hunt (d : Dev) (n : Nat) : Dev :=
  let p := rxPage n
  let was := d.aligned n
  let d := if was then (((d.bump p F.RXL_CNT_align_lost).stat p 18).cutSplice n 2) else d
  (d.wr p F.RXL_STAT_align 0).setRx n { d.rx n with good := 0, off := 0, recent := [] }

/-- The aligner becomes ALIGNED. The LFSR of the additive descrambler is open until a block loads it (R236); the history of the mode 1
descrambler is what it was. Assumption 123, DESIGN CHOICE. -/
def Dev.align (d : Dev) (n : Nat) : Dev :=
  let (w, d) := d.fresh
  (d.wr (rxPage n) F.RXL_STAT_align 2).setRx n { d.rx n with recent := [], key := w.setWidth 23 }

/-! ## State changes of a lane (R227, R231, R232) -/

/-- Arrival in TRACK or HOLD: a RAW lane is ALIGNED, and a switch is done. -/
def Dev.rxArrive (d : Dev) (n s : Nat) : Dev :=
  let p := rxPage n
  let d := d.setRxState n s
  let d := if d.rd p F.RXL_FRAME_framing = 0 then d.align n else d
  if (d.rx n).switching then (d.setRx n { d.rx n with switching := false }).stat p 23 else d

/-- Entry to ACQUIRE, which from ADAPT, TRACK or HOLD sets lock_lost; the aligner hunts; lost_ev rises on either. -/
def Dev.rxAcquire (d : Dev) (n : Nat) : Dev :=
  let was := d.rxState n
  let aligned := d.aligned n
  let d := (d.rxStore n).hunt n
  let d := (d.rxBurstEnd n).fwdStop n
  let d := d.setRxState n 2
  let d := if 3 ≤ was ∧ was ≤ 5 then d.stat (rxPage n) 17 else d
  if aligned || (decide (3 ≤ was) && decide (was ≤ 5)) then d.raiseIf (rxPage n) F.RXL_EV_lost_en F.RXL_EV_lost_ev else d

/-- The lane goes OFF: a change that was latched is in effect when it next receives. An aligner that was ALIGNED is so no more, without a
count, a status bit or an event. Assumption 123, DESIGN CHOICE. -/
def Dev.rxOff (d : Dev) (n : Nat) : Dev :=
  let p := rxPage n
  let toggle := (d.rx n).latched && (d.rx n).toggle
  let d := (d.cutSplice n 2).rxStore n
  let d := if d.on p F.RXL_FWD_STAT_fwd then (d.fwdFlush n).fwdQuiet n else d
  let d := if toggle then d.wr p F.RXL_STAT_prof (!d.rxProf n).toNat else d
  let d := ((d.setRxState n 0).wr p F.RXL_STAT_align 0).wr p F.RXL_STAT_sigdet 0
  let d := d.setRx n { d.rx n with
    burst := false, latched := false, toggle := false, eqWait := false, switching := false, good := 0, off := 0, recent := [] }
  d.rxFollow n

/-- The lane receives exactly while R223 says so. -/
def Dev.rxSettle (d : Dev) (n : Nat) : Dev :=
  if d.rxWanted n then (if d.rxState n = 0 then d.setRxState n 1 else d)
  else if d.rxState n = 0 then d else d.rxOff n

def Dev.rxSettleAll (d : Dev) : Dev := (List.range 16).foldl Dev.rxSettle d

/-- The measured offset lies in the lock range of ±5000 ppm (R228). -/
def ppmOk (ppm : BitVec 16) : Bool := decide ((signed 16 ppm.toNat).natAbs ≤ 5000)

/-- CDR lock on an input in the lock range (Table 8.1, R228): to ADAPT, or past it with mode 2 or stored values.
Assumption 56, DEDUCED. -/
def Dev.rxLock (d : Dev) (n : Nat) (ppm : BitVec 16) : Dev :=
  let p := rxPage n
  let mode := d.rd p F.RXL_ADAPT_mode
  if !ppmOk ppm then d
  else
    let d := d.wr p F.RXL_STAT_ppm ppm.toNat
    match d.rxStored n with
    | some vs => (d.setRxEq n vs).rxArrive n (if mode = 0 then 4 else 5)
    | none => if mode = 2 then d.rxArrive n 5 else d.setRxState n 3

/-- A change of rate or profile takes effect (R230, R232): the profile in effect stores its values, and the stored values of the
new one are in use from here on. -/
def Dev.rxChange (d : Dev) (n : Nat) : Dev :=
  let p := rxPage n
  let r := d.rx n
  let st := d.rxState n
  let d := d.rxStore n
  let d := if r.toggle then d.wr p F.RXL_STAT_prof (!d.rxProf n).toNat else d
  let d := (d.setRx n { d.rx n with
    latched := false, toggle := false, burst := false, eqWait := false, switching := r.toggle || r.switching }).rxFollow n
  let d := if r.toggle then (match d.rxStored n with | some vs => d.setRxEq n vs | none => d) else d
  if 2 ≤ st ∧ st ≤ 5 then
    -- the profile in effect has changed already, so its values must not be stored again
    let aligned := d.aligned n
    let d := (d.hunt n).setRxState n 2
    let d := if 3 ≤ st then d.stat p 17 else d
    if aligned || decide (3 ≤ st) then d.raiseIf p F.RXL_EV_lost_en F.RXL_EV_lost_ev else d
  else if st = 6 then d.setRx n { d.rx n with back := 2 }
  else d

/-- On a lane that a RUNNING act forwards, the TX side follows a switch (R233): forwarded quiet behind the last block, and a handoff to the new rate
and format unless the SYNTH condition blocks it. -/
def Dev.fwdFollow (d : Dev) (n : Nat) : Dev :=
  if d.forwarding n then
    let t := fwdTx n
    let d := d.fwdStop n
    let r := d.rx n
    if d.synthFree t r.rate r.pam then d.beginHandoff t r.rate r.pam 0
    else (d.setTx t { d.tx t with quiet := true }).stat (rxPage n) 24
  else d

/-! ## Blocks -/

/-- The first 64 stream bits of a block match RXL_IDLE_PAT under a mask that compares something (R246). In 8b/10b the pattern
covers the one character. -/
def Dev.deletable (d : Dev) (n : Nat) (bits : List Bool) : Bool :=
  let p := rxPage n
  let pat := d.rd p F.RXL_IDLE_PAT + 2 ^ 32 * d.rd p (F.RXL_IDLE_PAT.at 1)
  let mask := (d.rd p F.RXL_IDLE_MASK + 2 ^ 32 * d.rd p (F.RXL_IDLE_MASK.at 1)) % 2 ^ (min 64 bits.length)
  mask != 0 && Nat.land (Nat.xor (bitsNat (bits.take 64)) pat) mask == 0

/-- The splice buffer holds 32 768 bits (chapter 8, Splicing). -/
def spliceBuffer : Nat := 32768

/-- A forwarded block meets the splice multiplexer (R245, R246, R248): discarded where a REPLACE's spliced block has taken its position,
queued under INSERT, while a cut splice ends or until a REPLACE's next spliced block comes, sent behind the held blocks while they drain, or
sent at once. `raw` is the block as it was received, `line` its bits of the line code. True where a REPLACE discarded it. Assumption 58,
DESIGN CHOICE. -/
def Dev.spliceMux (d : Dev) (n : Nat) (raw line : List Bool) : Bool × Dev :=
  let p := rxPage n
  let (bits, d) := d.repairIn n line
  let r := d.rx n
  let insert := d.splicing n && d.inserting n
  let drains := d.on p F.RXL_FWD_STAT_draining
  let drop := d.on p F.RXL_FWD_drain && !r.held.isEmpty && (insert || drains) && d.deletable n raw
  let hold (d : Dev) : Dev := if drop then d else d.holdBlock n bits
  if 0 < r.lead then
    let d := d.setRx n { r with lead := r.lead - 1, owed := r.owed - 1 }
    if r.owed = 0 then (false, hold d) else (true, d)
  else if insert then
    if drop || decide ((r.held.length + 1) * bits.length ≤ spliceBuffer) then (false, hold d)
    else if r.part.isEmpty then
      let held := r.held
      let d := ((d.setRx n { r with held := [] }).cutSplice n 1).sendBlock n false bits
      (false, ((d.setRx n { d.rx n with held := held }).showHeld n).spliceOver n)
    else
      (false, ((d.setRx n { r with held := bits :: r.held, lead := r.lead - 1 }).showHeld n).cutSplice n 1)
  else if d.splicing n || !r.part.isEmpty then (false, hold (d.setRx n { r with lead := r.lead - 1 }))
  else if drains then (false, (hold d).sendHeld n 1)
  else (false, d.sendBlock n false bits)

/-- The time of a block at the source's rate, in 0.25 ns, rounded up. -/
def Dev.blockTime (d : Dev) (n : Nat) : Nat :=
  let symbols := d.rxBlockBits n / (if (d.rx n).pam then 2 else 1)
  (4000000000 * symbols + (d.rx n).rate - 1) / (d.rx n).rate

/-- The elastic buffer's fill E at a forwarded block (R239): late as it leaves 2 to 8 ns; at 0.5 ns or 15.5 ns a slip repeats or
drops whole blocks, each by its time, until E is back at the target. Answers how many times the block goes out. -/
def Dev.elastic (d : Dev) (n : Nat) (fill : BitVec 8) : Nat × Dev :=
  let p := rxPage n
  let e := fill.toNat
  let target := d.rd p F.RXL_FWD_target
  let was := d.rd p F.RXL_FWD_STAT_elastic
  let d := if (8 ≤ was ∧ was ≤ 32) ∧ (e < 8 ∨ 32 < e) then d.stat p 22 else d
  if e ≤ 2 ∨ 62 ≤ e then
    let d := ((d.bump p F.RXL_FWD_CNT_slip).stat p 19).raiseIf p F.RXL_EV_slip_en F.RXL_EV_slip_ev
    let k := ((if e ≤ 2 then target - e else e - target) + d.blockTime n - 1) / d.blockTime n
    let d := d.wr p F.RXL_FWD_STAT_elastic target
    if e ≤ 2 then (1 + k, d) else (0, d.setRx n { d.rx n with drop := k - 1 })
  else (1, d.wr p F.RXL_FWD_STAT_elastic e)

/-- The forwarder's steered offset (R239, R246): the CDR's frequency against the serving synthesizer, a correction for E off its
target, upwards where E lies above it, whose size is open, and drain_ppm while the splice buffer drains by speed-up, within the interpolator's ±5000 ppm
(R185). Assumption 104, DEDUCED. -/
def Dev.steer (d : Dev) (n : Nat) : Dev :=
  let p := rxPage n
  let t := fwdTx n
  let (num, den) := d.synRate (d.servingSynth t)
  let rate := nearest ((d.rx n).rate * (1000000 + signed 16 (d.rd p F.RXL_STAT_ppm)).toNat) 1000000
  let e := d.rd p F.RXL_FWD_STAT_elastic
  let target := d.rd p F.RXL_FWD_target
  let (w, d) : Int × Dev := if e = target then (0, d)
    else (let (w, d) := d.fresh; let k : Int := (w.toNat % 5000001 : Nat); (if target < e then k else -k, d))
  let speed : Int := if d.on p F.RXL_FWD_STAT_draining && !d.on p F.RXL_FWD_drain then 1000 * (d.rd p F.RXL_FWD_drain_ppm : Int) else 0
  (d.setOff t (max (-5000000) (min 5000000 (offsetTo num den rate + w + speed)))).followRate t

/-- A block begins with the upper bit of a PAM4 symbol (R234). -/
def Dev.blockOdd (d : Dev) (n : Nat) (b : RxBlock) : Bool :=
  (d.rx n).pam && d.rd (rxPage n) F.RXL_FRAME_framing != 0 && b.off % 2 == 1

/-- The TX lane takes up the symbols of the blocks that follow: where they begin with the upper bit of a symbol, it sends that symbol with
a free lower bit; the part of a symbol that they do not complete is not sent. Assumption 124, DESIGN CHOICE. -/
def Dev.fwdPair (d : Dev) (n : Nat) (odd : Bool) : Dev :=
  let t := fwdTx n
  if (d.tx t).half.isSome = odd then d
  else if odd then
    let (w, d) := d.fresh
    d.setTx t { d.tx t with half := some (w.getLsbD 0, true), pos := ((d.tx t).pos + d.txBlockBits t - 1) % d.txBlockBits t }
  else d.setTx t { d.tx t with half := none }

/-- Forwarding begins at a block, with E at the target (R242). -/
def Dev.fwdBegin (d : Dev) (n : Nat) : Dev :=
  let p := rxPage n
  let t := fwdTx n
  let d := (d.wr p F.RXL_FWD_STAT_fwd 1).wr p F.RXL_FWD_STAT_elastic (d.rd p F.RXL_FWD_target)
  (((d.setRx n { d.rx n with drop := 0 }).blockStart t).fwdPair n (d.rxOdd n)).steer n

/-- A forwarded block of a lane that a RUNNING act forwards onto a TX lane that drives (R2, R237 to R246): forwarding begins once the
source is ALIGNED, and goes on where it stops being so (R241, R242, R248). Answers whether a REPLACE discarded it. -/
def Dev.forwardBlock (d : Dev) (n : Nat) (b : RxBlock) (line : List Bool) : Bool × Dev :=
  let p := rxPage n
  let t := fwdTx n
  let begins := !d.on p F.RXL_FWD_STAT_fwd || (d.rx n).ending
  if !d.forwarding n || !d.txDriving t || (d.tx t).quiet || (d.tx t).handoff.isSome || (begins && !d.aligned n) then (false, d)
  else if begins then ((if (d.rx n).ending then (d.fwdFlush n).fwdQuiet n else d).fwdBegin n).spliceMux n b.bits line
  else if (d.rx n).drop ≠ 0 then (false, d.setRx n { d.rx n with drop := (d.rx n).drop - 1 })
  else
    let d := if d.aligned n then d else d.fwdPair n (d.blockOdd n b)
    let (k, d) := d.elastic n b.fill
    let d := d.steer n
    (List.range k).foldl (fun x _ => let y := x.2.spliceMux n b.bits line; (x.1 || y.1, y.2)) (false, d)

/-! ## Alignment and descrambling (R234 to R236) -/

/-- A block is valid in its framing (Table 8.3). -/
def blockValid (framing : Nat) (bits : List Bool) : Bool :=
  match framing with
  | 0 => true
  | 1 => (decode10 bits).isSome
  | _ => bits.getD 0 false != bits.getD 1 false

/-- What moves the aligner on: a K28.5 comma in 8b/10b, a valid header otherwise. -/
def blockMark (framing : Nat) (bits : List Bool) : Bool := if framing = 1 then isComma bits else blockValid framing bits

/-- The aligner can take a block at an offset (R235): in HUNT at any in 8b/10b and at none that it has passed otherwise, then at
the offset found. Assumption 105, DEDUCED. -/
def Dev.alignOff (d : Dev) (n off : Nat) : Bool :=
  match d.rd (rxPage n) F.RXL_FRAME_framing, d.rd (rxPage n) F.RXL_STAT_align with
  | 0, _ => true
  | 1, 0 => true
  | _, 0 => decide ((d.rx n).off ≤ off)
  | _, _ => (d.rx n).off == off

/-- The aligner takes a block (Table 8.3); a check that fails in VERIFY moves the offset one stream bit on (R235). -/
def Dev.alignStep (d : Dev) (n off : Nat) (bits : List Bool) : Dev :=
  let p := rxPage n
  let f := d.rd p F.RXL_FRAME_framing
  let r := d.rx n
  if f = 0 then d
  else
    let valid := blockValid f bits
    let mark := blockMark f bits
    match d.rd p F.RXL_STAT_align with
    | 0 => if mark then (d.wr p F.RXL_STAT_align 1).setRx n { r with good := 0, off := off } else d
    | 1 =>
      if !valid then (d.wr p F.RXL_STAT_align 0).setRx n { r with good := 0, off := (r.off + 1) % d.rxBlockBits n }
      else if mark then
        (if r.good + 1 = (if f = 1 then 3 else if f = 2 then 64 else 32) then d.align n
         else d.setRx n { r with good := r.good + 1 })
      else d
    | _ =>
      let recent := (valid :: r.recent).take (if f = 1 then 16 else 64)
      let bad := (recent.filter (!·)).length
      let d := d.setRx n { r with recent := recent }
      let d := if valid then d else d.bump p F.RXL_CNT_code_err
      if (if f = 1 then 4 else if f = 2 then 16 else 8) ≤ bad then
        (d.hunt n).raiseIf p F.RXL_EV_lost_en F.RXL_EV_lost_ev
      else d

/-- The stream of a block as the capture engine sees it (R236). -/
def Dev.descramble (d : Dev) (n : Nat) (bits : List Bool) : List Bool × Dev :=
  let p := rxPage n
  let r := d.rx n
  match d.rd p F.RXL_FRAME_scr with
  | 1 =>
    let (o, h) := descramble58 r.hist (bits.drop 2)
    (bits.take 2 ++ o, d.setRx n { r with hist := h })
  | 2 =>
    let (o, k) := scramble130 (BitVec.ofNat 23 (d.rd p F.RXL_SCR_SEED_seed)) (d.rd p F.RXL_SCR_RESEED_pat) r.key bits
    (o, d.setRx n { r with key := k })
  | _ => (bits, d)

end Sys2Proof.Machine
end

