-- ==== Sys2Proof/Machine/Paths.lean ====
section
/-! DEFINITION. The moves of the Safety Net's paths (spec/16_cartridge_safety_net_and_ring.md R433 to R439): where each path
belongs, and what the device commands. -/
namespace Sys2Proof.Machine

/-- The paths that belong in module position. While a mode change runs, those of Table 16.2: all on the way to EXERCISE and in the
first half of a check cycle, none otherwise. Outside a change those of R434: all in EXERCISE, the forwarded pairs of RUNNING acts and
of acts whose paths R436 moves in IN-LINE, none in BYPASS. -/
def Dev.wantedPaths (d : Dev) : Nat :=
  if d.on 0x00 F.GLB_MODE_STAT_changing then
    (if d.net.check == 1 || (d.net.check == 0 && d.rd 0x00 F.GLB_MODE_mode == 1) then 0xFFFF else 0)
  else
    match d.mode with
    | 1 => 0xFFFF
    | 2 =>
      ((List.range 16).filter fun k =>
        d.forwarding k || (d.liveSlots.any fun s => d.bill.pathWait.testBit s && (d.fwdSources s).contains k)).foldl
        (fun v k => v + 2 ^ k) 0
    | _ => 0

/-- One path is commanded to a position; its RX lane is isolated from where it leaves module position (R435). -/
def Dev.movePath (d : Dev) (k : Nat) (module : Bool) : Dev := (d.command k module).rxSettle k

/-- Some paths take the positions where they belong. -/
def Dev.settleSome (d : Dev) (ks : List Nat) : Dev :=
  let paths := d.wantedPaths
  ks.foldl (fun d k => d.movePath k (paths.testBit k)) d

/-- All paths do. -/
def Dev.settlePaths (d : Dev) : Dev := d.settleSome (List.range 16)

/-- A change to the mode that GLB_MODE asks for starts moving its paths (Table 16.2). -/
def Dev.startMode (d : Dev) (to_ : Nat) : Dev :=
  let from_ := d.mode
  let d := d.wr 0x00 F.GLB_MODE_STAT_changing 1
  let check := (from_ = 0 ∧ to_ = 2) ∨ (from_ = 2 ∧ to_ = 0)
  ({ d with net := { d.net with check := if check then 1 else 0 } }).settlePaths

/-- All commanded moves are confirmed. -/
def Dev.pathsSettled (d : Dev) : Bool := d.net.moving == 0

/-- A check cycle whose paths have all reached module position sends them back (R437). -/
def Dev.checkReturn (d : Dev) : Dev :=
  if d.net.check = 1 ∧ d.pathsSettled then ({ d with net := { d.net with check := 2 } }).settlePaths else d

/-- Actuation is removed: every path returns to bypass (R438), and every RX lane is isolated (R435). -/
def Dev.releasePaths (d : Dev) : Dev :=
  let d := (d.wr 0x92 F.SN_CMD_module 0).wr 0x92 F.SN_POS_module 0
  ({ d with net := { d.net with moving := 0, check := 0 } }).rxSettleAll

end Sys2Proof.Machine
end

