-- ==== Sys2Proof/Machine/Tiles.lean ====
section
/-! DEFINITION. Tile space (spec/05_segments_tiles_and_hot_residency.md R133, R134, R138): tags, states, the check at use; and the
array that holds it (spec/10_deep_memory.md R280): what the controller delivers where stored bits have changed. -/
namespace Sys2Proof.Machine

def Dev.tile (d : Dev) (t : Nat) : TileInfo := tabGet (fun _ => TileInfo.init) d.tiles t
def Dev.setTile (d : Dev) (t : Nat) (i : TileInfo) : Dev :=
  { d with tiles := tabSet (fun _ => TileInfo.init) d.tiles t i }

/-- The 4096 bytes of a tile as they were written. -/
def Mem.tile (m : Mem) (t : Nat) : Bytes := bytesGet 0 m.tiles (4096 * t) 4096

/-- Bytes of tile space under enables. -/
def Mem.putTileBytes (m : Mem) (a : Nat) (bs : List (Option Byte)) : Mem := { m with tiles := bytesSetEn 0 m.tiles a bs }

/-- The check of R138 on the contents that a read delivers: the state is VALID and the tag is their CRC-32C. -/
def tilePasses (d : Dev) (t : Nat) (bs : Bytes) : Bool := decide ((d.tile t).st = .valid) && decide (crc32c bs = (d.tile t).tag)

/-! ## The array (R280) -/

/-- The wrong bytes among `n` from `a` on, with their wrong bits. -/
def Dev.flipsIn (d : Dev) (a n : Nat) : Flips := d.dm.flips.filter fun x => decide (a ≤ x.1) && decide (x.1 < a + n)

/-- How many bytes are wrong in the 32-byte unit that holds a byte. -/
def Dev.unitErrors (d : Dev) (a : Nat) : Nat := (d.flipsIn (a / 32 * 32) 32).length

/-- The units with exactly `k` wrong bytes among those that `n` bytes from `a` on touch. -/
def Dev.unitsWith (d : Dev) (a n k : Nat) : List Nat :=
  ((d.flipsIn (a / 32 * 32) ((a + n + 31) / 32 * 32 - a / 32 * 32)).map fun x => x.1 / 32).eraseDups.filter fun u =>
    d.unitErrors (32 * u) == k

/-- What a read delivers: a unit with one wrong byte corrected, one with more as stored. -/
def Dev.arrayRead (d : Dev) (m : Mem) (a n : Nat) : Bytes :=
  ((d.flipsIn a n).filter fun x => decide (2 ≤ d.unitErrors x.1)).foldl
    (fun bs x => bs.modify (x.1 - a) (· ^^^ x.2)) (bytesGet 0 m.tiles a n)

/-- Stored bits change. A tile that the clearing sweep has yet to reach holds nothing (R293). Assumption 111, DEDUCED. -/
def Dev.strike (d : Dev) (fs : Flips) : Dev :=
  fs.foldl
    (fun d x =>
      if tileCount ≤ x.1 / 4096 ∨ (d.on 0x60 F.DM_STAT_clearing ∧ (d.tile (x.1 / 4096)).st = .unwritten) then d
      else
        { d with dm := { d.dm with
            flips := tabSet (fun _ => (0 : Byte)) d.dm.flips x.1 (tabGet (fun _ => 0) d.dm.flips x.1 ^^^ x.2) } }) d

/-- `n` bytes from `a` on are stored anew, whole units: their errors are gone. -/
def Dev.renewed (d : Dev) (a n : Nat) : Dev := { d with dm := { d.dm with flips := bytesClear d.dm.flips a (a + n) } }

end Sys2Proof.Machine
end

