-- ==== Sys2Proof/Machine/DeepMem.lean ====
section
/-! DEFINITION. The deep memory controller (spec/10_deep_memory.md): the address map, the tile error log, uncorrectable
errors and retirement, row disturbance, self-refresh, the pin rate; reads, whole and partial writes of a tile
(spec/05_segments_tiles_and_hot_residency.md R135, R136). -/
namespace Sys2Proof.Machine

/-! ## The map (R278, R279) -/

def tileStack (t : Nat) : Nat := t % 4
def tileLpc (t : Nat) : Nat := t / 4 % 31
def tileSlot (t : Nat) : Nat := t / 4 / 31
def tileQuad (t : Nat) : Nat := tileSlot t % 12
def tileRow (t : Nat) : Nat := tileSlot t / 12

def stackPage (s : Nat) : Nat := 0x61 + s

/-- The bank of tile quarter `g`: stack ID, bank group, bank (R279). -/
def tileBank (t g : Nat) : Nat := tileQuad t / 4 * 16 + g * 4 + tileQuad t % 4

/-- The field of DMS_MAP that holds logical pseudo-channel `l`. -/
def mapField (l : Nat) : Field :=
  (match l % 4 with
   | 0 => F.DMS_MAP_pc0 | 1 => F.DMS_MAP_pc1 | 2 => F.DMS_MAP_pc2 | _ => F.DMS_MAP_pc3).at (l / 4)

/-- The physical pseudo-channel of a logical one (R278). -/
def Dev.physical (d : Dev) (s l : Nat) : Nat := d.rd (stackPage s) (mapField l)

/-- Where the requests to a tile go: during a migration, slots that have been copied lie in the spare (R301 step 3). -/
def Dev.routed (d : Dev) (t : Nat) : Nat :=
  let p := stackPage (tileStack t)
  if d.on p F.DMS_STAT_migrating ∧ d.rd p F.DMS_MIG_lpc = tileLpc t ∧ tileSlot t < d.rd p F.DMS_MIG_PTR_slots then
    d.rd p F.DMS_MIG_to
  else d.physical (tileStack t) (tileLpc t)

/-! ## The tile error log (R304) -/

/-- The window shows the oldest entry. -/
def Dev.showTlog (d : Dev) : Dev :=
  let d := d.wr 0x60 F.DM_TLOG_STAT_count d.dm.tlog.length
  let (t, i, ts) := match d.dm.tlog with
    | [] => (0, (0 : Word), (0 : Stamp))
    | e :: _ => (e.tile, e.info, e.ts)
  let d := d.wr 0x60 F.DM_TLOG_TILE_tile t
  let d := d.putBits (addrOf 0x60 0x074) 0xFFFFFFFF i
  d.wrPair 0x60 F.DM_TLOG_TS_LO F.DM_TLOG_TS_HI ts

/-- DM_TLOG_INFO of a detection (Table 10.8). -/
def tlogInfo (cause m : Nat) (sq : Option Nat) (t : Nat) : Word :=
  BitVec.ofNat 32 (cause + 2 ^ 4 * m + (match sq with | some n => 2 ^ 8 * n + 2 ^ 13 | none => 0) +
    2 ^ 16 * tileStack t + 2 ^ 18 * tileLpc t + 2 ^ 31)

/-- A cause takes another's place in one entry: UNCORR any, and the lower code. -/
def tlogWins (new old : Nat) : Bool := new != old && old != 3 && (new == 3 || decide (new < old))

/-- The latest entry of a tile takes a further detection of the same cycle. -/
def tlogMerge (t cause : Nat) (info : Word) : List TLogEntry → List TLogEntry
  | [] => []
  | e :: r =>
    if e.tile = t && !(r.any fun x => x.tile == t) then
      (if tlogWins cause (e.info.toNat % 16) then { e with info := info } else e) :: r
    else e :: tlogMerge t cause info r

/-- A detection makes an entry, or is counted while the log is full; one on a tile that has one in this cycle makes none of its
own. The entry keeps the read whose cause it shows. Assumption 110, DEDUCED. -/
def Dev.tlogAdd (d : Dev) (t cause m : Nat) (sq : Option Nat) : Dev :=
  match d.dm.logged.find? fun x => x.1 == t with
  | some (_, false) => d
  | some (_, true) =>
    ({ d with dm := { d.dm with tlog := tlogMerge t cause (tlogInfo cause m sq t) d.dm.tlog } }).showTlog
  | none =>
    let room := decide (d.dm.tlog.length < 16)
    let d := { d with dm := { d.dm with logged := (t, room) :: d.dm.logged } }
    if room then
      let d := { d with dm := { d.dm with tlog := d.dm.tlog ++ [(⟨t, tlogInfo cause m sq t, d.now⟩ : TLogEntry)] } }
      d.showTlog.stat 0x60 17
    else d.bump 0x60 F.DM_TLOG_STAT_lost

def Dev.tlogPop (d : Dev) : Dev := ({ d with dm := { d.dm with tlog := d.dm.tlog.drop 1 } }).showTlog

/-! ## Errors and retirement (R299 to R302) -/

/-- Correctable errors are counted, one for each unit (R299). Assumption 111, DEDUCED. -/
def Dev.dmCorrected (d : Dev) (t n : Nat) : Dev := d.bump (stackPage (tileStack t)) F.DMS_CNT_corrected n

/-- An uncorrectable error in a read of a tile by a master (R300, R302). -/
def Dev.dmUncorr (d : Dev) (t m : Nat) (sq : Option Nat) : Dev :=
  let s := tileStack t
  let p := stackPage s
  let d := d.setTile t ⟨.bad, (d.tile t).tag⟩
  let d := (d.bump p F.DMS_CNT_uncorr).stat p 16
  let d := (d.tlogAdd t 3 m sq).raiseSys 249
  let k := d.stack s
  if k.retire.isSome then d
  else if d.on p F.DMS_STAT_spare_free then d.setStack s { k with retire := some (tileLpc t) }
  else if k.exhausted then d
  else (d.setStack s { k with exhausted := true }).stat p 19

/-- Retirement starts (R301 step 1). Assumption 68, DESIGN CHOICE. -/
def Dev.migrate (d : Dev) (s : Nat) : Dev :=
  let p := stackPage s
  match (d.stack s).retire with
  | none => d
  | some l =>
    if d.on p F.DMS_STAT_migrating then d
    else
      let d := (d.wr p F.DMS_STAT_migrating 1).fbit 0x60 F.DM_STAT_migrating s true
      let d := ((d.wr p F.DMS_MIG_lpc l).wr p F.DMS_MIG_from (d.physical s l)).wr p F.DMS_MIG_to (d.rd p F.DMS_MAP7_spare)
      (d.wr p F.DMS_MIG_PTR_slots 0).stat p 17

/-! ## Row disturbance (R290) -/

/-- A row's table after one activation: the entries, and whether a count reached the threshold. `pick` chooses among the
entries of lowest count. -/
def rowActivate (thr row pick : Nat) (t : List (Nat × Nat)) : List (Nat × Nat) × Bool :=
  let bump (old : Nat) (rest : List (Nat × Nat)) : List (Nat × Nat) × Bool :=
    if thr ≤ old + 1 then (rest ++ [(row, 0)], true) else (rest ++ [(row, old + 1)], false)
  match t.find? (fun e => e.1 == row) with
  | some e => bump e.2 (t.erase e)
  | none =>
    if t.length < 32 then bump 0 t
    else
      let low := t.foldl (fun m e => min m e.2) 65536
      let ties := t.filter fun e => e.2 == low
      match ties[pick % ties.length]? with
      | some e => bump e.2 (t.erase e)
      | none => bump 0 t

/-- A row of a bank is activated. -/
def Dev.activate (d : Dev) (s key row : Nat) : Dev :=
  let t := tabGet (fun _ => []) (d.stack s).rows key
  let (w, d) := if t.length < 32 then ((0 : Word), d) else d.fresh
  let (es, hit) := rowActivate (d.rd 0x60 F.DM_RD_thr) row w.toNat t
  let d := d.setStack s { d.stack s with rows := tabSet (fun _ => []) (d.stack s).rows key es }
  if hit then d.bump (stackPage s) F.DMS_RD_CNT else d

/-- An access to a row of a bank: a hit where it is open and its last hit is less than 120 ns ago, else an activation (R287).
Assumption 112, DEDUCED. -/
def Dev.openRow (d : Dev) (s key row : Nat) : Dev :=
  let open_ := match tabGet (fun _ => none) (d.stack s).opened key with
    | some (r, at_) => r == row && decide ((d.count - at_).toNat < 120)
    | none => false
  let d := if open_ then d else d.activate s key row
  d.setStack s { d.stack s with opened := tabSet (fun _ => none) (d.stack s).opened key (some (row, d.count)) }

/-- The quarters of a tile that bytes of it touch (R279). -/
def quarters (off n : Nat) : List Nat :=
  (List.range 4).filter fun g => decide (off < 1024 * (g + 1)) && decide (1024 * g < off + n)

/-- The rows of bytes of a tile are accessed in a physical pseudo-channel. -/
def Dev.openRows (d : Dev) (pc t off n : Nat) : Dev :=
  (quarters off n).foldl (fun d g => d.openRow (tileStack t) (pc * 48 + tileBank t g) (tileRow t)) d

/-! ## Self-refresh and the ceiling (R288, R291) -/

/-- A stack enters or leaves self-refresh. -/
def Dev.setSr (d : Dev) (s : Nat) (b : Bool) : Dev :=
  let d := if b then d.setStack s { d.stack s with opened := [] } else d
  (d.wr (stackPage s) F.DMS_STAT_sr b.toNat).fbit 0x60 F.DM_STAT_sr s b

/-- A request reaches bytes of a tile: its stack leaves self-refresh, and their rows are accessed. -/
def Dev.dmReach (d : Dev) (t off n : Nat) : Dev :=
  let s := tileStack t
  let d := if d.on (stackPage s) F.DMS_STAT_sr then d.setSr s false else d
  (d.setStack s { d.stack s with last := d.count }).openRows (d.routed t) t off n

/-- DM_CEIL for the rate in effect and the hazard mode (Table 10.3); the sum is 0 while a change runs. -/
def Dev.showCeil (d : Dev) : Dev :=
  let r := d.rd 0x60 F.DM_STAT_rate
  let h := d.on 0x60 F.DM_CFG_hazard
  let gbs := if h then 600 + 300 * r else 800 + 400 * r
  let pc := if h then 72 + 36 * r else 96 + 48 * r
  (d.wr 0x60 F.DM_CEIL_gbs (if d.on 0x60 F.DM_STAT_changing then 0 else gbs)).wr 0x60 F.DM_CEIL_pc_gbs pc

/-- Some act that is ADMITTED or RUNNING declares deep memory bandwidth. -/
def Dev.dmDeclared (d : Dev) : Nat := (d.liveSlots.map fun s => d.rd 0x03 (F.ACT_AUX_dm_gbs.at s)).foldl (· + ·) 0

/-- New requests wait from the write that changes the pin rate, latched or not, until the change ends (R295, Table 10.6), and while
page 0x60 is forced off (Table 2.3). Assumption 24, DESIGN CHOICE. -/
def Dev.dmWaits (d : Dev) : Bool := d.on 0x60 F.DM_STAT_changing || !d.on 0x60 F.PAGE_CTRL_enable

/-- A pin-rate change runs and is not latched any more (Table 10.6). -/
def Dev.rateRuns (d : Dev) : Bool := d.on 0x60 F.DM_STAT_changing && !d.on 0x60 F.DM_STAT_latched

/-- A write of a pin rate (R295, R296): the rate in effect changes nothing; another rate starts or latches a change; while one is
latched any rate replaces it. Assumption 67, DEDUCED. -/
def Dev.pinRate (d : Dev) (r : Nat) : Dev :=
  if r = d.rd 0x60 F.DM_STAT_rate ∧ !d.on 0x60 F.DM_STAT_latched then d
  else
    let d := { d with dm := { d.dm with rate := r } }
    let d := (d.wr 0x60 F.DM_STAT_changing 1).showCeil
    if d.on 0x60 F.DM_STAT_training then d.wr 0x60 F.DM_STAT_latched 1 else d

/-- The refresh band of a temperature, coming from a band (Table 10.4, R289): up at a lower bound, down 3 °C below it. -/
def refreshBand (old : Nat) (temp : Int) : Nat :=
  let up := if temp < 85 then 0 else if temp < 95 then 1 else if temp < 105 then 2 else 3
  let down := if temp ≤ 82 then 0 else if temp ≤ 92 then 1 else if temp ≤ 102 then 2 else 3
  if old < up then up else if down < old then down else old

/-- The states that a tile query shows (Table 10.8). -/
def TileState.code (t : TileState) : Nat := match t with | .unwritten => 0 | .valid => 1 | .bad => 2

/-! ## Reads and writes of a tile -/

/-- A read of `n` bytes of a tile from `off` on: what it delivers, whether it met an uncorrectable error, and what it does (R299,
R300). -/
def readTile (d : Dev) (m : Mem) (t off n who : Nat) (sq : Option Nat) : Bytes × Bool × Dev :=
  let a := 4096 * t + off
  let lost := !(d.unitsWith a n 2).isEmpty
  let bs := d.arrayRead m a n
  let d := (d.dmReach t off n).dmCorrected t (d.unitsWith a n 1).length
  (bs, lost, if lost then d.dmUncorr t who sq else d)

/-- A write of a tile is accepted: a write-back of scrub to it that is still to come is dropped (R303). -/
def Dev.dropBack (d : Dev) (t : Nat) : Dev :=
  match d.dm.back with
  | some (b, _) => if b = t then { d with dm := { d.dm with back := none } } else d
  | none => d

/-- A write of a whole tile (R135). -/
def writeWhole (d : Dev) (m : Mem) (t : Nat) (bs : Bytes) : Dev × Mem :=
  let d := ((d.dmReach t 0 4096).dropBack t).renewed (4096 * t) 4096
  (d.setTile t ⟨.valid, crc32c bs⟩, m.putTileBytes (4096 * t) (bs.map some))

/-- A partial write (R136): the tile is read and checked and the bytes merge; it stays VALID with a new tag where it passed, and is
BAD with its old tag otherwise. The whole tile is written back, and its units hold no error any more. Assumption 66, DEDUCED. -/
def writePart (d : Dev) (m : Mem) (t off : Nat) (bs : List (Option Byte)) (who : Nat) : Dev × Mem :=
  let (old, _, d) := readTile (d.dropBack t) m t 0 4096 who none
  let new := (List.range 4096).map fun i => if i < off then old.getD i 0 else (bs.getD (i - off) none).getD (old.getD i 0)
  let m := m.putTileBytes (4096 * t) (new.map some)
  ((if tilePasses d t old then d.setTile t ⟨.valid, crc32c new⟩ else d.setTile t ⟨.bad, (d.tile t).tag⟩).renewed
    (4096 * t) 4096, m)

/-! ## Queries (R305) -/

/-- The controller takes a query: it moves no data, but reads the metadata in the tile's rows (R280). -/
def Dev.takeQuery (d : Dev) (t : Nat) : Dev :=
  let d := d.dmReach t 0 4096
  { d with dm := { d.dm with query := some (d.tile t) } }

/-- A write of DM_TILEQ starts a query, and restarts one that runs; it waits among the other requests (R295). -/
def Dev.startQuery (d : Dev) (t : Nat) : Dev :=
  let old := d.dm.waiting.filter fun a => !a.isQuery
  let d := { d with dm := { d.dm with query := none, waiting := old } }
  let d := if d.dmWaits then { d with dm := { d.dm with waiting := old ++ [.query t] } } else d.takeQuery t
  d.wr 0x60 F.DM_TILEA_done 0

/-! ## Migration (R301) -/

/-- The slots of a logical pseudo-channel (R279). -/
def slotCount : Nat := 196608

/-- The next slot is copied: the tile with its tag and state, its stored bytes and BAD where the read is uncorrectable. -/
def copySlot (d : Dev) (m : Mem) (s : Nat) : Dev × Mem :=
  let p := stackPage s
  let w := d.rd p F.DMS_MIG_PTR_slots
  let t := 4 * (31 * w + d.rd p F.DMS_MIG_lpc) + s
  let (bs, _, d) := readTile d m t 0 4096 0 none
  let d := ((d.openRows (d.rd p F.DMS_MIG_to) t 0 4096).renewed (4096 * t) 4096).wr p F.DMS_MIG_PTR_slots (w + 1)
  (d, m.putTileBytes (4096 * t) (bs.map some))

/-- Up to `n` further slots are copied. -/
def copySlots (d : Dev) (m : Mem) (s : Nat) : Nat → Dev × Mem
  | 0 => (d, m)
  | n + 1 =>
    if d.on (stackPage s) F.DMS_STAT_migrating ∧ d.rd (stackPage s) F.DMS_MIG_PTR_slots < slotCount then
      let (d, m) := copySlot d m s
      copySlots d m s n
    else (d, m)

/-- Retirement ends (R301 step 5). -/
def Dev.migrated (d : Dev) (s : Nat) : Dev :=
  let p := stackPage s
  let l := d.rd p F.DMS_MIG_lpc
  let d := d.wr p (mapField l) (d.rd p F.DMS_MIG_to)
  let d := (d.fbit p F.DMS_RETIRED (d.rd p F.DMS_MIG_from) true).wr p F.DMS_STAT_spare_free 0
  let d := (d.wr p F.DMS_MAP7_spare 0).wr p F.DMS_MAP7_spare_valid 0
  let d := (d.wr p F.DMS_STAT_migrating 0).fbit 0x60 F.DM_STAT_migrating s false
  ((d.setStack s { d.stack s with retire := none }).stat p 18).raiseSys 250

/-- The rest of the slots is copied, and retirement ends. -/
def migrateEnd (d : Dev) (m : Mem) (s : Nat) : Dev × Mem :=
  if d.on (stackPage s) F.DMS_STAT_migrating && !d.dmWaits then
    let (d, m) := copySlots d m s slotCount
    (d.migrated s, m)
  else (d, m)

/-! ## Scrub (R303) -/

/-- The time since the present scrub pass began reaches the period of DM_SCRUB. -/
def Dev.passDue (d : Dev) : Bool := decide (32768 * 3600 * d.rd 0x60 F.DM_SCRUB_hours ≤ (d.rtc - d.dm.scrubFrom).toNat)

/-- The tile that scrub reads next, and whether a new pass begins with it: VALID and BAD tiles in ascending order. -/
def Dev.scrubNext (d : Dev) : Option (Nat × Bool) :=
  let ts := (d.tiles.filter fun x => x.2.st != .unwritten).map Prod.fst
  match ts.find? fun t => decide (d.dm.scrubAt ≤ t) with
  | some t => some (t, false)
  | none => if d.passDue then ts.head?.map fun t => (t, true) else none

/-- Scrub writes corrected units back, unless a write came between (R303): the write reaches their rows (R290, R291). -/
def Dev.writeBack (d : Dev) : Dev :=
  match d.dm.back with
  | some (t, us) =>
    us.foldl (fun d u => (d.dmReach t (32 * u - 4096 * t) 32).renewed (32 * u) 32) { d with dm := { d.dm with back := none } }
  | none => d

/-- Scrub reads a tile (R303). -/
def scrubTile (d : Dev) (m : Mem) (t : Nat) : Dev :=
  let us := d.unitsWith (4096 * t) 4096 1
  let valid := (d.tile t).st == .valid
  let (bs, lost, d) := readTile d.writeBack m t 0 4096 0 none
  let d := if us.isEmpty then d else { d with dm := { d.dm with back := some (t, us) } }
  if valid && !lost && !tilePasses d t bs then (d.setTile t ⟨.bad, (d.tile t).tag⟩).tlogAdd t 4 0 none else d

/-! ## Starting (R297) -/

/-- A stack has completed its full training: every group's retraining counts from here (R298). -/
def Dev.fullTraining (d : Dev) (s : Nat) : Dev :=
  let temp := BitVec.ofNat 8 (d.rd (stackPage s) F.DMS_STAT_temp)
  d.setStack s { d.stack s with
    train := none
    trained := (List.range 8).foldl (fun t g => tabSet (fun _ => ((0 : BitVec 48), (0 : BitVec 8))) t g (d.count, temp)) (d.stack s).trained }

/-- Deep memory starts to serve: the stacks are trained and idle, and a scrub pass begins. Assumption 113, DEDUCED. -/
def Dev.dmStart (d : Dev) : Dev :=
  let d := (List.range 4).foldl (fun d s => (d.setStack s { d.stack s with last := d.count }).fullTraining s) d
  { d with dm := { d.dm with scrubAt := 0, scrubFrom := d.rtc } }

end Sys2Proof.Machine
end

