-- ==== Sys2Proof/Machine/Capture.lean ====
section
/-! DEFINITION. Capture (spec/09_capture_and_triggers.md): matchers, the trigger sequencer, records, and their placement in
tiles. `c` is the engine, `k` a lane within its port. -/
namespace Sys2Proof.Machine

def trgPage (c : Nat) : Nat := 0x5B + 4 * c
def mtPage (c j : Nat) : Nat := 0x58 + 4 * c + j / 16

def Dev.lane (d : Dev) (c k : Nat) : LaneCap := tabGet (fun _ => LaneCap.init) (d.cap c).lanes k
def Dev.setLane (d : Dev) (c k : Nat) (l : LaneCap) : Dev :=
  d.setCap c { d.cap c with lanes := tabSet (fun _ => LaneCap.init) (d.cap c).lanes k l }

/-- CE_STAT.state: 0 IDLE, 1 CAPTURE, 2 POST, 3 CLOSING, 4 DONE. -/
def Dev.ceState (d : Dev) (c : Nat) : Nat := d.rd (cePage c) F.CE_STAT_state

/-- The engine takes blocks. -/
def Dev.ceTakes (d : Dev) (c : Nat) : Bool := d.ceState c == 1 || d.ceState c == 2

/-- A RUNNING act names the engine and the lane (R251). -/
def Dev.ceWatches (d : Dev) (c k : Nat) : Bool :=
  match d.slotOf F.ACT_ENG_ce c with
  | some s => d.names F.ACT_LANES_rx (8 * c + k) s
  | none => false

/-- The engine stores the lane's blocks (R251). -/
def Dev.ceStores (d : Dev) (c k : Nat) : Bool := d.ceWatches c k && d.has (cePage c) F.CE_CFG_lanes k

/-! ## Records (R263, Tables 9.6 to 9.8) -/

/-- A record's header fields, before its number is known. -/
structure Record where
  typ : Nat
  lane : Nat
  err : Bool := false
  rep : Bool := false
  trig : Bool := false
  post : Bool := false
  w1 : Nat := 0
  ts : Stamp := 0
  aux : Nat := 0
  last : Nat := 0
  payload : Bytes := []
  deriving DecidableEq, Repr

/-- The bytes of a record padded to a multiple of 32 (R263). -/
def padTo32 (bs : Bytes) : Bytes := bs ++ List.replicate ((32 - bs.length % 32) % 32) 0

/-- A record's bytes: the header of Table 9.7 and the padded payload. -/
def Record.bytes (r : Record) (c seq : Nat) : Bytes :=
  natBytes 4 (r.typ + 2 ^ 8 * r.lane + 2 ^ 12 * c + 2 ^ 13 + 2 ^ 16 * r.payload.length + 2 ^ 26 * r.err.toNat +
    2 ^ 27 * r.rep.toNat + 2 ^ 28 * r.trig.toNat + 2 ^ 29 * r.post.toNat) ++
  natBytes 4 r.w1 ++ natBytes 8 r.ts.toNat ++ natBytes 4 seq ++ natBytes 4 r.aux ++ natBytes 8 r.last ++
  padTo32 r.payload

/-- Stream bits as bytes, the first bit lowest (R264). -/
def bitBytes (bs : List Bool) : Bytes := natBytes ((bs.length + 7) / 8) (bitsNat bs)

/-- Bytes as queue entries of 64 bytes, the last filled with zeros. -/
def bytesEntries (bs : Bytes) : List (BitVec 512) :=
  (List.range ((bs.length + 63) / 64)).map fun i => BitVec.ofNat 512 (bytesNat ((bs.drop (64 * i)).take 64))

/-- Header word 1 of a lane's record but for its block count and idle pattern (Table 9.7). -/
def Dev.recW1 (d : Dev) (c k : Nat) : Nat :=
  let p := rxPage (8 * c + k)
  2 ^ 16 * d.rd p F.RXL_FRAME_framing + 2 ^ 18 * (d.rx (8 * c + k)).pam.toNat +
    2 ^ 19 * d.rd p F.RXL_FRAME_gray + 2 ^ 20 * d.rd p F.RXL_FRAME_scr + 2 ^ 22 * (d.forwarding (8 * c + k)).toNat +
    2 ^ 23 * d.rd p F.RXL_STAT_prof + 2 ^ 24 * d.rd (trgPage c) F.TRG_STAT_state

/-- Header word 1 of a record of the whole engine: the trigger sequencer's state alone. -/
def Dev.recW1All (d : Dev) (c : Nat) : Nat := 2 ^ 24 * d.rd (trgPage c) F.TRG_STAT_state

def Dev.ceTriggered (d : Dev) (c : Nat) : Bool := d.on (cePage c) F.CE_STAT_triggered

/-- The trigger block has come, for a record of the whole engine (Table 9.7, post). -/
def Dev.cePast (d : Dev) (c : Nat) : Bool := d.ceTriggered c && (d.cap c).came

/-- The same for a record of a lane, whose own trigger block, where it has one, is not still to come. -/
def Dev.lanePast (d : Dev) (c k : Nat) : Bool := d.cePast c && (d.lane c k).trigNext == .none

/-- A record joins the capture queue and takes the next number; none where it does not fit before `reserve` bytes. -/
def Dev.putRecord (d : Dev) (c reserve : Nat) (r : Record) : Option Dev :=
  let q := (d.cap c).seq
  let es := bytesEntries (r.bytes c q)
  if 64 * d.queueFree c < 64 * es.length + reserve then none
  else
    (d.qPush c es).map fun d =>
      (d.setCap c { d.cap c with seq := q + 1 }).wr (cePage c) F.CE_SEQ q

/-- A GAP, TRIGGER, LANE or CLOSE record, which may use the reserve (R276). False where it was dropped. -/
def Dev.putMeta (d : Dev) (c : Nat) (r : Record) : Bool × Dev :=
  match d.putRecord c 0 r with
  | some d => (true, d)
  | none => (false, ((d.qRewind c []).bump (cePage c) F.CE_META_meta_lost).stat (cePage c) 20)

/-- The GAP record of a lane's consecutive losses precedes its next record (R276). -/
def Dev.flushGap (d : Dev) (c k : Nat) : Dev :=
  match (d.lane c k).gap with
  | none => d
  | some g =>
    let d := d.setLane c k { d.lane c k with gap := none }
    (d.putMeta c
      { typ := 3, lane := k, post := d.lanePast c k, w1 := d.recW1 c k, ts := g.tsFirst, aux := min g.n (2 ^ 32 - 1),
        last := g.tsLast.toNat }).2

/-- Blocks of a lane are lost (R276). -/
def Dev.loseBlocks (d : Dev) (c k n : Nat) : Dev :=
  (d.bump (cePage c + 1) (F.CE_LOST.at k) n).setCap c { d.cap c with lost := (d.cap c).lost + n }

/-- A closed record of `n` blocks is dropped: the lane's gap opens or grows (R276). -/
def Dev.dropBlocks (d : Dev) (c k n : Nat) (tsFirst tsLast : Stamp) : Dev :=
  let d := (d.loseBlocks c k n).stat (cePage c) 18
  match (d.lane c k).gap with
  | some g => d.setLane c k { d.lane c k with gap := some ⟨g.tsFirst, tsLast, g.n + n⟩ }
  | none =>
    (d.setLane c k { d.lane c k with gap := some ⟨tsFirst, tsLast, n⟩ }).raiseIf (cePage c) F.CE_EV_gap_en F.CE_EV_gap_ev

/-- A DATA or IDLE_RUN record of `n` blocks is queued behind the lane's GAP record, or dropped where that would leave less
than 2 KiB free (R276). Answers whether it was queued. Assumption 62, DEDUCED. -/
def Dev.putData (d : Dev) (c k n : Nat) (r : Record) (tsLast : Stamp) : Bool × Dev :=
  let size := (bytesEntries (r.bytes c 0)).length + ((d.lane c k).gap.isSome).toNat
  if 64 * d.queueFree c < 64 * size + 2048 then
    (false, (d.qRewind c []).dropBlocks c k n r.ts tsLast)
  else
    let d := d.flushGap c k
    match d.putRecord c 2048 r with
    | some d =>
      (true, if r.typ = 1 then d.bump (cePage c + 1) (F.CE_STORED.at k) n else d.bump (cePage c + 1) (F.CE_IDLED.at k) n)
    | none => (false, d)

/-- The post count that starts with the TRIGGER record (R273). -/
def Dev.postCount (d : Dev) (c : Nat) : Option Nat :=
  let p := cePage c
  if d.on p F.CE_POST_en then
    some (if d.rd p F.CE_CFG_mode = 1 then min (d.rd p F.CE_POST_tiles) (d.rd p F.CE_REGION_LEN_tiles - 1)
      else d.rd p F.CE_POST_tiles)
  else none

/-- A dropped TRIGGER record leaves CE_TRIG_TILE and CE_TRIG_OFF at all ones (R273). -/
def Dev.trigNowhere (d : Dev) (c : Nat) : Dev :=
  (d.wr (cePage c) F.CE_TRIG_TILE_tile 0x1FFFFFF).wr (cePage c) F.CE_TRIG_OFF_off 0xFFF

/-- The TRIGGER record is queued, that of a lane behind the lane's GAP record (R276); its word 6 is the number of the DATA record that holds the trigger block (Table 9.8). A
dropped one leaves CE_TRIG_TILE and CE_TRIG_OFF at all ones (R273), and its post tiles count from the tile CDMA fills. -/
def Dev.putTrigger (d : Dev) (c : Nat) (seq : Option Nat) : Dev :=
  match (d.cap c).trig with
  | none => d
  | some t =>
    let d := d.setCap c { d.cap c with trig := none }
    let d := if t.lane < 8 then d.flushGap c t.lane else d
    let (ok, d) := d.putMeta c
      { typ := 4, lane := t.lane, post := d.cePast c, w1 := if t.lane < 8 then d.recW1 c t.lane else d.recW1All c,
        ts := t.ts, aux := t.aux, last := seq.getD 0xFFFFFFFF }
    if ok then d
    else
      let d := d.trigNowhere c
      d.setCap c { d.cap c with post := d.postCount c }

/-- The open DATA record of a lane closes and is queued (R265, RECORD_CLOSE); the TRIGGER record follows the record that holds
its block. -/
def Dev.closeData (d : Dev) (c k : Nat) : Dev :=
  let bs := (d.lane c k).data.reverse
  match bs with
  | [] => d
  | b :: _ =>
    let lastTs := (bs.getLastD b).tsLast
    let d := d.setLane c k { d.lane c k with data := [] }
    let i := bs.findIdx (·.trig)
    let trig := decide (i < bs.length)
    let (ok, d) := d.putData c k bs.length
      { typ := 1, lane := k, err := b.err, rep := b.rep, trig := trig, post := b.post,
        w1 := bs.length % 65536 + b.w1, ts := b.tsFirst, aux := if trig then i else 0, last := lastTs.toNat,
        payload := bitBytes (bs.flatMap (·.bits)) } lastTs
    let mine := match (d.cap c).trig with
      | some t => decide (t.on_ = k)
      | none => false
    if trig && mine then d.putTrigger c (if ok then some ((d.cap c).seq - 1) else none) else d

/-- Blocks that a full DATA record holds (Table 9.1). -/
def fullBlocks (blockBits : Nat) : Nat := 7936 / blockBits

/-- A block joins the lane's DATA record, which closes first where the block would break it (R265). -/
def Dev.addData (d : Dev) (c k : Nat) (b : CapBlk) : Dev :=
  let fits := match (d.lane c k).data with
    | [] => true
    | x :: r => (x.err == b.err) && (x.rep == b.rep) && decide (r.length + 2 ≤ fullBlocks b.bits.length)
  let d := if fits then d else d.closeData c k
  d.setLane c k { d.lane c k with data := b :: (d.lane c k).data }

/-- Idle blocks too few for a run are stored as DATA (R266). -/
def Dev.flushCand (d : Dev) (c k : Nat) : Dev :=
  let bs := (d.lane c k).cand.reverse
  bs.foldl (fun d b => d.addData c k b) (d.setLane c k { d.lane c k with cand := [] })

/-- A trigger block that no DATA record holds lets its TRIGGER record go (Table 9.8). -/
def Dev.trigUnstored (d : Dev) (c k : Nat) : Dev :=
  match (d.cap c).trig with
  | some t => if t.on_ = k then d.putTrigger c none else d
  | none => d

/-- The open idle run of a lane closes (R266); a trigger block that it held lets its TRIGGER record go behind it (R267). -/
def Dev.closeIdle (d : Dev) (c k : Nat) : Dev :=
  match (d.lane c k).idle with
  | none => d
  | some r =>
    let d := d.setLane c k { d.lane c k with idle := none }
    let d := (d.putData c k r.n
      { typ := 2, lane := k, post := r.first.post, w1 := 1 + r.first.w1 + 2 ^ 28 * r.pat, ts := r.first.tsFirst, aux := r.n,
        last := r.tsLast.toNat, payload := bitBytes r.first.bits } r.tsLast).2
    if (d.lane c k).trigNext = .none then d.trigUnstored c k else d

/-- Every open record of a lane closes. -/
def Dev.closeLane (d : Dev) (c k : Nat) : Dev := ((d.flushCand c k).closeData c k).closeIdle c k

def Dev.closeLanes (d : Dev) (c : Nat) : Dev := (List.range 8).foldl (fun d k => d.closeLane c k) d

/-- The idle pattern that a block's first 64 stream bits match first (R266). -/
def Dev.idlePattern (d : Dev) (c : Nat) (bits : List Bool) : Option Nat :=
  let p := cePage c
  (List.range 4).find? fun k =>
    let val := d.rd p (F.CE_IDLE_VAL_LO.at k) + 2 ^ 32 * d.rd p (F.CE_IDLE_VAL_HI.at k)
    let mask := (d.rd p (F.CE_IDLE_MASK_LO.at k) + 2 ^ 32 * d.rd p (F.CE_IDLE_MASK_HI.at k)) % 2 ^ (min 64 bits.length)
    d.has p F.CE_FILT_pat_en k && Nat.land (Nat.xor (bitsNat (bits.take 64)) val) mask == 0

/-- A stored block: idle runs are counted, everything else is DATA (R265, R266). -/
def Dev.storeBlock (d : Dev) (c k : Nat) (b : CapBlk) : Dev :=
  let pat := if b.err || b.rep then none else d.idlePattern c b.bits
  match pat with
  | none => ((d.flushCand c k).closeIdle c k).addData c k b
  | some i =>
    match (d.lane c k).idle with
    | some r =>
      let d := d.setLane c k { d.lane c k with idle := some { r with n := r.n + 1, tsLast := b.tsLast } }
      if r.n + 1 = 2 ^ 32 - 1 then d.closeIdle c k else d
    | none =>
      let cand := b :: (d.lane c k).cand
      if d.rd (cePage c) F.CE_FILT_min_run ≤ cand.length then
        let first := cand.getLastD b
        let d := d.setLane c k { d.lane c k with cand := [] }
        let d := d.closeData c k
        d.setLane c k
          { d.lane c k with
            idle := some ⟨first, (d.idlePattern c first.bits).getD i, cand.length, b.tsLast⟩ }
      else d.setLane c k { d.lane c k with cand := cand }

/-! ## Closing (R274) -/

/-- Capture closes: open records close, a waiting TRIGGER and the CLOSE record are queued. Word 6 of CLOSE is filled in as CDMA
places it. -/
def Dev.capClose (d : Dev) (c reason : Nat) : Dev :=
  if d.ceTakes c then
    let p := cePage c
    let d := d.closeLanes c
    let d := d.putTrigger c none
    let d := (d.wr p F.CE_STAT_close reason).wr p F.CE_STAT_state 3
    (d.putMeta c
      { typ := 6, lane := 0xF, post := d.cePast c, w1 := d.recW1All c, ts := d.now, aux := reason }).2
  else d

/-! ## The trigger sequencer (R258 to R262) -/

/-- A match: the matcher, the lane and the end of its window. -/
abbrev Match := Nat × Nat × Stamp

/-- What moves the sequencer in a step: the matcher, its lane and the end of its window; or an event or the timer. -/
structure Cause where
  matcher : Option Match
  deriving DecidableEq, Repr

/-- The first trigger of an act, and the later ones (R261). -/
def Dev.capTrigger (d : Dev) (c from_ to_ : Nat) (cause : Cause) : Dev :=
  let p := cePage c
  if d.ceTriggered c then d.bump p F.CE_META_retrig
  else
    let ts := match cause.matcher with
      | some (_, _, t) => t
      | none => d.now
    let d := (d.wr p F.CE_STAT_triggered 1).stat p 16
    let d := (d.wr p F.CE_TRIG_TS_LO (ts.toNat % 2 ^ 32)).wr p F.CE_TRIG_TS_HI (ts.toNat / 2 ^ 32)
    let d := d.raiseIf p F.CE_EV_trig_en F.CE_EV_trig_ev
    if !d.ceTakes c then d
    else
      let d := if d.on p F.CE_POST_en then d.wr p F.CE_STAT_state 2 else d
      let stored := (List.range 8).filter (d.ceStores c)
      let on_ := match cause.matcher with
        | some (_, k, _) => k
        | none => stored.headD 8
      let aux := (match cause.matcher with
        | some (j, _, _) => j + 2 ^ 6
        | none => 0) + 2 ^ 8 * to_ + 2 ^ 12 * from_
      let lane := match cause.matcher with
        | some (_, k, _) => k
        | none => 0xF
      let d := d.setCap c { d.cap c with trig := some ⟨on_, lane, ts, aux⟩ }
      let d := match cause.matcher with
        | some (_, k, t) => d.setLane c k { d.lane c k with trigNext := .holds t }
        | none => stored.foldl (fun d k => d.setLane c k { d.lane c k with trigNext := .next }) d
      if on_ = 8 then d.putTrigger c none else d

/-- Entry to a state: the counts clear, then the entry actions apply in order (R260, R261). -/
def Dev.trgEnter (d : Dev) (c from_ to_ : Nat) (cause : Cause) : Dev :=
  let p := trgPage c
  let d := ((d.wr p F.TRG_STAT_state to_).wr p F.TRG_ACNT_count 0).wr p F.TRG_ELAPSED 0
  let d := d.setCap c { d.cap c with seen := 0, timed := false }
  let d := match d.rd p (F.TRG_ACT_store.at to_) with
    | 1 => d.setCap c { d.cap c with gate := true }
    | 2 => (d.closeLanes c).setCap c { (d.closeLanes c).cap c with gate := false }
    | _ => d
  let d := if d.on p (F.TRG_ACT_trigger.at to_) then d.capTrigger c from_ to_ cause else d
  let d := if d.on p (F.TRG_ACT_stop.at to_) then d.capClose c 3 else d
  d.raiseIf p (F.TRG_EV_ent_en.at to_) (F.TRG_EV_ent_ev.at to_)

/-- A bit set of matchers from its two words. -/
def Dev.trgMask (d : Dev) (c s : Nat) (lo hi : Field) : Nat :=
  d.rd (trgPage c) (lo.at s) + 2 ^ 32 * d.rd (trgPage c) (hi.at s)

/-- An op of Table 9.3 is true in a step with these fires, event and timer. -/
def trgOp (op mask ch seen fires : Nat) (ev : Option Nat) (timer : Bool) : Bool :=
  match op with
  | 1 => Nat.land mask fires != 0
  | 2 => Nat.land mask (Nat.lor seen fires) == mask && Nat.land mask seen != mask
  | 3 => ev == some ch
  | 4 => timer
  | _ => false

/-- What a step of the sequencer does (R259): whether A's op is true, and the transition that is taken, with its cause.
`fires` lists matcher, lane and end of window. Assumption 61, DEDUCED. -/
def Dev.trgMove (d : Dev) (c : Nat) (fires : List Match) (ev : Option Nat) (timer : Bool) : Bool × Option (Nat × Cause) :=
  let p := trgPage c
  let s := d.rd p F.TRG_STAT_state
  let set := fires.foldl (fun v f => Nat.lor v (2 ^ f.1)) 0
  let seen := (d.cap c).seen
  let aOp := d.rd p (F.TRG_COND_a_op.at s)
  let bOp := d.rd p (F.TRG_COND_b_op.at s)
  let am := d.trgMask c s F.TRG_A_LO F.TRG_A_HI
  let bm := d.trgMask c s F.TRG_B_LO F.TRG_B_HI
  let a := trgOp aOp am (d.rd p (F.TRG_EV_a_ev.at s)) seen set ev timer
  let b := trgOp bOp bm (d.rd p (F.TRG_EV_b_ev.at s)) seen set ev timer
  let why (op m : Nat) : Cause :=
    match op with
    | 1 => ⟨fires.find? fun f => m.testBit f.1⟩
    | 2 => ⟨fires.find? fun f => m.testBit f.1 && !seen.testBit f.1⟩
    | _ => ⟨none⟩
  (a,
    if a ∧ max 1 (d.rd p (F.TRG_COND_a_cnt.at s)) ≤ min (d.rd p F.TRG_ACNT_count + 1) 65535 then
      some (d.rd p (F.TRG_COND_a_next.at s), why aOp am)
    else if b then some (d.rd p (F.TRG_COND_b_next.at s), why bOp bm)
    else none)

/-- The trigger sequencer runs; its page is not forced off (assumption 24). -/
def Dev.trgRuns (d : Dev) (c : Nat) : Bool := d.on (trgPage c) F.TRG_STAT_running && d.on (trgPage c) F.PAGE_CTRL_enable

/-- One step of the sequencer (R259, R260). Assumption 61, DEDUCED. -/
def Dev.trgStep (d : Dev) (c : Nat) (fires : List Match) (ev : Option Nat) (timer : Bool) : Dev :=
  let p := trgPage c
  if !d.trgRuns c then d
  else
    let (a, move) := d.trgMove c fires ev timer
    let d := if a then d.bump p F.TRG_ACNT_count else d
    match move with
    | some (to_, cause) => d.trgEnter c (d.rd p F.TRG_STAT_state) to_ cause
    | none =>
      d.setCap c { d.cap c with
        seen := fires.foldl (fun v f => Nat.lor v (2 ^ f.1)) (d.cap c).seen, timed := (d.cap c).timed || timer }

/-! ## Matchers (R254 to R256) -/

/-- Matcher `j` is enabled, not disabled for the act, of a kind, and watches the lane; its page is not forced off. -/
def Dev.mtLive (d : Dev) (c j kind k : Nat) : Bool :=
  let p := mtPage c j
  let i := j % 16
  d.on p F.PAGE_CTRL_enable && d.on p (F.MT_CFG_en.at i) && d.rd p (F.MT_CFG_kind.at i) == kind && d.has p (F.MT_CFG_lanes.at i) k &&
    !(d.cap c).off.testBit j

/-- The four words of a value or a mask. -/
def Dev.mtWords (d : Dev) (c j : Nat) (f : Field) : Nat :=
  (List.range 4).foldr (fun w v => d.rd (mtPage c j) (f.at2 (j % 16) w) + 2 ^ 32 * v) 0

/-- A window of stream bits matches (R254). -/
def Dev.windowHit (d : Dev) (c j : Nat) (win : List Bool) : Bool :=
  let m := d.mtWords c j F.MT_MASK % 2 ^ win.length
  let same := Nat.land (Nat.xor (bitsNat win) (d.mtWords c j F.MT_VAL)) m == 0
  if d.on (mtPage c j) (F.MT_CFG_neg.at (j % 16)) then !same else same

/-- The ends, as bit positions within the new block, of the windows of a PATTERN matcher that end in it and match. `tail` holds
the latest stream bits before the block and `pos` how many there were since alignment. -/
def Dev.windowEnds (d : Dev) (c j : Nat) (tail : List Bool) (pos : Nat) (bits : List Bool) : List Nat :=
  let p := mtPage c j
  let i := j % 16
  let len := d.rd p (F.MT_CFG_len.at i)
  let off := d.rd p (F.MT_POS_off.at i)
  let all := tail ++ bits
  let base := pos - tail.length
  (List.range bits.length).filter fun e =>
    let stop := pos + e + 1
    decide (len ≤ stop - base) &&
      (d.rd p (F.MT_CFG_align.at i) == 1 ||
        (decide (off + len ≤ stop) && (stop - len - off) % bits.length == 0)) &&
      d.windowHit c j ((all.drop (stop - len - base)).take len)

/-- Matches of one matcher in a cycle are counted; at the `n`-th it fires and the rest are discarded (R256). Answers the match
that fired. -/
def Dev.mtCount (d : Dev) (c j matches_ : Nat) : Option Nat × Dev :=
  let p := mtPage c j
  let i := j % 16
  let n := d.rd p (F.MT_CNT_n.at i)
  let cnt := tabGet (fun _ => 0) (d.cap c).counts j
  let put (d : Dev) (v : Nat) : Dev := d.setCap c { d.cap c with counts := tabSet (fun _ => 0) (d.cap c).counts j v }
  if matches_ = 0 then (none, d)
  else if n ≤ cnt + matches_ then
    (some (n - cnt - 1), ((put d 0).bump p (F.MT_HITS.at i)).raiseIf p (F.MT_EV_en.at i) (F.MT_EV_ev.at i))
  else (none, put d (cnt + matches_))

/-- The matches of a lane condition: CODE_ERR 1, ALIGN_LOST 2, QUIET 3 (R255). -/
def Dev.condMatches (d : Dev) (c k kind : Nat) (ts : Stamp) : List Match :=
  ((List.range 64).filter fun j => d.mtLive c j kind k).map (·, k, ts)

/-- The time of a stream bit of a block, between the times of its first and last symbols (R269, R270). -/
def bitTime (b : RxBlock) (pam : Bool) (e : Nat) : Stamp :=
  let per := if pam then 2 else 1
  let n := b.bits.length / per
  BitVec.ofNat 64 ((b.tsFirst.toNat + (b.tsLast - b.tsFirst).toNat % 2 ^ 58 * (e / per) / (n - 1)) % 2 ^ 58)

/-- The PATTERN matches of a block. -/
def Dev.patMatches (d : Dev) (c k : Nat) (pam : Bool) (b : RxBlock) (stream : List Bool) : List Match :=
  ((List.range 64).filter fun j => d.mtLive c j 0 k).flatMap fun j =>
    (d.windowEnds c j (d.lane c k).tail (d.lane c k).pos stream).map fun e => (j, k, bitTime b pam e)

/-- The matches of one cycle are counted together, and at the `n`-th a matcher fires (R256): its lane is the lowest that matched. Where
several windows of that lane ended in the cycle, the fire's is the `n`-th match, or the last before it. Assumption 61, DEDUCED. -/
def Dev.mtFires (d : Dev) (c : Nat) (ms : List Match) : List Match × Dev :=
  ((List.range 64).filter fun j => ms.any (·.1 == j)).foldl
    (fun (x : List Match × Dev) j =>
      let mine := ms.filter (·.1 == j)
      let (f, d) := x.2.mtCount c j mine.length
      match f with
      | some i =>
        let k := mine.foldl (fun k m => min k m.2.1) 7
        let win := mine.filter (·.2.1 == k)
        (x.1 ++ [win.getD (min i (win.length - 1)) (j, k, 0)], d)
      | none => (x.1, d)) ([], d)

/-- The matches of one cycle reach the matchers' counts and, as fires, the trigger sequencer (R256, R260).
Assumption 60, DEDUCED. -/
def Dev.capStep (d : Dev) (c : Nat) (ms : List Match) : Dev :=
  let (fires, d) := d.mtFires c ms
  if fires.isEmpty then d else d.trgStep c fires none false

/-! ## What the lanes bring -/

/-- A block of an ALIGNED lane for its engine: the lane, the block as received, its capture stream, whether it holds a code error and
whether a REPLACE discarded it. -/
structure CapIn where
  n : Nat
  b : RxBlock
  stream : List Bool
  err : Bool
  rep : Bool
  deriving DecidableEq, Repr

/-- An engine sees a block (R251, R252): its act names the lane, and the block's first symbol did not come before the act. -/
def Dev.capSees (d : Dev) (c : Nat) (x : CapIn) : Bool :=
  x.n / 8 == c && d.ceWatches c (x.n % 8) && !stampBefore x.b.tsFirst (d.cap c).since

/-- The matchers look at a block; its bits join the lane's latest ones. -/
def Dev.capLook (d : Dev) (c : Nat) (x : CapIn) : List Match × Dev :=
  let k := x.n % 8
  let l := d.lane c k
  (d.patMatches c k (d.rx x.n).pam x.b x.stream ++ (if x.err then d.condMatches c k 1 x.b.tsLast else []),
    d.setLane c k { l with
      tail := (l.tail ++ x.stream).drop (l.tail.length + x.stream.length - 127), pos := l.pos + x.stream.length })

/-- A block is the trigger block that its lane waits for (R262). -/
def TrigNext.hit (t : TrigNext) (b : RxBlock) : Bool :=
  match t with
  | .none => false
  | .next => true
  | .holds ts => !stampBefore b.tsLast ts

/-- A block meets the store gate (R262); none is stored while the engine's page is forced off (assumption 24). -/
def Dev.capGate (d : Dev) (c : Nat) (x : CapIn) : Dev :=
  let k := x.n % 8
  let trig := (d.lane c k).trigNext.hit x.b
  let d :=
    if trig then
      (let d := d.setLane c k { d.lane c k with trigNext := .none }
       d.setCap c { d.cap c with came := true })
    else d
  if d.ceTakes c && d.on (cePage c) F.PAGE_CTRL_enable && (d.cap c).gate && d.ceStores c k then
    d.storeBlock c k
      { bits := x.stream, tsFirst := x.b.tsFirst, tsLast := x.b.tsLast, err := x.err, rep := x.rep, trig := trig,
        post := d.lanePast c k && !trig, w1 := d.recW1 c k }
  else if trig then d.trigUnstored c k else d

/-- A block of the lane of a transition's cause lies before the block in which the causing window ended (R262). -/
def Cause.later (m : Cause) (x : CapIn) : Bool :=
  match m.matcher with
  | some (_, k, t) => x.n % 8 == k && stampBefore x.b.tsLast t
  | none => false

/-- The blocks of one cycle reach an engine (R251, R252, R256, R262): all are matched, the sequencer takes its step, and each meets
the gate; blocks of the causing window's lane that came before its block meet it as it was. Assumption 60, DEDUCED. -/
def Dev.capCycle (d : Dev) (ins : List CapIn) (c : Nat) : Dev :=
  let ins := ins.filter (d.capSees c)
  let (ms, d) := ins.foldl (fun (y : List Match × Dev) x => let z := y.2.capLook c x; (y.1 ++ z.1, z.2)) ([], d)
  let (fires, d) := d.mtFires c ms
  let move := if fires.isEmpty || !d.trgRuns c then none else (d.trgMove c fires none false).2
  let before (x : CapIn) : Bool := match move with | some m => m.2.later x | none => false
  let d := (ins.filter before).foldl (fun d x => d.capGate c x) d
  let d := if fires.isEmpty then d else d.trgStep c fires none false
  (ins.filter fun x => !before x).foldl (fun d x => d.capGate c x) d

/-- A LANE record (Table 9.8). -/
def Dev.putLane (d : Dev) (n cause w1 : Nat) : Dev :=
  let c := n / 8
  let k := n % 8
  let p := rxPage n
  if d.ceTakes c && d.ceStores c k then
    let d := d.flushGap c k
    (d.putMeta c
      { typ := 5, lane := k, post := d.lanePast c k, w1 := w1, ts := d.now,
        aux := d.rd p F.RXL_STAT_state + 2 ^ 4 * d.rd p F.RXL_STAT_align + 2 ^ 6 * d.rd p F.RXL_STAT_prof +
          2 ^ 7 * d.rd p F.RXL_STAT_sigdet + 2 ^ 8 * cause }).2
  else d

/-- A lane leaves or regains ALIGNED, enters or leaves QUIET, or switches profile: its records close, LANE records and the matches of
the lane conditions follow (R255, R265, Table 9.6). `old` is the device before. -/
def Dev.laneNotice (old d : Dev) (n : Nat) : List Match × Dev :=
  let c := n / 8
  let k := n % 8
  let lost := old.aligned n && !d.aligned n
  let found := !old.aligned n && d.aligned n
  let quiet := old.rxState n != 6 && d.rxState n == 6
  let woke := old.rxState n == 6 && d.rxState n != 6
  let prof := old.rxProf n != d.rxProf n
  if !(lost || found || quiet || woke || prof) || !d.ceWatches c k then ([], d)
  else
    let d := if lost || quiet || prof then d.closeLane c k else d
    let d := if lost || found then d.setLane c k { d.lane c k with tail := [], pos := 0 } else d
    let put (d : Dev) (b : Bool) (cause : Nat) : Dev := if b then d.putLane n cause (d.recW1 c k) else d
    let d := put (put (put (put (put d lost 1) found 2) quiet 3) woke 4) prof 5
    ((if lost && d.rxState n != 0 then d.condMatches c k 2 d.now else []) ++
      (if quiet then d.condMatches c k 3 d.now else []), d)

/-- What changes on the receive lanes mean to the engines. -/
def Dev.laneNotices (old d : Dev) : Dev :=
  [0, 1].foldl
    (fun d c =>
      let (ms, d) := (List.range 8).foldl
        (fun (x : List Match × Dev) k => let y := Dev.laneNotice old x.2 (8 * c + k); (x.1 ++ y.1, y.2)) ([], d)
      if ms.isEmpty then d else d.capStep c ms) d

/-! ## Start and end of an act (R258, R271, R274) -/

/-- The region of an engine is valid (R271). -/
def Dev.regionOk (d : Dev) (c : Nat) : Bool :=
  let len := d.rd (cePage c) F.CE_REGION_LEN_tiles
  decide (4 ≤ len) && decide (d.rd (cePage c) F.CE_REGION_BASE_tile + len ≤ 24379392)

/-- A BLOCK matcher whose offset is not below the block length of a lane in its mask is disabled for the act (R254). -/
def Dev.disableMatchers (d : Dev) (c : Nat) : Dev :=
  (List.range 64).foldl
    (fun d j =>
      let p := mtPage c j
      let i := j % 16
      if d.on p (F.MT_CFG_en.at i) && d.rd p (F.MT_CFG_kind.at i) == 0 && d.rd p (F.MT_CFG_align.at i) == 0 &&
          (List.range 8).any (fun k =>
            d.has p (F.MT_CFG_lanes.at i) k && decide (d.rxBlockBits (8 * c + k) ≤ d.rd p (F.MT_POS_off.at i))) then
        (d.setCap c { d.cap c with off := (d.cap c).off + 2 ^ j }).stat p 17
      else d) d

/-- An act that names the engine starts. -/
def Dev.capStart (d : Dev) (c : Nat) : Dev :=
  let p := cePage c
  let t := trgPage c
  let d := d.setCap c { Cap.init with gate := d.on p F.CE_CFG_store_init, held := true, since := d.now }
  let d := (((d.wr p F.CE_STAT_wrapped 0).wr p F.CE_STAT_triggered 0).wr p F.CE_STAT_close 0).wr p F.CE_SEQ 0
  let d := ((d.wr p F.CE_TRIG_TILE_tile 0).wr p F.CE_TRIG_OFF_off 0).wr p F.CE_WR_TILE_tile 0
  let d := (d.wr p F.CE_TRIG_TS_LO 0).wr p F.CE_TRIG_TS_HI 0
  let d :=
    if d.regionOk c then (d.wr p F.CE_STAT_state 1).wr p F.CE_WR_TILE_tile (d.rd p F.CE_REGION_BASE_tile)
    else (d.wr p F.CE_STAT_state 4).wr p F.CE_STAT_close 6
  let d := d.disableMatchers c
  if d.on t F.TRG_CTRL_en then
    (d.wr t F.TRG_STAT_running 1).trgEnter c 0 (d.rd t F.TRG_CTRL_init) ⟨none⟩
  else d

/-- The act that names the engine ends, by itself (1) or by an emergency (5). A DONE engine is released at once. -/
def Dev.capEnd (d : Dev) (c reason : Nat) : Dev :=
  let d := (d.capClose c reason).wr (trgPage c) F.TRG_STAT_running 0
  if d.ceState c = 3 then d else d.setCap c { d.cap c with held := false }

/-! ## CDMA (R263, R271 to R275) -/

/-- PAD records of at most 1024 bytes each fill `n` bytes (R263). -/
def padBytes (c tstate : Nat) (post : Bool) (n : Nat) : Nat → Bytes
  | 0 => []
  | fuel + 1 =>
    if n = 0 then []
    else
      let k := min n 1024
      ({ typ := 7, lane := 0xF, post := post, w1 := tstate, payload := List.replicate (k - 32) 0 : Record }).bytes c 0xFFFFFFFF ++
        padBytes c tstate post (n - k) fuel

/-- The tile that CDMA fills is full: it is written whole, and the next tile is that of R271 and R272. -/
def tileFull (d : Dev) (m : Mem) (c : Nat) : Dev × Mem :=
  let p := cePage c
  let t := d.rd p F.CE_WR_TILE_tile
  let bs := (d.cap c).buf
  let bs := bs ++ padBytes c (d.recW1All c) (d.cePast c) (4096 - bs.length) 4
  let (d, m) := writeWhole d m t bs
  let d := d.setCap c { d.cap c with buf := [], post := (d.cap c).post.map (· - 1) }
  let last := d.rd p F.CE_REGION_BASE_tile + d.rd p F.CE_REGION_LEN_tiles
  if t + 1 = last ∧ d.rd p F.CE_CFG_mode = 1 then
    ((d.wr p F.CE_WR_TILE_tile (d.rd p F.CE_REGION_BASE_tile)).wr p F.CE_STAT_wrapped 1, m)
  else (d.wr p F.CE_WR_TILE_tile (t + 1), m)

/-- The end of the bytes of the present tile that a record may take: 32 are kept for CLOSE in the last tile of a LINEAR region
and in the last post tile (R272, R273). -/
def Dev.roomEnd (d : Dev) (c : Nat) : Nat :=
  let p := cePage c
  let lastLinear := d.rd p F.CE_CFG_mode == 0 &&
    d.rd p F.CE_WR_TILE_tile + 1 == d.rd p F.CE_REGION_BASE_tile + d.rd p F.CE_REGION_LEN_tiles
  if lastLinear || (d.cap c).post == some 0 then 4064 else 4096

/-- A record's bytes go to the present tile. -/
def placeBytes (d : Dev) (m : Mem) (c : Nat) (bs : Bytes) : Dev × Mem :=
  let d := d.setCap c { d.cap c with buf := (d.cap c).buf ++ bs }
  if (d.cap c).buf.length = 4096 then tileFull d m c else (d, m)

/-- The packet at the head of a capture queue leaves it; its bytes. -/
def Dev.takePacket (d : Dev) (c : Nat) : Option (Bytes × Dev) :=
  let es := (d.queue c).ready.take (headLen (d.queue c).ready)
  if es.isEmpty then none else some (es.flatMap (fun e => natBytes 64 e.data.toNat), d.qAdvance c es.length)

/-- The length of a record from its header. -/
def recordLen (bs : Bytes) : Nat :=
  let plen := bytesNat (bs.take 4) / 2 ^ 16 % 2 ^ 10
  32 + (plen + 31) / 32 * 32

/-- The lane and the blocks of a DATA or IDLE_RUN record, from its bytes; no blocks for the other types. -/
def recordBlocks (bs : Bytes) : Nat × Nat :=
  let typ := bytesNat (bs.take 1)
  (bytesNat (bs.take 4) / 256 % 16,
    if typ = 1 then bytesNat ((bs.drop 4).take 2) else if typ = 2 then bytesNat ((bs.drop 20).take 4) else 0)

/-- A queued record is lost before CDMA takes it: an uncorrectable word or a reset of the queue (R318, R329). -/
def Dev.loseRecord (d : Dev) (c : Nat) (bs : Bytes) : Dev :=
  let (k, n) := recordBlocks bs
  if n = 0 then
    let d := if bytesNat (bs.take 1) = 4 then
        (let d := d.trigNowhere c
         d.setCap c { d.cap c with post := d.postCount c })
      else d
    (d.bump (cePage c) F.CE_META_meta_lost).stat (cePage c) 20
  else
    d.dropBlocks c k n (BitVec.ofNat 64 (bytesNat ((bs.drop 8).take 8))) (BitVec.ofNat 64 (bytesNat ((bs.drop 24).take 8)))

/-- A record that no longer fits: the region or the post tiles are full, CDMA drops it (R327), capture closes, and its blocks are
lost. A TRIGGER record that is dropped so leaves CE_TRIG_TILE and CE_TRIG_OFF at all ones (R273). -/
def Dev.noRoom (d : Dev) (c : Nat) (bs : Bytes) : Dev :=
  let (k, n) := recordBlocks bs
  let d := d.bump (queuePage c) (qf c F.Q_CNT_drop)
  let d := if bytesNat (bs.take 1) = 4 then d.trigNowhere c else d
  let d := if n = 0 then d else d.loseBlocks c k n
  if !d.ceTakes c then d
  else if (d.cap c).post = some 0 then d.capClose c 2
  else (d.stat (cePage c) 19).capClose c 4

/-- The end of the bytes that a record of a type may take: CLOSE (type 6) takes the last 32 too; a TRIGGER record (type 4) that no
tile is to follow leaves them (R273). -/
def Dev.recEnd (d : Dev) (c typ : Nat) : Nat :=
  if typ = 6 then 4096 else if typ = 4 ∧ d.postCount c = some 0 then 4064 else d.roomEnd c

/-- A record of a type fits the present tile. -/
def Dev.recFits (d : Dev) (c typ : Nat) (bs : Bytes) : Bool := decide ((d.cap c).buf.length + bs.length ≤ d.recEnd c typ)

/-- A record goes to the present tile if it fits there. Assumption 63, DEDUCED. -/
def placeRecord (d : Dev) (m : Mem) (c typ : Nat) (bs : Bytes) : Dev × Mem :=
  if d.recFits c typ bs then
    if typ = 4 then
      let p := cePage c
      let d := (d.wr p F.CE_TRIG_TILE_tile (d.rd p F.CE_WR_TILE_tile)).wr p F.CE_TRIG_OFF_off (d.cap c).buf.length
      placeBytes (d.setCap c { d.cap c with post := d.postCount c }) m c bs
    else placeBytes d m c bs
  else if typ = 6 then
    -- no room is left beside a CLOSE in this tile: it starts the next one
    let (d, m) := tileFull d m c
    placeBytes d m c bs
  else (d.noRoom c bs, m)

/-- CDMA takes a record and places it (R263, R275). -/
def cdmaTake (d : Dev) (m : Mem) (c : Nat) : Dev × Mem :=
  match d.takePacket c with
  | none => (d.bump (queuePage c) (qf c F.Q_CNT_under), m)
  | some (raw, d) =>
    let bs := raw.take (recordLen raw)
    let typ := bytesNat (bs.take 1)
    -- word 6 of CLOSE: blocks lost in the act
    let bs := if typ = 6 then bs.take 24 ++ natBytes 4 (min (d.cap c).lost (2 ^ 32 - 1)) ++ bs.drop 28 else bs
    let x := if d.recFits c typ bs || d.roomEnd c == 4064 then (d, m) else tileFull d m c
    placeRecord x.1 x.2 c typ bs

/-- The engine is done (R274). -/
def capDone (d : Dev) (m : Mem) (c : Nat) : Dev × Mem :=
  if d.ceState c = 3 ∧ d.queueEmpty c then
    let (d, m) := if (d.cap c).buf.isEmpty then (d, m) else tileFull d m c
    let p := cePage c
    let d := ((d.wr p F.CE_STAT_state 4).stat p 17).raiseIf p F.CE_EV_close_en F.CE_EV_close_ev
    (if d.running F.ACT_ENG_ce c then d else d.setCap c { d.cap c with held := false }, m)
  else (d, m)

end Sys2Proof.Machine
end

