-- ==== Sys2Proof/Machine/Seq.lean ====
section
/-! DEFINITION. The sequencers at run time (spec/04_ringmaster_programs.md R98 to R131; chapter 5): entries, watches, waits,
marks, rate changes, splices, faults, tile fetches. -/
namespace Sys2Proof.Machine

/-- SQ_STAT.state: 0 IDLE, 1 PREPARING, 2 READY, 3 RUNNING, 4 WAITING, 5 HALTED, 6 FAULT (Table 4.2). -/
def Dev.sqState (d : Dev) (n : Nat) : Nat := d.rd (sqPage n) F.SQ_STAT_state
def Dev.setSqState (d : Dev) (n s : Nat) : Dev := d.wr (sqPage n) F.SQ_STAT_state s

/-- The sequencer belongs to an ADMITTED or RUNNING act. -/
def Dev.sqLive (d : Dev) (n : Nat) : Bool := d.live F.ACT_ENG_sq n

/-- The sequencer drives a TX lane in IN-LINE mode. -/
def Dev.sqInline (d : Dev) (n : Nat) : Bool := decide (n < 16) && d.mode == 2

/-! ## What the registers show of a sequencer -/

/-- SQ_LOOP at a frame: iterations left after the current one (Table 4.16). -/
def loopShown (f : LoopFrame) : Nat := if f.left = 0 then 0xFFFFFFFF else (f.left - 1).toNat

/-- SQ_STAT.depth, SQ_STAT.watches and SQ_LOOPd follow the stack and the watches. -/
def Dev.showSq (d : Dev) (n : Nat) : Dev :=
  let s := d.sq n
  let p := sqPage n
  let d := d.wr p F.SQ_STAT_depth s.frames.length
  let d := d.wr p F.SQ_STAT_watches (s.watches.foldl (fun v w => withBit v w.1 true) 0)
  (List.range 8).foldl
    (fun d k =>
      d.wr p (F.SQ_LOOPd.at k) (match s.frames.reverse[k]? with | some f => loopShown f | none => 0)) d

/-- A sequencer's record changes, and the registers follow. -/
def Dev.modSq (d : Dev) (n : Nat) (f : Sq → Sq) : Dev := (d.setSq n (f (d.sq n))).showSq n

/-- A dropped watch event (R115). -/
def Dev.overrun (d : Dev) (n : Nat) : Dev := (d.bump (sqPage n) F.SQ_COUNT_overrun).stat (sqPage n) 19

/-! ## Latches and conditions (R107) -/

def Dev.latch (d : Dev) (n k : Nat) : Bool := d.has (sqPage n) F.SQ_LATCH_latch k
def Dev.setLatch (d : Dev) (n k : Nat) (b : Bool) : Dev := d.fbit (sqPage n) F.SQ_LATCH_latch k b

/-- A latch condition is true. -/
def Dev.latchCond (d : Dev) (n c : Nat) : Bool := condLatch c && d.latch n (c % 4)

/-- A true latch condition is consumed. -/
def Dev.consume (d : Dev) (n c : Nat) : Dev := if d.latchCond n c then d.setLatch n (c % 4) false else d

/-! ## The lane of a sequencer -/

/-- The lane enters electrical idle at a halt or a fault; in IN-LINE mode it forwards (R127, R131). -/
def Dev.sqLaneIdle (d : Dev) (n : Nat) : Dev := if n < 16 && !d.sqInline n then d.txIdle n else d

/-- A lane of a sequencer begins to leave electrical idle (R117, R211). -/
def Dev.sqLaneDrive (d : Dev) (n : Nat) : Dev := if n < 16 then d.txDrive n else d

/-- A bracket closes: the TX lane returns to forwarding, and held blocks drain (R125, R126, R246). -/
def Dev.closeBracket (d : Dev) (n : Nat) : Dev :=
  match (d.sq n).bracket with
  | none => d
  | some _ =>
    let r := fwdTx n
    let was := d.splicing r
    let d := d.setSq n { d.sq n with bracket := none }
    let d := (d.wr (rxPage r) F.RXL_FWD_STAT_splice 0).setRx r { d.rx r with cut := false, part := [] }
    if was then d.spliceOver r else d

/-- A spliced block in progress is sent to its end (R105, R125, R156): with fill, counted in SQ_COUNT.underrun, or with free bits where
no fill may stand in a failing tile's place. Assumptions 120 and 121, DESIGN CHOICE. Assumption 120, DESIGN CHOICE.
Assumption 121, DESIGN CHOICE. -/
def Dev.blockEnd (d : Dev) (n : Nat) (free : Bool) : Dev :=
  let r := fwdTx n
  let part := (d.rx r).part
  if n < 16 && d.sqForwards n && !part.isEmpty then
    let k := d.rxBlockBits r - part.length
    let (bits, d) : List Bool × Dev := if free then
        (List.range k).foldl (fun (o, d) _ => let (w, d) := d.fresh; (o ++ [w.getLsbD 0], d)) ([], d)
      else d.fillBits n k
    d.spliceBits r bits
  else d

/-- What stops with a halt or a fault: watches, a wait, a landing, a handoff not yet switched (R113, R195). -/
def Dev.sqDisarm (d : Dev) (n : Nat) : Dev :=
  let d := (d.closeBracket n).modSq n fun s =>
    { s with
      watches := [], landing := none, wait := none, hold := false, haltReq := false, play := none, wanted := []
      dropped := s.dropped ++ s.wanted }
  let d := { d with mw := { d.mw with
    inbox := d.mw.inbox.filter fun t => match t with | .watch q _ => q != n | _ => true } }
  if n < 16 then d.abandonHandoff n else d

/-- A fault is recorded and reported (R131). -/
def Dev.sqReport (d : Dev) (n cause pc : Nat) : Dev :=
  let p := sqPage n
  let d := (d.setSqState n 6).wr p F.SQ_STAT_cause cause
  let d := ((d.wr p F.SQ_FAULT_cause cause).wr p F.SQ_FAULT_pc pc).stat p 17
  d.raiseIf p F.SQ_EVOUT_fault_en F.SQ_EVOUT_fault_ev

/-- A fault stops a sequencer (R131); the clamp of its wideband channel opens an injection switch (R357). -/
def Dev.sqFault (d : Dev) (n cause pc : Nat) : Dev :=
  let d := (((d.blockEnd n (cause == 10)).sqDisarm n).sqLaneIdle n).sqReport n cause pc
  if n < 16 then d else d.openInjection

/-- HALT (R127): `fill` keeps the fill pattern on the lane. -/
def Dev.sqHalt (d : Dev) (n : Nat) (fill : Bool) : Dev :=
  let p := sqPage n
  let d := (((d.blockEnd n false).sqDisarm n).setSqState n 5).stat p 16
  let d := d.raiseIf p F.SQ_EVOUT_halt_en F.SQ_EVOUT_halt_ev
  let d := d.setSq n { d.sq n with haltFill := fill && !d.sqInline n }
  if fill then d else d.sqLaneIdle n

/-! ## Preparation and hot tiles (R97, R98, R129) -/

/-- Hot tiles are released, and a READY or faulted sequencer returns to IDLE (R97, R129). -/
def Dev.sqRelease (d : Dev) (n : Nat) : Dev :=
  let p := sqPage n
  let d := d.setSq n { d.sq n with hot := [], prepared := false, prep := none }
  let d := (d.wr p F.SQ_HOT_targets 0).wr p F.SQ_HOT_tiles 0
  if 3 ≤ d.sqState n ∧ d.sqState n ≤ 5 ∨ (d.sqState n = 6 ∧ d.sqLive n) then d else d.setSqState n 0

/-- Preparation begins (R98). -/
def Dev.sqPrepareGo (d : Dev) (n : Nat) : Dev :=
  let p := sqPage n
  let d := d.sqRelease n
  let d := (d.wr p F.SQ_STAT_cause 0).wr p F.SQ_FAULT_cause 0
  let d := d.wr p F.SQ_FAULT_pc 0
  (d.setSq n { d.sq n with prep := some (d.prepare n) }).setSqState n 1

/-- Preparation ends: FAULT with its cause, or READY once every hot target is fetched (R98). Causes 13 and 14 name no entry: their
SQ_FAULT.pc is free. Assumption 30, DESIGN CHOICE. -/
def Dev.sqPrepared (d : Dev) (n : Nat) : Dev :=
  let p := sqPage n
  if d.sqState n = 1 then
    match (d.sq n).prep with
    | none => d
    | some ⟨some (cause, some i), _, _⟩ => (d.setSq n { d.sq n with prep := none }).sqReport n cause i
    | some ⟨some (cause, none), _, _⟩ =>
      let (w, d) := d.fresh
      (d.setSq n { d.sq n with prep := none }).sqReport n cause (w.toNat % 2048)
    | some ⟨none, [], targets⟩ =>
      let s := d.sq n
      let d := (d.setSq n { s with prep := none, prepared := true }).setSqState n 2
      let d := (d.wr p F.SQ_HOT_targets targets).wr p F.SQ_HOT_tiles (s.hot.filter (·.good == 4096)).length
      d.stat p 22
    | some ⟨none, _ :: _, _⟩ => d
  else d

/-- An act starts a sequencer (R99): at SQ_START.entry if READY, or in FAULT with cause NOTREADY and that entry.
Assumption 139, DEDUCED. -/
def Dev.sqBegin (d : Dev) (n : Nat) : Dev :=
  let pc := d.rd (sqPage n) F.SQ_START_entry
  if d.sqState n = 2 then
    let d := d.setSqState n 3
    let d := d.modSq n fun s =>
      { s with
        pc := pc, frames := [], watches := [], landing := none, wait := none, marks := s.marks.filter MarkRec.out, haltReq := false,
        lastSeg := none, play := none, bits := 0, haltFill := false, clock := 0, controls := 0, absRate := none, hold := false,
        bracket := none, stream := [], wanted := [] }
    d
  else d.sqFault n 9 pc

/-- The act of a sequencer ends (R100). -/
def Dev.sqFinish (d : Dev) (n : Nat) : Dev :=
  let d := d.sqDisarm n
  let d := d.modSq n fun s => { s with
    frames := [], marks := s.marks.filter MarkRec.out, lastSeg := none, absRate := none, stream := [], controls := 0,
    haltFill := false }
  let d := d.wr (sqPage n) F.SQ_LATCH_latch 0
  let d := { d with mw := { d.mw with
    inbox := d.mw.inbox.filter fun t => match t with | .latch q _ => q != n | _ => true } }
  if d.sqState n = 1 then d else d.setSqState n (if (d.sq n).prepared then 2 else 0)

/-! ## Executing entries (R102) -/

/-- A watch of the sequencer has an event to take, or its latch is set (R112). -/
def Dev.firing (d : Dev) (n : Nat) : Bool :=
  d.mw.inbox.any (fun t => match t with | .watch q _ => q == n | _ => false) ||
    (d.sq n).watches.any fun w => d.latchCond n w.2.cond

/-- The entry at the present index, where it has the opcode and can execute: RUNNING, no landing under way, no watch about to
fire, no RATE holding execution. -/
def Dev.sqAt (d : Dev) (n op : Nat) : Option (BitVec 128) :=
  let s := d.sq n
  let e := d.entry n s.pc
  if d.sqState n = 3 && decide (s.pc < 2048) && s.landing.isNone && !s.hold && !d.firing n && opOf e == op then some e else none

/-- The commit point of the present entry: SQ_STAT.pc shows it, and an iteration's first entry has executed. -/
def Dev.sqEnter (d : Dev) (n : Nat) : Dev :=
  let s := d.sq n
  let frames := match s.frames with
    | f :: r => (if f.start = s.pc then { f with fresh := false } else f) :: r
    | [] => []
  (d.setSq n { s with frames := frames, controls := s.controls + 1 }).wr (sqPage n) F.SQ_STAT_pc s.pc

/-- The tiles that the play in progress still draws from the streaming buffer. -/
def Dev.playNeeds (d : Dev) (n : Nat) : List Nat :=
  let s := d.sq n
  match s.play with
  | some p =>
    p.seg.needs (wordsPerTile n (d.sqPam n)) (s.hot.map HeldTile.tile) p.word (p.again || decide (p.rep + 1 < p.seg.reps))
  | none => []

/-- The look-ahead follows the program from the present play and entry (R143, R144): the tiles it comes to need are kept or
requested in order, and the others are released; what nothing needs any more is dropped when its fetch ends. -/
def Dev.sqAhead (d : Dev) (n : Nat) : Dev :=
  let s := d.sq n
  let next := if n < 16 then (d.tx n).handoff.map fun h => (h.pam, h.plays) else none
  let needs := lookAhead (d.entry n) (fun k => d.reg (addrOf (sqPage n) (0x70 + 4 * k))) n (s.hot.map HeldTile.tile) 67108864
    ⟨s.pc, s.frames.map (·, none), d.playNeeds n, d.sqPam n, next, []⟩
  let (keep, want) := assign (needs.take (64 - s.dropped.length)) s.stream
  let gone := want.foldl (fun l t => l.erase t) s.wanted
  d.setSq n { s with stream := keep, wanted := want, dropped := s.dropped ++ gone }

/-- A running sequencer's look-ahead asks again, where a fetch has ended that took room of it. -/
def Dev.sqAsks (d : Dev) (n : Nat) : Dev := if d.sqState n = 3 ∨ d.sqState n = 4 then d.sqAhead n else d

/-- A play leaves a tile: its copy is released, unless the play comes back to it (R144, R145). -/
def Dev.tileDone (d : Dev) (n tile : Nat) : Dev :=
  let s := d.sq n
  if (s.hot.any fun h => h.tile == tile) || (d.playNeeds n).contains tile then d
  else d.setSq n { s with stream := s.stream.eraseP fun h => h.tile == tile }

/-- What a jump off the look-ahead's path discards (R146): its tiles, and its fetches in flight when they end. -/
def Dev.sqForget (d : Dev) (n : Nat) : Dev :=
  let s := d.sq n
  d.setSq n { s with stream := [], wanted := [], dropped := s.dropped ++ s.wanted }

/-- Execution goes on at an index; past entry 2047 it faults PCEND (Table 4.14), after the play in progress. Assumption 45,
DEDUCED. -/
def Dev.sqGo (d : Dev) (n pc : Nat) : Dev :=
  if decide (2048 ≤ pc) && (d.sq n).play.isNone then d.sqFault n 11 2047
  else ((d.setSq n { d.sq n with pc := pc }).showSq n).sqAhead n

/-- A taken jump (R111, R114): the stack is cut; an sdepth above the present depth faults STACK at `at_`. -/
def Dev.sqJump (d : Dev) (n target sdepth at_ : Nat) : Dev :=
  let s := d.sq n
  if sdepth = 15 then d.sqGo n target
  else if s.frames.length < sdepth then d.sqFault n 4 at_
  else (d.setSq n { s with frames := s.frames.drop (s.frames.length - sdepth) }).sqGo n target

/-! ## Words (R103, R117, R147, R154 to R156) -/

/-- Symbols of a lane word (Table 4.1). -/
def wordSymbols (n : Nat) : Nat := if n < 16 then 64 else 32

/-- Stream bits are committed and leave: on SQ16 to SQ19 as whole samples through the sample path, on a lane that forwards into the splice,
else through the lane's driver. -/
def Dev.sqSendBits (d : Dev) (n : Nat) (bits : List Bool) : Dev :=
  let k := if 16 ≤ n then (bits.length + 15) / 16 else bits.length / (if d.sqPam n then 2 else 1)
  let d := d.setSq n { d.sq n with bits := (d.sq n).bits + bits.length, clock := (d.sq n).clock - 1000000000 * (k : Int) }
  if 16 ≤ n then (d.markRun n k).awgRun (n - 16) k (wordSamples (bitsBytes (bits ++ List.replicate (16 * k - bits.length) false)))
  else if d.sqForwards n then d.spliceBits (fwdTx n) bits
  else d.laneSend n bits

/-- A word is committed and leaves. -/
def Dev.sqSend (d : Dev) (n : Nat) (bs : Bytes) : Dev := d.sqSendBits n (bytesBits bs)

/-- The time of a lane word passes with no word of the sequencer's. -/
def Dev.sqSkip (d : Dev) (n : Nat) : Dev :=
  d.setSq n { d.sq n with clock := (d.sq n).clock - 1000000000 * (wordSymbols n : Int) }

/-- `k` words of the fill pattern are committed for want of others, and counted (R103, R147). -/
def Dev.fills (d : Dev) (n k : Nat) : Dev := (List.range k).foldl (fun d _ => d.sqSend n (d.fillWord n)) (d.underrun n k)

/-- A failing tile stops the play (R155, R156) rather than being replaced by fill (R154). -/
def Dev.tileStops (d : Dev) (n : Nat) : Bool := d.on (sqPage n) F.SQ_CFG_tilebad || (d.sq n).bracket.isSome

/-- A play moves on by a word: the look-ahead goes on as it leaves a tile, a repeat of a WAIT counts its blocks anew (R112), and where the
last play of a program ends past entry 2047 the sequencer faults PCEND. -/
def Dev.playNext (d : Dev) (n : Nat) (p : Play) : Dev :=
  let wpt := wordsPerTile n (d.sqPam n)
  let tile (p : Play) : Nat := p.seg.tile + (p.seg.word + p.word) / wpt
  let d := d.setSq n { d.sq n with play := p.next }
  match p.next with
  | some q =>
    let d := if tile q = tile p then d else (d.tileDone n (tile p)).sqAhead n
    if q.again && q.word == 0 && q.rep == 0 then
      let d := d.setSq n { d.sq n with bits := 0 }
      if n < 16 && !d.sqForwards n then d.blockStart n else d
    else d
  | none =>
    let d := (d.tileDone n (tile p)).sqAhead n
    if decide (2048 ≤ (d.sq n).pc) && d.sqState n == 3 then d.sqFault n 11 2047 else d

/-- The word of the play that is due is committed, or fill in its place where its tile failed; such a tile may stop the
sequencer instead. None where the word's tile is not resident. -/
def Dev.playStep (d : Dev) (n : Nat) : Option Dev :=
  match (d.sq n).play with
  | none => none
  | some p =>
    match d.dueOf n p with
    | .late => none
    | .word bs => some ((d.sqSend n bs).playNext n p)
    | .bad =>
      if d.tileStops n then some (d.sqFault n 10 (d.rd (sqPage n) F.SQ_STAT_pc))
      else some ((d.sqSend n (d.fillWord n)).playNext n p)

/-- Up to `k` words of the play leave, as far as its tiles are resident. -/
def Dev.playGo (d : Dev) (n k : Nat) : Dev :=
  match k with
  | 0 => d
  | k + 1 =>
    match d.playStep n with
    | some d => d.playGo n k
    | none => d

/-- The play in progress goes to its end, as far as its tiles are resident. -/
def Dev.playOn (d : Dev) (n : Nat) : Dev :=
  match (d.sq n).play with
  | some p => d.playGo n p.left
  | none => d

/-- A word of the play, or a counted fill word while its tile is not resident (R147). -/
def Dev.playWord (d : Dev) (n : Nat) : Dev := (d.playStep n).getD (d.fills n 1)

/-- The first `k` stream bits of the play's next word leave, or as many of a counted fill word (R112, R147); a failing tile may stop the
sequencer (R155, R156), or is replaced by fill (R154). -/
def Dev.playPart (d : Dev) (n k : Nat) : Dev :=
  match (d.sq n).play with
  | none => d
  | some p =>
    let send (d : Dev) (bs : Bytes) : Dev := d.sqSendBits n ((bytesBits bs).take k)
    match d.dueOf n p with
    | .word bs => send d bs
    | .late => send (d.underrun n 1) (d.fillWord n)
    | .bad => if d.tileStops n then d.sqFault n 10 (d.rd (sqPage n) F.SQ_STAT_pc) else send d (d.fillWord n)

/-- The next `k` stream bits of the play leave, or all that it still has. -/
def Dev.playBits (d : Dev) (n k : Nat) : Dev :=
  let w := wordBits n (d.sqPam n)
  let d := (List.range (k / w)).foldl (fun d _ => if (d.sq n).play.isSome then d.playWord n else d) d
  if k % w = 0 then d else d.playPart n (k % w)

/-! ## Entries -/

/-- A control entry or a SEG executes (R102): the play before it goes to its end, and it takes effect at the boundary that
follows. While that play waits for a tile, nothing happens. `f` is the effect. -/
def Dev.sqRun (d : Dev) (n op : Nat) (ok : BitVec 128 → Bool) (f : Dev → BitVec 128 → Dev) : Dev :=
  match (d.sqAt n op).filter ok with
  | none => d
  | some e =>
    let d := d.playOn n
    if (d.sq n).play.isNone && d.sqState n == 3 then f d e else d

/-- A SEG play starts (R103, R105, R108, R119, R123), in a bracket behind the block in progress: the lane's exit from electrical idle ends at its first word (R211).
`late` words of fill go first where the sequencer could not keep up. Assumption 44, DESIGN CHOICE. -/
def Dev.sqPlay (d : Dev) (n late : Nat) (g : Seg) : Dev :=
  let d := d.blockEnd n false
  let s := d.sq n
  let p : Play := ⟨g, 0, 0, false⟩
  let slow := d.dueOf n p == .late || decide (9 < s.controls) ||
    (match s.lastSeg with | some l => decide (l.len * l.reps < 8) | none => false)
  let d := if n < 16 then d.txExited n else d
  let d := if slow then d.fills n late else d
  let d := d.setSq n { d.sq n with
    marks := (d.sq n).marks.map (fun m => { m with left := some (m.left.getD m.offset) }), lastSeg := some g, play := some p, bits := 0,
    controls := 0 }
  let d := if n < 16 && !d.sqForwards n then d.blockStart n else d
  let d := match (d.tx n).handoff with
    | some h => if n < 16 then d.setTx n { d.tx n with handoff := some { h with plays := h.plays - 1 } } else d
    | none => d
  d.sqGo n (s.pc + 1)

/-- A handoff's switch point has come before its target is ready (R123). -/
def Dev.handoffLate (d : Dev) (lane : Nat) : Dev :=
  match (d.tx lane).handoff with
  | some h =>
    if d.has (groupPage lane) F.LG_STAT_ready (lane % 4) then d
    else d.setTx lane { d.tx lane with handoff := some { h with late := true } }
  | none => d

/-- SEG at its commit point (R105, R108, R126, R127). A pending switch comes first (R123), and a bracket's plays wait for its
splice (R244). -/
def Dev.sqSeg (d : Dev) (n late : Nat) : Dev :=
  d.sqRun n 1 (fun _ => true) fun d e =>
    let s := d.sq n
    let g := segOf e
    let pam := d.sqPam n
    let wpt := wordsPerTile n pam
    let due := decide (n < 16) && (match (d.tx n).handoff with | some h => h.plays == 0 | none => false)
    let waits := match s.bracket with | some b => !b.started | none => false
    if s.haltReq then (d.sqEnter n).sqHalt n false
    else if due then d.handoffLate n
    else if waits then d
    else
      let d := d.sqEnter n
      if d.sqInline n && s.bracket.isNone then d.sqFault n 1 s.pc
      else if s.bracket.isSome && g.len * g.reps * wordBits n pam % d.rxBlockBits (fwdTx n) != 0 then d.sqFault n 8 s.pc
      else if n < 16 && decide (wpt ≤ g.word) then d.sqFault n 1 s.pc
      else if n < 16 && g.beyond wpt then d.sqFault n 5 s.pc
      else d.sqPlay n late g

/-- LOOP (R109). -/
def Dev.sqLoop (d : Dev) (n : Nat) : Dev :=
  d.sqRun n 2 (fun _ => true) fun d e =>
    let d := d.sqEnter n
    let s := d.sq n
    if 8 ≤ s.frames.length then d.sqFault n 2 s.pc
    else
      let c := if eb e 123 123 = 0 then BitVec.ofNat 32 (eb e 31 0) else d.reg (addrOf (sqPage n) (0x70 + 4 * eb e 122 121))
      (d.setSq n { s with frames := ⟨c, s.pc + 1, 0, true⟩ :: s.frames }).sqGo n (s.pc + 1)

/-- ENDLOOP (R110). -/
def Dev.sqEndloop (d : Dev) (n : Nat) : Dev :=
  d.sqRun n 3 (fun _ => true) fun d e =>
    let d := d.sqEnter n
    let s := d.sq n
    match s.frames with
    | [] => d.sqFault n 3 s.pc
    | f :: r =>
      let c := eb e 120 112
      let brk := eb e 123 122 == 1 && (if condLatch c then d.latchCond n c else f.seen.getLsbD c)
      if brk then ((d.consume n c).setSq n { s with frames := r }).sqGo n (s.pc + 1)
      else
        let (back, fs) := endloop f r
        (d.setSq n { s with frames := fs }).sqGo n (back.getD (s.pc + 1))

/-- JUMP TEST (R111). -/
def Dev.sqTest (d : Dev) (n : Nat) : Dev :=
  d.sqRun n 4 (fun e => eb e 123 122 == 0) fun d e =>
    let d := d.sqEnter n
    let s := d.sq n
    let c := eb e 114 106
    match eb e 116 115 with
    | 0 => d.sqJump n (eb e 105 95) (eb e 94 91) s.pc
    | 1 =>
      if d.latchCond n c then ((d.consume n c).sqForget n).sqJump n (eb e 105 95) (eb e 94 91) s.pc else d.sqGo n (s.pc + 1)
    | _ => if d.latchCond n c then d.sqGo n (s.pc + 1) else (d.sqForget n).sqJump n (eb e 105 95) (eb e 94 91) s.pc

/-- A slot's watch is set or cleared. -/
def setWatch (ws : List (Nat × Watch)) (slot : Nat) (w : Option Watch) : List (Nat × Watch) :=
  let rest := ws.filter fun x => x.1 != slot
  match w with
  | some w => rest ++ [(slot, w)]
  | none => rest

/-- JUMP ARM (R112). -/
def Dev.sqArm (d : Dev) (n : Nat) : Dev :=
  d.sqRun n 4 (fun e => eb e 123 122 == 1) fun d e =>
    let d := d.sqEnter n
    let s := d.sq n
    let w : Watch := ⟨eb e 119 118, eb e 117 117 == 1, eb e 114 106, eb e 105 95, eb e 94 91⟩
    (d.setSq n { s with watches := setWatch s.watches (eb e 121 120) (some w) }).sqGo n (s.pc + 1)

/-- JUMP DISARM (R113). -/
def Dev.sqDisarmSlot (d : Dev) (n : Nat) : Dev :=
  d.sqRun n 4 (fun e => eb e 123 122 == 2) fun d e =>
    let d := d.sqEnter n
    let s := d.sq n
    (d.setSq n { s with watches := setWatch s.watches (eb e 121 120) none }).sqGo n (s.pc + 1)

/-! ## Watches (R112, R113, R115) -/

/-- A fire takes the landing where none waits, or where a lower slot lands no later (R115); otherwise the event is dropped.
Assumption 46, DEDUCED. -/
def Dev.watchTake (d : Dev) (n slot : Nat) (w : Watch) (sooner : Bool) : Dev :=
  let s := d.sq n
  match s.landing with
  | none => d.modSq n fun s => { s with watches := setWatch s.watches slot none, landing := some (slot, w) }
  | some (k, v) =>
    if slot < k && sooner then
      (d.modSq n fun s =>
        { s with watches := setWatch (setWatch s.watches slot none) k (some v), landing := some (slot, w) }).overrun n
    else d.overrun n

/-- An armed watch fires on a delivered event, or on its set latch, which it consumes (R112). -/
def Dev.watchFire (d : Dev) (n slot : Nat) (sooner : Bool) : Dev :=
  let armed := ((d.sq n).watches.find? fun x => x.1 == slot).map Prod.snd
  match d.take (fun t => t == .watch n slot) with
  | some (_, d) =>
    (match armed with
     | some w => d.watchTake n slot w sooner
     | none => if (d.sq n).landing.map Prod.fst = some slot then d.overrun n else d)
  | none =>
    match armed with
    | some w =>
      if d.latchCond n w.cond && ((d.sq n).landing.isNone || sooner) then (d.consume n w.cond).watchTake n slot w sooner else d
    | none => d

/-- The repeat of a WAIT with fill 1 goes to its end (R117), as far as its tiles are resident. A failing tile may stop the
sequencer there (R155). -/
def Dev.repeatEnd (d : Dev) (n : Nat) : Dev :=
  match (d.sq n).play with
  | some p => if p.word = 0 ∧ p.rep = 0 then d else d.playGo n p.left
  | none => d

/-- What leaves before a landing of kind `at_` (R112): for 0 WORD none of the play, for 1 BLOCK its bits up to the block boundary, in
IN-LINE mode those of the spliced block in progress, for 2 SEGEND all of it. `words` go first, up to the next lane-word boundary. -/
def Dev.landCut (d : Dev) (n at_ words : Nat) : Dev :=
  let d : Dev := match (d.sq n).play with
    | some p => (List.range (min words p.left)).foldl (fun (d : Dev) _ => if d.sqState n == 6 then d else d.playWord n) d
    | none => d
  let part := if n < 16 && d.sqForwards n then (d.rx (fwdTx n)).part.length else 0
  match (d.sq n).play with
  | none => if at_ = 1 then d.blockEnd n false else d
  | some p =>
    if at_ = 2 then (if p.again then d.repeatEnd n else d.playOn n)
    else if at_ = 0 then d
    else if n < 16 && d.sqForwards n then
      if part = 0 then d
      else
        let d := d.playBits n (d.rxBlockBits (fwdTx n) - part)
        if d.sqState n = 6 then d else d.blockEnd n false
    else
      let b := d.txBlockBits n
      d.playBits n ((b - (d.sq n).bits % b) % b)

/-- A fired watch lands (R112 to R114): the play is cut at the boundary, the departure time is recorded, land_ev rises, a keep watch
re-arms. A SEGEND landing waits while the play waits for a tile. Assumption 106, DEDUCED. -/
def Dev.watchLand (d : Dev) (n : Nat) (l : Landing) : Dev :=
  let p := sqPage n
  match (d.sq n).landing with
  | none => d
  | some (slot, w) =>
    let d := d.landCut n w.at_ l.words
    if d.sqState n = 6 || (w.at_ == 2 && (match (d.sq n).play with | some q => !(q.again && q.word == 0 && q.rep == 0) | none => false)) then d
    else
      let idled := match (d.sq n).wait with | some x => eb x.entry 121 120 == 2 | none => false
      let d := d.modSq n fun s =>
        { s with landing := none, wait := none, play := none, hold := false
                 watches := if w.keep then setWatch s.watches slot (some w) else s.watches }
      let d := (d.setSqState n 3).sqForget n
      let d := if idled then d.sqLaneDrive n else d
      let d := d.wrPair p F.SQ_LAND_TS_LO F.SQ_LAND_TS_HI l.ts
      let d := d.raiseIf p F.SQ_EVOUT_land_en F.SQ_EVOUT_land_ev
      d.sqJump n w.target w.sdepth (d.rd p F.SQ_STAT_pc)

/-! ## WAIT (R116 to R118) -/

/-- The fill field of a WAIT counts (R118): not in IN-LINE mode outside a bracket. -/
def Dev.waitFills (d : Dev) (n : Nat) : Bool := !(d.sqInline n && (d.sq n).bracket.isNone)

/-- WAIT (R116 to R118). -/
def Dev.sqWait (d : Dev) (n : Nat) : Dev :=
  d.sqRun n 5 (fun _ => true) fun d e =>
    let d := d.sqEnter n
    let s := d.sq n
    if eb e 123 122 = 1 && decide (eb e 95 48 < d.count.toNat) then (d.stat (sqPage n) 21).sqGo n (s.pc + 1)
    else
      let again := if eb e 121 120 = 1 && d.waitFills n then s.lastSeg.map (⟨·, 0, 0, true⟩) else none
      let d := (d.setSq n { s with
        wait := some ⟨e, false, 0⟩, play := again, bits := if again.isSome then 0 else s.bits }).setSqState n 4
      let d := if again.isSome && decide (n < 16) && !d.sqForwards n then d.blockStart n else d
      let d := d.sqAhead n
      if n < 16 && eb e 121 120 == 2 && d.waitFills n then d.txIdle n else d

/-- A lane word of waiting (R117, R118): fill, a word of the repeat, or electrical idle; counted towards val. -/
def Dev.waitWord (d : Dev) (n : Nat) (w : WaitRec) : Dev :=
  let d := d.setSq n { d.sq n with wait := some { w with sent := w.sent + 1 } }
  if !d.waitFills n then d.sqSkip n
  else if eb w.entry 121 120 = 2 && decide (n < 16) then (d.silentWord n).sqSkip n
  else if (d.sq n).play.isSome then d.playWord n
  else d.sqSend n (d.fillWord n)

/-- Words of waiting up to `k` in all. -/
def Dev.waitWords (d : Dev) (n k : Nat) : Dev :=
  (List.range (k - (match (d.sq n).wait with | some w => w.sent | none => k))).foldl
    (fun d _ => match (d.sq n).wait with | some w => d.waitWord n w | none => d) d

/-- The repeat stands at its start, or there is none: the WAIT may end. -/
def Dev.repeatOver (d : Dev) (n : Nat) : Bool :=
  d.sqState n == 4 && (match (d.sq n).play with | some p => p.word == 0 && p.rep == 0 | none => true)

/-- A WAIT that may end ends at its boundary (R116, R117): execution goes on at an entry, and a lane that fill 2 idled leaves
electrical idle. `f` is what the end consumes. -/
def Dev.waitOver (d : Dev) (n pc : Nat) (f : Dev → Dev) : Dev :=
  let d := d.repeatEnd n
  if !d.repeatOver n then d
  else
    let idled := (match (d.sq n).wait with | some w => eb w.entry 121 120 == 2 | none => false) && d.waitFills n
    let d := ((f d).setSq n { (f d).sq n with wait := none, play := none }).setSqState n 3
    (if idled then d.sqLaneDrive n else d).sqGo n pc

/-- A WAIT's condition is met (R116): its event, or latch, which it consumes; the timebase has reached val; val lane words have
passed. -/
def Dev.waitEnd (d : Dev) (n : Nat) : Dev :=
  let s := d.sq n
  match s.wait, s.landing with
  | some w, none =>
    let c := eb w.entry 118 110
    (match eb w.entry 123 122 with
     | 0 =>
       if w.arrived then d.waitOver n (s.pc + 1) id
       else if d.latchCond n c then d.waitOver n (s.pc + 1) (·.consume n c)
       else d
     | 1 => if eb w.entry 95 48 ≤ d.count.toNat then d.waitOver n (s.pc + 1) id else d
     | _ => (d.waitWords n (eb w.entry 79 48)).waitOver n (s.pc + 1) id)
  | _, _ => d

/-- A WAIT times out after val lane words, before its event (R117): off the look-ahead's path (R146). -/
def Dev.waitTimeout (d : Dev) (n : Nat) : Dev :=
  let s := d.sq n
  match s.wait, s.landing with
  | some w, none =>
    if eb w.entry 123 122 == 0 && eb w.entry 119 119 == 1 && !w.arrived && !d.latchCond n (eb w.entry 118 110) then
      (d.waitWords n (eb w.entry 79 48)).waitOver n (eb w.entry 109 99) (·.sqForget n)
    else d
  | _, _ => d

/-! ## MARK (R119 to R121) -/

/-- MARK (R119). -/
def Dev.sqMark (d : Dev) (n : Nat) : Dev :=
  d.sqRun n 6 (fun _ => true) fun d e =>
    let d := d.sqEnter n
    let s := d.sq n
    if 4 ≤ s.marks.length then d.sqFault n 12 s.pc
    else
      let m : MarkRec := ⟨eb e 123 123 == 1, eb e 122 120, eb e 119 119 == 1, eb e 118 111, eb e 110 110 == 1, eb e 109 102,
        eb e 101 70, none, false⟩
      (d.setSq n { s with marks := s.marks ++ [m] }).sqGo n (s.pc + 1)

/-- The play goes on until a mark's word is committed, as far as its tiles are resident. -/
def Dev.markOn (d : Dev) (n i k : Nat) : Dev :=
  match k with
  | 0 => d
  | k + 1 =>
    match (d.sq n).marks[i]? with
    | some m =>
      if m.out then d
      else
        match d.playStep n with
        | some d => d.markOn n i k
        | none => d
    | none => d

/-- A pending mark's symbol departs (R120, R121): once its word is committed, also after a halt, a fault or the act's end, as a
committed word always leaves. Assumption 47, DEDUCED. -/
def Dev.markEmit (d : Dev) (n i : Nat) (ts : Stamp) : Dev :=
  let d := match (d.sq n).play with | some p => d.markOn n i p.left | none => d
  let s := d.sq n
  match s.marks[i]? with
  | none => d
  | some m =>
    if m.out then
      let d := d.setSq n { s with marks := s.marks.eraseIdx i }
      let d := if m.pinEn then d.emit (.markPulse m.pin ts m.width) else d
      if m.stamp then d.wrPair (sqPage n) F.SQ_MARK_TS_LO F.SQ_MARK_TS_HI ts else d
    else d

/-! ## RATE (R122 to R124, R187) -/

/-- The rate limit of the act of a sequencer, in Bd. -/
def Dev.rateLimit (d : Dev) (n : Nat) : Nat :=
  match d.slotOf F.ACT_ENG_sq n with
  | some s => 1000000 * d.rd 0x03 (F.ACT_RATE_rate_mbd.at s)
  | none => 0

/-- RATE ABS (R122 to R124). Assumption 48, DEDUCED. -/
def Dev.sqRateAbs (d : Dev) (n : Nat) : Dev :=
  d.sqRun n 7 (fun e => eb e 123 122 == 0) fun d e =>
    let s := d.sq n
    let kbd := eb e 118 93
    let fmt := eb e 121 120
    let pam := if fmt = 0 then d.sqPam n else fmt == 2
    if 16 ≤ n || d.sqInline n then (d.sqEnter n).sqFault n 1 s.pc
    else if (d.tx n).handoff.isSome then d.setSq n { s with hold := true }
    else
      let d := d.sqEnter n
      let (num, den) := d.synRate (d.servingSynth n)
      if d.rateLimit n < 1000 * kbd then d.sqFault n 6 s.pc
      else if offsetOk num den (1000 * kbd) && (fmt == 0 || pam == d.sqPam n) then
        let d := d.aimOff n (offsetTo num den (1000 * kbd))
        (d.setSq n { d.sq n with absRate := some kbd }).sqGo n (s.pc + 1)
      else if d.synthFree n (1000 * kbd) pam then
        let d := d.beginHandoff n (1000 * kbd) pam (eb e 119 119)
        (d.setSq n { d.sq n with absRate := some kbd }).sqGo n (s.pc + 1)
      else d.sqFault n 7 s.pc

/-- RATE PPM (R122, R124, R187). Assumption 48, DEDUCED. -/
def Dev.sqRatePpm (d : Dev) (n : Nat) : Dev :=
  d.sqRun n 7 (fun e => eb e 123 122 == 1) fun d e =>
    let s := d.sq n
    if 16 ≤ n || d.sqInline n then (d.sqEnter n).sqFault n 1 s.pc
    else if (d.tx n).handoff.isSome then d.setSq n { s with hold := true }
    else
      let d := d.sqEnter n
      let base := match s.absRate with | some k => 1000 * k | none => d.txPageRate n
      -- the new rate in 10^-9 Bd
      let rate := base * (1000000000 + signed 24 (eb e 92 69)).toNat
      let (num, den) := d.synRate (d.servingSynth n)
      if !offsetOk (1000000000 * num) den rate then d.sqFault n 5 s.pc
      else if 1000000000 * d.rateLimit n < rate then d.sqFault n 6 s.pc
      else (d.aimOff n (offsetTo (1000000000 * num) den rate)).sqGo n (s.pc + 1)

/-- The lane's switch point is reached (R123, R233): the play is over and a SEG is due, or a RATE holds execution; or a forwarding
lane's source is ALIGNED. -/
def Dev.switchDue (d : Dev) (lane : Nat) (h : Handoff) : Bool :=
  if d.sqForwards lane then d.aligned (fwdTx lane)
  else
    let s := d.sq lane
    d.sqState lane == 3 && s.play.isNone && (s.hold || (h.plays == 0 && opOf (d.entry lane s.pc) == 1))

/-- The handoff's target is retuned and aligned (R190 steps 4 and 5); late where the switch point has come before it (R123). -/
def Dev.handoffReady (d : Dev) (lane : Nat) : Dev :=
  match (d.tx lane).handoff with
  | none => d
  | some h =>
    if d.synLocked h.syn && (d.syn h.syn).job == .idle then
      let d := if d.switchDue lane h && !d.sqForwards lane && !(d.sq lane).hold then d.handoffLate lane else d
      (d.fbit (groupPage lane) F.LG_STAT_ready (lane % 4) true).synWr h.syn F.SYN_STAT_aligned 1
    else d

/-- The switch (R192), on a lane that forwards behind the blocks still held (R233): synthesizer, format, offset and rate change at one symbol boundary. Where the target was not ready at the
switch point, or a RATE held execution, `fills` words of fill have gone out at the old rate and format until then (R123). -/
def Dev.handoffSwitch (old : Dev) (lane fills : Nat) : Dev :=
  let d := old
  let p := groupPage lane
  let d := if d.sqForwards lane then d else d.playOn lane
  match (d.tx lane).handoff with
  | none => d
  | some h =>
    if d.has p F.LG_STAT_ready (lane % 4) && d.switchDue lane h then
      let held := (d.sq lane).hold
      let seq := !d.sqForwards lane
      let d := if seq then (if h.late || held then d.fills lane fills else d)
        else if d.on (rxPage (fwdTx lane)) F.RXL_FWD_STAT_fwd then (d.fwdFlush (fwdTx lane)).fwdQuiet (fwdTx lane)
        else d
      let d := (d.fbit p F.LG_STAT_serve (lane % 4) ((h.syn - 6) % 2 == 1)).setOff lane 0
      let d := (d.fbit p F.LG_STAT_pending (lane % 4) false).fbit p F.LG_STAT_ready (lane % 4) false
      let d := (d.wr (0x20 + lane) F.TXL_STAT_fmt h.pam.toNat).stat p 16
      let d := d.setTx lane { d.tx lane with handoff := none, rate := h.rate }
      let d := d.setSq lane { d.sq lane with hold := false }
      let others := (List.range 4).any fun k =>
        match (d.tx (lane / 4 * 4 + k)).handoff with | some g => g.syn == h.syn | none => false
      let d := (if others then d else d.synWr h.syn F.SYN_STAT_aligned 0).errRecheck old lane
      if seq && h.late && !held then d.stat (sqPage lane) 20 else d
    else d

/-! ## SPLICE (R125, R126, R244, R246) -/

/-- SPLICE BEGIN (R125, R126). Assumption 49, DEDUCED. -/
def Dev.sqSpliceBegin (d : Dev) (n : Nat) : Dev :=
  d.sqRun n 8 (fun e => eb e 123 122 != 0) fun d e =>
    let d := d.sqEnter n
    let s := d.sq n
    if 16 ≤ n then d.sqFault n 1 s.pc
    else if !d.sqInline n || !d.sqForwards n || s.bracket.isSome then d.sqFault n 8 s.pc
    else
      let b : Bracket := ⟨eb e 123 122 == 2, if eb e 121 121 = 1 then some (eb e 120 112) else none, false, false⟩
      (d.setSq n { s with bracket := some b }).sqGo n (s.pc + 1)

/-- The splice takes effect once its condition has come and the source is ALIGNED (R244). -/
def Dev.spliceStart (d : Dev) (n : Nat) : Dev :=
  let s := d.sq n
  let r := fwdTx n
  match s.bracket with
  | none => d
  | some b =>
    let latch := match b.cond with | some c => d.latchCond n c | none => false
    if !b.started && (b.cond.isNone || b.met || latch) && d.aligned r && d.on (rxPage r) F.RXL_FWD_STAT_fwd then
      let d := match b.cond with | some c => (if b.met then d else d.consume n c) | none => d
      let d := d.setSq n { d.sq n with bracket := some { b with started := true } }
      (d.wr (rxPage r) F.RXL_FWD_STAT_splice 1).setRx r { d.rx r with spliced := true, cut := false, part := [] }
    else d

/-- SPLICE END (R125, R126). -/
def Dev.sqSpliceEnd (d : Dev) (n : Nat) : Dev :=
  d.sqRun n 8 (fun e => eb e 123 122 == 0) fun d _ =>
    let d := d.sqEnter n
    let s := d.sq n
    if 16 ≤ n then d.sqFault n 1 s.pc
    else if !d.sqInline n || !d.sqForwards n || s.bracket.isNone then d.sqFault n 8 s.pc
    else ((d.blockEnd n false).closeBracket n).sqGo n (s.pc + 1)

/-- The splice buffer drains empty (R246): the held blocks leave in order, and where forwarding was to end it ends (R241). -/
def Dev.drained (d : Dev) (r : Nat) : Dev :=
  if d.on (rxPage r) F.RXL_FWD_STAT_draining && !d.splicing r && (d.rx r).part.isEmpty then
    let d := d.sendHeld r (d.rx r).held.length
    if (d.rx r).ending then d.fwdQuiet r else d
  else d

/-- HALT (R127). -/
def Dev.sqHaltEntry (d : Dev) (n : Nat) : Dev :=
  d.sqRun n 0 (fun _ => true) fun d e => (d.sqEnter n).sqHalt n (eb e 123 123 == 1)

/-- A latch task of the sequencer is taken (R107). -/
def Dev.latchSet (d : Dev) (n k : Nat) : Dev :=
  match d.take (fun t => t == .latch n k) with
  | some (_, d) => d.setLatch n k true
  | none => d

/-! ## Tile fetches (R138, R144, R149, R157) -/

/-- PDMA writes a tile into a bank of the sequencer (R307); where the spec does not say which one, an access that wakes it (R311). -/
def Dev.placeTile (d : Dev) (n : Nat) : Dev :=
  let bs := (List.range 64).filter fun b => d.rd (0x70 + b / 8) (F.SPB_OWN_owner.at (b % 8)) == n + 1
  let (w, d) := d.fresh
  let d := bs.foldl (fun d b => d.setBank b { d.bank b with placed := true }) d
  match bs[w.toNat % bs.length]? with
  | some b => d.bankTouch b
  | none => d

/-- A PDMA fetch of a tile ends: hot during preparation, dropped after a jump, where it was asked for before one that is still wanted (R146,
R281), or streamed during an act. A tile that fails its
check raises TILEBAD and is logged (R157); it stops a play that reaches it (R155). `late` words of a play that waits for the
tile are replaced by fill before it is resident (R147). -/
def tileFetched (d : Dev) (m : Mem) (n t late : Nat) : Dev :=
  let s := d.sq n
  let hot := d.sqState n == 1 && (match s.prep with | some p => p.todo.contains t | none => false)
  let dropped := s.dropped.contains t
  if !hot && !dropped && !s.wanted.contains t then d
  else
    let (bs, _, d) := readTile d m t 0 4096 4 (some n)
    let ok := tilePasses d t bs
    let d := if ok then d.placeTile n else (d.raiseSys 245).tlogAdd t 1 4 (some n)
    let h : HeldTile := ⟨t, if ok then 4096 else 0, if ok then bs else []⟩
    if dropped then (d.setSq n { d.sq n with dropped := (d.sq n).dropped.erase t }).sqAsks n
    else if hot then
      d.setSq n { d.sq n with
        hot := s.hot ++ [h]
        prep := s.prep.map fun p => { p with todo := p.todo.erase t } }
    else
      let due : Bool := match s.play with
        | some p => (p.seg.tile + (p.seg.word + p.word) / wordsPerTile n (d.sqPam n) == t) && d.dueOf n p == .late
        | none => false
      let d := if due = true then d.fills n late else d
      d.setSq n { d.sq n with
        stream := (d.sq n).stream ++ [h], wanted := (d.sq n).wanted.erase t }

end Sys2Proof.Machine
end

