-- ==== Sys2Proof/Machine/Clock.lean ====
section
/-! DEFINITION. Time on the lanes: the words that leave as it passes (spec/04_ringmaster_programs.md R103, R117, R123, R127,
R147), the way out of electrical idle (spec/07_transmit_lanes.md R209, R211), the wideband channels
(spec/13_analog_outputs.md R350, R354). -/
namespace Sys2Proof.Machine

/-- What one lane word takes, in symbols times 10^9. -/
def wordUnit (n : Nat) : Int := 1000000000 * (wordSymbols n : Int)

/-- What `ns` ns bring towards the next lane word, in symbols times 10^9. -/
def Dev.wordGain (d : Dev) (n ns : Nat) : Int := ((ns * (if n < 16 then (d.tx n).rate else 16000000000) : Nat) : Int)

/-- A switch is due on the sequencer's lane and its target is not ready, or a RATE holds execution (R123). -/
def Dev.switchWaits (d : Dev) (n : Nat) : Bool :=
  decide (n < 16) &&
    (match (d.tx n).handoff with
     | some h => (d.sq n).hold || (d.switchDue n h && !d.has (groupPage n) F.LG_STAT_ready (n % 4))
     | none => false)

/-- A sequencer between two plays that must commit fill (R103): it runs through more than 8 control entries, or its switch waits; in
IN-LINE mode outside a bracket the lane forwards. -/
def Dev.sqRunsDry (d : Dev) (n : Nat) : Bool := d.waitFills n && (decide (8 < (d.sq n).controls) || d.switchWaits n)

/-- The lane word that is due now (R103, R117, R127, R147), or none where the sequencer's clock stands: between two plays that
follow each other in time, no word is late until an entry shows it. Assumption 109, DESIGN CHOICE. -/
def Dev.wordDue (d : Dev) (n : Nat) : Option Dev :=
  let s := d.sq n
  match d.sqState n with
  | 3 =>
    if s.play.isSome then some (d.playWord n)
    else if n < 16 && (d.tx n).exit.isSome then none
    else if d.sqRunsDry n then
      some ((if d.switchWaits n && !s.hold then d.handoffLate n else d).fills n 1)
    else none
  | 4 =>
    match s.wait with
    | some w => some (d.waitWord n w)
    | none => none
  | 5 => if s.haltFill then some (d.sqSend n (d.fillWord n)) else none
  | _ => none

/-- A TX lane sends no symbols: it is in electrical idle, or sends forwarded quiet. -/
def Dev.laneQuiet (d : Dev) (n : Nat) : Bool :=
  d.on (txPage n) F.TXL_STAT_idle || (d.sqForwards n && !d.on (rxPage (fwdTx n)) F.RXL_FWD_STAT_fwd)

/-- A word slot of a lane or channel that no sequencer fills: the generators of a lane that sends no symbols run on (R209), a wideband
channel goes on with its own sources (R350). -/
def Dev.emptySlot (d : Dev) (n : Nat) : Dev :=
  if 16 ≤ n then d.awgWord (n - 16) [] else if d.laneQuiet n then d.silentWord n else d

/-- One slot of a lane's word clock passes. A wideband channel's slots between two plays wait for the entries that fill them: no sample
is left out (R350, R359). -/
def Dev.wordSlot (d : Dev) (n : Nat) : Dev :=
  let c := (d.sq n).clock
  match d.wordDue n with
  | some d => d.setSq n { d.sq n with clock := c - wordUnit n }
  | none =>
    if decide (16 ≤ n) && d.sqState n == 3 then d
    else
      let d := d.emptySlot n
      d.setSq n { d.sq n with clock := c - wordUnit n }

/-- `ns` ns pass on a lane's word clock. -/
def Dev.wordClock (d : Dev) (n ns : Nat) : Dev :=
  let c := (d.sq n).clock + d.wordGain n ns
  let d := d.setSq n { d.sq n with clock := c }
  (List.range (c / wordUnit n).toNat).foldl (fun d _ => d.wordSlot n) d

/-- `ns` ns pass on a TX lane, at most what is left of its way out of electrical idle (R211). -/
def Dev.laneTime (d : Dev) (n ns : Nat) : Dev :=
  let d := d.wordClock n ns
  match (d.tx n).exit with
  | some t => if t ≤ ns then d.txExited n else d.setTx n { d.tx n with exit := some (t - ns) }
  | none => d

/-- `ns` ns pass on a TX lane: up to the end of its exit from electrical idle, then the rest. -/
def Dev.laneClock (d : Dev) (n ns : Nat) : Dev :=
  match (d.tx n).exit with
  | some t => let e := d.laneTime n (min t ns); if t < ns then e.laneTime n (ns - t) else e
  | none => d.laneTime n ns

/-- The lanes and channels whose word clocks run: those of RUNNING acts. -/
def Dev.clocked (d : Dev) : List Nat :=
  (List.range 20).filter fun n => if n < 16 then d.running F.ACT_LANES_tx n else d.running F.ACT_ENG_aw (n - 16)

/-- Time passes, in ns: on the timebase, and on the lanes and channels of RUNNING acts, which take the ns they are owed too. -/
def Dev.clock (d : Dev) (ns : Nat) : Dev :=
  let k := ns + d.mw.owed
  d.clocked.foldl (fun d n => if n < 16 then d.laneClock n k else d.wordClock n k) (d.pass ns)

/-- A step that happens when the timebase reaches a count brings the time along (assumption 23). -/
def Dev.reachTime (d : Dev) (t : Nat) : Dev :=
  if d.timeRuns && decide (d.count.toNat < t) then d.clock (t - d.count.toNat) else d

end Sys2Proof.Machine
end

