-- ==== Sys2Proof/Machine/Write.lean ====
section
/-! DEFINITION. What a block sees of a write that reached it (R28, R29, R485). -/
namespace Sys2Proof.Machine

/-- A write at a block: master, page, offset, byte enables, the register's word before, and the word with every writable field
that the enabled bytes reach replaced by the written data, WO fields included. -/
structure Wr where
  m : Master
  p : Nat
  off : Nat
  be : BitVec 4
  old : Word
  new : Word
  deriving DecidableEq, Repr

/-- The enabled bytes reach a field. -/
def Wr.reach (w : Wr) (f : Field) : Bool := (f.mask &&& beMask w.be) != 0

/-- The value a field would take. -/
def Wr.val (w : Wr) (f : Field) : Nat := f.get w.new

/-- The value a field would take, as two's complement. -/
def Wr.valS (w : Wr) (f : Field) : Int := f.getS w.new

/-- The value of a WO field as written: 0 where the enabled bytes do not reach it. -/
def Wr.cmd (w : Wr) (f : Field) : Nat := if w.reach f then f.get w.new else 0

/-- The write changes a field. -/
def Wr.alters (w : Wr) (f : Field) : Bool := f.get w.old != f.get w.new

/-- The instance of a register block at the write's offset. -/
def Wr.idx (w : Wr) (f : Field) : Nat := if f.st = 0 then 0 else (w.off - f.off) / f.st

/-- A value rounded to the nearest integer, halves away from zero. -/
def roundAway (n : Int) (d : Nat) : Int :=
  if 0 ≤ n then ((2 * n.natAbs + d) / (2 * d) : Nat) else -(((2 * n.natAbs + d) / (2 * d) : Nat) : Int)

end Sys2Proof.Machine
end

