-- ==== Sys2Proof/Machine/Lane.lean ====
section
/-! DEFINITION. Transmit lane pages (spec/07_transmit_lanes.md R199 to R222): the expert values that the device derives, the
limits on writes, error injection; and the derived values of receive lane pages (spec/08). -/
namespace Sys2Proof.Machine

/-- The amplitude code of a swing in mV (R206). -/
def ampCode (mv : Nat) : Nat := (roundAway (mv * 100) 125).toNat

/-- The tap code of a weight in permille (R206). -/
def tapCode (pm : Int) : Int := roundAway (pm * 256) 1000

/-- The level code of a level in permille (R206). -/
def levelCode (pm : Int) : Int := roundAway (pm * 512) 1000

/-- The common-mode code of a value in mV (R206). -/
def cmCode (mv : Nat) : Nat := (roundAway (mv * 10) 25).toNat

/-- The rate in 16 Bd units of a rate in kBd (R206). -/
def rate16 (kbd : Nat) : Nat := (roundAway (kbd * 125) 2).toNat

/-- A field takes an integer as two's complement. -/
def Dev.wrS (d : Dev) (p : Nat) (f : Field) (v : Int) : Dev := d.wr p f (unsigned f.w v)

/-- TXL_STAT.rlm for the levels in effect (R204): in permille at basic level, in 1/512 at expert level; to the nearest
(assumption 41). -/
def Dev.showRlm (d : Dev) (n : Nat) : Dev :=
  let p := txPage n
  let x := d.expert p
  let full : Int := if x then 512 else 1000
  let l1 := d.rdS p (if x then F.TXL_XPAM_LVL_lvl1 else F.TXL_PAM_LVL_lvl1)
  let l2 := d.rdS p (if x then F.TXL_XPAM_LVL_lvl2 else F.TXL_PAM_LVL_lvl2)
  let least := min (l1 + full) (min (l2 - l1) (full - l2))
  d.wr p F.TXL_STAT_rlm (nearest (3 * least.toNat * 1000) (2 * full.toNat))

/-- The expert fields of a TX lane page derived from its basic ones (R206). Assumption 54, DEDUCED. -/
def Dev.txDerive (d : Dev) (n : Nat) : Dev :=
  let p := txPage n
  let s (d : Dev) (x : Field) (v : Int) : Dev := d.wrS p x v
  let d := (d.wr p F.TXL_XRATE (rate16 (d.rd p F.TXL_CFG_rate_kbd))).wr p F.TXL_XFMT_fmt (d.rd p F.TXL_CFG_fmt)
  let d := d.wr p F.TXL_XNRZ_AMP_code (ampCode (d.rd p F.TXL_NRZ_SWING_mv))
  let d := d.wr p F.TXL_XPAM_AMP_code (ampCode (d.rd p F.TXL_PAM_SWING_mv))
  let d := s d F.TXL_XNRZ_TAP_pre2 (tapCode (d.rdS p F.TXL_NRZ_PRE_pre2))
  let d := s d F.TXL_XNRZ_TAP_pre1 (tapCode (d.rdS p F.TXL_NRZ_PRE_pre1))
  let d := s d F.TXL_XNRZ_TAP_post1 (tapCode (d.rdS p F.TXL_NRZ_POST_post1))
  let d := s d F.TXL_XNRZ_TAP_post2 (tapCode (d.rdS p F.TXL_NRZ_POST_post2))
  let d := s d F.TXL_XPAM_TAP_pre2 (tapCode (d.rdS p F.TXL_PAM_PRE_pre2))
  let d := s d F.TXL_XPAM_TAP_pre1 (tapCode (d.rdS p F.TXL_PAM_PRE_pre1))
  let d := s d F.TXL_XPAM_TAP_post1 (tapCode (d.rdS p F.TXL_PAM_POST_post1))
  let d := s d F.TXL_XPAM_TAP_post2 (tapCode (d.rdS p F.TXL_PAM_POST_post2))
  let d := s d F.TXL_XPAM_LVL_lvl1 (levelCode (d.rdS p F.TXL_PAM_LVL_lvl1))
  let d := s d F.TXL_XPAM_LVL_lvl2 (levelCode (d.rdS p F.TXL_PAM_LVL_lvl2))
  (d.wr p F.TXL_XCM_nrz (cmCode (d.rd p F.TXL_CM_nrz_mv))).wr p F.TXL_XCM_pam (cmCode (d.rd p F.TXL_CM_pam_mv))

/-- The expert fields of an RX lane page derived from its basic ones (chapter 8, Registers). -/
def Dev.rxDerive (d : Dev) (n : Nat) : Dev :=
  let p := rxPage n
  let d := d.wr p F.RXL_XRATE (rate16 (d.rd p F.RXL_CFG_rate_kbd))
  let d := d.wr p F.RXL_XALT (rate16 (d.rd p F.RXL_ALT_rate_kbd))
  let d := (d.wr p F.RXL_XFMT_fmt (d.rd p F.RXL_CFG_fmt)).wr p F.RXL_XFMT_alt (d.rd p F.RXL_ALT_fmt)
  (d.wr p F.RXL_XCTLE_force 0).wr p F.RXL_XDFE_FORCE_mask 0

/-- The lane belongs to an ADMITTED or RUNNING act. -/
def Dev.txLive (d : Dev) (n : Nat) : Bool := d.live F.ACT_LANES_tx n
def Dev.rxLive (d : Dev) (n : Nat) : Bool := d.live F.ACT_LANES_rx n

/-- An idle lane shows the format of its page; an act's start and its RATE entries set it otherwise (R100, R201). -/
def Dev.txHome (d : Dev) (n : Nat) : Dev :=
  ((d.wr (txPage n) F.TXL_STAT_fmt (d.txPageFmt n).toNat).setTx n { d.tx n with rate := d.txPageRate n }).errRecheck d n

/-! ## Limits (R202, R203, R206, R208) -/

/-- The magnitudes of the four taps sum to at most 600 permille, or 154 of 256 codes. -/
def tapsOk (taps : List Int) (most : Nat) : Bool := decide ((taps.map Int.natAbs).foldl (· + ·) 0 ≤ most)

/-- A write that a TX lane page ignores beyond the fields' own ranges. -/
def Dev.txRangeBad (d : Dev) (n : Nat) (w : Wr) : Bool :=
  let p := txPage n
  let limit := d.rd p F.TXL_LIMIT_swing_mv
  let taps (a b c e : Int) : Bool := !tapsOk [a, b, c, e] 600
  match w.off with
  | 0x044 => decide (limit < w.val F.TXL_NRZ_SWING_mv)
  | 0x050 => decide (limit < w.val F.TXL_PAM_SWING_mv)
  | 0x048 => taps (w.valS F.TXL_NRZ_PRE_pre2) (w.valS F.TXL_NRZ_PRE_pre1) (d.rdS p F.TXL_NRZ_POST_post1) (d.rdS p F.TXL_NRZ_POST_post2)
  | 0x04C => taps (w.valS F.TXL_NRZ_POST_post1) (w.valS F.TXL_NRZ_POST_post2) (d.rdS p F.TXL_NRZ_PRE_pre2) (d.rdS p F.TXL_NRZ_PRE_pre1)
  | 0x054 => taps (w.valS F.TXL_PAM_PRE_pre2) (w.valS F.TXL_PAM_PRE_pre1) (d.rdS p F.TXL_PAM_POST_post1) (d.rdS p F.TXL_PAM_POST_post2)
  | 0x058 => taps (w.valS F.TXL_PAM_POST_post1) (w.valS F.TXL_PAM_POST_post2) (d.rdS p F.TXL_PAM_PRE_pre2) (d.rdS p F.TXL_PAM_PRE_pre1)
  | 0x110 => decide (ampCode limit < w.val F.TXL_XNRZ_AMP_code)
  | 0x118 => decide (ampCode limit < w.val F.TXL_XPAM_AMP_code)
  | 0x114 => !tapsOk [w.valS F.TXL_XNRZ_TAP_pre2, w.valS F.TXL_XNRZ_TAP_pre1, w.valS F.TXL_XNRZ_TAP_post1, w.valS F.TXL_XNRZ_TAP_post2] 154
  | 0x11C => !tapsOk [w.valS F.TXL_XPAM_TAP_pre2, w.valS F.TXL_XPAM_TAP_pre1, w.valS F.TXL_XPAM_TAP_post1, w.valS F.TXL_XPAM_TAP_post2] 154
  | 0x428 => d.rd p F.TXL_ERR_CTRL_mode == 2 && w.val F.TXL_ERR_N == 0
  | _ => false

/-- TXL_LIMIT lowers the swings above it, and at expert level the amplitude codes (R208). -/
def Dev.txClamp (d : Dev) (n : Nat) : Dev :=
  let p := txPage n
  let limit := d.rd p F.TXL_LIMIT_swing_mv
  let d := (d.wr p F.TXL_NRZ_SWING_mv (min limit (d.rd p F.TXL_NRZ_SWING_mv))).wr p F.TXL_PAM_SWING_mv
    (min limit (d.rd p F.TXL_PAM_SWING_mv))
  if d.expert p then
    let c := ampCode limit
    (d.wr p F.TXL_XNRZ_AMP_code (min c (d.rd p F.TXL_XNRZ_AMP_code))).wr p F.TXL_XPAM_AMP_code
      (min c (d.rd p F.TXL_XPAM_AMP_code))
  else d.txDerive n

/-! ## Error injection (R217 to R221) -/

/-- A write that a TX lane page refuses in its present state (R207, R208, R218). -/
def Dev.txStateBad (d : Dev) (n : Nat) (w : Wr) : Bool :=
  let p := txPage n
  match w.off with
  | 0x040 | 0x100 | 0x104 | 0x404 => d.txLive n
  | 0x420 =>
    let typ := w.val F.TXL_ERR_CTRL_type
    (decide (typ ≤ 2) && decide (w.val F.TXL_ERR_CTRL_mode ≤ 4)) &&
      (!posFits (d.txBlockBits n) typ (d.rd p F.TXL_ERR_POS_off) (d.rd p F.TXL_ERR_POS_len) (w.val F.TXL_ERR_CTRL_pos_rand == 1) ||
        (typ == 1 && w.val F.TXL_ERR_CTRL_sym_mask == 0 && d.sqPam n))
  | 0x424 =>
    !posFits (d.txBlockBits n) (d.rd p F.TXL_ERR_CTRL_type) (w.val F.TXL_ERR_POS_off) (w.val F.TXL_ERR_POS_len)
      (d.on p F.TXL_ERR_CTRL_pos_rand)
  | _ => false

/-- A trigger (R219, R220): a pending injection absorbs it and counts it; otherwise one is pending with the present
settings. -/
def Dev.errTrigger (d : Dev) (n : Nat) : Dev :=
  let p := txPage n
  if (d.tx n).shot.isSome || !(d.tx n).next.isEmpty then (d.bump p F.TXL_ERR_CNT_drop).stat p 19
  else
    d.setTx n { d.tx n with
      shot := some ⟨d.rd p F.TXL_ERR_CTRL_type, d.rd p F.TXL_ERR_CTRL_mode, d.on p F.TXL_ERR_CTRL_pos_rand,
        d.rd p F.TXL_ERR_CTRL_sym_mask, d.rd p F.TXL_ERR_POS_off, d.rd p F.TXL_ERR_POS_len⟩ }

/-- An injection is counted, with the time at which its first changed bit leaves (R221). -/
def Dev.errRecord (d : Dev) (n : Nat) (ts : Stamp) : Dev :=
  let p := txPage n
  let d := (d.bump p F.TXL_ERR_CNT_inj).wrPair p F.TXL_ERR_TS_LO F.TXL_ERR_TS_HI ts
  d.raiseIf p F.TXL_ERR_EV_out_en F.TXL_ERR_EV_out_ev

/-- A changed bit leaves (R217 to R221): that of an injection of mode 2 or 3 whose block has been sent, or of the pending one, which the
next block then takes, never in electrical idle; a random position is a free one inside the block. -/
def Dev.errApply (d : Dev) (n : Nat) (ts : Stamp) : Dev :=
  let p := txPage n
  if (d.tx n).due ≠ 0 then (d.setTx n { d.tx n with due := (d.tx n).due - 1 }).errRecord n ts
  else
    match (d.tx n).shot with
    | none => d
    | some s =>
      let block := d.txBlockBits n
      if !d.txDriving n || !(d.tx n).next.isEmpty || !posFits block s.typ s.off s.len s.rand then d
      else
        let (w, d) := if s.rand && s.typ != 2 then (let (w, d) := d.fresh; (w.toNat % block, d)) else (s.off, d)
        let d := d.setTx n { d.tx n with shot := none, next := flips s.typ w s.len s.mask (d.txPam n) }
        let d := d.errRecord n ts
        if s.mode = 1 then d.stat p 18 else d

/-- What an accepted write of a TX lane page does besides storing its fields. -/
def Dev.txEffect (d : Dev) (n : Nat) (w : Wr) : Dev :=
  let p := txPage n
  let d := if !d.expert p && decide (w.off < 0x100) && decide (0x040 ≤ w.off) then d.txDerive n else d
  match w.off with
  | 0x040 | 0x100 | 0x104 => d.txHome n
  | 0x05C | 0x120 => d.showRlm n
  | 0x404 => d.txClamp n
  | 0x420 =>
    let d := if w.reach F.TXL_ERR_CTRL_mode then d.setTx n { d.tx n with blocks := 0 } else d
    if w.cmd F.TXL_ERR_CTRL_go = 1 ∧ w.val F.TXL_ERR_CTRL_mode = 1 then d.errTrigger n else d
  | _ => d

/-! ## Receive lane pages (R225, R236, R243, R250) -/

/-- An ADMITTED or RUNNING act forwards a lane. -/
def Dev.fwdLive (d : Dev) (n : Nat) : Bool := d.liveSlots.any fun s => (d.fwdSources s).contains n

def Dev.rxStateBad (d : Dev) (n : Nat) (w : Wr) : Bool :=
  match w.off with
  | 0x040 | 0x044 | 0x100 | 0x104 | 0x108 | 0x400 | 0x404 | 0x408 | 0x40C => d.rxLive n
  | 0x440 | 0x444 | 0x448 | 0x44C | 0x450 => d.fwdLive n
  | _ => false

/-- The ranges of RXL_XDFEk and the combinations of RXL_FRAME (R226, R236). RXL_FWD.drain_ppm and target have their own. -/
def rxRangeBad (w : Wr) : Bool :=
  if w.off = 0x404 then
    match w.val F.RXL_FRAME_scr, w.val F.RXL_FRAME_framing with
    | 0, _ => false
    | 1, f => f != 2
    | 2, f => f != 3
    | _, _ => true
  else if 0x120 ≤ w.off ∧ w.off < 0x140 then
    decide ((if w.off = 0x120 then 205 else 77) < (signed 10 (w.new.toNat % 1024)).natAbs)
  else false

/-- The page's rates or formats have been written (R230): a lane that is OFF has them at once; on one that receives, a change of
the profile in effect is latched or due, in place of a request that is latched already. -/
def Dev.rxRetime (d : Dev) (n : Nat) (rate : Nat) (pam : Bool) : Dev :=
  if d.rxState n = 0 then d.rxFollow n
  else if d.rxPageRate n (d.rxProf n) != rate || d.rxPageFmt n (d.rxProf n) != pam then
    d.setRx n { d.rx n with latched := true, toggle := false }
  else d

/-- A new framing (R235): the aligner hunts; a RAW lane in TRACK or HOLD is ALIGNED at once. -/
def Dev.rxFrame (d old : Dev) (n : Nat) : Dev :=
  let was := d.aligned n
  let d := d.hunt n
  let d := if was then d.raiseIf (rxPage n) F.RXL_EV_lost_en F.RXL_EV_lost_ev else d
  let d := if d.rd (rxPage n) F.RXL_FRAME_framing = 0 && (d.rxState n == 4 || d.rxState n == 5) then d.align n else d
  d.errRecheck old (fwdTx n)

/-- A request of a profile switch (R232), applied under R230. -/
def Dev.rxSwitch (d : Dev) (n : Nat) : Dev := d.setRx n { d.rx n with latched := true, toggle := true }

def Dev.rxEffect (d : Dev) (old : Dev) (n : Nat) (w : Wr) : Dev :=
  let p := rxPage n
  let d := if !d.expert p && decide (w.off < 0x100) && decide (0x040 ≤ w.off) then d.rxDerive n else d
  match w.off with
  | 0x040 | 0x044 | 0x100 | 0x104 | 0x108 =>
    (d.rxRetime n (old.rxPageRate n (old.rxProf n)) (old.rxPageFmt n (old.rxProf n))).rxSettle n
  | 0x404 => if w.alters F.RXL_FRAME_framing then d.rxFrame old n else d
  | 0x410 => if w.cmd F.RXL_ADAPT_restart = 1 ∧ 3 ≤ d.rxState n ∧ d.rxState n ≤ 5 then d.rxAcquire n else d
  | 0x418 => if w.cmd F.RXL_SWITCH_go = 1 then d.rxSwitch n else d
  | 0x110 | 0x114 => d.rxEqWrite n
  | o => if 0x120 ≤ o ∧ o < 0x140 then d.rxEqWrite n else d

end Sys2Proof.Machine
end

