-- ==== Sys2Proof/Machine/Scratch.lean ====
section
/-! DEFINITION. Scratchpad banks (spec/11_scratchpad_and_queues.md R306 to R322) and the queue operations of R329 and R330. -/
namespace Sys2Proof.Machine

def bankPage (b : Nat) : Nat := 0x70 + b / 8

/-- A field of bank `b`'s block. -/
def bf (b : Nat) (f : Field) : Field := f.at (b % 8)

/-- SPB_OWN.owner: 0x00 FREE, 0x01 to 0x14 SQ0 to SQ19, 0x20 to 0x23 Q0 to Q3, 0x3F FAILED (Table 11.6). -/
def Dev.owner (d : Dev) (b : Nat) : Nat := d.rd (bankPage b) (bf b F.SPB_OWN_owner)

def ownerSq (o : Nat) : Option Nat := if 1 ≤ o ∧ o ≤ 20 then some (o - 1) else none
def ownerQueue (o : Nat) : Option Nat := if 0x20 ≤ o ∧ o ≤ 0x23 then some (o - 0x20) else none

/-- A zero fill of the bank runs. -/
def Dev.filling (d : Dev) (b : Nat) : Bool := d.on (bankPage b) (bf b F.SPB_OWN_busy)

/-- The engine of a capture queue belongs to an ADMITTED or RUNNING act. -/
def Dev.ceLive (d : Dev) (c : Nat) : Bool := d.live F.ACT_ENG_ce c

/-! ## Handover (R309, R310) -/

/-- An owner may not give or take a bank now (R309). -/
def Dev.ownerPinned (d : Dev) (o : Nat) : Bool :=
  match ownerSq o, ownerQueue o with
  | some n, _ => d.sqState n == 1 || d.sqLive n
  | _, some q => !d.queueEmpty q || (if q < 2 then d.ceLive q else d.dmaBusy)
  | _, _ => false

/-- A handover of a bank is refused because of state (R309). -/
def Dev.handoverBad (d : Dev) (b new : Nat) : Bool :=
  d.ownerPinned (d.owner b) || d.ownerPinned new || d.owner b == 0x3F || d.filling b

/-- A new owner is outside Table 11.6, or the queue has 8 banks already (R309). -/
def Dev.ownerRangeBad (d : Dev) (new : Nat) : Bool :=
  if new = 0 || (ownerSq new).isSome then false
  else
    match ownerQueue new with
    | some q => decide (8 ≤ (d.queueBanks q).length)
    | none => true

/-- A sequencer or queue loses or gains a bank (R310 steps 2 and 3). -/
def Dev.ownerInvolved (d : Dev) (o : Nat) : Dev :=
  match ownerSq o, ownerQueue o with
  | some n, _ => if d.sqState n = 2 then d.sqRelease n else d
  | _, some q => d.qReset q
  | _, _ => d

/-- A zero fill begins. -/
def Dev.startFill (d : Dev) (b : Nat) (handover : Bool) : Dev :=
  ((d.wr (bankPage b) (bf b F.SPB_OWN_busy) 1).setBankState b 0).setBank b
    { d.bank b with handover := handover, words := [], placed := false }

/-- An accepted handover from `old` (R310); SPB_OWN holds the new owner already. Assumption 70, DEDUCED. -/
def Dev.handover (d : Dev) (b old : Nat) : Dev :=
  ((d.ownerInvolved old).ownerInvolved (d.owner b)).startFill b true

/-- A zero fill ends (R310, R312): every word reads zero but those that the new owner has written meanwhile, which land behind the
fill. -/
def fillDone (d : Dev) (m : Mem) (b : Nat) : Dev × Mem :=
  if d.filling b then
    let ho := (d.bank b).handover
    let d := d.wr (bankPage b) (bf b F.SPB_OWN_busy) 0
    let d := d.setBank b { d.bank b with handover := false }
    (if ho then d.stat (bankPage b) 20 else d,
      { m with pad := bytesClear m.pad (1048576 * b) (1048576 * (b + 1)) })
  else (d, m)

/-! ## Power states (R311 to R313) -/

/-- A write of SPB_PWR.mode takes effect (R312). -/
def Dev.powerMode (d : Dev) (b mode : Nat) : Dev :=
  if mode = 2 then d.setBankState b 2
  else if d.bankState b = 2 then d.startFill b false
  else if mode = 1 ∧ d.bankState b = 1 then d.setBankState b 0
  else d

/-- R313 keeps the bank ON. -/
def Dev.keptOn (d : Dev) (b : Nat) : Bool :=
  match ownerSq (d.owner b), ownerQueue (d.owner b) with
  | some n, _ => d.sqLive n
  | _, some q => !d.queueEmpty q || (if q < 2 then d.ceLive q || (d.cap q).held else d.dmaBusy)
  | _, _ => false

/-- A bank enters RET after its idle time (R312). -/
def Dev.retain (d : Dev) (b : Nat) : Dev :=
  if d.rd (bankPage b) (bf b F.SPB_PWR_mode) = 0 ∧ d.bankState b = 0 ∧ !d.filling b ∧ !d.keptOn b ∧ d.owner b ≠ 0x3F then
    d.setBankState b 1
  else d

/-- The banks that R313 keeps ON wake (R313, R320). -/
def Dev.wakeKept (d : Dev) : Dev :=
  (List.range 64).foldl
    (fun d b => if d.keptOn b then d.bankWake b else d) d

/-! ## Accesses (R306, R314 to R318) -/

/-- The masters that a port serves for an owner (Table 11.1). The queue logic of Q0 and Q1 goes under CDMA's number, that of Q2
and Q3 under XDMA's. -/
def portServes (o port : Nat) (m : Master) (write : Bool) : Bool :=
  let watcher := m == .host || m == .mc || m == .se || m == .dbg
  if o = 0 then (if port = 0 then m == .mc || m == .se || m == .dbg else m == .host || m == .xdma)
  else if (ownerSq o).isSome then
    (if port = 0 then m == .pdma && !write else if write then m == .pdma else watcher)
  else
    match ownerQueue o with
    | some q =>
      let logic := m == (if q < 2 then .cdma else .xdma)
      if port = 0 then logic && write else !write && (logic || watcher)
    | none => false

/-- An access is performed: its port serves the master and the bank is not OFF (R306, R312). -/
def Dev.spServed (d : Dev) (b : Nat) (a : SpAccess) : Bool :=
  portServes (d.owner b) a.port.val a.m a.write && d.bankState b != 2 && decide (a.word < 16384)

/-- `n` bytes that the spec leaves open. -/
def Dev.freshBytes (d : Dev) : Nat → Bytes × Dev
  | 0 => ([], d)
  | n + 1 =>
    let (w, d) := d.fresh
    let (r, d) := d.freshBytes n
    (wordBytes w ++ r, d)

/-- The byte address of a bank's word in BAR2. -/
def padAddr (b word : Nat) : Nat := 1048576 * b + 64 * word

/-- What a read of a word returns. Where in a sequencer's banks PDMA has put its tiles the spec does not say (R307). -/
def spRead (d : Dev) (m : Mem) (b word : Nat) : Bytes × Dev :=
  match ownerSq (d.owner b), ownerQueue (d.owner b) with
  | some _, _ => if (d.bank b).placed then d.freshBytes 16 else (bytesGet 0 m.pad (padAddr b word) 64, d)
  | _, some _ => (natBytes 64 (tabGet (fun _ => (0 : BitVec 512)) (d.bank b).words word).toNat, d)
  | _, _ => (bytesGet 0 m.pad (padAddr b word) 64, d)

/-- A write of a word under byte enables. -/
def spWrite (d : Dev) (m : Mem) (b word : Nat) (data : List (Option Byte)) : Dev × Mem :=
  match ownerQueue (d.owner b) with
  | some _ =>
    let old := natBytes 64 (tabGet (fun _ => (0 : BitVec 512)) (d.bank b).words word).toNat
    let new := (List.range 64).map fun i => ((data.getD i none).getD (old.getD i 0))
    (d.setBank b { d.bank b with
      words := tabSet (fun _ => 0) (d.bank b).words word (BitVec.ofNat 512 (bytesNat new)) }, m)
  | none => (d, { m with pad := bytesSetEn 0 m.pad (padAddr b word) (data.take 64) })

/-- A conflict is counted against a master (R316, R317). -/
def Dev.conflict (d : Dev) (b : Nat) (a : SpAccess) (kind : Nat) : Dev :=
  let p := bankPage b
  let k := a.m.id
  let d := (d.bump p (F.SPC_CONF_count.at k)).wr p (F.SPC_CONF_bank.at k) b
  (d.wr p (F.SPC_CONF_port.at k) a.port.val).wr p (F.SPC_CONF_kind.at k) kind

/-- A retry has met BUSY again (R316): the conflict is counted and PAGE_STAT.conflict becomes 1. -/
def Dev.busyTwice (d : Dev) (b : Nat) (a : SpAccess) (kind : Nat) : Dev := (d.conflict b a kind).stat (bankPage b) 16

/-- BUSY signals are counted (R317). -/
def Dev.busySignals (d : Dev) (b n : Nat) : Dev := d.bump (bankPage b) F.SPC_BUSY n

/-- An uncorrectable word of a sequencer's bank (R318): the tile that holds it fails from that word on, a hot copy as a whole
(R149); TILEBAD rises and is logged (R157). Where the spec puts no tile of the sequencer (R307) which held tile it is, if any, and
which of its words, are open. A play that reaches the word meets R154 or R155 there. -/
def Dev.sramTile (d : Dev) (n : Nat) : Dev :=
  let s := d.sq n
  let (w, d) := d.fresh
  let (x, d) := d.fresh
  let i := w.toNat % (s.hot.length + s.stream.length + 1)
  match (s.hot ++ s.stream)[i]? with
  | none => d
  | some h =>
    let fails := fun (good : Nat) (h : HeldTile) => { h with good := min h.good good }
    let hot := s.hot.modify i (fails 0)
    let stream := if i < s.hot.length then s.stream else s.stream.modify (i - s.hot.length) (fails (64 * (x.toNat % 64)))
    let d := d.setSq n { s with hot := hot, stream := stream }
    let d := if i < s.hot.length then d.wr (sqPage n) F.SQ_HOT_tiles (hot.filter (·.good == 4096)).length else d
    (d.raiseSys 245).tlogAdd h.tile 1 4 (some n)

/-- The bytes of a packet's entries. -/
def packetBytes (es : List QEntry) : Bytes := es.flatMap fun e => natBytes 64 e.data.toNat

/-- The packets of a queue, in order. -/
def packets (es : List QEntry) : Nat → List (List QEntry)
  | 0 => []
  | n + 1 => if es.isEmpty then [] else es.take (headLen es) :: packets (dropPacket es) n

/-- The record of a capture queue that holds entry `j` leaves the queue and is lost (R318). -/
def Dev.loseEntry (d : Dev) (c j : Nat) : Dev :=
  let s := d.queue c
  let ps := packets s.ready s.ready.length
  let (_, kept, lost) := ps.foldl
    (fun (x : Nat × List QEntry × List QEntry) p =>
      if x.1 ≤ j ∧ j < x.1 + p.length then (x.1 + p.length, x.2.1, p) else (x.1 + p.length, x.2.1 ++ p, x.2.2)) (0, [], [])
  if lost.isEmpty then d
  else ((d.setQueue c { s with ready := kept }).bump (queuePage c) (qf c F.Q_CNT_drop)).loseRecord c (packetBytes lost)

/-- What the owner does with an uncorrectable word (R318). -/
def Dev.sramUncorr (d : Dev) (b word : Nat) : Dev :=
  let p := bankPage b
  let d := (d.bump p (bf b F.SPB_ECC_uncorr)).stat p 19
  let d := (d.wr p (bf b F.SPB_LASTERR_word) word).wr p (bf b F.SPB_LASTERR_cause) 1
  match ownerSq (d.owner b), ownerQueue (d.owner b) with
  | some n, _ => d.sramTile n
  | _, some q =>
    if q < 2 then
      let bs := d.queueBanks q
      let i := word * bs.length + bs.findIdx (· == b)
      let s := d.queue q
      let j := (i + d.queueCap q - s.rd) % d.queueCap q
      if j < s.ready.length then d.loseEntry q j else d
    else d.dmaFail (q == 2) 5
  | _, _ => d

/-- A read that is performed and not disturbed (R318). -/
def spReadEcc (d : Dev) (m : Mem) (b word : Nat) (ecc : EccResult) : Bytes × Dev :=
  match ecc with
  | .clean => spRead d m b word
  | .corrected => spRead (d.bump (bankPage b) (bf b F.SPB_ECC_corr)) m b word
  | .uncorrectable =>
    let free := d.owner b == 0
    let d := d.sramUncorr b word
    if free then spRead d m b word else d.freshBytes 16

/-- One access alone. Assumption 71, DESIGN CHOICE. -/
def spOne (d : Dev) (m : Mem) (b : Nat) (a : SpAccess) (ecc : EccResult) : Dev × Mem :=
  if d.spServed b a then
    let d := d.bankTouch b
    if a.write then spWrite d m b a.word a.data
    else
      let (bs, d) := spReadEcc d m b a.word ecc
      ({ d with rbytes := bs }, m)
  else
    ({ (d.stateReject (bankPage b)) with rbytes := if a.write then d.rbytes else List.replicate 64 0 }, m)

/-- A read that returns undefined data (R315). -/
def spUndefined (d : Dev) : Dev :=
  let (bs, d) := d.freshBytes 16
  { d with rbytes := bs }

/-- Two accesses that meet at one word (R314 to R317, Table 11.2). `p0` and `p1` are the accesses of ports 0 and 1. -/
def spMeet (d : Dev) (m : Mem) (b : Nat) (p0 p1 : SpAccess) (same again : Bool) (ecc : EccResult) (firstIs0 : Bool) :
    Dev × Mem :=
  if same then
    if p0.write && p1.write then
      let (d, m) := spOne d m b p0 ecc
      let d := d.busySignals b (if again then 2 else 1)
      if again then (d.busyTwice b p1 0, m) else spOne d m b p1 ecc
    else if p0.write then
      -- port 1 reads and receives BUSY
      let (d, m) := spOne d m b p0 ecc
      let d := d.busySignals b (if again then 2 else 1)
      if again then ((spUndefined d).busyTwice b p1 1, m) else spOne d m b p1 ecc
    else
      -- port 1 writes and receives BUSY; the write is stored and the read completes without a warning
      let (d, m) := spOne d m b p1 ecc
      (((spUndefined d).busySignals b 1).conflict b p0 1, m)
  else
    -- the read came first, the write lands in the cycle after
    let rd := if firstIs0 then p0 else p1
    let wr := if firstIs0 then p1 else p0
    let (d, m) := spOne d m b wr ecc
    (((spUndefined d).busySignals b 1).conflict b rd 1, m)

/-- Two accesses meet: on different ports, at one word, both served, with a write among them that lands in the other's reach. -/
def meets (d : Dev) (b : Nat) (a o : SpAccess) (meet : SpMeet) : Bool :=
  a.port != o.port && a.word == o.word && d.spServed b a && d.spServed b o &&
    (match meet with
      | .sameCycle => a.write || o.write
      | .secondLater => !a.write && o.write)

/-- An access of a bank, alone or with a second one on the other port. An access to a bank whose fill runs waits for its end. -/
def spAccess (d : Dev) (m : Mem) (b : Nat) (a : SpAccess) (hit : Option SpCollision) (ecc : EccResult) : Dev × Mem :=
  let (d, m) := fillDone d m b
  match hit with
  | none => spOne d m b a ecc
  | some ⟨o, meet, again⟩ =>
    if meets d b a o meet then
      spMeet d m b (if a.port = 0 then a else o) (if a.port = 0 then o else a) (meet == .sameCycle) again ecc (a.port == 0)
    else
      let (d, m) := spOne d m b a ecc
      spOne d m b o .clean

/-! ## Background test (R319 to R322) -/

/-- The bank may be tested (R319). -/
def Dev.testable (d : Dev) (b : Nat) : Bool :=
  d.bankState b != 2 && !d.filling b && d.owner b != 0x3F &&
    (match ownerSq (d.owner b), ownerQueue (d.owner b) with
      | some n, _ => !d.sqLive n
      | _, some q => d.queueEmpty q && (decide (2 ≤ q) || !d.ceLive q)
      | _, _ => true)

/-- A bank fails for life (R321). -/
def bankFailed (d : Dev) (m : Mem) (b : Nat) : Dev × Mem :=
  let p := bankPage b
  let o := d.owner b
  let d := (d.wr p (bf b F.SPB_OWN_owner) 0x3F).setBank b Bank.init
  let d := match ownerSq o, ownerQueue o with
    | some n, _ => (d.sqRelease n).setSqState n 0
    | _, some q => d.qReset q
    | _, _ => d
  (((d.setBankState b 0).stat p 18).raiseSys 252,
    { m with pad := bytesClear m.pad (1048576 * b) (1048576 * (b + 1)) })

/-- The rows that the bank's present test has done after a row (R319): a test begins where none runs. -/
def Dev.testedRows (d : Dev) (b row : Nat) : BitVec 256 :=
  (if d.bankState b = 3 then (d.bank b).rows else 0) ||| BitVec.twoPow 256 row

/-- One row is saved, tested and restored (R319, R321, R322). Assumption 72, DEDUCED. -/
def testRow (d : Dev) (m : Mem) (b row : Nat) (pass : Bool) : Dev × Mem :=
  if d.testable b then
    let p := bankPage b
    let d := d.wr p (bf b F.SPB_STAT_row) row
    let used := d.rd p (bf b F.SPB_REP_factory) + d.rd p (bf b F.SPB_REP_runtime)
    let d := if pass then d else
      (d.wr p (bf b F.SPB_LASTERR_word) (64 * row)).wr p (bf b F.SPB_LASTERR_cause) 2
    if !pass ∧ 16 ≤ used then bankFailed d m b
    else
      let d := if pass then d else (d.bump p (bf b F.SPB_REP_runtime)).stat p 17
      let r := tabGet (fun _ => (0 : BitVec 6)) (d.bank b).rot row
      let d := if d.on p F.SPC_CFG_rot_en then
        d.setBank b { d.bank b with rot := tabSet (fun _ => (0 : BitVec 6)) (d.bank b).rot row (r + 1) } else d
      let rows := d.testedRows b row
      let d := d.setBank b { d.bank b with rows := rows }
      if rows = BitVec.allOnes 256 then ((d.wr p (bf b F.SPB_STAT_tested_s) 0).setBankState b 0, m)
      else (d.setBankState b 3, m)
  else (d, m)

/-! ## Queues (R326 to R330) -/

/-- A read of Q_RD_TAG on Q5 to Q7 pops (R326); the registers show the entry. -/
def Dev.qReadTag (d : Dev) (q : Nat) : Word × Dev :=
  let p := queuePage q
  let (e, d) := d.qPop q
  match e with
  | some e =>
    (BitVec.ofNat 32 (e.sop.toNat + 2 * e.eop.toNat + 2 ^ 31),
      (d.wr p (qf q F.Q_RD_LO) (e.data.toNat % 2 ^ 32)).wr p (qf q F.Q_RD_HI) (e.data.toNat / 2 ^ 32 % 2 ^ 32))
  | none => (0, (d.wr p (qf q F.Q_RD_LO) 0).wr p (qf q F.Q_RD_HI) 0)

/-- A write of Q_WR_HI pushes an entry of Q4 (R326). -/
def Dev.q4Push (d : Dev) (hi : Nat) : Dev :=
  match d.qPush 4 [BitVec.ofNat 512 (2 ^ 32 * hi + d.rd 0x7A F.Q_WR_LO)] with
  | some d => d
  | none => (((d.stateReject 0x7A).bump 0x7A F.Q_EVT_overflow).stat 0x7A 19)


/-- A flush is refused because of state (R330). -/
def Dev.flushBad (d : Dev) (classes : Nat) : Bool :=
  (classes.testBit 0 && (d.ceLive 0 || d.ceLive 1)) || (classes.testBit 1 && d.dmaBusy)

/-- The queues of the classes are flushed (R330). -/
def Dev.qFlush (d : Dev) (classes : Nat) : Dev :=
  (List.range 8).foldl
    (fun d q =>
      if classes.testBit (queueClass q) then
        ((d.qAdvance q (d.queue q).ready.length).bump (queuePage q) (qf q F.Q_EVT_flush)).stat (queuePage q) 17
      else d) d

/-- A pointer mismatch resets a queue (R329). -/
def Dev.qMismatch (d : Dev) (q : Nat) : Dev :=
  let p := queuePage q
  let lost := (packets (d.queue q).ready (d.queue q).ready.length).map packetBytes
  let d := ((d.qReset q).bump p (qf q F.Q_EVT_mismatch)).stat p 16
  let d :=
    if q < 2 then lost.foldl (fun d bs => d.loseRecord q bs) d
    else if q < 4 then d.dmaFail (q == 2) 6
    else d
  d.raiseSys 253

end Sys2Proof.Machine
end

