-- ==== Sys2Proof/Machine/Analog.lean ====
section
/-! DEFINITION. Sideband DACs, the monitor ADC and the writes of the analog pages (spec/13_analog_outputs.md), and the writes of
Midway's pages (spec/12_midway_event_fabric.md). -/
namespace Sys2Proof.Machine

/-! ## Sideband DACs (R362 to R370) -/

def Dev.sdClamp (d : Dev) (k : Nat) : Bool := d.on 0x8C (F.SD_STAT_clamp.at k)
/-- A channel's output changes (R374). -/
def Dev.sdChanged (d : Dev) (k : Nat) : Dev :=
  { d with an := { d.an with changed := tabSet (fun _ => none) d.an.changed k (some d.count) } }

/-- A channel's pin takes a code. -/
def Dev.sdOut (d : Dev) (k v : Nat) : Dev :=
  let e := d.wr 0x8C (F.SD_STAT_out.at k) v
  if e.rd 0x8C (F.SD_STAT_out.at k) = d.rd 0x8C (F.SD_STAT_out.at k) then e else e.sdChanged k

def Dev.sdFaulted (d : Dev) (k : Nat) : Bool := d.on 0x8C (F.SD_STAT_fault.at k)

/-- The channels that take their codes from Q4 in a RUNNING act. -/
def Dev.sdQueued (d : Dev) : List Nat :=
  (List.range 8).filter fun k => d.running F.ACT_AUX_sd k && d.on 0x8C (F.SD_CTRL_src.at k)

/-- The number of entries of the complete group at the head of Q4, up to its end entry or 16 (R367). -/
def groupLen (es : List QEntry) : Option Nat :=
  let i := (es.take 16).findIdx fun e => e.data.getLsbD 20
  if i < (es.take 16).length then some (i + 1) else if 16 ≤ es.length then some 16 else none

/-- One entry of a group (Table 13.4). -/
def Dev.sdEntry (d : Dev) (e : QEntry) : Dev :=
  let v := e.data.toNat
  let k := v / 2 ^ 16 % 8
  if d.on 0x8C (F.SD_CTRL_src.at k) && !d.sdFaulted k then
    { d with an := { d.an with applied := tabSet (fun _ => 0) d.an.applied k (v % 2 ^ 16) } }
  else d

/-- A group is due (R367, R368). Assumption 76, DEDUCED. -/
def Dev.sdDue (d : Dev) : Dev :=
  let es := (d.queue 4).ready
  match groupLen es with
  | some n =>
    let g := es.take n
    let last := (g.getLastD ⟨false, false, 0⟩).data
    let ended := last.getLsbD 20
    let d := if ended then d else d.stat 0x8C 19
    let d := (g.foldl Dev.sdEntry d).qAdvance 4 n
    let hold := if ended then max 1 (last.toNat / 2 ^ 32 % 2 ^ 16) else 1
    { d with an := { d.an with hold := hold, last := ended && last.getLsbD 21, spell := false } }
  | none =>
    if d.an.last || d.an.spell then { d with an := { d.an with hold := 0, last := false, spell := true } }
    else
      let d := (d.bump 0x7A F.Q_CNT_under).stat 0x8C 18
      { d with an := { d.an with hold := 0, spell := true } }

/-- Every channel of a RUNNING act that is neither faulted nor clamped takes its code (R363, R366, R370). -/
def Dev.sdFollow (d : Dev) (k : Nat) : Dev :=
  if d.running F.ACT_AUX_sd k && !d.sdFaulted k && !d.sdClamp k && d.on 0x8C F.SD_GSTAT_hv_ok &&
      d.on 0x8C F.PAGE_CTRL_enable then
    d.sdOut k (if d.on 0x8C (F.SD_CTRL_src.at k) then tabGet (fun _ => 0) d.an.applied k else d.rd 0x8C (F.SD_CODE_code.at k))
  else d.sdOut k 0

/-- An update tick (R364 to R368). -/
def Dev.sdTick (d : Dev) : Dev :=
  let d :=
    if d.sdQueued.isEmpty then d
    else if d.an.hold ≤ 1 then d.sdDue
    else { d with an := { d.an with hold := d.an.hold - 1 } }
  (List.range 8).foldl Dev.sdFollow d

/-- An act that names sideband channels starts (R363, R367). -/
def Dev.sdStart (d : Dev) (ks : List Nat) : Dev :=
  if ks.isEmpty then d
  else
    let ap := ks.foldl (fun t k => tabSet (fun _ => 0) t k 0) d.an.applied
    { d with an := { d.an with applied := ap, hold := 0, last := false, spell := false } }

/-- The act ends: its channels return to mid-scale (R363). -/
def Dev.sdEnd (d : Dev) (ks : List Nat) : Dev := ks.foldl (fun d k => d.sdOut k 0) d

/-- A channel faults (R369). No fault is detected while the range-change clamp holds (R365). -/
def Dev.sdFault (d : Dev) (k cause : Nat) : Dev :=
  if d.sdClamp k || d.sdFaulted k then d
  else
    let d := (d.sdOut k 0).wr 0x8C (F.SD_STAT_fault.at k) cause
    let d := { d with an := { d.an with failures := tabSet (fun _ => 0) d.an.failures k 0 } }
    (d.stat 0x8C 17).raiseIf 0x8C F.SD_EV_fault_en F.SD_EV_fault_ev

/-- The condition of Table 13.5 for a cause: what the spec lets the state decide of it. -/
def Dev.sdMeets (d : Dev) (k : Nat) (cause : SdCause) : Bool :=
  match cause with
  | .overcurrent => decide (d.rd 0x8C (F.SD_CTRL_range.at k) < 3)
  | .compliance => decide (3 ≤ d.rd 0x8C (F.SD_CTRL_range.at k))
  | .readback => decide (d.rd 0x8D F.MON_RB_count ≤ tabGet (fun _ => 0) d.an.failures k)
  | .thermal => true
  | .supply => !d.on 0x8C F.SD_GSTAT_hv_ok

/-- The range-change clamp releases (R365). -/
def Dev.sdRelease (d : Dev) (k : Nat) : Dev :=
  if d.sdClamp k then (d.wr 0x8C (F.SD_STAT_clamp.at k) 0).stat 0x8C 20 else d

/-! ## Monitor ADC (R371 to R374) -/

/-- The power states in which the monitor converts (R371). -/
def Dev.monRuns (d : Dev) : Bool :=
  d.on 0x8D F.PAGE_CTRL_enable && d.on 0x8D F.MON_CTRL_en && d.ready && decide (2 ≤ d.power)

/-- The read-back code that a channel's present output gives (R362, R374, Tables 13.2 and 13.6), halves away from zero. -/
def Dev.readback (d : Dev) (k : Nat) : Int :=
  let c := d.rdS 0x8C (F.SD_STAT_out.at k)
  -- x / FS * 2048 with x = c / 32768 * range end
  let (num, den) : Int × Nat := match d.rd 0x8C (F.SD_CTRL_range.at k) with
    | 0 => (c * 5, 384)
    | 1 => (c * 5, 192)
    | 2 => (c * 10, 192)
    | 3 => (c * 2, 480)
    | _ => (c * 24, 480)
  let v := 2048 + roundAway num den
  if v < 0 then 0 else if 4095 < v then 4095 else v

/-- The sideband channel that a conversion of an input supervises (R374). -/
def Dev.supervised (d : Dev) (input : Nat) : Option Nat :=
  let k := input % 8
  if input < 16 ∧ d.bit 0x8D 0x044 input ∧ d.on 0x8C (F.SD_CTRL_rb_en.at k) ∧ (decide (d.rd 0x8C (F.SD_CTRL_range.at k) < 3) = decide (input < 8)) then
    some k
  else none

/-- The input that the converter visits next, and the inputs being sequenced: the next one above the latest, or, at the wrap, the
lowest of MON_SEQ as it then stands (R371). -/
def Dev.monNext (d : Dev) : Option (Nat × Word) :=
  match (List.range 32).find? fun i => decide (d.an.input < i) && d.an.seq.getLsbD i with
  | some i => some (i, d.an.seq)
  | none =>
    let seq := d.reg (addrOf 0x8D 0x044)
    ((List.range 32).find? fun i => seq.getLsbD i).map fun i => (i, seq)

/-- A conversion that started at a count starts at least MON_RB.settle_us after the channel's last change of output (R374); the step
of an output starts up to 10 ns before or after its time (R364), `skew` - 10 ns after it. -/
def Dev.monSettled (d : Dev) (k : Nat) (skew : Nat) (start : BitVec 40) : Bool :=
  match tabGet (fun _ => none) d.an.changed k with
  | none => true
  | some t =>
    let since : Int := ((d.count - t).toNat : Int) + 10 - skew
    decide (1000 * (d.rd 0x8D F.MON_RB_settle_us : Int) ≤ since - (d.count.setWidth 40 - start).toNat)

/-- A conversion of the input that is next completes. Assumption 77, DEDUCED. -/
def Dev.monConvert (d : Dev) (input code skew : Nat) (start : BitVec 40) : Dev :=
  let seq := (d.monNext.map Prod.snd).getD 0
  if !d.monRuns || d.monNext.map Prod.fst != some input then d
  else
    let d := { d with an := { d.an with seq := seq, input := input } }
    let p := 0x8D
    let d := (d.wr p (F.MON_LAST_code.at input) code).wr p (F.MON_LAST_valid.at input) 1
    let win := d.on p (F.MON_WIN_en.at input)
    let low := win && decide (code < d.rd p (F.MON_WIN_lo.at input))
    let high := win && decide (d.rd p (F.MON_WIN_hi.at input) < code)
    let out := low || high
    let was := d.an.outside.getLsbD input
    let d := { d with an := { d.an with
      outside := if out || !win && was then d.an.outside ||| BitVec.twoPow 32 input
        else d.an.outside &&& ~~~(BitVec.twoPow 32 input) } }
    let d := if out then (d.setBit p 0x054 input true).stat p 17 else d
    let d := if out && !was then d.raiseIf p F.MON_EV_win_en F.MON_EV_win_ev else d
    let ch := d.supervised input
    let settled := match ch with | some k => d.monSettled k skew start | none => false
    let bad := match ch with
      | some k =>
        settled && !d.sdClamp k && !d.sdFaulted k && decide (d.rd p F.MON_RB_tol < ((code : Int) - d.readback k).natAbs)
      | none => false
    let entry := code + 2 ^ 12 * low.toNat + 2 ^ 13 * high.toNat + 2 ^ 14 * bad.toNat + 2 ^ 16 * input + 2 ^ 24 * start.toNat
    let d :=
      if d.bit p 0x048 input then
        match d.qPush 5 [BitVec.ofNat 512 entry] with
        | some d => d
        | none => d.bump (queuePage 5) (qf 5 F.Q_EVT_overflow)
      else d
    match ch with
    | some k =>
      if settled && !d.sdClamp k && !d.sdFaulted k then
        let n := if bad then tabGet (fun _ => 0) d.an.failures k + 1 else 0
        let d := { d with an := { d.an with failures := tabSet (fun _ => 0) d.an.failures k n } }
        if d.rd p F.MON_RB_count ≤ n then d.sdFault k 3 else d
      else d
    | none => d

/-! ## AWG clock (R355) -/

/-- WS0 leaves lock while a RUNNING act names a channel: every output clamps until the act ends. -/
def Dev.awgClockFault (d : Dev) : Dev :=
  if (List.range 4).any fun k => d.running F.ACT_ENG_aw k then
    ((List.range 4).foldl (fun d k => (d.wr (0x88 + k) F.AWG_STAT_clk_fault 1).stat (0x88 + k) 18) d |>.stat 0x1A 18).openInjection
  else d

/-! ## Writes -/

/-- Writes of the AWG pages that block state refuses (R352, R358). -/
def Dev.awgStateBad (d : Dev) (w : Wr) : Bool :=
  let k := w.p - 0x88
  (decide (w.off = 0x040 ∨ w.off = 0x04C) && d.live F.ACT_ENG_aw k) ||
    (decide (w.off = 0x040) && w.val F.AWG_CFG_inj == 1 &&
      (List.range 4).any fun j =>
        j != k && d.on (0x88 + j) F.AWG_CFG_inj && d.rd (0x88 + j) F.AWG_CFG_inj_pt == w.val F.AWG_CFG_inj_pt)

/-- The highest tuning word, 6.4 GHz (R359). -/
def ftwMax : Nat := 0x666666666666

/-- A write that puts FTW above the highest tuning word (R360). -/
def Dev.awgRangeBad (d : Dev) (w : Wr) : Bool :=
  w.off == 0x064 && decide (ftwMax < 2 ^ 32 * w.val F.CAL_FTW_HI_ftw + d.rd w.p F.CAL_FTW_LO)

/-- What a stored write of an AWG page does (R356, R360, R361). -/
def Dev.awgEffect (d : Dev) (w : Wr) : Dev :=
  let k := w.p - 0x88
  match w.off with
  | 0x040 => d.openInjection
  | 0x064 => d.setFtw k (BitVec.ofNat 48 (2 ^ 32 * d.rd w.p F.CAL_FTW_HI_ftw + d.rd w.p F.CAL_FTW_LO))
  | 0x06C => if w.cmd F.CAL_SYNC_now = 1 then d.calZero k else d
  | _ => d

/-- Writes of page 0x8C that block state refuses (R364, R365). -/
def Dev.sdStateBad (d : Dev) (w : Wr) : Bool :=
  if w.off = 0x040 then (List.range 8).any fun k => d.live F.ACT_AUX_sd k
  else if 0x100 ≤ w.off ∧ (w.off - 0x100) % 16 = 0 then d.live F.ACT_AUX_sd ((w.off - 0x100) / 16)
  else false

/-- What a stored write of page 0x8C does (R365, R370). -/
def Dev.sdEffect (d : Dev) (w : Wr) : Dev :=
  if w.off = 0x048 then
    (List.range 8).foldl
      (fun d k => if (w.cmd F.SD_CLR_mask).testBit k then d.wr 0x8C (F.SD_STAT_fault.at k) 0 else d) d
  else if 0x100 ≤ w.off ∧ (w.off - 0x100) % 16 = 0 then
    let k := (w.off - 0x100) / 16
    if w.alters (F.SD_CTRL_range.at k) then
      ((d.wr 0x8C (F.SD_STAT_clamp.at k) 1).sdOut k 0).sdChanged k
    else d
  else d

/-! ## Midway's pages (R339, R343) -/

/-- Software fires channels, all in one Midway cycle (R343). -/
def Dev.fire (d : Dev) (chs : List Nat) : Dev := chs.foldl (fun d ch => d.raiseAs .fired ch 0) d

/-- What a stored write of page 0x80 does. -/
def Dev.mwEffect (d : Dev) (w : Wr) : Dev :=
  if w.off = 0x040 then (if w.reach F.MW_FIRE_ch then d.fire [w.cmd F.MW_FIRE_ch] else d)
  else if 0x080 ≤ w.off ∧ w.off < 0x0A0 then
    let k := (w.off - 0x080) / 4
    d.fire ((bitsOf 32 (w.new &&& beMask w.be).toNat).map fun j => 32 * k + j)
  else d

/-- A write of LUT_CFG loads Q, cancels a pending raise and restarts the count (R339). -/
def Dev.lutEffect (d : Dev) (w : Wr) : Dev :=
  if 0x100 ≤ w.off ∧ (w.off - 0x100) % 32 = 8 then
    let j := (w.off - 0x100) / 32
    let k := 16 * (w.p - 0x82) + j
    let d := (d.wr w.p (F.LUT_STAT_q.at j) (d.rd w.p (F.LUT_CFG_init_q.at j))).wr w.p (F.LUT_STAT_pend.at j) 0
    d.setCell k { d.cell k with seen := 0, delayHops := 0 }
  else d

/-- The DELAY raise of a cell is made (R338). -/
def Dev.lutDelay (d : Dev) (k : Nat) : Dev :=
  let p := cellPage k
  if d.on p (F.LUT_STAT_pend.at (k % 16)) then
    let h := (d.cell k).delayHops
    ((d.wr p (F.LUT_STAT_pend.at (k % 16)) 0).setCell k { d.cell k with delayHops := 0 }).cellRaise k h
  else d

/-- An edge passes the filter of TRIG_INn (R340): the new level holds for MW_TRIGn.filt samples, and is not the filtered level
already. -/
def Dev.trigPasses (d : Dev) (n : Nat) (rising : Bool) (held : Nat) : Bool :=
  decide (d.rd 0x80 (F.MW_TRIG_filt.at n) ≤ held) && d.mw.pins.getLsbD n != rising

/-- The time that the Q6 entry of a filtered edge marks (R341): the first sample at which the filtered level reads high, less the
filter's hold time and the input delay. -/
def trigTime (filt : Nat) (sample : Stamp) : Stamp :=
  let first := sample + BitVec.ofNat 64 (512 * filt)
  first - BitVec.ofNat 64 (512 * filt) - BitVec.ofNat 64 (512 * Config.trigDelay)

/-- An edge of TRIG_INn (R340, R341). -/
def Dev.trigIn (d : Dev) (n : Nat) (rising : Bool) (e : TrigEdge) : Dev :=
  if !d.serving || !d.trigPasses n rising e.held then d
  else
    let d := { d with mw := { d.mw with
      pins := if rising then d.mw.pins ||| BitVec.twoPow 4 n else d.mw.pins &&& ~~~(BitVec.twoPow 4 n) } }
    let d :=
      if rising && d.on 0x80 (F.MW_TRIG_log.at n) then
        let ts := trigTime (d.rd 0x80 (F.MW_TRIG_filt.at n)) e.sample
        match d.qPush 6 [BitVec.ofNat 512 (ts.toNat / 512 * 512 % 2 ^ 58 + 2 ^ 58 * n)] with
        | some d => d
        | none => (d.bump 0x80 F.MW_STAT2_trig_lost).stat 0x80 20
      else d
    let e := d.rd 0x80 (F.MW_TRIG_edge.at n)
    if d.on 0x80 (F.MW_TRIG_en.at n) && (e == 2 || (e == 0) == rising) then
      d.raise (sourceOf 0x80 (F.MW_TRIG_ev.at n)) (d.rd 0x80 (F.MW_TRIG_ev.at n))
    else d

end Sys2Proof.Machine
end

