-- ==== Sys2Proof/Machine/Showbill.lean ====
section
/-! DEFINITION. Power-state transitions, acts and emergencies (spec/03_power_states_and_showbill.md R72 to R92, R486). -/
namespace Sys2Proof.Machine

/-! ## Power states (R72, Table 3.5) -/

/-- A transition begins or ends; SB_STATE.changing shows it. -/
def Dev.setTrans (d : Dev) (t : Trans) : Dev :=
  ({ d with bill := { d.bill with trans := t } }).wr 0x02 F.SB_STATE_changing (decide (t ≠ Trans.none)).toNat

def Dev.setPower (d : Dev) (s : Nat) : Dev := d.wr 0x02 F.SB_STATE_cur s

/-- ARMED and SHOW follow the acts (Table 3.5). -/
def Dev.showState (d : Dev) : Dev :=
  if d.power = 3 ∨ d.power = 4 then d.setPower (if d.runSlots.isEmpty then 3 else 4) else d

/-- The lane and AWG synthesizers that SB_ARM_SYNTH sets start; the others stop (R74). -/
def Dev.armAll (d : Dev) : Dev :=
  (List.range 9).foldl (fun d i => if d.bit 0x02 0x048 i then d.synStart (6 + i) else d.synStop (6 + i)) d

/-- ARMED is reached. -/
def Dev.enterArmed (d : Dev) : Dev := (((d.setTrans .none).setPower 3).armAll).rxSettleAll

/-- The synthesizers of SB_ARM_SYNTH and the receivers are off outside ARMED and SHOW (Table 3.3). -/
def Dev.quiesce (d : Dev) : Dev :=
  ((List.range 9).foldl (fun d i => d.synStop (6 + i)) d).rxSettleAll

/-- A band search of a faulted CS loop runs at the next entry into STANDBY (R180). -/
def Dev.csRetry (d : Dev) : Dev :=
  (List.range 2).foldl
    (fun d c => if d.has 0x18 F.CLK_GUARD_cs_fault c then (d.wr 0x18 F.CLK_GUARD_safe 1).synSearch c else d) d

/-- STANDBY is reached; where the device caused it, req becomes 2 (R486). A request for DORMANT goes on to DORMANT. -/
def Dev.enterStandby (d : Dev) (own dormant : Bool) : Dev :=
  let d := (((d.setPower 2).quiesce).csRetry).setTrans (if dormant then .toDormant else .none)
  if own then d.wr 0x02 F.SB_STATE_REQ_req 2 else d

/-- A stored write of SB_STATE_REQ.req starts the transition that it asks for (Table 3.5). Assumption 34, DEDUCED. -/
def Dev.requestState (d : Dev) (req : Nat) : Dev :=
  let armed := d.power == 3 || d.power == 4
  match req with
  | 1 => if armed then d.setTrans (.toStandby false true) else d.setTrans .toDormant
  | 2 => if armed then d.setTrans (.toStandby false false) else d
  | 3 => if armed then d else (d.setTrans .toArmed).armAll
  | _ => d

/-- A receiver has yet to take a posted mailbox message. -/
def Dev.mailPosted (d : Dev) : Bool :=
  (List.range 64).any fun ch => d.rd (0x0C + ch / 16) (F.MB_STAT_state.at (ch % 16)) == 1

/-- A clearing sweep, a pin-rate change or a retirement runs (R294). -/
def Dev.dmHolds (d : Dev) : Bool :=
  d.on 0x60 F.DM_STAT_clearing || d.on 0x60 F.DM_STAT_latched || d.on 0x60 F.DM_STAT_migrating || d.on 0x60 F.DM_STAT_changing

/-- A write of SB_STATE_REQ.req that is refused because of state (R73, R294, R465). -/
def Dev.stateReqBad (d : Dev) (req : Nat) : Bool :=
  d.on 0x02 F.SB_STATE_changing ||
    (match req with
     | 1 => d.anyLive || d.mailPosted || d.dmaBusy || d.dmHolds
     | 2 => d.anyLive
     | 3 => d.bill.supplyOut != 0
     | _ => false)

/-- An ADMITTED act names a lane that R184 would start on a synthesizer now. -/
def Dev.startsOn (d : Dev) (i : Nat) : Bool :=
  (List.range 16).any fun lane => d.live F.ACT_LANES_tx lane && !d.running F.ACT_LANES_tx lane && d.startSynth lane == i

/-- A write of SB_ARM_SYNTH that clears the bit of a synthesizer in use (R74). -/
def Dev.armSynthBad (d : Dev) (new : Word) : Bool :=
  (List.range 9).any fun i =>
    d.bit 0x02 0x048 i && !new.getLsbD i && (if i < 8 then d.serves (6 + i) || d.startsOn (6 + i) else d.awgLive)

/-- A stored write of SB_ARM_SYNTH (R74, R82). -/
def Dev.armSynthEffect (d : Dev) : Dev :=
  let d := d.commitPower
  if d.power = 3 ∨ d.power = 4 then d.armAll else d

/-! ## Admission (R79 to R84) -/

/-- A lane page or profile of a slot runs above ACT_RATE.rate_mbd (R79). -/
def Dev.pagesAbove (d : Dev) (s : Nat) : Bool :=
  let limit := 1000000 * d.rd 0x03 (F.ACT_RATE_rate_mbd.at s)
  (List.range 16).any fun n =>
    (d.names F.ACT_LANES_tx n s && decide (limit < d.txPageRate n)) ||
      (d.names F.ACT_LANES_rx n s && (decide (limit < d.rxPageRate n false) || decide (limit < d.rxPageRate n true)))

def Dev.namesLane (d : Dev) (s : Nat) : Bool := d.on 0x03 (F.ACT_LANES_tx.at s) || d.on 0x03 (F.ACT_LANES_rx.at s)

/-- The descriptor is invalid (R79). -/
def Dev.formatBad (d : Dev) (s : Nat) : Bool :=
  let mbd := d.rd 0x03 (F.ACT_RATE_rate_mbd.at s)
  let fwd := d.fwdSources s
  (List.range 16).any (fun n => d.names F.ACT_ENG_sq n s && !d.names F.ACT_LANES_tx n s) ||
    (List.range 4).any (fun k => d.names F.ACT_ENG_sq (16 + k) s && !d.names F.ACT_ENG_aw k s) ||
    (d.namesLane s && (decide (mbd < 1000) || decide (56000 < mbd))) || d.pagesAbove s ||
    d.rd 0x03 (F.ACT_W0_start.at s) == 3 ||
    (d.on 0x03 (F.ACT_AUX_fwd_ab.at s) && !fwd.any (· < 8)) || (d.on 0x03 (F.ACT_AUX_fwd_ba.at s) && !fwd.any (8 ≤ ·))

/-- The resource fields of a descriptor (R78). -/
def resourceFields : List Field :=
  [F.ACT_LANES_tx, F.ACT_LANES_rx, F.ACT_ENG_sq, F.ACT_ENG_ce, F.ACT_ENG_aw, F.ACT_AUX_sd, F.ACT_AUX_fwd_ab,
    F.ACT_AUX_fwd_ba]

/-- A named resource is held: by a live act, or an engine by its closing act (R78, R274). -/
def Dev.conflicts (d : Dev) (s : Nat) : Bool :=
  (d.liveSlots.any fun o => resourceFields.any fun f => Nat.land (d.rd 0x03 (f.at s)) (d.rd 0x03 (f.at o)) != 0) ||
    (List.range 2).any fun c => d.names F.ACT_ENG_ce c s && (d.cap c).held

/-- A named TX lane has neither serving synthesizer locked, or WS0 is not locked for a named AWG channel. -/
def Dev.notArmed (d : Dev) (s : Nat) : Bool :=
  (List.range 16).any (fun n =>
      d.names F.ACT_LANES_tx n s && !d.synLocked (laneSynth n false) && !d.synLocked (laneSynth n true)) ||
    (d.on 0x03 (F.ACT_ENG_aw.at s) && !d.synLocked 14)

/-- The start count of a descriptor. -/
def Dev.startCount (d : Dev) (s : Nat) : Nat :=
  d.rd 0x03 (F.ACT_START_LO.at s) + 2 ^ 32 * d.rd 0x03 (F.ACT_START_HI_ts.at s)

/-- The reason of Table 3.13 for which a slot is refused at power `p` (0.1 W) and peak `t`; none where it is admitted. -/
def Dev.refusal (d : Dev) (s p : Nat) (t : Int) : Option Nat :=
  let lead := if d.forwards s then 37000 else 2000
  let ce := d.on 0x03 (F.ACT_ENG_ce.at s)
  -- R65 asks for reason STATE for every act
  if d.on 0xF0 F.TST_FACTORY_active then some 3
  else if d.formatBad s then some 1
  else if d.on 0x02 F.SB_EMERG_latched then some 2
  else if !d.armed || d.on 0x00 F.GLB_MODE_STAT_changing then some 3
  else if (d.namesLane s || ce) && d.mode == 0 then some 3
  else if d.forwards s && d.mode != 2 then some 3
  else if (List.range 16).any (fun n => d.names F.ACT_LANES_tx n s && !d.r2 n) then some 4
  else if d.notArmed s then some 5
  else if d.conflicts s then some 6
  else if d.rd 0x03 (F.ACT_W0_start.at s) == 1 && decide (d.startCount s < d.count.toNat + lead) then some 7
  else if decide (d.caseTemp < -400000) && d.namesLane s && decide (32000 < d.rd 0x03 (F.ACT_RATE_rate_mbd.at s)) then some 8
  else if d.rd 0x60 F.DM_CEIL_gbs < d.dmDeclared + d.rd 0x03 (F.ACT_AUX_dm_gbs.at s) then some 9
  else if 10 * d.rd 0x02 F.SB_PWR_LIMIT_watts < p then some 10
  else if tooHot t p then some 11
  else none

/-- A task's overdue run holds an act of priority below 4 that names its resource (R89): a sequencer or engine whose bank
awaits its test, a TX lane or AWG channel whose synthesizer awaits its recalibration. -/
def Dev.heldBack (d : Dev) (s : Nat) : Bool :=
  decide (d.rd 0x03 (F.ACT_W0_prio.at s) < 4) &&
    ((List.range 64).any (fun b =>
        d.bill.lateBanks.testBit b &&
          (match ownerSq (d.owner b), ownerQueue (d.owner b) with
           | some n, _ => d.names F.ACT_ENG_sq n s
           | _, some q => decide (q < 2) && d.names F.ACT_ENG_ce q s
           | _, _ => false)) ||
      (List.range 9).any (fun i =>
        d.bill.lateSynths.testBit i &&
          (if i < 8 then (List.range 4).any fun k => d.names F.ACT_LANES_tx (i / 2 * 4 + k) s
           else d.on 0x03 (F.ACT_ENG_aw.at s))))

/-- The slot is the next that Showbill evaluates (R81). -/
def Dev.evalNext (d : Dev) (s : Nat) : Bool :=
  let waits (o : Nat) : Bool := d.actState o == 1 && !d.heldBack o
  let prio (o : Nat) : Nat := d.rd 0x03 (F.ACT_W0_prio.at o)
  waits s && (List.range 16).all fun o => o == s || !waits o || decide (prio o < prio s) || (prio o == prio s && decide (s < o))

/-- Showbill evaluates a slot (R81 to R84). A peak that ACT_STAT.peak cannot hold is open. Assumption 31, DEDUCED. -/
def Dev.evaluate (d : Dev) (s : Nat) : Dev :=
  let p := d.committed + d.actPower s
  let t := d.predict p (d.rd 0x03 (F.ACT_DUR.at s))
  let peak := wholeUp t
  let (v, d) :=
    if -128 ≤ peak ∧ peak ≤ 127 then (unsigned 8 peak, d) else let (w, d) := d.fresh; (w.toNat % 256, d)
  let d := d.wr 0x03 (F.ACT_STAT_peak.at s) v
  match d.refusal s p t with
  | some r =>
    (((d.wr 0x03 (F.ACT_STAT_state.at s) 5).wr 0x03 (F.ACT_STAT_reason.at s) r).stat 0x02 17).stat 0x03 (16 + s)
  | none => ((d.wr 0x03 (F.ACT_STAT_state.at s) 2).commitPower).wakeKept

/-- A descriptor is submitted (R81, R93). -/
def Dev.submit (d : Dev) (s : Nat) : Dev :=
  (((d.wr 0x03 (F.ACT_STAT_state.at s) 1).wr 0x03 (F.ACT_STAT_reason.at s) 0).wr 0x03 (F.ACT_STAT_end.at s) 0).wr 0x03
    (F.ACT_STAT_peak.at s) 0

/-! ## Start (R85, R99, R184, R436) -/

/-- A forwarded TX lane of a RUNNING act. -/
def Dev.fwdOnto (d : Dev) (n : Nat) : Bool := d.forwarding (fwdTx n)

/-- A TX lane of an act that starts and has something to send, forwarded or played, begins to leave electrical idle (R211, R242); with
ACT_W0.start = 1 (`timed`) it has begun early enough to drive at the start (R85). Where its path is still on its way, it begins
once the path is confirmed (R9, R435). -/
def Dev.laneGo (d : Dev) (timed : Bool) (n : Nat) : Dev :=
  if d.fwdOnto n || (d.running F.ACT_ENG_sq n && d.sqState n == 3) then
    if d.mayDrive n then (if timed then (d.txDrive n).txExited n else d.txDrive n)
    else d.setTx n { d.tx n with owed := true }
  else d

/-- The way out of electrical idle that a lane still has before it from its act's start (R211). -/
def Dev.laneJoin (d : Dev) (n : Nat) : Dev := if (d.tx n).owed then d.txDrive n else d

/-- A TX lane of an act that starts takes its rate and format and its serving synthesizer; where none serves it, it idles and
its sequencer faults RANGE. `old` is the device before the start. -/
def Dev.laneStart (d old : Dev) (s n : Nat) : Dev :=
  let src := fwdTx n
  let fwd := (d.fwdSources s).contains src
  let rate := if fwd then (d.rx src).rate else d.txPageRate n
  let pam := if fwd then (d.rx src).pam else d.txPageFmt n
  let (ok, e) := d.serveLane n rate
  let e := e.setTx n { e.tx n with
    rate := rate, dead := !ok, lost := false, quiet := false, exit := none, owed := false, hist := [], half := none }
  (e.wr (txPage n) F.TXL_STAT_fmt pam.toNat).errRecheck old n

/-- The forwarding registers of a receiving lane return to their reset values. -/
def Dev.fwdClear (d : Dev) (r : Nat) : Dev :=
  let a := addrOf (rxPage r) F.RXL_FWD_STAT_fwd.off
  (d.putBits a 0xFFFFFFFF (resetWord a)).setRx r { d.rx r with
    held := [], owed := 0, lead := 0, ending := false, cut := false, spliced := false, part := [], drop := 0, fin := 0, fout := 0, disp := false, okey := 0 }

/-- An act starts. Assumption 38, DEDUCED. -/
def Dev.beginAct (old : Dev) (s : Nat) : Dev :=
  let d := ((old.wr 0x03 (F.ACT_STAT_state.at s) 3).raiseSys 241).showState
  let lanes := (List.range 16).filter (d.names F.ACT_LANES_tx · s)
  let d := lanes.foldl (fun d n => d.laneStart old s n) d
  let d := (d.fwdSources s).foldl Dev.fwdClear d
  let d := ((List.range 2).filter (d.names F.ACT_ENG_ce · s)).foldl Dev.capStart d
  let d := ((List.range 4).filter (d.names F.ACT_ENG_aw · s)).foldl Dev.awgStart d
  let d := ((List.range 20).filter (d.names F.ACT_ENG_sq · s)).foldl
    (fun d n =>
      let d := d.sqBegin n
      if n < 16 && (d.tx n).dead && d.sqState n == 3 then d.sqFault n 5 (d.rd (sqPage n) F.SQ_START_entry) else d) d
  let d := lanes.foldl (Dev.laneGo · (d.rd 0x03 (F.ACT_W0_start.at s) == 1)) d
  let d := d.sdStart ((List.range 8).filter (d.names F.ACT_AUX_sd · s))
  (d.settlePaths.rxSettleAll).openInjection

/-! ## End (R86, R87, R100, R196) -/

/-- An act that named wideband channels has ended: the clamp of R355 leaves the channels that no RUNNING act names. -/
def Dev.awgUnclamp (d : Dev) : Dev :=
  (List.range 4).foldl (fun d k => if d.running F.ACT_ENG_aw k then d else d.wr (0x88 + k) F.AWG_STAT_clk_fault 0) d

/-- An act that is ADMITTED or RUNNING ends with cause 0 duration, 1 halt, 2 SB_ABORT or 3 emergency. -/
def Dev.endAct (old : Dev) (s cause : Nat) : Dev :=
  let d := old
  let run := d.actState s == 3
  let lanes := (List.range 16).filter (d.names F.ACT_LANES_tx · s)
  let fwd := d.fwdSources s
  let d := if run then
      ((List.range 2).filter (d.names F.ACT_ENG_ce · s)).foldl (fun d c => d.capEnd c (if cause = 3 then 5 else 1)) d
    else d
  let d := (d.wr 0x03 (F.ACT_STAT_state.at s) (if cause ≤ 1 then 4 else 6)).wr 0x03 (F.ACT_STAT_end.at s) cause
  let d := (d.stat 0x03 (16 + s)).raiseSys 242
  let d := { d with
    bill := { d.bill with pathWait := withBit d.bill.pathWait s false }
    mw := { d.mw with inbox := d.mw.inbox.filter (· != .actStart s) } }
  let d := if !run then d else
    let d := lanes.foldl Dev.txIdle d
    let d := ((List.range 20).filter (d.names F.ACT_ENG_sq · s)).foldl Dev.sqFinish d
    -- a forwarding lane may have a handoff without a sequencer (R195, R233)
    let d := lanes.foldl Dev.abandonHandoff d
    let d := d.sdEnd ((List.range 8).filter (d.names F.ACT_AUX_sd · s))
    let d := if (List.range 4).any (d.names F.ACT_ENG_aw · s) then d.awgUnclamp else d
    let d := fwd.foldl Dev.fwdClear d
    lanes.foldl
      (fun d n =>
        let d := d.restoreLane n
        ((d.setTx n { d.tx n with lost := false, dead := false, quiet := false }).txHome n).errRecheck old n) d
  (((d.commitPower.showState).settlePaths).rxSettleAll).openInjection

/-- RUNNING acts with end_on_halt whose sequencers have all halted or faulted end (R86, R101). -/
def Dev.haltCheck (d : Dev) : Dev :=
  (List.range 16).foldl
    (fun d s =>
      let sqs := (List.range 20).filter (d.names F.ACT_ENG_sq · s)
      if d.actState s == 3 && d.on 0x03 (F.ACT_W0_end_on_halt.at s) && !sqs.isEmpty &&
          sqs.all (fun n => d.sqState n == 5 || d.sqState n == 6) then d.endAct s 1 else d) d

/-- SB_ABORT (R86). -/
def Dev.abortActs (d : Dev) (mask : Nat) : Dev :=
  (d.liveSlots.filter mask.testBit).foldl (fun d s => d.endAct s 2) d

/-! ## Emergencies (R90 to R92) -/

/-- The device declares an emergency (R90); while one is latched, none (R91). Its event comes after the entry into STANDBY, where
Midway delivers it to no task (R348). Assumption 32, DEDUCED. -/
def Dev.emergency (d : Dev) (cause : Nat) : Dev :=
  if d.on 0x02 F.SB_EMERG_latched then d
  else
    let d := d.liveSlots.foldl (fun d s => d.endAct s 3) d
    let d := (List.range 16).foldl Dev.txIdle d
    let d := (List.range 8).foldl
      (fun d k =>
        let d := if d.rd 0x8C (F.SD_CTRL_range.at k) = 0 then d else d.sdChanged k
        (d.sdOut k 0).wr 0x8C (F.SD_CTRL_range.at k) 0) d
    let d := (List.range 4).foldl (fun d n => d.wr 0x18 (F.REFOUT_src.at n) 0) d
    let d := d.wr 0x00 F.GLB_MODE_mode 0
    let d := if d.mode ≠ 0 ∨ d.on 0x00 F.GLB_MODE_STAT_changing then d.startMode 0 else d
    let d :=
      if d.power = 3 ∨ d.power = 4 then d.enterStandby true false
      else (d.quiesce.setTrans .none).wr 0x02 F.SB_STATE_REQ_req 2
    -- an entry into DORMANT that ends here holds no wake any more (R76)
    let d : Dev := { d with bill := { d.bill with wakeHeld := 0 } }
    let d := ((d.wr 0x02 F.SB_EMERG_latched 1).wr 0x02 F.SB_EMERG_cause cause).stat 0x02 18
    let d := d.raiseSys 244
    if d.rd 0x01 F.RST_STAT_boot = 2 then d
    else { d with mail := { d.mail with notes := d.mail.notes ++ [(0x8001, d.reg (addrOf 0x02 0x060))] } }

/-- SB_EMERG.clear (R91). -/
def Dev.emergClearBad (d : Dev) : Bool :=
  decide (1600 < d.rdS 0x05 F.THERM_TC) || decide (2000 < d.rdS 0x05 F.THERM_TJ_MAX_temp)

/-- THERM_PRED (R83): the nearest sixteenth of a degree; open where the register cannot hold it.
Assumption 119, DEDUCED. -/
def Dev.showPred (d : Dev) : Dev :=
  let t := roundAway ((d.caseTemp + (d.rise d.committed : Nat)) * 16) 10000
  if -32768 ≤ t ∧ t ≤ 32767 then d.wr 0x05 F.THERM_PRED (unsigned 16 t)
  else let (w, d) := d.fresh; d.wr 0x05 F.THERM_PRED (w.toNat % 65536)

/-- The spell of R88: T_C lies more than 3 °C above the highest peak of the RUNNING acts. -/
def Dev.exceeds (d : Dev) : Bool :=
  match d.runSlots.map fun s => d.rdS 0x03 (F.ACT_STAT_peak.at s) with
  | [] => false
  | p :: ps => decide (16 * (ps.foldl max p + 3) < d.rdS 0x05 F.THERM_TC)

/-- The registers of a sample. -/
def Dev.sampleRegs (d : Dev) (tc tj sensor power : Nat) : Dev :=
  let d := (d.wr 0x05 F.THERM_TC tc).wr 0x05 F.THERM_TJ_MAX_temp tj
  let d := (d.wr 0x05 F.THERM_TJ_MAX_sensor sensor).wr 0x02 F.SB_PWR_NOW power
  (d.wr 0x05 F.THERM_STAT_band (bandOf d.caseTemp)).showPred

/-- A new spell of R88 is reported. -/
def Dev.modelCheck (d : Dev) : Dev :=
  let exceed := d.exceeds
  let d := if exceed && !d.bill.exceeding then ((d.wr 0x05 F.THERM_STAT_model_exceed 1).stat 0x02 20).raiseSys 243 else d
  { d with bill := { d.bill with exceeding := exceed } }

/-- The emergency that a sample calls for, if any (R90): 1 case temperature, 2 junction. Assumption 32, DEDUCED. -/
def Dev.heatCause (d : Dev) : Option Nat :=
  if (128 : Int) ≤ d.rdS 0x05 F.THERM_TC / 16 then some 1
  else if (145 : Int) ≤ d.rdS 0x05 F.THERM_TJ_MAX_temp / 16 then some 2
  else none

/-- The sample of the sensors (R83, R88, R90). -/
def Dev.sample (d : Dev) (tc tj sensor power : Nat) : Dev :=
  if !d.serving then d
  else
    let d := (d.sampleRegs tc tj sensor power).modelCheck
    match d.heatCause with
    | some c => d.emergency c
    | none => d

/-! ## Housekeeping (R89, Table 3.9) -/

/-- A task is overdue. Tasks in the order of Table 3.9; `res` is the bank or the synthesizer. A suspended task becomes overdue
too. Assumption 33, DEDUCED. -/
def Dev.overdue (d : Dev) (task res : Nat) : Dev :=
  let d := match task with
    | 1 => { d with bill := { d.bill with lateBanks := withBit d.bill.lateBanks res true } }
    | 2 => if res < 9 then { d with bill := { d.bill with lateSynths := withBit d.bill.lateSynths res true } } else d
    | _ => d
  (d.fbit 0x02 F.SB_HK_STAT_overdue task true).stat 0x02 19

/-- A task has run on a resource: it is not overdue there any more. -/
def Dev.hkRan (d : Dev) (task res : Nat) : Dev :=
  let d := match task with
    | 1 => { d with bill := { d.bill with lateBanks := withBit d.bill.lateBanks res false } }
    | 2 => { d with bill := { d.bill with lateSynths := withBit d.bill.lateSynths res false } }
    | _ => d
  let left := match task with
    | 1 => d.bill.lateBanks != 0
    | 2 => d.bill.lateSynths != 0
    | _ => false
  d.fbit 0x02 F.SB_HK_STAT_overdue task left

/-- The recalibration of an idle synthesizer starts, or ends if it runs. -/
def Dev.recal (d : Dev) (i : Nat) : Dev :=
  let syn := 6 + i
  if d.synOn syn F.SYN_STAT_recal then (d.endRecal syn).hkRan 2 i
  else if d.serving && d.has 0x02 F.SB_HK_CTRL_en 2 && !d.playsOn syn then (d.synWr syn F.SYN_STAT_recal 1).showRecal
  else d

/-- The check of the thermal sensor offsets runs. -/
def Dev.offsetCheck (d : Dev) : Dev :=
  if d.serving && d.has 0x02 F.SB_HK_CTRL_en 4 then d.hkRan 4 0 else d

end Sys2Proof.Machine
end

