-- ==== Sys2Proof/Machine/Link.lean ====
section
/-! DEFINITION. The host link and its DMA channels (spec/14_host_link_and_mailboxes.md R375 to R393), and accesses through
BAR4 (R379). -/
namespace Sys2Proof.Machine

/-! ## The link (R375, R376, R381) -/

/-- Every channel's DMA_STAT.link. -/
def Dev.setDmaLink (d : Dev) (b : Bool) : Dev :=
  (List.range 8).foldl (fun d ch => d.wr (dmaPage ch) (df ch F.DMA_STAT_link) b.toNat) d

/-- A link comes into use. Assumption 80, DEDUCED. -/
def Dev.linkOn (d : Dev) (gen : Nat) : Dev :=
  let d := (d.wr 0x14 F.HL_STAT_gen gen).wr 0x14 F.HL_STAT_cl 0
  ((d.setDmaLink false).stat 0x14 16).flushPending

/-- A USB4 link trains up at a generation that HL_CFG allows. -/
def Dev.linkUp (d : Dev) (gen : Nat) : Dev :=
  if d.serving && d.linkGen == 0 && decide (2 ≤ gen) && decide (gen ≤ d.rd 0x14 F.HL_CFG_max_gen) then d.linkOn gen else d

/-- The device enumerates over the fallback (R376). -/
def Dev.fallback (d : Dev) : Dev :=
  if d.serving && d.linkGen == 0 && d.on 0x14 F.HL_CFG_fallback_en then d.linkOn 1 else d

/-- The link goes down (R381, R391): descriptors in progress are abandoned, and requests of the host that had to wait are lost. -/
def Dev.linkDown (d : Dev) : Dev :=
  if d.linkGen = 0 then d
  else
    let d := { (d.wr 0x14 F.HL_STAT_gen 0).wr 0x14 F.HL_STAT_cl 0 with
      fbq := []
      prot := { d.prot with stalled := d.prot.stalled.filter fun h => h.master != Master.host }
      mail := { d.mail with asleep := [] }
      ep := Endpoint.init }
    let d := ((d.bump 0x14 F.HL_CNT_down).setDmaLink true).stat 0x14 17
    (List.range 8).foldl (fun d ch => d.setDma ch { d.dma ch with active := none, fail := none }) d

/-- The link moves between CL0, CL1 and CL2 (R375); at its return the messages that waited for it leave (R402). -/
def Dev.linkCl (d : Dev) (cl : Nat) : Dev :=
  if d.linkGen < 2 ∨ 3 ≤ cl ∨ (cl ≠ 0 ∧ !d.on 0x14 F.HL_CFG_lp_en) then d
  else
    let d := d.wr 0x14 F.HL_STAT_cl cl
    if cl = 0 then { d with mail := { d.mail with asleep := [] } }.flushPending else d

/-! ## DMA rings (R382 to R392) -/

/-- DMA_STAT.busy follows the indices. -/
def Dev.showBusy (d : Dev) (ch : Nat) : Dev :=
  d.wr (dmaPage ch) (df ch F.DMA_STAT_busy)
    (decide (d.rd (dmaPage ch) (df ch F.DMA_TAIL_idx) ≠ d.rd (dmaPage ch) (df ch F.DMA_HEAD_idx))).toNat

def Dev.dmaOn (d : Dev) (ch : Nat) (f : Field) : Bool := d.on (dmaPage ch) (df ch f)

/-- The number of descriptors in a ring. -/
def Dev.ringSize (d : Dev) (ch : Nat) : Nat := 2 ^ d.rd (dmaPage ch) (df ch F.DMA_RING_SIZE_log2)

/-- Writes of the channel blocks that are refused (R392, R395): the word that they leave, and the bits that they reach. -/
def Dev.dmaStateBad (d : Dev) (ch off : Nat) (new reached : Word) : Bool :=
  match off with
  | 0x00 | 0x04 | 0x08 => d.dmaOn ch F.DMA_CTRL_en || d.dmaOn ch F.DMA_STAT_busy
  | 0x0C => decide (d.ringSize ch ≤ F.DMA_HEAD_idx.get new)
  | 0x14 => d.linkGen == 1 && F.DMA_CTRL_en.get (new &&& reached) == 1
  | _ => false

/-- A write of 1 to DMA_CTRL.abort (R390): descriptors up to the present head end with ABORT. -/
def Dev.dmaAbort (d : Dev) (ch : Nat) : Dev :=
  if d.dmaOn ch F.DMA_STAT_busy then
    d.setDma ch { d.dma ch with abortTo := some (d.rd (dmaPage ch) (df ch F.DMA_HEAD_idx)) }
  else d

/-- What a stored write of a channel block does. -/
def Dev.dmaEffect (d : Dev) (ch off : Nat) (w : Word) (abort : Bool) : Dev :=
  match off with
  | 0x0C => d.showBusy ch
  | 0x14 =>
    let d := if F.DMA_CTRL_en.get w = 1 then d.wr (dmaPage ch) (df ch F.DMA_STAT_ring_err) 0 else d
    if abort then d.dmaAbort ch else d
  | _ => d

/-- A ring access fails on the host side (R389). -/
def Dev.ringError (d : Dev) (ch : Nat) : Dev :=
  let p := dmaPage ch
  let d := (d.wr p (df ch F.DMA_CTRL_en) 0).wr p (df ch F.DMA_STAT_ring_err) 1
  (d.setDma ch ⟨none, none, none⟩).stat p (20 + ch % 4)

/-- Words 2 and 3, 4 and 5, or 6 and 7 of a descriptor. -/
def pairAt (ws : List Word) (i : Nat) : Nat := (ws.getD i 0).toNat + 2 ^ 32 * (ws.getD (i + 1) 0).toNat

def descDir (ws : List Word) : Nat := (ws.getD 0 0).toNat % 4
def descLen (ws : List Word) : Nat := (ws.getD 1 0).toNat

/-- The bytes of tile space. -/
def tileSpace : Nat := 0x1740000000

/-- The checks of R387. -/
def descRange (ws : List Word) : Bool :=
  let len := descLen ws
  let last := pairAt ws 4 + len
  len == 0 || decide (0x10000000 < len) ||
    decide ((if descDir ws < 2 then tileSpace else 0x4000000) < last) || (ws.getD 6 0).toNat % 4 != 0

/-- A channel reads its next descriptor (R382, R383, R387, R390). -/
def Dev.dmaDescriptor (d : Dev) (ch : Nat) (words : List Word) (hostOk : Bool) : Dev :=
  let c := d.dma ch
  if d.serving && decide (2 ≤ d.linkGen) && d.dmaOn ch F.DMA_STAT_busy && c.active.isNone &&
      (d.dmaOn ch F.DMA_CTRL_en || c.abortTo.isSome) then
    if !hostOk then d.ringError ch
    else
      let ws := words.take 8
      let fail :=
        if c.abortTo.isSome then some 7
        else if descRange ws then some 2
        else if descDir ws < 2 ∧ (d.queueBanks (if descDir ws = 0 then 2 else 3)).isEmpty then some 6
        else none
      d.setDma ch { c with active := some ws, fail := fail }
  else d

/-- The bytes from the start to the first that lies in a bank that is not FREE, at most `len`. -/
def Dev.freeBytes (d : Dev) (start len : Nat) : Nat :=
  match (List.range 65).find? fun i =>
      let a := if i = 0 then start else 1048576 * (start / 1048576 + i)
      decide (a < start + len) && d.owner (a / 1048576) != 0 with
  | some 0 => 0
  | some i => 1048576 * (start / 1048576 + i) - start
  | none => len

/-- A run of bytes of tile space, tile by tile: the tile, the first byte in it, and how many. -/
def tileParts (a n : Nat) : List (Nat × Nat × Nat) :=
  if n = 0 then []
  else
    (List.range ((a + n - 1) / 4096 - a / 4096 + 1)).map fun i =>
      let t := a / 4096 + i
      let lo := max a (4096 * t)
      (t, lo - 4096 * t, min (a + n) (4096 * (t + 1)) - lo)

/-- A write of tile space by XDMA, split into whole and partial tiles (R135, R136, R385). -/
def putTiles (d : Dev) (m : Mem) (a : Nat) (bs : Bytes) : Dev × Mem :=
  (tileParts a bs.length).foldl
    (fun (x : Dev × Mem) q =>
      let part := (bs.drop (4096 * q.1 + q.2.1 - a)).take q.2.2
      if q.2.2 = 4096 then writeWhole x.1 x.2 q.1 part else writePart x.1 x.2 q.1 q.2.1 (part.map some) 6) (d, m)

/-- What a transfer moves: the bytes that reached their target, the failing tiles, the data read, and the device after. -/
structure Moved where
  bytes : Nat
  fails : List Nat
  data : Bytes
  d : Dev
  m : Mem
  deriving DecidableEq, Repr

/-- Bytes go to tile space; a transfer that stops early leaves the tile it stopped in as it was (R388). -/
def moveIn (d : Dev) (m : Mem) (a len n : Nat) (bs : Bytes) : Moved :=
  let n := if len ≤ n then len else if a < 4096 * ((a + n) / 4096) then 4096 * ((a + n) / 4096) - a else 0
  let (d, m) := putTiles d m a (bs.take n)
  ⟨n, [], [], d, m⟩

/-- XDMA reads a part of a tile: a tile that it covers is checked (R138, R386), and one that meets an uncorrectable error is
reported as failing (R300). -/
def moveTile (r : Moved) (t off n : Nat) : Moved :=
  let (bs, lost, d) := readTile r.d r.m t off n 6 none
  let bad := lost || (decide (n = 4096) && !tilePasses d t bs)
  { r with
    bytes := r.bytes + n, data := r.data ++ bs
    fails := if bad then r.fails ++ [t] else r.fails
    d := if bad && decide (n = 4096) then d.tlogAdd t 2 6 none else d }

/-- Bytes come from tile space. -/
def moveOut (d : Dev) (m : Mem) (a n : Nat) : Moved :=
  (tileParts a n).foldl (fun r q => moveTile r q.1 q.2.1 q.2.2) ⟨0, [], [], d, m⟩

/-- A bank that XDMA reaches leaves RET; its fill, if one runs, ends first. -/
def padReach (d : Dev) (m : Mem) (b : Nat) : Dev × Mem :=
  let (d, m) := fillDone d m b
  (d.bankTouch b, m)

/-- The banks of a run of BAR2 bytes. -/
def padReachAll (d : Dev) (m : Mem) (a n : Nat) : Dev × Mem :=
  if n = 0 then (d, m)
  else
    (List.range ((a + n - 1) / 1048576 - a / 1048576 + 1)).foldl
      (fun (x : Dev × Mem) i => padReach x.1 x.2 (a / 1048576 + i)) (d, m)

/-- A byte of BAR2 in an OFF bank is not reached (R312). -/
def Dev.padOff (d : Dev) (a : Nat) : Bool := d.bankState (a / 1048576) == 2

/-- An access that met an OFF bank is reported (R306, R312). -/
def Dev.offReject (d : Dev) (a n : Nat) : Dev :=
  if n = 0 then d
  else
    (List.range ((a + n - 1) / 1048576 - a / 1048576 + 1)).foldl
      (fun d i => let b := a / 1048576 + i; if d.bankState b = 2 then d.stateReject (bankPage b) else d) d

/-- Bytes go to FREE banks, or come from them (R385). -/
def movePad (d : Dev) (m : Mem) (a n : Nat) (bs : Option Bytes) : Moved :=
  let (d, m) := padReachAll d m a n
  let d := d.offReject a n
  match bs with
  | some bs =>
    let en := (List.range n).map fun i => if d.padOff (a + i) then none else some (bs.getD i 0)
    ⟨n, [], [], d, { m with pad := bytesSetEn 0 m.pad a en }⟩
  | none =>
    let data := (bytesGet 0 m.pad a n).mapIdx fun i b => if d.padOff (a + i) then 0 else b
    ⟨n, [], data, d, m⟩

/-- The status with which a transfer ends, and the bytes it is to move: an error found by the device, the error the event
reports, or the end of the data (R385, R388, R390, Table 14.2). -/
def Dev.dmaStatus (d : Dev) (c : Dma) (ws : List Word) (moved : Nat) (why : DmaEnd) : Nat × Nat :=
  let len := descLen ws
  let dev := pairAt ws 4
  let free := if descDir ws < 2 then len else d.freeBytes dev len
  let part := min moved (min len free)
  match c.fail with
  | some 2 => (2, 0)
  | some 7 => (7, 0)
  | some f => (f, part)
  | none =>
    if c.abortTo.isSome then
      -- the next 4 KiB boundary of dev
      (7, min (min len free) (4096 * ((dev + part + 4095) / 4096) - dev))
    else
      match why, decide (descDir ws < 2) with
      | .hostErr, _ => (3, part)
      -- Q2 and Q3 carry transfers of tile space alone (R385)
      | .sram, true => (5, part)
      | .queue, true => (6, part)
      | _, _ => if free < len then (4, free) else (0, len)

/-- An entry of Q2 or Q3: a packet of its own, taken as soon as it is committed. -/
def Dev.passEntry (d : Dev) (q : Nat) (e : BitVec 512) : Dev :=
  match d.qPush q [e] with
  | some d => (d.qPop q).2
  | none => d

/-- The data of a transfer pass through Q2 or Q3, 64 bytes an entry (R385). Assumption 127, DESIGN CHOICE. -/
def Dev.passQueue (d : Dev) (q : Nat) (bs : Bytes) : Dev :=
  (List.range ((bs.length + 63) / 64)).foldl
    (fun d i => d.passEntry q (BitVec.ofNat 512 (bytesNat ((bs.drop (64 * i)).take 64)))) d

/-- The data of a transfer move: those to tile space through Q2, those from it through Q3 (R385). -/
def dmaMove (d : Dev) (m : Mem) (dir a len n : Nat) (fromHost : Bytes) : Moved :=
  match dir with
  | 0 => moveIn (d.passQueue 2 (fromHost.take n)) m a len n fromHost
  | 1 => let r := moveOut d m a n; { r with d := r.d.passQueue 3 r.data }
  | 2 => movePad d m a n (some (fromHost.take n))
  | _ => movePad d m a n none

/-- A descriptor's completion is written, and DMA_TAIL passes it (R383, R384, R386). -/
def dmaFinish (d : Dev) (ch : Nat) (ws : List Word) (status bytes : Nat) (fails : List Nat) (hostOk : Bool) : Dev :=
  if !hostOk then d.ringError ch
  else
    let p := dmaPage ch
    let tail := d.rd p (df ch F.DMA_TAIL_idx)
    let at_ := 2 ^ 32 * d.rd p (df ch F.DMA_RING_HI) + 64 * d.rd p (df ch F.DMA_RING_LO_addr) + 64 * tail + 32
    let d := d.emit (.hostWrite (BitVec.ofNat 64 at_)
      (natBytes 4 (status + 2 ^ 31) ++ natBytes 4 bytes ++ natBytes 4 (min fails.length (2 ^ 32 - 1)) ++
        natBytes 4 (fails.headD 0xFFFFFFFF)))
    let next := (tail + 1) % d.ringSize ch
    let d := ((d.wr p (df ch F.DMA_TAIL_idx) next).showBusy ch).wr p (df ch F.DMA_STAT_last) status
    let d := d.bump p (df ch F.DMA_DONE)
    let d := d.setDma ch
      { active := none, fail := none, abortTo := if (d.dma ch).abortTo = some next then none else (d.dma ch).abortTo }
    let irq := (ws.getD 0 0).getLsbD 2
    let d := if irq then d.stat p (16 + ch % 4) else d
    let d := if 2 ≤ status then d.stat p (20 + ch % 4) else d
    if irq && d.dmaOn ch F.DMA_CTRL_irq_en then d.irq (d.rd p (df ch F.DMA_CTRL_vec)) else d

/-- A descriptor finishes (R384 to R390). `moved` is how far it came where it ends early. Assumption 81, DEDUCED. -/
def dmaComplete (d : Dev) (m : Mem) (ch : Nat) (fromHost : Bytes) (moved : Nat) (why : DmaEnd) (hostOk : Bool) : Dev × Mem :=
  let c := d.dma ch
  match c.active with
  | none => (d, m)
  | some ws =>
    let dir := descDir ws
    let (status, n) := d.dmaStatus c ws moved why
    if (dir % 2 = 0 ∧ fromHost.length < n) ∨ (dir < 2 ∧ n ≠ 0 ∧ d.dmWaits) then (d, m)
    else
      let r := dmaMove d m dir (pairAt ws 4) (descLen ws) n fromHost
      let status := if status = 0 ∧ !r.fails.isEmpty then 1 else status
      -- the access that found a bank that is not FREE is reported on its page (R306)
      let d := if status = 4 then r.d.stateReject (bankPage ((pairAt ws 4 + n) / 1048576)) else r.d
      let d := if dir % 2 = 1 ∧ !r.data.isEmpty then d.emit (.hostWrite (BitVec.ofNat 64 (pairAt ws 2)) r.data) else d
      let rpt := pairAt ws 6
      let shown := r.fails.take ((ws.getD 0 0).toNat / 16 % 4096)
      let d := if rpt = 0 ∨ shown = [] then d else d.emit (.hostWrite (BitVec.ofNat 64 rpt) (shown.flatMap (natBytes 4)))
      (dmaFinish d ch ws status r.bytes r.fails hostOk, r.m)

/-! ## BAR4 (R379) -/

/-- The tile-space byte address of a BAR4 offset, as the aperture lies when the request is made. -/
def Dev.apAddr (d : Dev) (off : Nat) : Nat := 1048576 * d.rd 0x14 F.HL_AP_BASE_mib + off

/-- A request beyond tile space is counted. -/
def Dev.apOut (d : Dev) (a n : Nat) : Dev := if tileSpace < a + n then (d.bump 0x14 F.HL_CNT_ap_out).stat 0x14 18 else d

/-- A BAR4 read: the delivered bytes, unchecked (R138); zeros beyond tile space. -/
def bar4Read (d : Dev) (m : Mem) (who a len : Nat) : Bytes × Dev :=
  let inside := min len (tileSpace - a)
  let (bs, d) := (tileParts a inside).foldl
    (fun (x : Bytes × Dev) q => let (bs, _, d) := readTile x.2 m q.1 q.2.1 q.2.2 who none; (x.1 ++ bs, d)) ([], d.apOut a len)
  (bs ++ List.replicate (len - inside) 0, d)

/-- A BAR4 write: partial writes, tile by tile; ignored beyond tile space. -/
def bar4Write (d : Dev) (m : Mem) (who a : Nat) (bs : List (Option Byte)) : Dev × Mem :=
  (tileParts a (min bs.length (tileSpace - a))).foldl
    (fun (x : Dev × Mem) q =>
      let part := (bs.drop (4096 * q.1 + q.2.1 - a)).take q.2.2
      if part.all Option.isNone then x else writePart x.1 x.2 q.1 q.2.1 part who) (d.apOut a bs.length, m)

end Sys2Proof.Machine
end

