-- ==== Sys2Proof/Machine/Guard.lean ====
section
/-! DEFINITION. Page checks, keys, thaws and Turnstiles (spec/02_register_pages_and_protection.md R46 to R63), the restart of
the MC (R57, R400) and its boot (spec/15_security_identity_and_calibration.md R417). -/
namespace Sys2Proof.Machine

/-! ## Committed checks (R52 to R54) -/

/-- The offsets of the words that hold CK fields, in ascending order. -/
def ckWords (p : Nat) : List Nat :=
  if p = 0x08 then [0x048]
  else if 0x0C ≤ p ∧ p ≤ 0x0F then (List.range 16).map fun j => 0x040 + 4 * j
  else if p = 0x81 then (List.range 8).map fun m => 0x040 + 4 * m
  else []

/-- The bits of a register that lie in fields of a kind. -/
def bitsWhere (p off : Nat) (q : Field → Bool) : Word :=
  match fieldsAt p off with
  | none => 0
  | some fs => fs.foldl (fun w f => if q f then w ||| f.mask else w) 0

/-- The check value of a page now (R52). -/
def Dev.pageCheck (d : Dev) (p : Nat) : Word :=
  crc32c ((ckWords p).flatMap fun o => wordBytes (d.reg (addrOf p o) &&& bitsWhere p o Field.ck))

/-- A mismatch is opened or renewed (R53); its log entry has no master and no enabled bytes, and shows 0 for both.
Assumption 132, DESIGN CHOICE. -/
def Dev.mismatch (d : Dev) (p : Nat) : Dev :=
  let d := (d.stat p 5).bump 0x08 F.PROT_CHECK_FAIL_count
  let d := d.wr 0x08 F.PROT_CHECK_FAIL_last_page p
  (d.vlogAdd ⟨vInfo none 9 0, BitVec.ofNat 32 (65536 * p), 0, d.now⟩).raiseSys 240

/-- The last differing value of a page's check while a mismatch is open. -/
def Dev.setDiff (d : Dev) (p : Nat) (v : Option Word) : Dev :=
  { d with prot := { d.prot with lastDiff := tabSet (fun _ => none) d.prot.lastDiff p v } }

/-- PAGE_CHECK is recomputed, and compared where check_en is 1 (R52, R53). -/
def Dev.recheck (d : Dev) (p : Nat) : Dev :=
  if isPriv p then
    let v := d.pageCheck p
    let d := d.wr p F.PAGE_CHECK v.toNat
    if !d.on p F.PAGE_CTRL_check_en then d
    else if v = d.reg (addrOf p 0x020) then d.setDiff p none
    else if tabGet (fun _ => none) d.prot.lastDiff p = some v then d
    else (d.setDiff p (some v)).mismatch p
  else d

/-- A running commit ends: PAGE_CHECK goes to PAGE_CHECK_REF and check_en is set (R54). -/
def Dev.commitDone (d : Dev) (p : Nat) : Dev :=
  if d.on p F.PAGE_CTRL_check_busy then
    let v := if isPriv p then (d.pageCheck p).toNat else 0
    let d := (d.wr p F.PAGE_CHECK v).wr p F.PAGE_CHECK_REF v
    ((d.wr p F.PAGE_CTRL_check_en 1).wr p F.PAGE_CTRL_check_busy 0).setDiff p none
  else d

/-! ## Keys (R46 to R48) -/

def pageKey (p : Nat) : Word := BitVec.ofNat 32 (0x4B450000 + p * 0x0101)

/-- The page key is armed by a master. -/
def Dev.armedBy (d : Dev) (p : Nat) (m : Master) : Bool :=
  d.on p F.PAGE_CTRL_key_armed && d.rd p F.PAGE_CTRL_key_master == m.id

/-- A key is disarmed; KEY_STAT.key_master then reads 0, which the spec does not say. Assumption 114, DEDUCED. -/
def Dev.disarm (d : Dev) (p : Nat) : Dev := (d.wr p F.PAGE_CTRL_key_armed 0).wr p F.PAGE_CTRL_key_master 0

/-- An armed key expires (R48). -/
def Dev.keyExpire (d : Dev) (p : Nat) : Dev :=
  if d.on p F.PAGE_CTRL_key_armed then (d.disarm p).stat p 6 else d

/-! ## Turnstiles (R61 to R63) -/

/-- The holder and held fields of a Turnstile. -/
def tsHolder (n : Nat) : Field := { off := 0x300 + 4 * (n / 8), lo := 4 * (n % 8), w := 3 }
def tsHeld (n : Nat) : Field := { off := 0x300 + 4 * (n / 8), lo := 4 * (n % 8) + 3, w := 1 }

def Dev.taken (d : Dev) (n : Nat) : Bool := d.on 0x09 (F.TS_state.at n)

/-- A read with byte lane 0 enabled takes a free Turnstile (R61); the word that the read returns. -/
def Dev.acquire (d : Dev) (n : Nat) (m : Master) : Word × Dev :=
  if d.taken n then (1, d)
  else (0, ((d.wr 0x09 (F.TS_state.at n) 1).wr 0x09 (tsHolder n) m.id).wr 0x09 (tsHeld n) 1)

/-- A Turnstile is released; TS_HOLD.holder then reads 0, which the spec does not say. Assumption 133, DESIGN CHOICE. -/
def Dev.release (d : Dev) (n : Nat) : Dev :=
  ((d.wr 0x09 (F.TS_state.at n) 0).wr 0x09 (tsHolder n) 0).wr 0x09 (tsHeld n) 0

/-- Every Turnstile that a master holds is released. -/
def Dev.releaseHeld (d : Dev) (m : Master) : Dev :=
  (List.range 64).foldl (fun d n => if d.taken n && d.rd 0x09 (tsHolder n) == m.id then d.release n else d) d

/-! ## The MC (R57, R58, R400, R417) -/

/-- The MC runs: the device serves, it did not boot in recovery, and the MC is not frozen. -/
def Dev.mcRuns (d : Dev) : Bool := d.serving && d.rd 0x01 F.RST_STAT_boot != 2 && !d.frozen .mc

/-- The MC thaws a master under PROT_AUTOTHAW, or under its thaw request (R58). -/
def Dev.autothaw (d : Dev) (m : Master) : Dev :=
  if d.mcRuns && d.frozen m && d.has 0x08 F.PROT_AUTOTHAW_mask m.id then d.thaw m else d

def Dev.thawPending (d : Dev) (m : Master) : Bool := tabGet (fun _ => false) d.prot.thawPend m.id

def Dev.mcThaw (d : Dev) (m : Master) : Dev := if d.mcRuns && d.thawPending m then d.thaw m else d

/-- A frozen HOST or DBG asks for its thaw (R58). -/
def Dev.thawAsk (d : Dev) (m : Master) : Dev :=
  if d.frozen m then
    { d with prot := { d.prot with thawPend := tabSet (fun _ => false) d.prot.thawPend m.id true } }
  else d

/-- The page and the block index of a mailbox channel (R397). -/
def mbPage (ch : Nat) : Nat := 0x0C + ch / 16
def mf (ch : Nat) (f : Field) : Field := f.at (ch % 16)

/-- MB_STAT.state: 0 IDLE, 1 POSTED, 2 TAKEN, 3 ACKED (R398). -/
def Dev.mbState (d : Dev) (ch : Nat) : Nat := d.rd (mbPage ch) (mf ch F.MB_STAT_state)
def Dev.setMbState (d : Dev) (ch s : Nat) : Dev := d.wr (mbPage ch) (mf ch F.MB_STAT_state) s
def Dev.mbBound (d : Dev) (ch : Nat) : Bool := d.on (mbPage ch) (F.MB_BIND_valid.at (ch % 16))
def Dev.mbSender (d : Dev) (ch : Nat) : Master := Master.ofId (d.rd (mbPage ch) (F.MB_BIND_sender.at (ch % 16)))
def Dev.mbReceiver (d : Dev) (ch : Nat) : Master := Master.ofId (d.rd (mbPage ch) (F.MB_BIND_receiver.at (ch % 16)))

/-- A reset of a receiver returns its taken channels to POSTED (R400). -/
def Dev.retake (d : Dev) (m : Master) : Dev :=
  let chs := (List.range 64).filter fun ch => d.mbBound ch && d.mbReceiver ch == m && d.mbState ch == 2
  let d := chs.foldl (fun d ch => (d.setMbState ch 1).wr (mbPage ch) (mf ch F.MB_STAT_retaken) 1) d
  { d with mail := { d.mail with
      order := chs ++ d.mail.order
      begun := d.mail.begun.filter fun ch => !chs.contains ch
      loading := if m = .mc then 0 else d.mail.loading } }

/-- The MC restarts (R57): its Turnstiles are released, it is thawed, its stalled requests are discarded. -/
def Dev.mcRestart (d : Dev) : Dev :=
  let d := ((d.releaseHeld .mc).thaw .mc).retake .mc
  { d with prot := { d.prot with stalled := d.prot.stalled.filter fun h => h.master != .mc } }

/-- The SE watchdog resets a frozen MC (R57) and the MC then has a notification to post (R411). -/
def Dev.watchdog (d : Dev) : Dev :=
  if d.serving && d.rd 0x01 F.RST_STAT_boot != 2 && d.frozen .mc then
    let d := d.mcRestart
    let n := d.sec.mcResets + 1
    { d with
      sec := { d.sec with mcResets := n }
      mail := { d.mail with notes := d.mail.notes ++ [(0x8002, BitVec.ofNat 32 n)] } }
  else d

/-- SEC_BOOT.slot_a or slot_b: 0 EMPTY, 1 VALID, 2 TRY. -/
def slotField (b : Bool) : Field := if b then F.SEC_BOOT_slot_b else F.SEC_BOOT_slot_a
def Dev.slotState (d : Dev) (b : Bool) : Nat := d.rd 0x10 (slotField b)
def Dev.setSlot (d : Dev) (b : Bool) (s : Nat) : Dev := d.wr 0x10 (slotField b) s

/-- The image in a slot. Assumption 7, DESIGN CHOICE. -/
def Dev.image (d : Dev) (b : Bool) : Bytes := (if b then d.sec.imageB else d.sec.imageA).getD Config.factoryImage

/-- The slot in state TRY. -/
def Dev.trySlot (d : Dev) : Option Bool :=
  if d.slotState false = 2 then some false else if d.slotState true = 2 then some true else none

/-- The MC runs from a slot, which is now the active one. -/
def Dev.runFrom (d : Dev) (b fallback : Bool) : Dev :=
  let i := d.image b
  let d := ((d.setSlot b 1).wr 0x10 F.SEC_BOOT_slot b.toNat).wr 0x10 F.SEC_BOOT_fallback fallback.toNat
  let d := ((d.wr 0x10 F.SEC_BOOT_mode 0).wr 0x10 F.SEC_FW_rev (imageRev i).toNat).wr 0x10 F.SEC_SVN_run (imageSvn i)
  ({ d with sec := { d.sec with activeB := b } }).wr 0x01 F.RST_STAT_boot 0

/-- A stored image verifies now (R416): `ok` says whether the store gives its bytes back as they were written. -/
def Dev.slotOk (d : Dev) (b : Bool) (ok : Bool) : Bool := ok && (d.imageBad (d.image b)).isNone

/-- Step 1 of R417: the TRY slot runs, or becomes EMPTY. -/
def Dev.bootTry (d : Dev) (b ok : Bool) : Bool × Dev :=
  if d.slotOk b ok then (true, d.runFrom b false) else (false, d.setSlot b 0)

/-- Steps 2 to 4 of R417. -/
def Dev.bootActive (d : Dev) (okA okB : Bool) : Dev :=
  let a := d.sec.activeB
  let ok (b : Bool) : Bool := d.slotState b == 1 && d.slotOk b (if b then okB else okA)
  if ok a then d.runFrom a false
  else if ok !a then (d.setSlot a 0).runFrom (!a) true
  else
    let d := ((d.wr 0x10 F.SEC_BOOT_mode 2).wr 0x10 F.SEC_BOOT_slot 0).wr 0x10 F.SEC_BOOT_fallback 0
    let d := (d.wr 0x10 F.SEC_FW_rev 0).wr 0x10 F.SEC_SVN_run 0
    (d.wr 0x01 F.RST_STAT_boot 2).wr 0x0C F.MB_VER_ver 0x0201

/-- The SE boots the MC (R417); `okA` and `okB` say whether the store gives the images' bytes back. Assumption 86, DEDUCED. -/
def Dev.boot (d : Dev) (okA okB : Bool) : Dev :=
  match d.trySlot with
  | some b =>
    match d.bootTry b (if b then okB else okA) with
    | (true, d) => d
    | (false, d) => d.bootActive okA okB
  | none => d.bootActive okA okB

/-! ## Reads of the live views (R59, R60) -/

/-- The word of a log entry at a position of its window: INFO, ADDR, DATA, TS_LO, TS_HI. -/
def VEntry.word (e : VEntry) (i : Nat) : Word :=
  match i with
  | 0 => e.info | 1 => e.addr | 2 => e.data | 3 => e.ts.setWidth 32 | _ => (e.ts >>> 32).setWidth 32

def windowWord (e : Option VEntry) (i : Nat) : Word := match e with | some e => e.word i | none => 0

/-- Page 0x0A as its reader sees it (Table 2.8). -/
def Dev.thawView (d : Dev) (m : Master) (off : Nat) : Word :=
  if off = 0x040 then BitVec.ofNat 32 (d.rd 0x08 F.PROT_FROZEN_mask)
  else if off = 0x048 then (if d.thawPending m then 1 else 0)
  else if off = 0x060 then BitVec.ofNat 32 (tabGet (fun _ => 0) d.prot.thawCount m.id)
  else if 0x04C ≤ off ∧ off ≤ 0x05C then windowWord (tabGet (fun _ => none) d.prot.thawLast m.id) ((off - 0x04C) / 4)
  else d.reg (addrOf 0x0A off)

/-- Page 0x08: the window of the violation log and its count. -/
def Dev.protView (d : Dev) (off : Nat) : Word :=
  if off = 0x058 then F.VLOG_STAT_count.put (d.reg (addrOf 0x08 off)) d.prot.vlog.length
  else if 0x060 ≤ off ∧ off ≤ 0x070 then windowWord d.prot.vlog.head? ((off - 0x060) / 4)
  else d.reg (addrOf 0x08 off)

end Sys2Proof.Machine
end

