-- ==== Sys2Proof/Machine/Mail.lean ====
section
/-! DEFINITION. Mailbox channels and the commands of the MC (spec/14_host_link_and_mailboxes.md R397 to R411), and the loading
of descriptor images (spec/05_segments_tiles_and_hot_residency.md R158 to R163). -/
namespace Sys2Proof.Machine

/-! ## Channels (R398 to R402) -/

/-- The channel of a block offset 0x400 and above, and the offset within its block. -/
def mbChan (p off : Nat) : Nat := (p - 0x0C) * 16 + (off - 0x400) / 0x80
def mbOff (off : Nat) : Nat := (off - 0x400) % 0x80

/-- A write to a channel's block that its state refuses (Table 14.5, R401). -/
def Dev.mbBad (d : Dev) (m : Master) (ch o : Nat) : Bool :=
  let s := d.mbState ch
  let sends := d.mbSender ch == m && (s == 0 || s == 3)
  let takes := d.mbReceiver ch == m
  !d.mbBound ch ||
    !(if o < 0x40 then sends || (takes && s == 2)
      else if o = 0x40 then sends
      else if o = 0x44 then takes && s == 1
      else if o = 0x48 then takes && s == 2
      else decide (o = 0x54) && d.privileged m)

/-- A master that reads a channel's block (R398). -/
def Dev.mbReads (d : Dev) (m : Master) (ch : Nat) : Bool :=
  d.privileged m || (d.mbBound ch && (d.mbSender ch == m || d.mbReceiver ch == m))

/-- The message of a vector waits as a pending bit until the link is in CL0 (R402), but where the cycle has had one (R380). -/
def Dev.irqAsleep (d : Dev) (v : Nat) : Dev :=
  if v ∈ d.rose then d
  else
    { d.fbit 0x17 (pbaField v) (v % 32) true with
      rose := v :: d.rose
      mail := { d.mail with asleep := v :: d.mail.asleep } }

/-- The host is told of a channel (R402); without WAKE its message waits for CL0. -/
def Dev.mbNotify (d : Dev) (ch : Nat) : Dev :=
  let p := mbPage ch
  let b := 16 + ch % 16
  if d.rd 0x14 F.HL_STAT_cl = 0 then d.stat p b
  else if d.on p (F.MB_BIND_wake.at (ch % 16)) then (d.linkCl 0).stat p b
  else
    let rises := d.bit p 0x010 b && !d.bit p 0x00C b
    let d := d.setBit p 0x00C b true
    if rises then d.irqAsleep (d.rd p F.PAGE_IRQ_MAP_vector) else d

/-- A doorbell (R399). -/
def Dev.doorbell (d : Dev) (ch seq : Nat) : Dev :=
  let p := mbPage ch
  let d := (d.setMbState ch 1).wr p (mf ch F.MB_STAT_seq) seq
  let d := (d.wr p (mf ch F.MB_STAT_flushed) 0).wr p (mf ch F.MB_STAT_retaken) 0
  let d := { d with mail := { d.mail with order := d.mail.order ++ [ch] } }
  if d.mbReceiver ch = .host then d.mbNotify ch else d

/-- A receiver takes a message. -/
def Dev.mbTake (d : Dev) (ch : Nat) : Dev :=
  let d := d.setMbState ch 2
  { d with mail := { d.mail with order := d.mail.order.erase ch } }

/-- A receiver acknowledges (R399). -/
def Dev.mbAck (d : Dev) (ch code : Nat) : Dev :=
  let p := mbPage ch
  let d := (d.setMbState ch 3).wr p (mf ch F.MB_ACK_code) code
  let d := d.wr p (mf ch F.MB_ACK_seq) (d.rd p (mf ch F.MB_STAT_seq))
  let d := { d with mail := { d.mail with begun := d.mail.begun.erase ch } }
  if d.mbSender ch = .host then d.mbNotify ch else d

/-- A privileged flush (R401). A LOAD that is flushed away holds its targets no longer (R160). -/
def Dev.mbFlush (d : Dev) (ch : Nat) : Dev :=
  if d.mbState ch = 1 ∨ d.mbState ch = 2 then
    let d := (d.setMbState ch 0).wr (mbPage ch) (mf ch F.MB_STAT_flushed) 1
    let load := d.mbReceiver ch == .mc && d.mail.begun.contains ch
    { d with mail := { d.mail with
        order := d.mail.order.erase ch, begun := d.mail.begun.erase ch, loading := if load then 0 else d.mail.loading } }
  else d

/-- Payload word `k`. -/
def Dev.mbWord (d : Dev) (ch k : Nat) : Word := d.reg (addrOf (mbPage ch) (F.MB_DATA.at2 (ch % 16) k).off)

/-- Payload words 1 to 15 take values, zeros behind them. -/
def Dev.mbResults (d : Dev) (ch : Nat) (ws : List Word) : Dev :=
  (List.range 15).foldl (fun d i => d.wr (mbPage ch) (F.MB_DATA.at2 (ch % 16) (i + 1)) (ws.getD i 0).toNat) d

/-- What an accepted write to a channel's block does besides storing the payload. -/
def Dev.mbEffect (d : Dev) (ch o : Nat) (w : Word) (lowByte : Bool) : Dev :=
  if o = 0x40 then (if lowByte then d.doorbell ch (w.toNat % 65536) else d)
  else if o = 0x44 then (if w.getLsbD 0 then d.mbTake ch else d)
  else if o = 0x48 then (if lowByte then d.mbAck ch (w.toNat % 65536) else d)
  else if o = 0x54 then (if w.getLsbD 0 then d.mbFlush ch else d)
  else d

/-- The MC posts its oldest notification on the lowest free channel of 8 to 15 (R411), where it is of the given kind.
Assumption 83, DEDUCED. -/
def Dev.notify (d : Dev) (kind : Word) : Dev :=
  if !d.mcRuns then d
  else
    match d.mail.notes, (List.range 8).find? fun i => d.mbState (8 + i) == 0 || d.mbState (8 + i) == 3 with
    | (w0, w1) :: r, some i =>
      if w0 = kind then
        let ch := 8 + i
        let d := { d with mail := { d.mail with notes := r } }
        let d := (d.wr (mbPage ch) (F.MB_DATA.at2 ch 0) w0.toNat).mbResults ch [w1]
        -- the seq of a notification is not stated
        let (v, d) := d.fresh
        d.doorbell ch (v.toNat % 65536)
      else d
    | _, _ => d

/-! ## Commands (R403 to R407) -/

/-- The opcodes of Tables 14.7 and 15.7. -/
def knownOps : List Nat :=
  [0x01, 0x02, 0x03, 0x10, 0x20, 0x21, 0x30, 0x40, 0x41, 0x42, 0x43, 0x44, 0x45, 0x46, 0x47, 0x48, 0x50, 0x51, 0x52]

/-- A command exists in a version (Tables 14.7 and 15.7). -/
def inVersion (op ver : Nat) : Bool :=
  knownOps.contains op && (decide (op < 0x20) || op == 0x40 || op == 0x43 || decide (0x0200 ≤ ver))

/-- A command is served on a channel: by the MC on 0 to 7, by the SE on 16 to 23; in recovery the SE serves what R418 lists,
and refuses FW_COMMIT by R421. -/
def Dev.onChannelOk (d : Dev) (op ch : Nat) : Bool :=
  if ch < 8 then decide (op < 0x40) || decide (0x50 ≤ op)
  else
    decide (0x40 ≤ op ∧ op < 0x50) &&
      (d.rd 0x01 F.RST_STAT_boot != 2 || [0x40, 0x41, 0x42, 0x43, 0x44, 0x45, 0x46, 0x47].contains op)

/-- What a command answers: it is not done yet, or its code and its results. -/
inductive Reply where
  | wait
  | done (code : Nat) (results : List Word)
  deriving DecidableEq, Repr

/-- The answer that R404 to R407 give before a command runs. -/
def Dev.early (d : Dev) (ch op : Nat) : Option Nat :=
  let ver := d.rd 0x0C F.MB_VER_ver
  if d.on (mbPage ch) (mf ch F.MB_STAT_retaken) then some 1
  else if (d.mbWord ch 0).toNat / 65536 ≠ 0 then some 3
  else if ver = 0 ∧ op ≠ 1 then some 6
  else if (op ≠ 1 ∧ !inVersion op ver) ∨ !knownOps.contains op ∨ !d.onChannelOk op ch then some 5
  else none

/-- The receiver of a channel can begin or go on with its message (R403). -/
def Dev.mbReady (d : Dev) (ch : Nat) : Bool :=
  (if ch < 8 then d.mcRuns else decide (16 ≤ ch ∧ ch < 24) && d.serving) &&
    (d.mbState ch == 2 ||
      (d.mail.order.find? (fun c => d.mbReceiver c == d.mbReceiver ch) == some ch &&
        (List.range 64).all fun c => !(d.mbBound c && d.mbReceiver c == d.mbReceiver ch && d.mbState c == 2)))

/-- The receiver answers. -/
def Dev.answer (d : Dev) (ch : Nat) (r : Reply) : Dev :=
  match r with
  | .wait => d
  | .done code ws => (d.mbResults ch ws).mbAck ch code

/-- The receiver of a channel runs the command of an opcode, or answers a message whose opcode no command has.
Assumption 84, DEDUCED. -/
def serve (op : Nat) (body : Dev → Mem → Nat → Reply × Dev × Mem) (d : Dev) (m : Mem) (ch : Nat) : Dev × Mem :=
  let w := (d.mbWord ch 0).toNat % 65536
  if (w = op ∨ !knownOps.contains w) ∧ d.mbReady ch then
    let d := if d.mbState ch = 1 then d.mbTake ch else d
    match d.early ch w with
    | some code => (d.answer ch (.done code []), m)
    | none =>
      let d := { d with mail := { d.mail with begun := if d.mail.begun.contains ch then d.mail.begun else ch :: d.mail.begun } }
      match body d m ch with
      | (r, d, m) => (d.answer ch r, m)
  else (d, m)

/-- A command that ends at once and leaves the memories alone. -/
def simple (f : Dev → Nat → Reply × Dev) (d : Dev) (m : Mem) (ch : Nat) : Reply × Dev × Mem :=
  let (r, d) := f d ch
  (r, d, m)

def versions : List Nat := [0x0201, 0x0200, 0x0104]

/-- HELLO (R405). -/
def Dev.cmdHello (d : Dev) (ch : Nat) : Reply × Dev :=
  let lo := (d.mbWord ch 1).toNat % 65536
  let hi := (d.mbWord ch 1).toNat / 65536
  if hi < lo then (.done 3 [], d)
  else if (List.range 8).any fun c => c != ch && (d.mbState c == 1 || d.mbState c == 2) then (.done 2 [], d)
  else
    match versions.find? fun v => decide (lo ≤ v) && decide (v ≤ hi) with
    | none => (.done 6 [], d)
    | some v => (.done 0 [BitVec.ofNat 32 v, d.reg (addrOf 0x10 0x044)], d.wr 0x0C F.MB_VER_ver v)

/-- INFO. -/
def Dev.cmdInfo (d : Dev) : Reply :=
  .done 0 [d.reg (addrOf 0x00 0x048), d.reg (addrOf 0x00 0x04C), d.reg (addrOf 0x10 0x044), 0x11, 0x02010104]

/-- ECHO. -/
def Dev.cmdEcho (d : Dev) (ch : Nat) : Reply := .done 0 ((List.range 15).map fun i => d.mbWord ch (i + 1))

/-- SB_SUBMIT takes a slot: its state is FREE and no block reset of Showbill runs (R81, R93, R39). -/
def Dev.submitBad (d : Dev) (s : Nat) : Bool := d.actState s != 0 || d.on 0x02 F.PAGE_CTRL_reset_busy

/-- Showbill evaluates the slots due before a slot, and the slot (R81). -/
def Dev.evaluateTo (d : Dev) (s fuel : Nat) : Dev :=
  match fuel with
  | 0 => d
  | fuel + 1 =>
    if d.actState s != 1 then d
    else
      match (List.range 16).find? d.evalNext with
      | some o => (d.evaluate o).evaluateTo s fuel
      | none => d

/-- The return code of a refusal reason (Table 3.13). -/
def refusalCode (reason : Nat) : Nat :=
  if reason = 1 then 3 else if reason = 4 then 4 else if 8 ≤ reason then 7 else 2

/-- ACT_SUBMIT (R409). -/
def Dev.cmdSubmit (d : Dev) (ch : Nat) (first : Bool) : Reply × Dev :=
  let s := (d.mbWord ch 1).toNat
  if 16 ≤ s then (.done 3 [], d)
  else if first && d.submitBad s then (.done 2 [d.reg (addrOf 0x03 (0x300 + 4 * s))], d)
  else
    let d := if first then d.submit s else d
    let d := d.evaluateTo s 16
    let st := d.actState s
    let w := d.reg (addrOf 0x03 (0x300 + 4 * s))
    if st = 1 then (.wait, d)
    else (.done (if st = 5 then refusalCode (d.rd 0x03 (F.ACT_STAT_reason.at s)) else if st = 2 ∨ st = 3 ∨ st = 4 then 0 else 2) [w], d)

/-- ACT_ABORT. -/
def Dev.cmdAbort (d : Dev) (ch : Nat) : Reply × Dev := (.done 0 [], d.abortActs ((d.mbWord ch 1).toNat % 65536))

/-- POWER (R410). -/
def Dev.cmdPower (d : Dev) (ch : Nat) (first : Bool) : Reply × Dev :=
  let t := (d.mbWord ch 1).toNat
  let reached (d : Dev) : Reply :=
    if d.power = t ∧ !d.on 0x02 F.SB_STATE_changing then .done 0 [d.reg (addrOf 0x02 0x040)] else .wait
  if first then
    if d.stateReqBad t || d.on 0x02 F.PAGE_CTRL_reset_busy then (.done 2 [], d)
    else if t < 1 ∨ 3 < t then (.done 3 [], d)
    else
      let d := (d.wr 0x02 F.SB_STATE_REQ_req t).requestState t
      (if t = 1 then .done 0 [d.reg (addrOf 0x02 0x040)] else reached d, d)
  else (reached d, d)

/-! ## LOAD (R158 to R163, R408) -/

/-- A descriptor image's header as its format gives it: what it loads, and the values of the checks. -/
structure Header where
  program : Bool
  old : Bool
  flags : Nat
  mask : Nat
  count : Nat
  base : Nat
  start : Nat
  hot : Nat
  block : Nat
  words : Nat
  bytes : Nat
  crc : Word
  deriving DecidableEq, Repr

/-- The header of format 2 with kind, counts and reserved fields in range (Table 5.4); the range of hot counts where set_hot
is 1. Assumption 135, DESIGN CHOICE. -/
def header2 (bs : Bytes) : Option Header :=
  let w := headWord bs
  let b := headBits bs
  let blank := (List.range 6).all fun i => w (9 + i) == 0
  let crc := BitVec.ofNat 32 (w 8)
  if !blank then none
  else if b 1 15 8 = 1 then
    let (mask, count, base, hot) := (w 2, b 3 11 0, b 3 26 16, b 4 20 16)
    if b 1 31 20 ≠ 0 ∨ 2 ^ 20 ≤ mask ∨ mask = 0 ∨ b 3 15 12 ≠ 0 ∨ b 3 31 27 ≠ 0 ∨ count = 0 ∨ 2048 < count ∨
        2048 < base + count ∨ b 4 15 11 ≠ 0 ∨ b 4 31 21 ≠ 0 ∨ 2 ^ 16 ≤ w 5 ∨ w 6 ≠ 0 ∨ w 7 ≠ 0 ∨
        (b 1 18 18 = 1 ∧ (hot = 0 ∨ 16 < hot)) then none
    else some ⟨true, false, b 1 19 16, mask, count, base, b 4 10 0, hot, w 5, count, 16 * count, crc⟩
  else if b 1 15 8 = 2 then
    if b 1 31 16 ≠ 0 ∨ w 2 ≠ 0 ∨ w 3 ≠ 0 ∨ w 4 ≠ 0 ∨ w 5 ≠ 0 ∨ 2 < w 6 ∨ w 7 = 0 then none
    else
      let size := if w 6 = 0 then 8 else if w 6 = 1 then 16 else 64
      some ⟨false, false, 0, 0, 0, 0, 0, 0, 0, w 7, w 7 * size, crc⟩
  else none

/-- The header of format 1 (Table 5.5). -/
def header1 (bs : Bytes) : Option Header :=
  let w := headWord bs
  let b := headBits bs
  let crc := BitVec.ofNat 32 (w 5)
  if b 1 31 16 ≠ 0 ∨ w 6 ≠ 0 then none
  else if b 1 15 8 = 1 then
    let (mask, count, base) := (w 2, b 3 10 0, b 3 26 16)
    if 2 ^ 16 ≤ mask ∨ mask = 0 ∨ b 3 15 11 ≠ 0 ∨ b 3 31 27 ≠ 0 ∨ count = 0 ∨ 1024 < count ∨ 2048 < base + count ∨ w 4 ≠ 0 then
      none
    else some ⟨true, true, 0, mask, count, base, 0, 0, 0, count, 16 * count, crc⟩
  else if b 1 15 8 = 2 then
    if w 2 ≠ 0 ∨ w 3 ≠ 0 ∨ w 4 = 0 then none else some ⟨false, true, 0, 0, 0, 0, 0, 0, 0, w 4, 8 * w 4, crc⟩
  else none

/-- The entry that a load writes (R161, R163); none for an opcode or a tile that check 8 refuses. -/
def loadEntry (h : Header) (base : Nat) (e : BitVec 128) : Option (BitVec 128) :=
  let op := opOf e
  if h.old then
    if op = 7 ∨ op = 8 then none
    else if op = 4 then some (e ||| (0xF : BitVec 128) <<< 91)
    else some e
  else if h.flags.testBit 0 && op == 1 then
    let t := eb e 119 95 + base
    if tileCount ≤ t then none
    else some (e &&& ~~~((0x1FFFFFF : BitVec 128) <<< 95) ||| BitVec.ofNat 128 (2 ^ 95 * t))
  else some e

/-- The entries of a program payload. -/
def payloadEntries (bs : Bytes) (count : Nat) : List (BitVec 128) :=
  (List.range count).map fun i => BitVec.ofNat 128 (bytesNat ((bs.drop (16 * i)).take 16))

/-- The targets of a load. -/
def Header.targets (h : Header) : List Nat := bitsOf 20 h.mask

/-- A program load writes one sequencer (R160). -/
def Dev.loadInto (old : Dev) (h : Header) (es : List (BitVec 128)) (n : Nat) : Dev :=
  let d := (es.zipIdx.foldl (fun d x => d.setEntry n (h.base + x.2) x.1) old).sqRelease n
  let p := sqPage n
  let d := if h.flags.testBit 1 then d.wr p F.SQ_START_entry h.start else d
  let d := if h.flags.testBit 2 then d.wr p F.SQ_CFG_hot_tiles h.hot else d
  let d := if h.flags.testBit 3 then d.wr p F.SQ_BLOCK_bits h.block else d
  if n < 16 then d.errRecheck old n else d

/-- The MC reads a tile for a load: its contents, and whether it passes; a failing one is logged (R304, Table 10.7). -/
def loadTile (d : Dev) (m : Mem) (t : Nat) : Bytes × Bool × Dev :=
  let (bs, _, d) := readTile d m t 0 4096 1 none
  if tilePasses d t bs then (bs, true, d) else (bs, false, d.tlogAdd t 1 1 none)

/-- `n` tiles are read for a load, up to the first that fails: their contents, and that tile. -/
def readTiles (d : Dev) (m : Mem) (t : Nat) : Nat → Bytes × Option Nat × Dev
  | 0 => ([], none, d)
  | n + 1 =>
    let (bs, ok, d) := loadTile d m t
    if ok then (let (rest, bad, d) := readTiles d m (t + 1) n; (bs ++ rest, bad, d)) else ([], some t, d)

/-- A load ends at a check. -/
def loadFail (d : Dev) (code : Nat) (tile : Word) : Reply × Dev := (.done code [tile], d)

/-- The targets that a load prepares have all left PREPARING. -/
def Dev.loadWaits (d : Dev) : Reply × Dev :=
  let targets := bitsOf 20 d.mail.loading
  if targets.any fun n => d.sqState n == 1 then (.wait, d)
  else
    let w := (targets.filter fun n => d.sqState n == 2).foldl (fun v n => v + 2 ^ n) 0
    (.done 0 [0xFFFFFFFF, BitVec.ofNat 32 d.mail.words, BitVec.ofNat 32 w], { d with mail := { d.mail with loading := 0 } })

/-- Checks 6 to 8 and the load. Assumption 85, DEDUCED. -/
def Dev.loadBody (d : Dev) (m : Mem) (h : Header) (tile base : Nat) (prepare : Bool) : Reply × Dev :=
  if (prepare && !d.armed) || h.targets.any fun n => d.sqState n == 1 || d.sqLive n then loadFail d 2 0xFFFFFFFF
  else
    let first := tile + 1
    let n := (h.bytes + 4095) / 4096
    let (body, bad, d) := readTiles d m first n
    match bad with
    | some t => loadFail d 8 (BitVec.ofNat 32 t)
    | none =>
      let bs := body.take h.bytes
      if crc32c bs ≠ h.crc then
        -- the payload CRC does not say which tile is wrong
        let (v, d) := d.fresh
        loadFail d 8 (BitVec.ofNat 32 (first + v.toNat % n))
      else if !h.program then (.done 0 [0xFFFFFFFF, BitVec.ofNat 32 h.words, 0], d)
      else
        match (payloadEntries bs h.count).mapM (loadEntry h base) with
        | none => loadFail d 3 0xFFFFFFFF
        | some es =>
          let d := h.targets.foldl (fun d n => d.loadInto h es n) d
          if !prepare then (.done 0 [0xFFFFFFFF, BitVec.ofNat 32 h.words, 0], d)
          else
            let d := h.targets.foldl Dev.sqPrepareGo d
            ({ d with mail := { d.mail with loading := h.mask, words := h.words } }).loadWaits

/-- The header in a tile's bytes, by its format. -/
def headerOf (bs : Bytes) : Option Header := if headBits bs 1 7 0 = 2 then header2 bs else header1 bs

/-- LOAD: the argument checks of R408 and Table 5.3 in order. -/
def Dev.cmdLoad (d : Dev) (m : Mem) (ch : Nat) (first : Bool) : Reply × Dev :=
  let tile := (d.mbWord ch 1).toNat
  let base := (d.mbWord ch 2).toNat
  let flags := (d.mbWord ch 3).toNat
  if !first then d.loadWaits
  else if tileCount ≤ tile ∨ tileCount ≤ base ∨ 2 ≤ flags ∨ (flags = 1 ∧ d.rd 0x0C F.MB_VER_ver ≠ 0x0201) then
    loadFail d 3 0xFFFFFFFF
  else
  let (bs, ok, d) := loadTile d m tile
  if !ok then loadFail d 8 (BitVec.ofNat 32 tile)
  else if headWord bs 0 ≠ 0x53444C46 then loadFail d 3 0xFFFFFFFF
  else
    let fmt := headBits bs 1 7 0
    let n := if fmt = 2 then 15 else 7
    if fmt ≠ 1 ∧ fmt ≠ 2 then loadFail d 6 0xFFFFFFFF
    else if (crc32c (bs.take (4 * n))).toNat ≠ headWord bs n then loadFail d 8 (BitVec.ofNat 32 tile)
    else
      match headerOf bs with
      | none => loadFail d 3 0xFFFFFFFF
      | some h =>
        if tileSpace < 4096 * (tile + 1) + h.bytes then loadFail d 3 0xFFFFFFFF
        else d.loadBody m h tile base (flags = 1)

/-! ## Each command on its channel -/

/-- A command whose second run goes on where the first left off. -/
def phased (f : Dev → Nat → Bool → Reply × Dev) (d : Dev) (m : Mem) (ch : Nat) (first : Bool) : Reply × Dev × Mem :=
  let (r, d) := f d ch first
  (r, d, m)

def mailHello (d : Dev) (m : Mem) (ch : Nat) : Dev × Mem := serve 0x01 (simple Dev.cmdHello) d m ch
def mailInfo (d : Dev) (m : Mem) (ch : Nat) : Dev × Mem := serve 0x02 (simple fun d _ => (d.cmdInfo, d)) d m ch
def mailEcho (d : Dev) (m : Mem) (ch : Nat) : Dev × Mem := serve 0x03 (simple fun d ch => (d.cmdEcho ch, d)) d m ch
def mailLoad (d : Dev) (m : Mem) (ch : Nat) : Dev × Mem :=
  let first := !d.mail.begun.contains ch
  serve 0x10 (fun d m ch => phased (fun d ch f => d.cmdLoad m ch f) d m ch first) d m ch
def mailSubmit (d : Dev) (m : Mem) (ch : Nat) : Dev × Mem :=
  let first := !d.mail.begun.contains ch
  serve 0x20 (fun d m ch => phased Dev.cmdSubmit d m ch first) d m ch
def mailAbort (d : Dev) (m : Mem) (ch : Nat) : Dev × Mem := serve 0x21 (simple Dev.cmdAbort) d m ch
def mailPower (d : Dev) (m : Mem) (ch : Nat) : Dev × Mem :=
  let first := !d.mail.begun.contains ch
  serve 0x30 (fun d m ch => phased Dev.cmdPower d m ch first) d m ch

end Sys2Proof.Machine
end

