-- ==== Sys2Proof/Machine/Secure.lean ====
section
/-! DEFINITION. The SE's commands, attestation, debug unlock and the calibration set
(spec/15_security_identity_and_calibration.md R412 to R432). -/
namespace Sys2Proof.Machine

/-! ## Regions (R414, R415) -/

/-- What a command finds wrong with a region of which its output takes `need` bytes: 3 RANGE, 2 STATE. Assumption 86, DEDUCED. -/
def Dev.regionBad (d : Dev) (off len need : Nat) : Option Nat :=
  if off % 64 ≠ 0 ∨ 0x4000000 < off + len ∨ len < need then some 3
  else if d.freeBytes off len < len then some 2
  else none

/-- A command that reads an input region (R415). -/
def withInput (body : Dev → Nat → Bytes → Reply × Dev) (d : Dev) (m : Mem) (off len : Nat) (ch : Nat) : Reply × Dev × Mem :=
  match d.regionBad off len 0 with
  | some code => (.done code [], d, m)
  | none =>
    let r := movePad d m off len none
    let (a, d) := body r.d ch r.data
    (a, d, r.m)

/-- A command that writes bytes to an output region: OK with the results `ws`. -/
def withOutput (d : Dev) (m : Mem) (off len : Nat) (bs : Bytes) (ws : List Word) : Reply × Dev × Mem :=
  match d.regionBad off len bs.length with
  | some code => (.done code (if len < bs.length then [BitVec.ofNat 32 bs.length] else []), d, m)
  | none =>
    let r := movePad d m off bs.length (some bs)
    (.done 0 ws, r.d, r.m)

def Dev.arg (d : Dev) (ch k : Nat) : Nat := (d.mbWord ch k).toNat

/-! ## The calibration set (R429 to R432) -/

/-- The set in store: 1040 words. -/
def Dev.calSet (d : Dev) : List Word := d.sec.cal.getD factorySet

/-- Word `i` of the set in store. -/
def Dev.calWord (d : Dev) (i : Nat) : Word := d.calSet.getD i 0

/-- Header and body of the set in store: 1040 words. -/
def Dev.calBytes (d : Dev) : Bytes := (List.range 1040).flatMap fun i => wordBytes (d.calWord i)

/-- The value that the set in store gives a register marked `cal` (R430, R432). -/
def Dev.calField (d : Dev) (p off : Nat) : Word := calValue (d.calSet.drop 16) p off

/-! ## Measurements (R413, R424, Table 15.3) -/

/-- The bytes that measurement 3 covers. -/
def Dev.checkedConfig (d : Dev) : Bytes :=
  ([0x08, 0x0C, 0x0D, 0x0E, 0x0F, 0x81].filter fun p => d.on p F.PAGE_CTRL_check_en).flatMap fun p =>
    natBytes 4 p ++ wordBytes (d.reg (addrOf p 0x020))

/-- A measurement; with no firmware running there is no payload to measure. -/
def Dev.measurement (d : Dev) (k : Nat) : BitVec 512 :=
  match k with
  | 0 => sha512 Config.rom
  | 1 => if d.rd 0x10 F.SEC_BOOT_mode = 2 then 0 else sha512 (imagePayload (d.image (d.on 0x10 F.SEC_BOOT_slot)))
  | 2 => sha512 d.calBytes
  | _ => sha512 d.checkedConfig

/-- SEC_MEAS_SEL selects a measurement, and SEC_MEASk shows it. -/
def Dev.showMeasurement (d : Dev) : Dev :=
  let v := (d.measurement (d.rd 0x11 F.SEC_MEAS_SEL_sel)).toNat
  (List.range 16).foldl (fun d k => d.wr 0x11 (F.SEC_MEAS.at k) (v / 2 ^ (32 * k) % 2 ^ 32)) d

/-! ## Firmware (R416, R419 to R421) -/

/-- FW_UPDATE. -/
def Dev.cmdFwUpdate (d : Dev) (_ : Nat) (bs : Bytes) : Reply × Dev :=
  let b := !d.sec.activeB
  match d.imageBad bs with
  | some code => (.done code [], d.setSlot b 0)
  | none =>
    let i := some (imageIn bs)
    let d := { d with sec := if b then { d.sec with imageB := i } else { d.sec with imageA := i } }
    (.done 0 [BitVec.ofNat 32 (imageSvn bs), imageRev bs, if b then 1 else 0], d.setSlot b 2)

/-- The slot running and its revision. -/
def Dev.slotRunning (d : Dev) : List Word := [if d.on 0x10 F.SEC_BOOT_slot then 1 else 0, d.reg (addrOf 0x10 0x044)]

/-- FW_ACTIVATE (R420): the boot of R417 from its step 1; `okA` and `okB` say whether the store gives the images' bytes back. -/
def Dev.cmdFwActivate (d : Dev) (okA okB : Bool) : Reply × Dev :=
  match d.trySlot with
  | none => (.done 2 [], d)
  | some b =>
    if d.anyLive || d.mail.loading != 0 then (.done 2 [], d)
    else
      let ran := d.mcRestart.slotOk b (if b then okB else okA)
      let d := d.mcRestart.boot okA okB
      (.done (if ran then 0 else 8) d.slotRunning, d)

/-- FW_COMMIT (R421). -/
def Dev.cmdFwCommit (d : Dev) : Reply × Dev :=
  let old := d.rd 0x10 F.SEC_SVN_counter
  let n := d.rd 0x10 F.SEC_SVN_run
  if d.rd 0x10 F.SEC_BOOT_mode = 2 ∨ d.trySlot.isSome then (.done 2 [], d)
  else if n ≤ old then (.done 0 [BitVec.ofNat 32 old], d)
  else
    let d := d.wr 0x10 F.SEC_SVN_counter n
    let d := [false, true].foldl (fun d b => if imageSvn (d.image b) < n then d.setSlot b 0 else d) d
    (.done 0 [BitVec.ofNat 32 n], d)

/-! ## Attestation (R423) -/

/-- The flags of the report (Table 15.3). -/
def Dev.attestFlags (d : Dev) : Nat :=
  (d.rd 0x01 F.RST_STAT_boot == 2).toNat + 2 * d.rd 0x10 F.SEC_DEBUG_unlocked + 4 * d.rd 0x10 F.SEC_DEBUG_ever +
    8 * d.rd 0x10 F.SEC_DEBUG_by + 16 * d.rd 0x98 F.CAL_STAT_origin + 32 * (d.on 0x90 F.CART_OVR_en && d.rd 0x90 F.CART_STAT_vstate == 3).toNat +
    64 * d.sec.overrideEver.toNat + 128 * d.rd 0x10 F.SEC_KEYS_owner

/-- The cartridge's presence, verification and life state, at their places in CART_STAT. Assumption 130, DESIGN CHOICE. -/
def Dev.cartState (d : Dev) : Word := d.reg (addrOf 0x90 0x040) &&& 0x3F

/-- The report's body. -/
def Dev.attestBody (d : Dev) (ch : Nat) : Bytes :=
  let r (p off : Nat) : Bytes := wordBytes (d.reg (addrOf p off))
  natBytes 4 0x52545441 ++ natBytes 2 1 ++ natBytes 2 0x200 ++ r 0x00 0x048 ++ r 0x00 0x04C ++ r 0x00 0x000 ++
    r 0x10 0x040 ++ r 0x10 0x044 ++ r 0x10 0x048 ++ natBytes 4 d.attestFlags ++ r 0x10 0x054 ++ natBytes 8 d.now.toNat ++
    (List.range 8).flatMap (fun i => wordBytes (d.mbWord ch (i + 3))) ++ r 0x0B 0x06C ++ r 0x0B 0x070 ++ r 0x0B 0x0B0 ++
    r 0x98 0x040 ++ (List.range 4).flatMap (fun k => natBytes 64 (d.measurement k).toNat) ++
    r 0x90 0x044 ++ r 0x90 0x048 ++ wordBytes d.cartState ++ r 0x90 0x04C ++ r 0x90 0x050 ++ r 0x90 0x054 ++
    natBytes 4 (d.rd 0x90 F.CART_STAT_proto) ++ natBytes 4 0 ++ deviceEdKey ++
    natBytes 64 (sha512 deviceMlKey).toNat ++ natBytes 32 0

/-- ATTEST. -/
def cmdAttest (d : Dev) (m : Mem) (ch : Nat) : Reply × Dev × Mem :=
  let body := d.attestBody ch
  withOutput d m (d.arg ch 1) (d.arg ch 2) (body ++ deviceSignature body) [3888]

/-- CERT_GET (R422). -/
def cmdCert (d : Dev) (m : Mem) (ch : Nat) : Reply × Dev × Mem :=
  if d.arg ch 1 < 4 then
    let c := certificate (d.arg ch 1)
    withOutput d m (d.arg ch 2) (d.arg ch 3) c [BitVec.ofNat 32 c.length]
  else (.done ((d.regionBad (d.arg ch 2) (d.arg ch 3) 0).getD 3) [], d, m)

/-! ## Debug unlock (R426 to R428) -/

/-- DBG_CHALLENGE. -/
def Dev.cmdChallenge (d : Dev) : Reply × Dev :=
  let (ws, d) := (List.range 8).foldl
    (fun (x : List Word × Dev) _ => let (w, d) := x.2.fresh; (x.1 ++ [w], d)) ([], d)
  (.done 0 ws, { d with sec := { d.sec with challenge := some (ws.flatMap wordBytes, 0) } })

/-- The challenge in a token is the one outstanding, issued less than 60 s before. -/
def Dev.challengeOk (d : Dev) (bs : Bytes) : Bool :=
  match d.sec.challenge with
  | some (c, age) => c == slice bs 0 32 && decide (age < 60000000000)
  | none => false

/-- The digests of the keys that a token may present (R426). -/
def Dev.tokenKeys (d : Dev) (sel : Nat) : Option (BitVec 512 × BitVec 512) :=
  if sel = 1 then some Config.serviceKey else d.sec.ownerKey

/-- DBG_UNLOCK. Assumption 87, DEDUCED. -/
def Dev.cmdUnlock (d : Dev) (_ : Nat) (bs : Bytes) : Reply × Dev :=
  let fresh := d.challengeOk bs
  let d := { d with sec := { d.sec with challenge := none } }
  let sel := sliceNat bs 0x28 4
  let ed := slice bs 0x30 32
  let ml := slice bs 0x50 1952
  let msg := slice bs 0 0x7F0
  if 1 < sel ∨ !sliceZero bs 0x2C 4 then (.done 3 [], d)
  else if !fresh ∨ sliceNat bs 0x20 8 ≠ Config.serial.toNat then (.done 4 [], d)
  else if d.tokenKeys sel ≠ some (sha512 ed, sha512 ml) then (.done 4 [], d)
  else if !pairVerifies ed ml msg (slice bs 0x7F0 64) (slice bs 0x830 3312) then (.done 8 [], d)
  else
    let d := ((d.wr 0x10 F.SEC_DEBUG_unlocked 1).wr 0x10 F.SEC_DEBUG_by sel).wr 0x10 F.SEC_DEBUG_ever 1
    (.done 0 [d.reg (addrOf 0x10 0x050)], d)

/-- The end of an unlock (R65, R427). -/
def Dev.lockDebug (d : Dev) : Dev := (d.wr 0x10 F.SEC_DEBUG_unlocked 0).wr 0xF0 F.TST_FACTORY_active 0

/-- OWNER_KEY_SET. -/
def Dev.cmdOwnerKey (d : Dev) (_ : Nat) (bs : Bytes) : Reply × Dev :=
  if d.on 0x10 F.SEC_KEYS_owner then (.done 4 [], d)
  else
    let keys := (sha512 (slice bs 0 32), sha512 (slice bs 32 1952))
    (.done 0 [], ({ d with sec := { d.sec with ownerKey := some keys } }).wr 0x10 F.SEC_KEYS_owner 1)

/-! ## Calibration commands -/

/-- What CAL_STAGE finds wrong with a set (R431). Assumption 88, DEDUCED. -/
def setBad (bs : Bytes) : Option Nat :=
  let msg := slice bs 0 4160
  let origin := sliceNat bs 5 1
  let signed := bs.length == 7536
  if bs.length ≠ 4160 ∧ !signed then some 3
  else if headWord bs 0 ≠ 0x4C414351 ∨ headBits bs 1 7 0 ≠ 1 then some 3
  else if (crc32c (slice bs 0x40 4096)).toNat ≠ headWord bs 7 then some 8
  else if sliceNat bs 8 8 ≠ Config.serial.toNat then some 4
  else if 1 < origin ∨ (origin = 0 ∧ !signed) then some 3
  else if signed && !pairVerifies deviceEdKey deviceMlKey msg (slice bs 4160 64) (slice bs 4224 3312) then some 8
  else none

/-- CAL_STAGE. -/
def Dev.cmdStage (d : Dev) (_ : Nat) (bs : Bytes) : Reply × Dev :=
  match setBad bs with
  | some code => (.done code [], d)
  | none =>
    let ws := (List.range 1040).map fun i => BitVec.ofNat 32 (headWord bs i)
    (.done 0 [BitVec.ofNat 32 (sliceNat bs 5 1)],
      ({ d with sec := { d.sec with staged := some ws } }).wr 0x98 F.CAL_STAT_staged 1)

/-- CAL_COMMIT (R429, R432). -/
def Dev.cmdCalCommit (d : Dev) : Reply × Dev :=
  match d.sec.staged with
  | none => (.done 2 [], d)
  | some ws =>
    let n := d.rd 0x98 F.CAL_STAT_commits
    if d.anyLive then (.done 2 [], d)
    else if 10000 ≤ n then (.done 4 [], d)
    else
      let d := { d with sec := { d.sec with cal := some ws, staged := none } }
      let d := (d.wr 0x98 F.CAL_STAT_origin ((ws.getD 1 0).toNat / 256 % 2)).wr 0x98 F.CAL_STAT_staged 0
      let d := (d.wr 0x98 F.CAL_STAT_reload 1).wr 0x98 F.CAL_STAT_commits (n + 1)
      (.done 0 [BitVec.ofNat 32 (n + 1)], d)

/-- CAL_EXPORT. -/
def cmdExport (d : Dev) (m : Mem) (ch : Nat) : Reply × Dev × Mem :=
  let bs := d.calBytes
  withOutput d m (d.arg ch 1) (d.arg ch 2) (bs ++ deviceSignature bs) [7536]

/-! ## Each command on its channel -/

/-- A command over the input region that words 1 and 2 name. -/
def input (body : Dev → Nat → Bytes → Reply × Dev) (d : Dev) (m : Mem) (ch : Nat) : Reply × Dev × Mem :=
  withInput body d m (d.arg ch 1) (d.arg ch 2) ch

/-- A command over an input region of exactly `need` bytes, once the region has passed its checks (R414). -/
def inputOf (need : Nat) (body : Dev → Nat → Bytes → Reply × Dev) (d : Dev) (m : Mem) (ch : Nat) : Reply × Dev × Mem :=
  if d.arg ch 2 = need then input body d m ch
  else (.done ((d.regionBad (d.arg ch 1) (d.arg ch 2) 0).getD 3) [], d, m)

/-- FW_UPDATE leaves its target slot EMPTY on every result but OK, that of its region's checks included (R419). -/
def fwUpdate (d : Dev) (m : Mem) (ch : Nat) : Reply × Dev × Mem :=
  match d.regionBad (d.arg ch 1) (d.arg ch 2) 0 with
  | some code => (.done code [], d.setSlot (!d.sec.activeB) 0, m)
  | none => input Dev.cmdFwUpdate d m ch

def mailFwUpdate (d : Dev) (m : Mem) (ch : Nat) : Dev × Mem := serve 0x40 fwUpdate d m ch
def mailFwActivate (okA okB : Bool) (d : Dev) (m : Mem) (ch : Nat) : Dev × Mem :=
  serve 0x41 (simple fun d _ => d.cmdFwActivate okA okB) d m ch
def mailFwCommit (d : Dev) (m : Mem) (ch : Nat) : Dev × Mem := serve 0x42 (simple fun d _ => d.cmdFwCommit) d m ch
def mailCert (d : Dev) (m : Mem) (ch : Nat) : Dev × Mem := serve 0x43 cmdCert d m ch
def mailAttest (d : Dev) (m : Mem) (ch : Nat) : Dev × Mem := serve 0x44 cmdAttest d m ch
def mailChallenge (d : Dev) (m : Mem) (ch : Nat) : Dev × Mem := serve 0x45 (simple fun d _ => d.cmdChallenge) d m ch
/-- DBG_UNLOCK consumes the challenge whatever its result, that of its region's checks included. -/
def mailUnlock (d : Dev) (m : Mem) (ch : Nat) : Dev × Mem :=
  serve 0x46
    (fun d m ch =>
      match inputOf 5408 Dev.cmdUnlock d m ch with
      | (r, d, m) => (r, { d with sec := { d.sec with challenge := none } }, m)) d m ch
def mailDbgLock (d : Dev) (m : Mem) (ch : Nat) : Dev × Mem :=
  serve 0x47 (simple fun d _ => (.done 0 [], d.lockDebug)) d m ch
def mailOwnerKey (d : Dev) (m : Mem) (ch : Nat) : Dev × Mem := serve 0x48 (inputOf 1984 Dev.cmdOwnerKey) d m ch
def mailExport (d : Dev) (m : Mem) (ch : Nat) : Dev × Mem := serve 0x50 cmdExport d m ch
def mailStage (d : Dev) (m : Mem) (ch : Nat) : Dev × Mem := serve 0x51 (input Dev.cmdStage) d m ch
def mailCalCommit (d : Dev) (m : Mem) (ch : Nat) : Dev × Mem := serve 0x52 (simple fun d _ => d.cmdCalCommit) d m ch

end Sys2Proof.Machine
end

