-- ==== Sys2Proof/Machine/View.lean ====
section
/-! DEFINITION. The words that reads return (R31, R32, R40): registers, and the views that no register stores. -/
namespace Sys2Proof.Machine

/-- What a register shows, before the access classes apply: the stored word with the vote of R49, or the live view. -/
def Dev.view (d : Dev) (m : Master) (p off : Nat) : Word :=
  if off < 0x040 then d.reg (addrOf p off)
  else
    match blkOf p with
    | some .prot => d.protView off
    | some .thaw => d.thawView m off
    | some .aon =>
      if off = 0x048 then d.rtc.setWidth 32 else if off = 0x04C then (d.rtc >>> 32).setWidth 32 else d.reg (addrOf p off)
    | some .sq =>
      if 0x084 ≤ off ∧ off ≤ 0x090 then
        (d.entry (p - 0x40) (d.rd p F.SQ_PADDR_entry) >>> (32 * ((off - 0x084) / 4))).setWidth 32
      else d.reg (addrOf p off)
    | some .q0 | some .q1 =>
      if off < 0x100 then d.reg (addrOf p off)
      else
        let q := (p - 0x78) * 2 + (off - 0x100) / 0x40
        let o := (off - 0x100) % 0x40
        if o = 0 then queueInfo q (d.queueBanks q).length
        else if o = 4 ∨ o = 8 then BitVec.ofNat 32 (d.queue q).ready.length
        else d.reg (addrOf p off)
    | some .mbox =>
      if 0x400 ≤ off && decide (off < 0xC00) && !d.mbReads m (mbChan p off) then 0 else d.reg (addrOf p off)
    | some .cal => if off = 0x048 then d.calWord (d.rd p F.CAL_ADDR_idx) else d.reg (addrOf p off)
    | some .testN => if 0x040 ≤ off then 0 else d.reg (addrOf p off)
    | _ => d.reg (addrOf p off)

/-- The word that a read returns: WO fields read 0, PV fields read 0 to an unprivileged master, a page whose only level is
expert reads level 1, and unlisted offsets read 0 (R8, R32, R40, Table 2.3). -/
def Dev.readWord (d : Dev) (m : Master) (p off : Nat) : Word :=
  match fieldsAt p off with
  | none => 0
  | some _ =>
    let hide := bitsWhere p off fun f => f.acc == .wo || (f.pv && !d.privileged m)
    let w := d.view m p off &&& ~~~hide
    if off = 0x008 ∧ !hasBasic p then w ||| 4 else w

/-- The bits of a register whose Access includes RW (R455). -/
def rwBits (p off : Nat) : Word := bitsWhere p off fun f => f.acc == .rw

end Sys2Proof.Machine
end

