-- ==== Sys2Proof/Machine/Ring.lean ====
section
/-! DEFINITION. The cartridge, the Rolter ring, fingerprints and the staging store
(spec/16_cartridge_safety_net_and_ring.md R442 to R459). -/
namespace Sys2Proof.Machine

/-! ## Cartridge (R442 to R447) -/

def Dev.vstate (d : Dev) : Nat := d.rd 0x90 F.CART_STAT_vstate

/-- CART_STAT.vstate changes: 0 ABSENT, 1 READING, 2 VERIFIED, 3 UNVERIFIED, with a cause. The condition of R2 may then hold
no more. -/
def Dev.setVstate (d : Dev) (v cause : Nat) : Dev :=
  let same := d.vstate == v
  let d := (d.wr 0x90 F.CART_STAT_vstate v).wr 0x90 F.CART_STAT_cause cause
  (if same then d else d.cartChanged).txLost

/-- CART_PRES_N has been low for 10 ms. -/
def Dev.cartPresent (d : Dev) : Dev :=
  if d.serving && d.vstate == 0 then (d.wr 0x90 F.CART_STAT_present 1).setVstate 1 0 else d

/-- Pages 0x90 and 0x91 show no cartridge. -/
def Dev.cartBlank (d : Dev) : Dev :=
  let d := [0x040, 0x044, 0x048, 0x04C, 0x050, 0x054, 0x058].foldl (fun d o => d.putBits (addrOf 0x90 o) 0xFFFFFFFF 0) d
  ([0x040, 0x044, 0x048] ++ (List.range 16).map fun p => 0x050 + 4 * p).foldl
    (fun d o => d.putBits (addrOf 0x91 o) 0xFFFFFFFF 0) d

/-- CART_PRES_N is high. -/
def Dev.cartRemoved (d : Dev) : Dev :=
  if d.serving && d.on 0x90 F.CART_STAT_present then
    let d := { d.cartBlank with net := { d.net with retry := false, asked := false } }
    d.cartChanged.txLost
  else d

/-- The identity record's values (Table 16.3), where the element answered. -/
def Dev.cartRecord (d : Dev) (a : CartAnswer) : Dev :=
  if a.verdict = some .noReply then d
  else
    let d := (d.wr 0x90 F.CART_STAT_proto a.proto.toNat).wrPair 0x90 F.CART_SER_LO F.CART_SER_HI a.serial
    let d := (d.wr 0x91 F.CART_RATED_MAT a.ratedMat.toNat).wrPair 0x91 F.CART_RATED_CYC_LO F.CART_RATED_CYC_HI a.ratedCyc
    (List.range 16).foldl (fun d p => d.wr 0x91 (F.CART_CPL_db.at p) (a.coupling.getD p 0).toNat) d

/-- The highest path cycles last accepted. -/
def Dev.cartCycles (d : Dev) : Nat := d.rd 0x90 F.CART_CYC_LO + 2 ^ 32 * d.rd 0x90 F.CART_CYC_HI

/-- The first of the six checks of Table 16.4 that fails. -/
def Dev.cartCheck (d : Dev) (a : CartAnswer) : Option CartCause :=
  if a.verdict = some .noReply then some .noReply
  else if a.proto ≠ 1 ∧ a.proto ≠ 2 then some .version
  else
    match a.verdict with
    | some c => some c
    | none => if a.matings.toNat < d.rd 0x90 F.CART_MATINGS ∨ a.cycles.toNat < d.cartCycles then some .rollback else none

/-- A share in permille, saturating; a rating of 0 has none to give. -/
def permille (n rated : Nat) : Nat := if rated = 0 then 2047 else min 2047 (1000 * n / rated)

/-- An accepted answer: the counters, and the life that they give (R445). -/
def Dev.cartAccept (d : Dev) (a : CartAnswer) : Dev :=
  let d := (d.wr 0x90 F.CART_MATINGS a.matings.toNat).wrPair 0x90 F.CART_CYC_LO F.CART_CYC_HI a.cycles
  let pm := max (permille a.matings.toNat a.ratedMat.toNat) (permille a.cycles.toNat a.ratedCyc.toNat)
  let life := if 1000 ≤ pm then 2 else if 900 ≤ pm then 1 else 0
  let old := d.rd 0x90 F.CART_STAT_life
  let d := (d.wr 0x90 F.CART_LIFE_permille pm).wr 0x90 F.CART_STAT_life life
  let d := if life = old then d else d.cartChanged
  if life = old then d else if life = 1 then d.stat 0x90 17 else if life = 2 then d.stat 0x90 18 else d

/-- The SE has read and challenged a cartridge that is READING. Assumption 90, DEDUCED. -/
def Dev.cartVerify (d : Dev) (a : CartAnswer) : Dev :=
  if d.serving && d.vstate == 1 then
    let d := d.cartRecord a
    match d.cartCheck a with
    | some c => d.setVstate 3 c.code
    | none => (d.cartAccept a).setVstate 2 0
  else d

def Dev.setRetry (d : Dev) (b : Bool) : Dev := { d with net := { d.net with retry := b } }

/-- A challenge of a VERIFIED cartridge; `again` says that it repeats a failed one. -/
def Dev.challengeVerified (d : Dev) (a : CartAnswer) (again : Bool) : Dev :=
  let d := d.cartRecord a
  match d.cartCheck a with
  | none => (d.cartAccept a).setRetry false
  | some c =>
    if again || c == .rollback then (d.setRetry false).setVstate 3 c.code
    else d.setRetry true

/-- A challenge of an UNVERIFIED cartridge. -/
def Dev.challengeUnverified (d : Dev) (a : CartAnswer) : Dev :=
  let d := d.cartRecord a
  match d.cartCheck a with
  | none => (d.cartAccept a).setVstate 2 0
  | some c => d.wr 0x90 F.CART_STAT_cause c.code

/-- A challenge that CART_CHAL.go has asked for. -/
def Dev.challengeAsked (d : Dev) (a : CartAnswer) : Dev :=
  let d := { d with net := { d.net with asked := false } }
  if d.vstate = 2 then d.challengeVerified a d.net.retry else if d.vstate = 3 then d.challengeUnverified a else d

/-- The periodic challenge of Table 3.9, or one that CART_CHAL.go has asked for. -/
def Dev.cartChallenge (d : Dev) (a : CartAnswer) : Dev :=
  if !d.serving then d
  else if d.net.asked then d.challengeAsked a
  else if d.vstate == 2 && d.has 0x02 F.SB_HK_CTRL_en 3 && !d.net.retry then (d.hkRan 3 0).challengeVerified a false
  else d

/-- The repeat of a failed challenge. -/
def Dev.cartRetry (d : Dev) (a : CartAnswer) : Dev :=
  if d.serving && d.net.retry && d.vstate == 2 then d.challengeVerified a true else d

/-- A stored write of CART_OVR (R447). -/
def Dev.overrideEffect (d : Dev) (old : Bool) : Dev :=
  let new := d.on 0x90 F.CART_OVR_en
  let d := if new && !old then d.stat 0x90 20 else d
  ({ d with sec := { d.sec with overrideEver := d.sec.overrideEver || new } }).txLost

/-! ## Ring nodes (R448 to R454) -/

def Dev.ringNode (d : Dev) : Nat := d.rd 0x94 F.RING_CFG_node

/-- The module takes part: it is enabled, its input is locked and no two nodes share a number. -/
def Dev.ringOn (d : Dev) : Bool :=
  d.serving && d.on 0x94 F.PAGE_CTRL_enable && d.on 0x94 F.RING_CFG_en && d.on 0x94 F.RING_STAT_lock &&
    !d.on 0x94 F.RING_STAT_dup

/-- The node acts as the master. -/
def Dev.ringMaster (d : Dev) : Bool := d.on 0x94 F.RING_CFG_master && !d.ring.yielded

/-- The frame version in use: 2 until DISCOVERY has found a lower one. -/
def Dev.ringVer (d : Dev) : Nat := if d.rd 0x94 F.RING_STAT_ver = 1 then 1 else 2

def Dev.modRing (d : Dev) (f : Ring → Ring) : Dev := { d with ring := f d.ring }

/-- A frame of the node's own waits for an IDLE slot. -/
def Dev.ringQueue (d : Dev) (b : FrameBody) : Dev :=
  if d.on 0x94 F.RING_CFG_en then d.modRing fun r => { r with own := r.own ++ [(b, 0)] } else d

/-- A frame period passes in which the node's waiting frames and gathered events do not leave (R452). -/
def Dev.ringAge (d : Dev) : Dev :=
  let n := d.mw.export_.length
  d.modRing fun r => { r with
    own := r.own.map fun x => (x.1, x.2 + 1)
    evAge := (List.range n).map fun i => r.evAge.getD i 0 + 1 }

/-- A frame of the node's own leaves. -/
def Dev.ringSend (d : Dev) (b : FrameBody) : Dev :=
  let f : Frame := ⟨BitVec.ofNat 8 d.ringVer, BitVec.ofNat 4 d.ringNode, d.ring.seq, b, true⟩
  let disc := match b with | .discovery .. => some d.ring.seq | _ => d.ring.disc
  (d.modRing fun r => { r with seq := r.seq + 1, disc := disc }).emit (.ring f)

/-- A frame of the node's own leaves in an IDLE slot after `age` periods; the others wait on. -/
def Dev.ringLeaves (d : Dev) (b : FrameBody) (age : Nat) : Dev :=
  let d := if 2 < age then d.bump 0x94 F.RING_CNT_noslot else d
  (d.ringSend b).ringAge

/-- RING_STAT.load after a frame: a percentage over a time that the spec does not give. -/
def Dev.ringLoad (d : Dev) : Dev :=
  let (w, d) := d.fresh
  d.wr 0x94 F.RING_STAT_load (w.toNat % 101)

/-- The repeater passes the ring on: before ready, in DORMANT and while RING_CFG.en is 0, in a module that is not OFF
(R451). -/
def Dev.ringRepeats (d : Dev) : Bool :=
  (d.ready || d.power == 1 || (d.syn 0).on) && !(d.serving && d.on 0x94 F.RING_CFG_en)

/-- A frame that is not IDLE arrives. A repeater passes it on. A node that takes part counts and drops it on a bad CRC, and drops one of
an unknown type (Table 16.5); else removes it where it is the node's own, and forwards it otherwise (R452). Answers whether the node
looks at it. -/
def Dev.ringTake (d : Dev) (f : Frame) (own : Bool) : Bool × Dev :=
  if d.ringRepeats then (false, d.emit (.ring f))
  else if !d.ringOn then (false, d)
  else
    let d := d.ringAge.ringLoad
    if !f.crcOk then (false, d.bump 0x94 F.RING_CNT_crc)
    else if f.body = .other then (false, d)
    else (true, if own then d else d.emit (.ring f))

/-- The node's own frame. -/
def Dev.ringOwn (d : Dev) (f : Frame) : Bool := f.src.toNat == d.ringNode

/-- A DISCOVERY frame. -/
def isDiscovery (b : FrameBody) : Bool := match b with | .discovery .. => true | _ => false

/-- A frame that frame version 1 does not carry (R450). -/
def needsTwo (b : FrameBody) : Bool := match b with | .fingerprint .. | .epoch .. => true | _ => false

/-- Waiting own frames of a kind are dropped. -/
def Dev.ringDrop (d : Dev) (q : FrameBody → Bool) : Dev :=
  d.modRing fun r => { r with own := r.own.filter fun x => !q x.1 }

/-- Another master's frame reaches a node that is configured as master (R449). -/
def Dev.seeMaster (d : Dev) (f : Frame) : Dev :=
  if d.on 0x94 F.RING_CFG_master && !d.ringOwn f then
    let d := (d.wr 0x94 F.RING_STAT_multi 1).stat 0x94 21
    if f.src.toNat < d.ringNode then (d.modRing fun r => { r with yielded := true }).ringDrop isDiscovery else d
  else d

/-- The version that DISCOVERY found is in use, but version 1 while no master is heard (R449, R450). -/
def Dev.showVer (d : Dev) : Dev :=
  let v := if d.on 0x94 F.RING_STAT_nomaster then 1 else d.ring.found
  let d := d.wr 0x94 F.RING_STAT_ver v
  if v = 1 then d.ringDrop needsTwo else d

/-- The node's declared delay in ps (R448). -/
def Dev.declaredPs (d : Dev) : Nat := d.rd 0x94 F.RING_IN_DELAY_ps + Config.passThroughPs

/-- The frame is the DISCOVERY frame that this node sent last. -/
def Dev.ownDiscovery (d : Dev) (f : Frame) : Bool := d.ringOwn f && d.ring.disc == some f.seq

/-- Two nodes share a number: the node ignores the ring (R448). -/
def Dev.showDup (d : Dev) (dup : Bool) : Dev := if dup then (d.wr 0x94 F.RING_STAT_dup 1).stat 0x94 19 else d

/-- What the master reports of a DISCOVERY frame that has come round. -/
def Dev.discovered (d : Dev) (nodes : BitVec 16) (delay : Nat) : Dev :=
  ((d.wr 0x94 F.RING_STAT_loop 1).wr 0x94 F.RING_STAT_nodes (bitsOf 16 nodes.toNat).length).modRing
    fun r => { r with declared := delay }

/-- A DISCOVERY frame passes a node, which adds itself (R448, R450): the version field goes down to the highest version that every
node so far supports, which is 2 here. The master sends the frame that comes back round once more, so that every node learns the
version and of a shared number. Assumption 131, DESIGN CHOICE. Assumption 141, DEDUCED. -/
def Dev.discovery (d : Dev) (f : Frame) : Dev :=
  match f.body with
  | .discovery ver nodes delay dup told =>
    let own := d.ownDiscovery f
    let dup' := dup || (!own && !told && nodes.getLsbD d.ringNode)
    let me : Frame := { f with
      body := .discovery (if ver.toNat < 2 then ver else 2) (nodes ||| BitVec.twoPow 16 d.ringNode) (delay + d.declaredPs) dup' false }
    match d.ringTake (if own || told || !d.ringOn then f else me) own with
    | (false, d) => d
    | (true, d) =>
      let d := d.seeMaster f
      if own && !d.ringMaster then d
      else
        let d := ((d.modRing fun r => { r with found := min ver.toNat 2 }).showVer).showDup dup'
        if own && !told then (d.discovered nodes delay).emit (.ring { f with body := .discovery ver nodes delay dup true }) else d
  | _ => d

/-- A TIME frame leaves at a timebase count that is a multiple of 1024; where the previous one's loop delay was measured, it is
compared with the declared one (R453). -/
def Dev.timeSend (d : Dev) (loopPs : Option Nat) : Dev :=
  if d.ringOn && d.ringMaster then
    let d := d.reachTime (1024 * ((d.count.toNat + 1023) / 1024))
    let d := d.ringSend (.time d.now)
    match loopPs with
    | some t =>
      let skew : Int := (t : Int) - d.ring.declared
      let d := d.wr 0x94 F.RING_SKEW (unsigned 32 skew)
      if 500 < skew.natAbs then d.stat 0x94 18 else d
    | none => d
  else d

/-- The timebase takes ring time, in 1/1024 ns (R453, R454). -/
def Dev.adopt (d : Dev) (target : Nat) : Dev :=
  let count := BitVec.ofNat 48 (target / 1024)
  let step : Int := (count - d.count).toInt
  let d := ({ d with count := count }).modRing fun r => { r with frac := BitVec.ofNat 10 target }
  ((d.wr 0x94 F.RING_TSTEP (unsigned 32 step)).wr 0x94 F.RING_STAT_timed 1).stat 0x94 17

/-- How far a time in 1/1024 ns lies ahead of the timebase, whose count wraps (R269). -/
def Dev.ringOff (d : Dev) (target : Nat) : Int :=
  (BitVec.ofNat 58 target - (d.now.setWidth 58 + d.ring.frac.setWidth 58)).toInt

/-- A TIME frame ends the time without a master (R449). -/
def Dev.masterHeard (d : Dev) : Dev :=
  if d.on 0x94 F.RING_STAT_nomaster then (d.wr 0x94 F.RING_STAT_nomaster 0).showVer else d

/-- A TIME frame arrives; `pathPs` is the sum of the declared delays from the master. -/
def Dev.timeFrame (d : Dev) (f : Frame) (pathPs : Nat) : Dev :=
  match f.body with
  | .time stamp =>
    let own := d.ringOwn f
    match d.ringTake f own with
    | (false, d) => d
    | (true, d) =>
      let d := (d.seeMaster f).masterHeard
      if own || d.ringMaster then d
      else
        -- in 1/1024 ns
        let target := stamp.toNat + (1024 * pathPs + 500) / 1000
        let off := (d.ringOff target).natAbs
        if d.on 0x94 F.RING_STAT_timed && decide (1000 * off ≤ 200 * 1024) then d else d.adopt target
  | _ => d

/-- No TIME or DISCOVERY frame for 10 ms (R449). A master, whose own frames do not come back either, then finds the loop broken (R451;
assumption 131). -/
def Dev.noMaster (d : Dev) : Dev :=
  if d.serving && d.on 0x94 F.RING_CFG_en && d.on 0x94 F.RING_STAT_lock then
    let d := if d.ringMaster then d.wr 0x94 F.RING_STAT_loop 0 else d
    ((d.wr 0x94 F.RING_STAT_nomaster 1).wr 0x94 F.RING_STAT_timed 0).showVer.stat 0x94 22
  else d

/-- A stored write of RING_CFG (R448, R449). -/
def Dev.ringConfig (d : Dev) : Dev :=
  let d := (d.wr 0x94 F.RING_STAT_multi 0).wr 0x94 F.RING_STAT_dup 0
  let d := d.modRing fun r => { r with yielded := false, own := [] }
  if d.on 0x94 F.RING_CFG_en && d.on 0x94 F.RING_CFG_master then
    d.ringQueue (.discovery 2 (BitVec.twoPow 16 d.ringNode) d.declaredPs false false)
  else d

/-- An IDLE frame arrives: the node's own next frame takes its place, gathered events first (R346, R452).
Assumption 91, DEDUCED. -/
def Dev.idleFrame (d : Dev) : Dev :=
  if !d.ringOn then d
  else
    let d := d.ringLoad
    if !d.mw.export_.isEmpty then
      let es := d.mw.export_.take 24
      let age := (d.ring.evAge.take 24).foldl max 0
      let d := { d with mw := { d.mw with export_ := d.mw.export_.drop 24 }, ring := { d.ring with evAge := d.ring.evAge.drop 24 } }
      d.ringLeaves (.event es) age
    else
      match d.ring.own with
      | (b, age) :: r => (d.modRing fun x => { x with own := r }).ringLeaves b age
      | [] => d

/-- The ring input locks, or loses lock. -/
def Dev.ringLock (d : Dev) : Dev := if d.serving then d.wr 0x94 F.RING_STAT_lock 1 else d

def Dev.ringUnlock (d : Dev) : Dev :=
  if d.on 0x94 F.RING_STAT_lock then ((d.wr 0x94 F.RING_STAT_lock 0).wr 0x94 F.RING_STAT_loop 0).stat 0x94 16 else d

/-- An EVENT frame arrives: events on channels whose import bit is set are raised with one hop more (R347). A locked channel
blocks them at the raise (R344). A WAKE frame, or one of an unknown type, has no effect of its own here. -/
def Dev.eventFrame (d : Dev) (f : Frame) : Dev :=
  match f.body with
  | .event es =>
    let own := d.ringOwn f
    match d.ringTake f own with
    | (false, d) => d
    | (true, d) =>
      if own then d
      else
        es.foldl
          (fun d e =>
            if d.bit 0x80 (0xE0 + 4 * (e.1.toNat / 32)) (e.1.toNat % 32) && decide (e.2 < 7) then
              d.raiseAs .ring e.1.toNat f.src.toNat (e.2 + 1)
            else d) d
  | .wake | .other => (d.ringTake f (d.ringOwn f)).2
  | _ => d

/-! ## Fingerprints (R455 to R457) -/

/-- CRC-64/ECMA-182 over bytes. -/
def crc64 (bs : Bytes) : BitVec 64 :=
  bs.foldl
    (fun c b =>
      (List.range 8).foldl
        (fun (c : BitVec 64) _ => if c.getLsbD 63 then (c <<< 1) ^^^ 0x42F0E1EBA9EA3693 else c <<< 1)
        (c ^^^ ((b.setWidth 64 : BitVec 64) <<< (56 : Nat)))) (0 : BitVec 64)

/-- The pages selected in eight bit-set registers from an offset of page 0x0B. -/
def Dev.pagesAt (d : Dev) (off : Nat) : List Nat :=
  (List.range 256).filter fun p => d.bit 0x0B (off + 4 * (p / 32)) (p % 32)

/-- A page's bytes in the fingerprint. -/
def Dev.pagePrint (d : Dev) (p : Nat) : Bytes :=
  natBytes 4 p ++ (List.range 240).flatMap fun i =>
    wordBytes (d.view .mc p (0x040 + 4 * i) &&& rwBits p (0x040 + 4 * i))

def Dev.fingerprint (d : Dev) : BitVec 64 := crc64 ((d.pagesAt 0x044).flatMap d.pagePrint)

/-- A word is covered by the fingerprint. -/
def Dev.covered (d : Dev) (p off : Nat) : Bool :=
  decide (0x040 ≤ off) && decide (off < 0x400) && d.bit 0x0B (0x044 + 4 * (p / 32)) (p % 32)

/-- A millisecond begins: the computation starts. -/
def Dev.printStart (d : Dev) : Dev :=
  if d.serving then
    (d.reachTime (1000000 * ((d.count.toNat + 999999) / 1000000))).modRing
      fun r => { r with computing := true, touched := false }
  else d

def Dev.fpNow (d : Dev) : BitVec 64 := BitVec.ofNat 64 (d.rd 0x0B F.FP_NOW_LO + 2 ^ 32 * d.rd 0x0B F.FP_NOW_HI)
def Dev.fpExpect (d : Dev) : BitVec 64 := BitVec.ofNat 64 (d.rd 0x0B F.FP_EXPECT_LO + 2 ^ 32 * d.rd 0x0B F.FP_EXPECT_HI)

/-- The comparison of FP_CFG.mode; with no publication of the reference node yet, the result stays.
Assumption 92, DEDUCED. -/
def Dev.fpMatch (d : Dev) : Bool :=
  let old := d.on 0x0B F.FP_STAT_match
  if d.rd 0x94 F.RING_STAT_ver = 1 then old
  else
    match d.rd 0x0B F.FP_CFG_mode with
    | 0 => true
    | 1 => d.fpNow == d.fpExpect
    | _ =>
      match d.ring.pubs.find? fun x => x.1 == d.rd 0x0B F.FP_CFG_ref with
      | some (_, fp, ep) => fp == d.fpNow && ep.toNat == d.rd 0x0B F.EP_CUR_num
      | none => old

/-- A node's publication is seen (R457). -/
def Dev.publish (d : Dev) (n : Nat) (fp : BitVec 64) (ep : BitVec 16) (ok settled : Bool) : Dev :=
  let d := if settled then d.modRing fun r => { r with pubs := (r.pubs.filter fun x => x.1 != n) ++ [(n, fp, ep)] } else d
  if settled && d.has 0x0B F.FP_MISMATCH_nodes n == ok then
    ((d.fbit 0x0B F.FP_MISMATCH_nodes n (!ok)).stat 0x0B 16).raiseSys 255
  else d

/-- The computation ends (R456, R457). -/
def Dev.printDone (d : Dev) : Dev :=
  if !d.serving || !d.ring.computing then d
  else
    let touched := d.ring.touched
    let d := d.modRing fun r => { r with computing := false, touched := false }
    let (fp, d) :=
      if touched then
        -- what the computation met of the change is open
        let (a, d) := d.fresh
        let (b, d) := d.fresh
        (b ++ a, d)
      else (d.fingerprint, d)
    let d := (d.wrPair 0x0B F.FP_NOW_LO F.FP_NOW_HI fp).wr 0x0B F.FP_STAT_unsettled touched.toNat
    let d := if touched then d.stat 0x0B 18 else d.wr 0x0B F.FP_STAT_match d.fpMatch.toNat
    if d.ringOn && d.ringVer == 2 then
      let ok := d.on 0x0B F.FP_STAT_match
      let ep := BitVec.ofNat 16 (d.rd 0x0B F.EP_CUR_num)
      (d.publish d.ringNode fp ep ok !touched).ringQueue (.fingerprint fp ep ok !touched)
    else d

/-- A FINGERPRINT frame arrives. -/
def Dev.printFrame (d : Dev) (f : Frame) : Dev :=
  match f.body with
  | .fingerprint fp ep ok settled =>
    let own := d.ringOwn f
    match d.ringTake f own with
    | (false, d) => d
    | (true, d) => if own || d.ringVer == 1 then d else d.publish f.src.toNat fp ep ok settled
  | _ => d

/-! ## Epochs (R458, R459) -/

def Dev.epAt (d : Dev) : Nat := d.rd 0x0B F.EP_AT_LO + 2 ^ 32 * d.rd 0x0B F.EP_AT_HI_count

/-- An epoch's result is recorded and reported: 1 OK, 2 REFUSED, 3 LATE, 4 CANCELLED. -/
def Dev.epResult (d : Dev) (r : Nat) : Dev :=
  (((d.wr 0x0B F.EP_STAT_armed 0).wr 0x0B F.EP_STAT_result r).stat 0x0B 17).raiseSys 255

/-- The node arms, unless less than 10 µs remain. -/
def Dev.epArm (d : Dev) : Dev :=
  if d.epAt < d.count.toNat + 10000 then d.epResult 3 else d.wr 0x0B F.EP_STAT_armed 1

/-- The staging store and EP_STAT.entries. -/
def Dev.setStore (d : Dev) (s : List (Nat × Word)) : Dev :=
  (d.modRing fun r => { r with store := s }).wr 0x0B F.EP_STAT_entries s.length

/-- A write of EP_CTRL that is refused because of state. -/
def Dev.epCtrlBad (d : Dev) (m : Master) (stage arm broadcast : Bool) : Bool :=
  (stage && d.on 0x0B F.EP_CTRL_stage && d.rd 0x0B F.EP_STAT_master != m.id) ||
    ((arm || broadcast) && d.rd 0x0B F.EP_NUM_num == 0) || (broadcast && d.rd 0x94 F.RING_STAT_ver == 1)

/-- A stored write of EP_CTRL. -/
def Dev.epCtrl (d : Dev) (m : Master) (was arm broadcast cancel : Bool) : Dev :=
  let d := if d.on 0x0B F.EP_CTRL_stage && !was then
      (d.wr 0x0B F.EP_STAT_master m.id).wr 0x0B F.EP_STAT_overflow 0 else d
  let d := if broadcast then
      d.ringQueue (.epoch (BitVec.ofNat 16 (d.rd 0x0B F.EP_NUM_num)) (BitVec.ofNat 48 d.epAt)) else d
  let d := if arm || broadcast then d.epArm else d
  if cancel then ((d.setStore []).wr 0x0B F.EP_CTRL_stage 0).epResult 4 else d

/-- An EPOCH frame arrives. -/
def Dev.epochFrame (d : Dev) (f : Frame) : Dev :=
  match f.body with
  | .epoch num at_ =>
    let own := d.ringOwn f
    match d.ringTake f own with
    | (false, d) => d
    | (true, d) =>
      if !own && d.ringVer == 2 && d.on 0x0B F.EP_CTRL_stage && num.toNat == d.rd 0x0B F.EP_NUM_num && num != 0 then
        ((d.wr 0x0B F.EP_AT_LO (at_.toNat % 2 ^ 32)).wr 0x0B F.EP_AT_HI_count (at_.toNat / 2 ^ 32)).epArm
      else d
  | _ => d

/-- A write goes to the staging store rather than to its register (R458). -/
def Dev.staged (d : Dev) (m : Master) (p off : Nat) : Bool :=
  d.on 0x0B F.EP_CTRL_stage && d.rd 0x0B F.EP_STAT_master == m.id && p != 0x0B &&
    d.bit 0x0B (0x080 + 4 * (p / 32)) (p % 32) && decide (0x040 ≤ off) && decide (off < 0x400)

/-- A staged write that is refused: narrow, or of a register with a KY, W1, LK, PV or CK field. -/
def stageBad (p off : Nat) (narrow : Bool) : Bool :=
  narrow || bitsWhere p off (fun f => f.ky || f.acc == .w1 || f.lk || f.pv || f.ck) != 0

/-- The store takes a write, in ascending address order; a full one refuses a new address. -/
def Dev.stage (d : Dev) (p off : Nat) (w : Word) : Dev :=
  let a := addrOf p off
  let s := d.ring.store
  if s.any (fun x => x.1 == a) || decide (s.length < 1024) then d.setStore (tabInsert s a w)
  else (d.wr 0x0B F.EP_STAT_overflow 1).stateReject p

end Sys2Proof.Machine
end

