-- ==== Sys2Proof/Machine/Bus.lean ====
section
/-! DEFINITION. The decision on every register write (spec/02_register_pages_and_protection.md R25 to R45, R485): the access
checks of Table 2.5, the levels, the blocks' state rules and the stated ranges. What an accepted write does is in Effect. -/
namespace Sys2Proof.Machine

/-! ## The write as a register sees it (R28, R32, R40) -/

/-- A master's write can change a field: its kind, PV (R40), and the header words that some pages do not have (Table 2.3). -/
def Dev.canWrite (d : Dev) (m : Master) (p off : Nat) (f : Field) : Bool :=
  f.writable && !(f.pv && !d.privileged m) && !(off == 0x020 && !isPriv p) && !(off == 0x024 && !isOwned p) &&
    !(off == 0x008 && f.lo == 2 && !hasBasic p)

/-- The bits of a register that a master's write can change; bits 1 and 2 of PROT_AUTOTHAW ignore writes (Table 2.7). -/
def Dev.writeMask (d : Dev) (m : Master) (p off : Nat) : Word :=
  bitsWhere p off (d.canWrite m p off) &&& (if p = 0x08 ∧ off = 0x048 then 0xFFFFFFF9 else 0xFFFFFFFF)

/-- A write as a block sees it: `new` holds the enabled bytes' data in the fields that the write can change. -/
def Dev.mkWr (d : Dev) (m : Master) (p off : Nat) (be : BitVec 4) (data : Word) : Wr :=
  let old := d.reg (addrOf p off)
  let k := d.writeMask m p off &&& beMask be
  ⟨m, p, off, be, old, (old &&& ~~~k) ||| (data &&& k)⟩

/-! ## Access checks (Table 2.5) -/

/-- R40, and an unprivileged block reset of a privileged page (R39). Assumption 107, DEDUCED. -/
def Dev.failsPriv (d : Dev) (w : Wr) (data : Word) : Bool :=
  let ones := data &&& beMask w.be
  !d.privileged w.m &&
    ((ones &&& bitsWhere w.p w.off fun f => f.pv && f.writable && !((w.off == 0x020) && !isPriv w.p)) != 0 ||
      (w.off == 0x008 && isPriv w.p && ones.getLsbD 1))

/-- R45. -/
def Dev.failsOwner (d : Dev) (w : Wr) : Bool :=
  isOwned w.p && !d.privileged w.m &&
    (let valid := d.on w.p F.PAGE_OWNER_valid
     let mine := d.rd w.p F.PAGE_OWNER_owner == w.m.id
     if 0x040 ≤ w.off ∧ w.off < 0x400 then valid && !mine
     else if w.off = 0x024 then
       (if valid then !mine && w.new != w.old else w.val F.PAGE_OWNER_valid == 1 && w.val F.PAGE_OWNER_owner != w.m.id)
     else false)

/-- The enabled bytes reach a field of a kind. -/
def Wr.reaches (w : Wr) (q : Field → Bool) : Bool := bitsWhere w.p w.off q &&& beMask w.be != 0

/-- The write changes a field of a kind. -/
def Wr.changes (w : Wr) (q : Field → Bool) : Bool := (w.old ^^^ w.new) &&& bitsWhere w.p w.off q != 0

/-- R42: a W1 field that no longer holds its Reset value is written, and changes no more. -/
def failsOnce (w : Wr) : Bool :=
  w.changes fun f => f.acc == .w1 && f.get w.old != f.rst && f.get w.old != f.get w.new

/-- The Turnstile of an offset of page 0x09. -/
def tsOf (p off : Nat) : Option Nat := if p = 0x09 ∧ 0x200 ≤ off ∧ off < 0x300 then some ((off - 0x200) / 4) else none

/-- R63. Assumption 116, DEDUCED. -/
def Dev.failsRelease (d : Dev) (w : Wr) : Bool :=
  match tsOf w.p w.off with
  | some n =>
    w.be.getLsbD 0 && !w.new.getLsbD 0 && d.taken n && !d.privileged w.m && d.rd 0x09 (tsHolder n) != w.m.id
  | none => false

/-- The first cause of Table 2.5 that a write meets; `narrow` also says that the write is an alias write (R27).
Assumption 28, DEDUCED. -/
def Dev.accessCause (d : Dev) (w : Wr) (data : Word) (narrow : Bool) : Option Nat :=
  if d.failsPriv w data then some 1
  else if d.failsOwner w then some 2
  else if d.on w.p F.PAGE_CTRL_lock && w.reaches Field.lk then some 3
  else if narrow && bitsWhere w.p w.off (fun f => f.t3 || f.ky || f.acc == .w1) != 0 then some 4
  else if failsOnce w then some 5
  else if w.reaches Field.ky && !d.armedBy w.p w.m then some 6
  else if w.off == 0x018 && isKeyed w.p && (narrow || data != pageKey w.p) then some 7
  else if d.on w.p F.PAGE_CTRL_check_en && w.changes Field.ck then some 8
  else if d.failsRelease w then some 10
  else none

/-! ## State rules (R36, R39, R485 step 3) -/

/-- An act that is ADMITTED or RUNNING names a block (R39). -/
def Dev.blockNamed (d : Dev) (p : Nat) : Bool :=
  let c := if p < 0x58 then (p - 0x54) / 2 else (p - 0x58) / 4
  match blkOf p with
  | some .txl => d.live F.ACT_LANES_tx (p - 0x20)
  | some .rxl => d.live F.ACT_LANES_rx (p - 0x30)
  | some .sq => d.live F.ACT_ENG_sq (p - 0x40)
  | some .ce | some .ceLane | some .mt | some .mtTrg => d.live F.ACT_ENG_ce c
  | some .awg => d.live F.ACT_ENG_aw (p - 0x88)
  | some .ws => d.awgLive
  | some .sd => (List.range 8).any (d.live F.ACT_AUX_sd)
  | some .lg => (List.range 4).any fun k => d.live F.ACT_LANES_tx (4 * (p - 0x1B) + k)
  | _ => d.anyLive

/-- A write of DM_CFG's fields is refused, whatever their values (R283, R295). -/
def Dev.dmCfgBad (d : Dev) (rate : Bool) (hazard : Bool) : Bool :=
  (hazard && (d.anyLive || d.dmaBusy)) ||
    (rate && (d.anyLive || d.on 0x60 F.DM_STAT_migrating ||
      (d.on 0x60 F.DM_STAT_changing && !d.on 0x60 F.DM_STAT_latched)))

/-- GLB_MODE_STAT.reject for a write of a mode: 1 wrong power state, 3 change in progress (R12, R13). -/
def Dev.modeBad (d : Dev) : Option Nat :=
  if d.on 0x00 F.GLB_MODE_STAT_changing then some 3 else if d.power = 2 ∨ d.power = 3 then none else some 1

/-- The bank of the instance at an offset of a cluster page. -/
def bankAt (p off : Nat) : Nat := (p - 0x70) * 8 + (off - 0x100) / 32

/-- A block reset is refused (R38, R39, R310, R400). -/
def Dev.blockResetBad (d : Dev) (p : Nat) : Bool :=
  d.on p F.PAGE_CTRL_reset_busy || d.blockNamed p ||
    (match blkOf p with
     | some .hl | some .dma | some .msix => d.dmaBusy
     | some .mbox => (List.range 64).any fun ch => d.mbState ch == 1 || d.mbState ch == 2
     | some .glb => d.rd 0x00 F.GLB_MODE_mode != 0 && d.modeBad.isSome
     | some .sb | some .acts => (d.rd 0x02 F.SB_STATE_REQ_req != 2 && d.stateReqBad 2) || d.armSynthBad 0
     | some .dm | some .dms =>
       d.dmCfgBad (d.rd 0x60 F.DM_CFG_pin_rate != 1) (d.on 0x60 F.DM_CFG_hazard)
     | some .spc =>
       (List.range 8).any fun k =>
         let b := (p - 0x70) * 8 + k
         d.owner b != 0x3F && d.handoverBad b (bankHome b)
     | _ => false)

/-- The device with a page back at basic level: its expert fields derived again (R35). -/
def Dev.derived (d : Dev) (p : Nat) : Dev :=
  match blkOf p with
  | some .txl => d.txDerive (p - 0x20)
  | some .rxl => d.rxDerive (p - 0x30)
  | _ => d

/-- The synthesizers of a page that software tunes. -/
def pageSynths (p : Nat) : List Nat := if p = 0x1A then [14] else if 0x1B ≤ p ∧ p ≤ 0x1E then [6 + 2 * (p - 0x1B), 7 + 2 * (p - 0x1B)] else []

/-- A synthesizer is in use, so that its settings may not change (R197). -/
def Dev.synUsed (d : Dev) (i : Nat) : Bool := if i = 14 then d.awgLive else d.serves i

/-- A change from expert to basic that would change values which the block holds in use (R35). -/
def Dev.levelBad (d : Dev) (p : Nat) : Bool :=
  match blkOf p with
  | some .txl => d.txLive (p - 0x20) && decide ((d.derived p).regs ≠ d.regs)
  | some .rxl => d.rxLive (p - 0x30) && decide ((d.derived p).regs ≠ d.regs)
  | some .lg | some .ws => (pageSynths p).any fun i => d.synUsed i && decide (d.basicTune i ≠ d.tune i)
  | _ => false

/-- A write of PAGE_CTRL that is refused. -/
def Dev.ctrlBad (d : Dev) (w : Wr) : Bool :=
  (w.cmd F.PAGE_CTRL_block_reset == 1 && d.blockResetBad w.p) ||
    (hasBasic w.p && w.val F.PAGE_CTRL_level == 0 && d.expert w.p && d.levelBad w.p)

/-- SQ_PADDR and SQ_PDATA0 to 3 are among the registers of R97; a LOAD in progress refuses these (R160). -/
def Dev.sqWriteBad (d : Dev) (w : Wr) : Bool :=
  let n := w.p - 0x40
  let held := d.sqLive n || d.sqState n == 1
  if w.off = 0x040 then
    w.cmd F.SQ_CTRL_prepare == 1 && (held || !(d.sqState n == 0 || d.sqState n == 2 || d.sqState n == 6) || !d.armed)
  else if 0x080 ≤ w.off ∧ w.off ≤ 0x090 then held || d.mail.loading.testBit n
  else if w.off = 0x04C then held || (let h := w.val F.SQ_CFG_hot_tiles; h == 0 || decide (16 < h))
  else (w.off == 0x048 || w.off == 0x050) && held

/-- Writes of pages 0x1A to 0x1E that are refused (R188, R197). -/
def Dev.lgWriteBad (d : Dev) (w : Wr) : Bool :=
  let g := w.p - 0x1B
  if 0x100 ≤ w.off then
    d.synUsed (if w.p = 0x1A then 14 else 6 + 2 * g + (w.off - 0x100) / 32)
  else if w.p = 0x1A then w.off == 0x040 && d.awgLive
  else if w.off = 0x040 then d.serves (6 + 2 * g)
  else if w.off = 0x044 then d.serves (7 + 2 * g)
  else if w.off = 0x048 then
    (List.range 4).any fun k => w.old.getLsbD k != w.new.getLsbD k && d.live F.ACT_LANES_tx (4 * g + k)
  else if 0x050 ≤ w.off ∧ w.off < 0x060 then
    let lane := 4 * g + (w.off - 0x050) / 4
    d.fwdOnto lane || (d.tx lane).handoff.isSome
  else false

/-- Writes of the Showbill pages that are refused (R73, R74, R91, R93). -/
def Dev.sbWriteBad (d : Dev) (w : Wr) : Bool :=
  if w.p = 0x03 then
    let s := d.actState ((w.off - 0x100) / 32)
    decide (0x100 ≤ w.off) && decide (1 ≤ s) && decide (s ≤ 3)
  else if w.off = 0x044 then d.stateReqBad (w.val F.SB_STATE_REQ_req)
  else if w.off = 0x048 then d.armSynthBad w.new
  else if w.off = 0x060 then w.cmd F.SB_EMERG_clear == 1 && d.emergClearBad
  else w.off == 0x068 && d.submitBad (w.val F.SB_SUBMIT_slot)

/-- Writes of a scratchpad cluster page that are refused (R309, R312): a bank that is not FREE is not switched off. -/
def Dev.spcWriteBad (d : Dev) (w : Wr) : Bool :=
  if w.off < 0x100 then false
  else
    let b := bankAt w.p w.off
    if (w.off - 0x100) % 32 = 0 then
      w.alters (F.SPB_OWN_owner.at (b % 8)) && d.handoverBad b (w.val (F.SPB_OWN_owner.at (b % 8)))
    else (w.off - 0x100) % 32 == 4 && w.val (F.SPB_PWR_mode.at (b % 8)) == 2 && w.reach (F.SPB_PWR_mode.at (b % 8)) && d.owner b != 0

/-- The refusals that the block chapters state. -/
def Dev.blockStateBad (d : Dev) (w : Wr) : Bool :=
  match blkOf w.p with
  | some .sb | some .acts => d.sbWriteBad w
  | some .fpep =>
    w.off == 0x07C && d.epCtrlBad w.m (w.val F.EP_CTRL_stage == 1) (w.cmd F.EP_CTRL_arm == 1)
      (w.cmd F.EP_CTRL_broadcast == 1)
  | some .mbox => decide (0x400 ≤ w.off) && d.mbBad w.m (mbChan w.p w.off) (mbOff w.off)
  | some .dma =>
    decide (0x100 ≤ w.off) &&
      d.dmaStateBad ((w.p - 0x15) * 4 + (w.off - 0x100) / 64) ((w.off - 0x100) % 64) w.new (beMask w.be)
  | some .refclk => (w.off == 0x040 || w.off == 0x044) && d.anyLive
  | some .ws | some .lg => d.lgWriteBad w
  | some .txl => d.txStateBad (w.p - 0x20) w
  | some .rxl => d.rxStateBad (w.p - 0x30) w
  | some .sq => d.sqWriteBad w
  | some .ce | some .ceLane | some .mt | some .mtTrg => d.blockNamed w.p && w.reaches fun f => f.acc == .rw
  | some .dm =>
    w.off == 0x040 && d.dmCfgBad (w.reach F.DM_CFG_pin_rate) (w.reach F.DM_CFG_hazard)
  | some .spc => d.spcWriteBad w
  | some .q0 => w.off == 0x040 && d.flushBad (w.cmd F.Q_FLUSH_class)
  | some .awg => d.awgStateBad w
  | some .sd => d.sdStateBad w
  | some .cart => w.off == 0x05C && w.cmd F.CART_CHAL_go == 1 && decide (d.vstate < 2)
  | some .ring => w.off == 0x040 && d.anyLive
  | _ => false

/-- The state rules (R36, R39, R54 and the blocks'). -/
def Dev.stateBad (d : Dev) (w : Wr) : Bool :=
  (w.off != 0x008 && d.on w.p F.PAGE_CTRL_reset_busy) || (d.on w.p F.PAGE_CTRL_check_busy && w.reaches Field.ck) ||
    (w.off == 0x008 && d.ctrlBad w) || d.blockStateBad w

/-! ## Ranges (R485 step 4) -/

/-- Combinations of values that the block chapters call out of range beside the fields' own ranges. -/
def Dev.blockRangeBad (d : Dev) (w : Wr) : Bool :=
  match blkOf w.p with
  | some .txl => d.txRangeBad (w.p - 0x20) w
  | some .rxl => rxRangeBad w
  | some .refclk => decide (0x060 ≤ w.off) && decide (w.off < 0x070) && !d.refoutOk w.new
  | some .mt | some .mtTrg =>
    decide (0x400 ≤ w.off) && (w.off - 0x400) % 64 == 0 &&
      (let j := (w.off - 0x400) / 64
       w.val (F.MT_CFG_neg.at j) == 1 && w.val (F.MT_CFG_align.at j) == 1)
  | some .spc =>
    decide (0x100 ≤ w.off) && (w.off - 0x100) % 32 == 0 &&
      (let f := F.SPB_OWN_owner.at ((w.off - 0x100) / 32)
       w.alters f && d.ownerRangeBad (w.val f))
  | some .awg => d.awgRangeBad w
  | _ => false

/-- A value outside a stated range. -/
def Dev.rangeBad (d : Dev) (w : Wr) : Bool :=
  ((fieldsAt w.p w.off).getD []).any (fun f => d.canWrite w.m w.p w.off f && w.reach f && !f.inRange (w.val f)) ||
    d.blockRangeBad w

/-- The level of a page does not take a write of this offset (R33, R34). Assumption 27, DEDUCED. -/
def Dev.levelIgnores (d : Dev) (p off : Nat) : Bool :=
  hasBasic p &&
    (if 0x040 ≤ off ∧ off < 0x100 then d.expert p else decide (0x100 ≤ off) && decide (off < 0x400) && !d.expert p)

end Sys2Proof.Machine
end

