-- ==== Sys2Proof/Machine/Effect.lean ====
section
/-! DEFINITION. What an accepted register write does besides storing its fields, block by block, and block resets
(spec/02_register_pages_and_protection.md R35, R37 to R39, R49 to R51). -/
namespace Sys2Proof.Machine

/-! ## What a stored write does -/

/-- A return of a reference (R174, R177): the loops close on it. The phase that build-out stores is what the device measures.
Assumption 51, DESIGN CHOICE. -/
def Dev.reference (d : Dev) (src : Nat) (offset : Word) : Dev :=
  ((((d.closeLoops src offset).wr 0x18 F.REF_STAT_qualifying 0).wr 0x18 F.REF_STAT_failover 0).stat 0x18 17).raiseSys 247

/-- A stored write of REF_SEL or REF_IN_KHZ (R177). -/
def Dev.referenceWritten (d : Dev) : Dev :=
  let (v, d) := d.fresh
  d.reference (d.rd 0x18 F.REF_SEL_src) v

def Dev.refclkEffect (d : Dev) (w : Wr) : Dev :=
  if w.off = 0x040 then d.referenceWritten
  else if w.off = 0x044 then (if d.rd 0x18 F.REF_SEL_src = 1 then d.referenceWritten else d)
  else if 0x070 ≤ w.off ∧ w.off < 0x080 then
    let n := (w.off - 0x070) / 4
    d.refoutStep n (signed 16 (w.cmd (F.REFOUT_PSTEP_steps.at n)))
  else d

/-- Lanes of a group that belong to no act run on the synthesizer that LG_SEL selects. -/
def Dev.serveIdle (d : Dev) (g : Nat) : Dev :=
  (List.range 4).foldl
    (fun d k =>
      if d.live F.ACT_LANES_tx (4 * g + k) then d
      else d.fbit (0x1B + g) F.LG_STAT_serve k (d.has (0x1B + g) F.LG_SEL_sel k)) d

/-- A SYN block (R181, R198). -/
def Dev.synEffect (d : Dev) (w : Wr) (i : Nat) : Dev :=
  let f (f : Field) : Nat := w.cmd (f.at (synIndex i))
  let o := (w.off - 0x100) % 32
  if o = 0x0C then (if f F.SYN_APPLY_go = 1 then d.synApplyGo i else d)
  else if o = 0x10 then d.synStep i (signed 16 (f F.SYN_PSTEP_steps))
  else d

/-- Pages 0x1A to 0x1E (R166, R188, R197). -/
def Dev.lgEffect (d : Dev) (w : Wr) : Dev :=
  let g := w.p - 0x1B
  if 0x100 ≤ w.off then d.synEffect w (if w.p = 0x1A then 14 else 6 + 2 * g + (w.off - 0x100) / 32)
  else if w.p = 0x1A then (if w.off = 0x040 then d.homeRetune 14 else d)
  else if w.off = 0x040 then d.homeRetune (6 + 2 * g)
  else if w.off = 0x044 then d.homeRetune (7 + 2 * g)
  else if w.off = 0x048 then d.serveIdle g
  else if 0x050 ≤ w.off ∧ w.off < 0x060 then
    let k := (w.off - 0x050) / 4
    let n := 4 * g + k
    (d.setTx n { d.tx n with phaseLeft := (d.tx n).phaseLeft + signed 16 (w.cmd (F.LG_LPHASE_steps.at k)) }).showMoving n
  else d

/-- SQ_PDATA3 stores an entry (R96, R97). -/
def Dev.storeEntry (d : Dev) (n : Nat) : Dev :=
  let p := 0x40 + n
  let i := d.rd p F.SQ_PADDR_entry
  let v := (List.range 4).foldl (fun v k => v + 2 ^ (32 * k) * d.rd p (F.SQ_PDATA.at k)) 0
  ((d.setEntry n i (BitVec.ofNat 128 v)).sqRelease n).wr p F.SQ_PADDR_entry ((i + 1) % 2048)

/-- Sequencer pages (R96 to R98, R127, R218). -/
def Dev.sqEffect (old d : Dev) (w : Wr) : Dev :=
  let n := w.p - 0x40
  if w.off = 0x040 then
    let d := if w.cmd F.SQ_CTRL_prepare = 1 ∧ d.on w.p F.PAGE_CTRL_enable then d.sqPrepareGo n else d
    if w.cmd F.SQ_CTRL_halt_req = 1 ∧ (d.sqState n = 3 ∨ d.sqState n = 4) then d.setSq n { d.sq n with haltReq := true } else d
  else if w.off = 0x050 then (if n < 16 then d.errRecheck old n else d)
  else if w.off = 0x090 then d.storeEntry n
  else d

/-- Pages 0x02 and 0x03. -/
def Dev.sbEffect (d : Dev) (w : Wr) : Dev :=
  if w.p = 0x03 then
    let s := (w.off - 0x100) / 32
    if 0x100 ≤ w.off ∧ 4 ≤ d.actState s then d.wr 0x03 (F.ACT_STAT_state.at s) 0 else d
  else if w.off = 0x044 then d.requestState (w.val F.SB_STATE_REQ_req)
  else if w.off = 0x048 then d.armSynthEffect
  else if w.off = 0x060 then
    (if w.cmd F.SB_EMERG_clear = 1 then (d.wr 0x02 F.SB_EMERG_latched 0).wr 0x02 F.SB_EMERG_cause 0 else d)
  else if w.off = 0x068 then d.submit (w.cmd F.SB_SUBMIT_slot)
  else if w.off = 0x06C then d.abortActs (w.cmd F.SB_ABORT_mask)
  else d

/-- PROT_THAW and VLOG_POP (R58, R59). -/
def Dev.protEffect (d : Dev) (w : Wr) : Dev :=
  if w.off = 0x044 then
    (List.range 8).foldl (fun d n => if (w.cmd F.PROT_THAW_mask).testBit n && d.frozen (Master.ofId n) then d.thaw (Master.ofId n) else d) d
  else if w.off = 0x05C ∧ w.cmd F.VLOG_POP_pop = 1 then { d with prot := { d.prot with vlog := d.prot.vlog.drop 1 } }
  else d

/-- The message of one vector that waits goes out once nothing holds it (R380), nor waits for CL0 (R402). -/
def Dev.flushVector (d : Dev) (v : Nat) : Dev :=
  if d.has 0x17 (pbaField v) (v % 32) && !d.msixHeld v && !d.mail.asleep.contains v then (d.fbit 0x17 (pbaField v) (v % 32) false).sendMsix v else d

/-- Page 0x60 (R283, R295, R304, R305). -/
def Dev.dmEffect (d : Dev) (w : Wr) : Dev :=
  if w.off = 0x040 then
    (if w.reach F.DM_CFG_pin_rate then d.pinRate (w.val F.DM_CFG_pin_rate) else d).showCeil
  else if w.off = 0x05C then
    d.startQuery (w.val F.DM_TILEQ_tile)
  else if w.off = 0x06C ∧ w.cmd F.DM_TLOG_POP_pop = 1 then d.tlogPop
  else d

/-- Cluster pages (R310, R312). -/
def Dev.spcEffect (d : Dev) (w : Wr) : Dev :=
  if w.off < 0x100 then d
  else
    let b := bankAt w.p w.off
    if (w.off - 0x100) % 32 = 0 then
      (if w.alters (F.SPB_OWN_owner.at (b % 8)) then d.handover b ((F.SPB_OWN_owner.at (b % 8)).get w.old) else d)
    else if (w.off - 0x100) % 32 = 4 ∧ w.reach (F.SPB_PWR_mode.at (b % 8)) then d.powerMode b (w.val (F.SPB_PWR_mode.at (b % 8)))
    else d

/-- Queue pages (R326 to R328, R330). -/
def Dev.queueEffect (d : Dev) (w : Wr) : Dev :=
  if w.off < 0x100 then (if w.p = 0x78 ∧ w.off = 0x040 then d.qFlush (w.cmd F.Q_FLUSH_class) else d)
  else
    let q := (w.p - 0x78) * 2 + (w.off - 0x100) / 64
    let o := (w.off - 0x100) % 64
    if o = 0x0C then (if w.reach (F.Q_WM_entries.at (q % 2)) then d.watermark q 0 else d)
    else if o = 0x28 then (if q = 4 then d.q4Push w.new.toNat else d)
    else if o = 0x2C ∧ 5 ≤ q ∧ w.cmd (F.Q_DROP_drop.at (q % 2)) = 1 then d.qDrop q
    else d

/-- Page 0x90 (R444, R447). -/
def Dev.cartEffect (d : Dev) (w : Wr) : Dev :=
  if w.off = 0x05C then
    (if w.cmd F.CART_CHAL_go = 1 then { d with net := { d.net with asked := true } } else d)
  else if w.off = 0x100 then d.overrideEffect (F.CART_OVR_en.get w.old == 1)
  else d

/-- Page 0x94 (R448, R451). -/
def Dev.ringEffect (d : Dev) (w : Wr) : Dev :=
  if w.off = 0x040 then d.ringConfig
  else if w.off = 0x058 ∧ w.cmd F.RING_WAKE_send = 1 then d.ringQueue .wake
  else d

/-- What a stored write of a block's own register does; `old` is the device before it. -/
def Dev.blockEffect (old d : Dev) (w : Wr) : Dev :=
  match blkOf w.p with
  | some .glb => if w.off = 0x040 ∧ (w.val F.GLB_MODE_mode ≠ d.mode ∨ d.on 0x00 F.GLB_MODE_STAT_changing) then d.startMode (w.val F.GLB_MODE_mode)
    else d
  | some .sb | some .acts => d.sbEffect w
  | some .prot => d.protEffect w
  | some .turn =>
    match tsOf w.p w.off with
    | some n => if w.be.getLsbD 0 && !w.new.getLsbD 0 then d.release n else d
    | none => d
  | some .thaw => if w.off = 0x044 ∧ w.cmd F.THAW_REQ_req = 1 then d.thawAsk w.m else d
  | some .fpep =>
    if w.off = 0x07C then
      d.epCtrl w.m (F.EP_CTRL_stage.get w.old == 1) (w.cmd F.EP_CTRL_arm == 1) (w.cmd F.EP_CTRL_broadcast == 1)
        (w.cmd F.EP_CTRL_cancel == 1)
    else d
  | some .mbox => if 0x400 ≤ w.off then d.mbEffect (mbChan w.p w.off) (mbOff w.off) w.new (w.be.getLsbD 0) else d
  | some .secMeas => if w.off = 0x040 then d.showMeasurement else d
  | some .dma =>
    if 0x100 ≤ w.off then
      let k := (w.off - 0x100) / 64
      d.dmaEffect ((w.p - 0x15) * 4 + k) ((w.off - 0x100) % 64)
        w.new ((w.off - 0x100) % 64 == 0x14 && w.cmd (F.DMA_CTRL_abort.at k) == 1)
    else d
  | some .msix => if 0x400 ≤ w.off ∧ (w.off - 0x400) % 16 = 12 then d.flushVector ((w.off - 0x400) / 16) else d
  | some .refclk => d.refclkEffect w
  | some .ws | some .lg => d.lgEffect w
  | some .txl => d.txEffect (w.p - 0x20) w
  | some .rxl => d.rxEffect old (w.p - 0x30) w
  | some .sq => Dev.sqEffect old d w
  | some .dm => d.dmEffect w
  | some .spc => d.spcEffect w
  | some .q0 | some .q1 => d.queueEffect w
  | some .mw => d.mwEffect w
  | some .lut => d.lutEffect w
  | some .awg => d.awgEffect w
  | some .sd => d.sdEffect w
  | some .cart => d.cartEffect w
  | some .ring => d.ringEffect w
  | _ => d

/-! ## Block reset (R37, R38) -/

/-- Blocks whose RO fields show machinery that the block reset itself returns to its power-up condition.
Assumption 95, DEDUCED. -/
def roResets (p off : Nat) : Bool :=
  match blkOf p with
  | some .sq | some .txl | some .rxl | some .ce | some .ceLane | some .mt | some .mtTrg | some .mbox | some .dma | some .lg
  | some .ws | some .awg | some .lut | some .mw | some .mwStat | some .msix => true
  | some .q0 | some .q1 => decide (0x118 ≤ off)
  | some .sd => decide (0x100 ≤ off)
  | some .mon => true
  | _ => false

/-- The bits of a register that a block reset keeps (R38). The owner of a scratchpad bank changes by its handover alone (R310). -/
def keptBits (p off : Nat) : Word :=
  if off < 0x040 then (if off = 0x008 then 0x630 else if off = 0x00C then 0 else 0xFFFFFFFF)
  else if blkOf p = some .spc ∧ 0x100 ≤ off ∧ (off - 0x100) % 32 = 0 then 0xFFFFFFFF
  else bitsWhere p off fun f => f.acc == .w1 || (f.acc == .ro && !roResets p off)

/-- A register's Reset value now, with cal fields from the calibration set in store (R38, R432). -/
def Dev.resetNow (d : Dev) (p off : Nat) : Word :=
  match blkOf p with
  | some .rxl => if off = 0x110 ∨ off = 0x424 then d.calField p off &&& 0x3F3F else resetWord (addrOf p off)
  | some .awg => if off = 0x058 then d.calField p off &&& 0xFFFF else resetWord (addrOf p off)
  | _ => resetWord (addrOf p off)

/-- The registers with fields marked cal, as page and offset. -/
def calLoads : List (Nat × Nat) :=
  ((List.range 16).flatMap fun n => [(0x30 + n, 0x110), (0x30 + n, 0x424)]) ++ (List.range 4).map fun k => (0x88 + k, 0x058)

/-- A register's cal value is the one now in effect (R432). -/
def Dev.loadedNow (d : Dev) (p off : Nat) : Dev :=
  { d with sec := { d.sec with loaded := tabInsert d.sec.loaded (addrOf p off) (d.resetNow p off) } }

/-- The registers of a page return to their Reset values, but for what R38 keeps; reset_busy is 1. -/
def Dev.clearPage (d : Dev) (p : Nat) : Dev :=
  let back (d : Dev) (off : Nat) : Dev := d.putBits (addrOf p off) (~~~(keptBits p off)) (d.resetNow p off)
  let d := d.regs.foldl (fun d e => if e.1 / 65536 = p then back d (e.1 % 65536) else d) d
  let d := (calLoads.filter fun x => x.1 == p).foldl (fun d x => (back d x.2).loadedNow p x.2) d
  d.wr p F.PAGE_CTRL_reset_busy 1

/-- A lane group's or WS0's synthesizers return to their power-up condition; one that SB_ARM_SYNTH keeps powered starts again. -/
def Dev.resetSynths (d : Dev) (p : Nat) : Dev :=
  (pageSynths p).foldl
    (fun d i =>
      let d := (d.setSyn i Syn.init).setLocked i false
      if (d.power = 3 ∨ d.power = 4) && d.bit 0x02 0x048 (i - 6) then d.synStart i else d) d.showRecal

/-- The banks of a cluster that are not FAILED go to their owners of R308 (R310). -/
def Dev.resetBanks (d : Dev) (p : Nat) : Dev :=
  (List.range 8).foldl
    (fun d k =>
      let b := (p - 0x70) * 8 + k
      let old := d.owner b
      if old = 0x3F then d else (d.wr p (F.SPB_OWN_owner.at k) (bankHome b)).handover b old) d

/-- What a block reset does beyond its registers, once for the block; `old` is the device before it. -/
def Dev.resetBlock (old d : Dev) (p : Nat) : Dev :=
  match blkOf p with
  | some .glb => if old.rd 0x00 F.GLB_MODE_mode ≠ 0 then d.startMode 0 else d
  | some .sb | some .acts =>
    (if old.rd 0x02 F.SB_STATE_REQ_req ≠ 2 then d.requestState 2 else d).armSynthEffect
  | some .therm => d.showPred
  | some .prot | some .turn => (List.range 64).foldl Dev.release d
  | some .fpep =>
    let d := d.putBits (addrOf 0x0B 0x0AC) 0xFFFFFFFF 0
    (d.putBits (addrOf 0x0B 0x0B4) 0xFFFFFFFF 0).setStore []
  | some .mbox => { d with mail := { d.mail with order := [], begun := [], loading := 0 } }
  | some .sec | some .secMeas | some .secBare => d.showMeasurement
  | some .hl | some .dma | some .msix => { d with dmas := [] }
  | some .refclk | some .syn =>
    let d := { d with refs := { d.refs with refoutSteps := [] } }
    if old.rd 0x18 F.REF_SEL_src ≠ 0 then d.referenceWritten else d
  | some .ws => d.resetSynths p
  | some .lg =>
    (List.range 4).foldl
      (fun d k => let n := 4 * (p - 0x1B) + k; 
        d.setTx n { d.tx n with moves := 0, handoff := none, target := none, phaseLeft := 0, phaseFrac := 0 }) (d.resetSynths p)
  | some .txl =>
    let n := p - 0x20
    (d.setTx n Tx.init).txHome n
  | some .rxl =>
    let n := p - 0x30
    let eq := d.rxEq n
    ((d.setRx n Rx.init).setRxEq n eq).rxSettle n
  | some .sq =>
    let n := p - 0x40
    { (d.setSq n Sq.init) with prog := d.prog.filter fun e => e.1 / 2048 != n }
  | some .ce | some .ceLane => d.setCap ((p - 0x54) / 2) Cap.init
  | some .mt | some .mtTrg =>
    let c := (p - 0x58) / 4
    d.setCap c { d.cap c with counts := [], off := 0, seen := 0, timed := false, trig := none }
  | some .dm | some .dms =>
    let d := { d with dm := { d.dm with query := none, waiting := d.dm.waiting.filter fun a => !a.isQuery } }
    (if old.rd 0x60 F.DM_CFG_pin_rate ≠ 1 then d.pinRate 1 else d).showCeil
  | some .spc => d.resetBanks p
  | some .q0 | some .q1 => (List.range 8).foldl Dev.qReset d
  | some .mw | some .mwLock | some .lut | some .mwStat | some .mwBare => { d with mw := Midway.init }
  | some .awg => (d.setAwg (p - 0x88) Awg.init).openInjection
  | some .sd =>
    let d := { d with an := { d.an with applied := [], hold := 0, last := false, spell := false } }
    (List.range 8).foldl
      (fun d k => if old.rd 0x8C (F.SD_CTRL_range.at k) ≠ 0 then d.wr 0x8C (F.SD_STAT_clamp.at k) 1 else d) d
  | some .mon => { d with an := { d.an with seq := 0xFFFFFFFF, input := 31, outside := 0xFFFFFFFF, failures := [] } }
  | some .cart | some .cartB =>
    -- the cartridge qualifies again (R442)
    let d := { d.cartBlank with net := { d.net with retry := false, asked := false } }
    let d := if old.rd 0x90 F.CART_STAT_vstate = 0 then d else d.cartChanged
    d.overrideEffect (old.on 0x90 F.CART_OVR_en)
  | some .sn => d.settlePaths.openInjection
  | some .ring => d.ringConfig
  | _ => d

/-- An accepted block reset; `old` is the device before the write that asked for it. Its end is a command of its own. -/
def Dev.blockReset (old d : Dev) (p : Nat) : Dev := Dev.resetBlock old ((blockPages p).foldl Dev.clearPage d) p

/-! ## PAGE_CTRL (Table 2.3, R35, R46, R54) -/

/-- A block is forced off, or allowed on again (assumption 24): a lane idles or receives no more, a sequencer stops and holds nothing, a
capture engine stores nothing and matchers and trigger sequencers stand while it lasts, synthesizers lose their power, a sideband
DAC's outputs open. -/
def Dev.enableEffect (d : Dev) (p : Nat) : Dev :=
  let on := d.on p F.PAGE_CTRL_enable
  match blkOf p with
  | some .sq =>
    let n := p - 0x40
    if on then d
    else
      let d := ((d.blockEnd n false).sqFinish n).sqLaneIdle n
      let d := ((d.setSqState n 0).setSq n { d.sq n with hot := [], prepared := false, prep := none }).wr p F.SQ_HOT_targets 0
      let d := d.wr p F.SQ_HOT_tiles 0
      if n < 16 then d else d.openInjection
  | some .ws | some .lg =>
    (pageSynths p).foldl
      (fun d i =>
        if !on then d.synStop i
        else if (d.power = 3 ∨ d.power = 4) && d.bit 0x02 0x048 (i - 6) then d.synStart i else d) d
  | some .txl => if on then d else d.txIdle (p - 0x20)
  | some .rxl => d.rxSettle (p - 0x30)
  | some .awg => d.openInjection
  | some .sd => if on then d else (List.range 8).foldl (fun d k => d.sdOut k 0) d
  | _ => d

/-- A page returns to basic level: its expert fields are derived again and applied as one write (R35). CART_OVR.en has no basic field and
stays. Assumption 125, DESIGN CHOICE. -/
def Dev.levelEffect (old d : Dev) (p : Nat) : Dev :=
  match blkOf p with
  | some .txl =>
    let n := p - 0x20
    let d := (d.txDerive n).showRlm n
    if d.txLive n then d else d.txHome n
  | some .rxl =>
    let n := p - 0x30
    let new := d.rxDerive n
    let new := new.rxRetime n (old.rxPageRate n (old.rxProf n)) (old.rxPageFmt n (old.rxProf n))
    (new.rxEqWrite n).rxSettle n
  | some .lg | some .ws =>
    (pageSynths p).foldl Dev.synBasic d
  | _ => d

/-- A stored write of PAGE_CTRL. -/
def Dev.ctrlEffect (old d : Dev) (w : Wr) : Dev :=
  let p := w.p
  let d := if w.alters F.PAGE_CTRL_enable then d.enableEffect p else d
  let d :=
    if !w.alters F.PAGE_CTRL_level then d
    else if w.val F.PAGE_CTRL_level = 0 then Dev.levelEffect old d p
    else d
  let d := if w.alters F.PAGE_CTRL_check_en ∧ w.val F.PAGE_CTRL_check_en = 0 then d.setDiff p none else d
  let d := if w.cmd F.PAGE_CTRL_commit = 1 then d.wr p F.PAGE_CTRL_check_busy 1 else d
  if w.cmd F.PAGE_CTRL_block_reset = 1 then Dev.blockReset old d p else d

/-- What a stored write does. A KY write uses up the key (R43), and a full word of the key arms it (R46). -/
def Dev.effect (old d : Dev) (w : Wr) : Dev :=
  let d := if w.reaches Field.ky then d.disarm w.p else d
  if w.off = 0x008 then Dev.ctrlEffect old d w
  else if w.off = 0x018 then
    (if isKeyed w.p && w.new == pageKey w.p then
      (d.wr w.p F.PAGE_CTRL_key_armed 1).wr w.p F.PAGE_CTRL_key_master w.m.id
    else d)
  else if w.off < 0x040 then d
  else Dev.blockEffect old d w

end Sys2Proof.Machine
end

