-- ==== Sys2Proof/Machine/Access.lean ====
section
/-! DEFINITION. Accesses of the register fabric (spec/02_register_pages_and_protection.md R25 to R32, R49 to R51, R55, R56,
R485): words, aliases, splitting, reads with their side effects, and accesses of frozen masters. -/
namespace Sys2Proof.Machine

/-! ## Writes -/

/-- An accepted write is stored: WO fields hold nothing, and a write of 1 to a Turnstile is ignored. -/
def Dev.store (d : Dev) (w : Wr) : Dev :=
  if (tsOf w.p w.off).isSome then d
  else
    let k := d.writeMask w.m w.p w.off &&& beMask w.be &&& ~~~(bitsWhere w.p w.off fun f => f.acc == .wo)
    d.putBits (addrOf w.p w.off) k w.new

/-- A write that passed every check is performed. A change of a covered word unsettles a fingerprint that is being computed
(R456). -/
def Dev.apply (d : Dev) (w : Wr) : Dev :=
  let new := Dev.effect d (d.store w) w
  if new.ring.computing && d.covered w.p w.off && decide (d.view .mc w.p w.off ≠ new.view .mc w.p w.off) then
    new.modRing fun r => { r with touched := true }
  else new

/-- A write of GLB_MODE that changes no mode (R12, R13, Table 1.4). -/
def Dev.modeReject (d : Dev) (code : Nat) : Dev :=
  let d := if code = 2 then d else d.stateReject 0x00
  d.wr 0x00 F.GLB_MODE_STAT_reject code

/-- A DMA_HEAD value not below the ring size, whose refusal sets range_reject beside state_reject (R392). -/
def Dev.headOut (d : Dev) (w : Wr) : Bool :=
  blkOf w.p == some .dma && decide (0x100 ≤ w.off) && (w.off - 0x100) % 64 == 12 &&
    d.dmaStateBad ((w.p - 0x15) * 4 + (w.off - 0x100) / 64) 12 w.new (beMask w.be)

/-- A write to a mailbox channel's block that R398 refuses; it need reach no field. -/
def Dev.mbRefuses (d : Dev) (m : Master) (p off : Nat) : Bool :=
  blkOf p == some .mbox && decide (0x400 ≤ off) && decide (off < 0xC00) && d.mbBad m (mbChan p off) (mbOff off)

/-- Steps 2 to 4 of R485, and the write where none of them stops it. Assumption 108, DEDUCED. -/
def Dev.judge (d : Dev) (w : Wr) : Dev :=
  if !w.reaches (d.canWrite w.m w.p w.off) then (if d.mbRefuses w.m w.p w.off then d.stateReject w.p else d)
  else if d.levelIgnores w.p w.off then d.stat w.p 1
  else if w.p = 0x00 ∧ w.off = 0x040 ∧ !d.on 0x00 F.PAGE_CTRL_reset_busy then
    match d.modeBad with
    | some c => d.modeReject c
    | none => if w.val F.GLB_MODE_mode = 3 then d.modeReject 2 else d.apply w
  else if d.stateBad w then
    if d.headOut w then (d.stateReject w.p).rangeReject w.p else d.stateReject w.p
  else if d.rangeBad w then d.rangeReject w.p
  else if w.off = 0x008 ∧ w.p < 0x18 ∧ w.val F.PAGE_CTRL_enable = 0 then
    (d.stateReject w.p).apply { w with new := F.PAGE_CTRL_enable.put w.new 1 }
  else d.apply w

/-- How an alias write presents itself: the bit, and the access as the log records it (R27, R59). -/
structure AliasOf where
  bit : Nat
  addr : Nat
  be : BitVec 4
  data : Word
  deriving DecidableEq, Repr

/-- The factory test controls accept an access: that of DBG, unlocked by the service key (R64). -/
def Dev.factoryHit (d : Dev) (m : Master) (p off : Nat) : Bool :=
  decide (0xF1 ≤ p) && decide (p ≤ 0xFF) && decide (0x040 ≤ off) && m == .dbg && d.on 0x10 F.SEC_DEBUG_unlocked &&
    d.rd 0x10 F.SEC_DEBUG_by == 1

/-- A write at an offset that no table lists does nothing (R8); but in a mailbox channel's block R398 refuses it, and one that the
factory test controls accept may enter a factory test mode (R65). Assumption 94, DESIGN CHOICE. -/
def Dev.writeUnlisted (d : Dev) (m : Master) (p off : Nat) (be : BitVec 4) : Dev :=
  if d.mbRefuses m p off && be != 0 then d.stateReject p
  else if d.factoryHit m p off && be != 0 then
    let (x, d) := d.fresh
    if x.getLsbD 0 then d.wr 0xF0 F.TST_FACTORY_active 1 else d
  else d

/-- A word write that reaches a register (R485). -/
def Dev.writeWord (d : Dev) (m : Master) (p off : Nat) (be : BitVec 4) (data : Word) (al : Option AliasOf) : Dev :=
  if (fieldsAt p off).isNone then d.writeUnlisted m p off be
  else if be == 0 then d
  else
    let w := d.mkWr m p off be data
    let narrow := al.isSome || be != 15
    match d.accessCause w data narrow with
    | some c =>
      let d := if c = 7 ∧ d.armedBy p m then d.disarm p else d
      (match al with
        | some a => d.violation m c p a.addr a.be a.data
        | none => d.violation m c p (addrOf p off) be data)
    | none =>
      if (match al with | some a => !(d.writeMask m p off).getLsbD a.bit | none => false) then d
      else if d.staged m p off then (if stageBad p off narrow then d.stateReject p else d.stage p off data)
      else d.judge w

/-- An alias write of a bit that no write reaches, in a register with no T3, KY or W1 field: it is ignored, and is no violation
(R27). Assumption 27, DEDUCED. -/
def aliasIgnored (p off bit : Nat) : Bool :=
  bitsWhere p off (fun f => f.t3 || f.ky || f.acc == .w1) == 0 &&
    !(bitsWhere p off fun f => f.acc == .rw || f.acc == .wo).getLsbD bit

/-- An alias write is a read-modify-write of the register (R26). The bit's new value lies in byte lane 0. -/
def Dev.writeAlias (d : Dev) (m : Master) (p o : Nat) (be : BitVec 4) (data : Word) : Dev :=
  let off := (o - 0x8000) / 128 * 4
  let bit := (o - 0x8000) % 128 / 4
  if !be.getLsbD 0 || aliasIgnored p off bit then d
  else
    let hide := if d.privileged m then 0 else bitsWhere p off Field.pv
    let old := d.reg (addrOf p off) &&& ~~~hide
    let one := BitVec.twoPow 32 bit
    let word := if data.getLsbD 0 then old ||| one else old &&& ~~~one
    d.writeWord m p off 15 word (some ⟨bit, 65536 * p + o, be, data⟩)

/-- A frozen master's request outside page 0x0A does not reach the registers (Table 2.4). -/
def Dev.barred (d : Dev) (m : Master) (p : Nat) : Bool :=
  d.frozen m && !(p == 0x0A && (m == .host || m == .dbg))

/-- A request is held up behind the others that are. -/
def Dev.hold (d : Dev) (h : Held) : Dev := { d with prot := { d.prot with stalled := d.prot.stalled ++ [h] } }

/-- A request of a frozen master: HOST's and DBG's are over, the others' stall (Table 2.4). Assumption 18, DEDUCED. -/
def Dev.stall (d : Dev) (h : Held) : Dev := if h.master = .host ∨ h.master = .dbg then d else d.hold h

/-- Requests of a master are held up already: later ones queue behind them (Table 2.4, R378). -/
def Dev.queued (d : Dev) (m : Master) : Bool := d.prot.stalled.any fun h => h.master == m

/-- A write of the host's through BAR4. -/
def Ask.posted (a : Ask) : Bool := match a with | .aperture .host _ _ (some _) => true | _ => false

/-- A BAR4 write of the host's that waits for deep memory holds back its later requests of BAR0 and BAR2 (R378). Assumption 126,
DEDUCED. -/
def Dev.postWaits (d : Dev) (m : Master) : Bool := m == .host && d.dm.waiting.any Ask.posted

/-- A request of BAR0 or BAR2 must wait behind its master's earlier ones. -/
def Dev.stalls (d : Dev) (m : Master) : Bool := d.queued m || d.postWaits m

/-- One 32-bit write of BAR0 that nothing of its master's goes before. -/
def Dev.writeNow (d : Dev) (m : Master) (addr : Nat) (be : BitVec 4) (data : Word) : Dev :=
  let p := addr / 65536
  let o := addr % 65536 / 4 * 4
  if d.barred m p then d.stall (.bus ⟨m, true, addr, be, data⟩)
  else if o < 0x1000 then d.writeWord m p o be data none
  else if 0x8000 ≤ o then d.writeAlias m p o be data
  else d

/-- One 32-bit write of BAR0. -/
def Dev.busWrite (d : Dev) (m : Master) (addr : Nat) (be : BitVec 4) (data : Word) : Dev :=
  if !d.heard m then d
  else if d.stalls m then d.hold (.bus ⟨m, true, addr, be, data⟩)
  else d.writeNow m addr be data

/-! ## Triplicated fields (R49 to R51) -/

/-- The T3 fields of a register. -/
def t3Fields (p off : Nat) : List Field :=
  ((fieldsAt p off).getD []).filter Field.t3 |>.map fun f => { f with off := off }

/-- One field is voted: corrected, or without a majority set to its Reset value, which acts at once (R51).
Assumption 29, DEDUCED. -/
def Dev.voteField (d : Dev) (p : Nat) (f : Field) : Dev :=
  let a := addrOf p f.off
  let u := tabGet (fun _ => ((0 : Word), (0 : Word))) d.upset a
  let x := u.1 &&& f.mask
  let y := u.2 &&& f.mask
  if x = 0 ∧ y = 0 then d
  else if x ≠ 0 ∧ y ≠ 0 ∧ x ≠ y then
    let old := d.reg a
    let new := f.put old (f.get (resetWord a))
    let e := d.wr p f (f.get (resetWord a))
    let e := Dev.effect d e ⟨.se, p, f.off, 15, old, new⟩
    let e := ((e.stat p 4).bump 0x08 F.PROT_T3_LOST_count).wr 0x08 F.PROT_T3_LOST_last_page p
    e.raiseSys 240
  else ((d.wr p f (d.rd p f)).stat p 3).bump 0x08 F.PROT_T3_FIXED

/-- The T3 fields of a register are voted. -/
def Dev.vote (d : Dev) (a : Nat) : Dev :=
  (t3Fields (a / 65536) (a % 65536)).foldl (fun d f => d.voteField (a / 65536) f) d

/-- The background sweep. -/
def Dev.sweep (d : Dev) : Dev := d.upset.foldl (fun d e => d.vote e.1) d

/-- Copies 2 and 3 of T3 fields are upset: the bits by which they now differ from copy 1. -/
def Dev.upsets (d : Dev) (us : List (Nat × Word × Word)) : Dev :=
  us.foldl
    (fun d u =>
      let k := bitsWhere (u.1 / 65536) (u.1 % 65536) Field.t3
      { d with upset := tabSet (fun _ => ((0 : Word), (0 : Word))) d.upset u.1 (u.2.1 &&& k, u.2.2 &&& k) }) d

/-! ## Reads -/

/-- Paths whose fault bits a read has cleared, and no others, return to where they belong (R439). -/
def Dev.faultsRead (d : Dev) (cleared : Nat) : Dev :=
  if cleared = 0 then d else (d.settleSome (bitsOf 16 cleared)).openInjection

/-- RC bits that a read clears. -/
def Dev.clearRead (d : Dev) (p off : Nat) (mask : Word) : Dev :=
  let k := bitsWhere p off (fun f => f.acc == .rc) &&& mask
  if k = 0 then d
  else
    let was := d.reg (addrOf p off) &&& k
    let d := d.putBits (addrOf p off) k 0
    if p = 0x92 ∧ off = 0x048 then d.faultsRead was.toNat else d

/-- A read of a word with at least one byte enabled: what it returns, and what it does (R31, R61, R96, R326). -/
def Dev.readWith (d : Dev) (m : Master) (p off : Nat) (be : BitVec 4) : Word × Dev :=
  let d := d.vote (addrOf p off)
  match tsOf p off with
  | some n => if be.getLsbD 0 then d.acquire n m else (d.readWord m p off, d)
  | none =>
    let w := d.readWord m p off
    let q := (p - 0x78) * 2 + (off - 0x100) / 64
    match blkOf p with
    | some .sq =>
      if off = 0x090 then (w, d.wr p F.SQ_PADDR_entry ((d.rd p F.SQ_PADDR_entry + 1) % 2048))
      else (w, d.clearRead p off (beMask be))
    | some .q0 | some .q1 =>
      if 0x100 ≤ off ∧ (off - 0x100) % 64 = 0x18 ∧ 5 ≤ q then d.qReadTag q else (w, d.clearRead p off (beMask be))
    | some .cal =>
      if off = 0x048 then (w, d.wr p F.CAL_ADDR_idx ((d.rd p F.CAL_ADDR_idx + 1) % 1040))
      else (w, d.clearRead p off (beMask be))
    | _ => (w, d.clearRead p off (beMask be))

/-- A read of the alias of a bit (R25, R61): it clears the RC bit that it names whichever byte lane is enabled. Assumption 27,
DEDUCED. -/
def Dev.readAlias (d : Dev) (m : Master) (p o : Nat) (be : BitVec 4) : Word × Dev :=
  let off := (o - 0x8000) / 128 * 4
  let bit := (o - 0x8000) % 128 / 4
  if (fieldsAt p off).isNone then (0, d)
  else if be = 0 then ((d.readWord m p off >>> bit) &&& 1, d)
  else
    let d := d.vote (addrOf p off)
    match tsOf p off with
    | some n => if bit = 0 then d.acquire n m else (0, d)
    | none => ((d.readWord m p off >>> bit) &&& 1, d.clearRead p off (BitVec.twoPow 32 bit))

/-- A read answers its master; the record of it is the model's own. Assumption 20, DESIGN CHOICE. -/
def Dev.answerRead (d : Dev) (m : Master) (w : Word) : Dev := { d with answers := ⟨m, w⟩ :: d.answers }

/-- What the latest read answered. -/
def Dev.rdata (d : Dev) : Word := (d.answers.head?.map Answer.data).getD 0

/-- One 32-bit read of BAR0 that nothing of its master's goes before. -/
def Dev.readNow (d : Dev) (m : Master) (addr : Nat) (be : BitVec 4) : Dev :=
  let p := addr / 65536
  let o := addr % 65536 / 4 * 4
  if d.barred m p then
    (if m = .host ∨ m = .dbg then d.answerRead m 0xFFFFFFFF else d.stall (.bus ⟨m, false, addr, be, 0⟩))
  else if o < 0x1000 then
    (if (fieldsAt p o).isNone then d.answerRead m 0
     else if be = 0 then d.answerRead m (d.readWord m p o)
     else let x := d.readWith m p o be; x.2.answerRead m x.1)
  else if 0x8000 ≤ o then (let x := d.readAlias m p o be; x.2.answerRead m x.1)
  else d.answerRead m 0

/-- One 32-bit read of BAR0. -/
def Dev.busRead (d : Dev) (m : Master) (addr : Nat) (be : BitVec 4) : Dev :=
  if !d.heard m then d
  else if d.stalls m then d.hold (.bus ⟨m, false, addr, be, 0⟩)
  else d.readNow m addr be

/-! ## Splitting (R30) -/

/-- The 32-bit parts of an access of bytes, each with its enable, at an address, in ascending order: address, byte enables and
data. Lanes outside the access are not enabled and carry 0. Assumption 115, DEDUCED. -/
def splitBytes (addr : Nat) (bs : List (Bool × Byte)) : List (Nat × BitVec 4 × Word) :=
  let first := addr / 4
  let last := (addr + bs.length + 3) / 4
  (List.range (last - first)).map fun i =>
    let a := (first + i) * 4
    let lane (k : Nat) : Bool × Byte := if a + k < addr then (false, 0) else bs.getD (a + k - addr) (false, 0)
    (a, BitVec.ofNat 4 ((List.range 4).foldl (fun v k => v + 2 ^ k * (lane k).1.toNat) 0),
      BitVec.ofNat 32 ((List.range 4).foldl (fun v k => v + 2 ^ (8 * k) * (lane k).2.toNat) 0))

/-- A write of bytes, part by part. -/
def Dev.writeBytes (d : Dev) (m : Master) (addr : Nat) (bs : List (Bool × Byte)) : Dev :=
  (splitBytes addr bs).foldl (fun d x => (d.busWrite m (x.1 % 2 ^ 24) x.2.1 x.2.2).cycle) d

/-- A read of bytes with their enables, part by part. -/
def Dev.readBytes (d : Dev) (m : Master) (addr : Nat) (lanes : List Bool) : Dev :=
  (splitBytes addr (lanes.map fun b => (b, 0))).foldl (fun d x => (d.busRead m (x.1 % 2 ^ 24) x.2.1).cycle) d

end Sys2Proof.Machine
end

