-- ==== Sys2Proof/Machine/Startup.lean ====
section
/-! DEFINITION. Power-up, resets, DORMANT and wake (spec/03_power_states_and_showbill.md R66 to R77, R92; spec/10_deep_memory.md
R292, R293; spec/17_package_pins_and_electrical.md R465): what is lost, what is kept, and what the device does before it is
ready. -/
namespace Sys2Proof.Machine

/-! ## What outlives a reset -/

/-- Fuses, one-time-programmable records and stores of the SE that show in registers, as address and mask: slots, counters and
keys (chapter 15), calibration commits, memory repair (chapter 10), scratchpad repair (chapter 11). -/
def Dev.kept (d : Dev) : List (Nat × Word) :=
  [(addrOf 0x10 0x040, 0xF0), (addrOf 0x10 0x048, 0x3F), (addrOf 0x10 0x04C, 0x1FF), (addrOf 0x98 0x040, 0x3FFF0001)] ++
    (List.range 4).flatMap (fun s =>
      [(addrOf (0x61 + s) 0x040, 8), (addrOf (0x61 + s) 0x044, 0xFFFFFFFF)] ++
        (List.range 8).map fun k => (addrOf (0x61 + s) (0x048 + 4 * k), 0xFFFFFFFF)) ++
    (List.range 64).flatMap (fun b =>
      (addrOf (0x70 + b / 8) (0x110 + 32 * (b % 8)), 0xFFFFFFFF) ::
        (if d.owner b = 0x3F then [(addrOf (0x70 + b / 8) (0x100 + 32 * (b % 8)), 0x3F)] else []))

/-- The masked bits of registers of another device state. -/
def Dev.restore (d old : Dev) (ks : List (Nat × Word)) : Dev := ks.foldl (fun d k => d.putBits k.1 k.2 (old.reg k.1)) d

/-- The device after a whole reset: only what outlives it, what has left the device, and the free-value counter.
Assumption 35, DEDUCED. -/
def Dev.wiped (d : Dev) : Dev :=
  let e : Dev := { Dev.reset with
    free := d.free, sent := d.sent, answers := d.answers, rbytes := d.rbytes
    sec := { Sec.init with
      imageA := d.sec.imageA, imageB := d.sec.imageB, activeB := d.sec.activeB, ownerKey := d.sec.ownerKey, cal := d.sec.cal } }
  e.restore d d.kept

/-! ## Starting (Table 3.1) -/

/-- A start-up begins: the self-test's result, the cause, and the band search of the CS loops. -/
def Dev.begin (d : Dev) (post : BitVec 4) (cause : Nat) : Dev :=
  ((d.putBits (addrOf 0xF0 0x040) 0xF (post.setWidth 32)).wr 0x01 F.RST_STAT_cause cause).csSearch

/-- At power-up and RESET_N fields marked cal take their values from the set in store (R432). -/
def Dev.loadCal (d : Dev) : Dev :=
  calLoads.foldl (fun d x => (d.putBits (addrOf x.1 x.2) (~~~(keptBits x.1 x.2)) (d.resetNow x.1 x.2)).loadedNow x.1 x.2) d

/-- After DORMANT the fields marked cal take the values of the latest loads (R432). -/
def Dev.recallCal (d : Dev) : Dev :=
  d.sec.loaded.foldl (fun d x => d.putBits x.1 (~~~(keptBits (x.1 / 65536) (x.1 % 65536))) x.2) d

/-- The SE commits and locks the mailbox bindings (R397). -/
def Dev.bindMail (d : Dev) : Dev :=
  [0x0C, 0x0D, 0x0E, 0x0F].foldl
    (fun d p => ((d.wr p F.PAGE_CTRL_check_busy 1).commitDone p).wr p F.PAGE_CTRL_lock 1) d

/-- A synthesizer that starts with the device is locked; its band is what its search found. -/
def Dev.startLock (d : Dev) (i : Nat) : Dev :=
  let (w, d) := d.fresh
  (d.setSyn i { d.syn i with on := true, job := .search }).synLock i (w.toNat % 64)

/-- The sideband supplies are in their windows (R370). -/
def Dev.showHv (d : Dev) : Dev :=
  d.wr 0x8C F.SD_GSTAT_hv_ok (!d.bill.supplyOut.testBit 11 && !d.bill.supplyOut.testBit 12).toNat

/-- The device becomes ready in STANDBY (R67, R417, R486). Assumption 36, DEDUCED. Assumption 117, DEDUCED. -/
def Dev.comeUp (d : Dev) (us : Word) (okA okB : Bool) : Dev :=
  let d := (List.range 6).foldl Dev.startLock d
  let d := d.wr 0x18 F.CLK_GUARD_safe 0
  let d := d.bindMail.showHv
  let d := (List.range 64).foldl (fun d b => d.setBankState b 0) (d.boot okA okB)
  let d := (d.wr 0x01 F.RST_READY_US us.toNat).wr 0x01 F.RST_STAT_ready 1
  let d := ((d.setPower 2).setTrans .none).wr 0x02 F.SB_STATE_REQ_req 2
  d.commitPower.showMeasurement.dmStart

/-- Power-up (R66, R293). -/
def powerOn (d : Dev) (post : BitVec 4) : Dev × Mem := (d.wiped.begin post 0, Mem.reset)

/-- What RESET_N leaves: the supplies are as they were. -/
def Dev.pinReset (d : Dev) : Dev :=
  let e := d.wiped
  { e with bill := { e.bill with supplyOut := d.bill.supplyOut } }

/-- RESET_N has been low for 100 ns or longer (R70). -/
def resetPin (d : Dev) (m : Mem) (lowNs : Nat) (post : BitVec 4) : Dev × Mem :=
  if lowNs < 100 then (d, m) else (d.pinReset.begin post 1, Mem.reset)

/-- A supply below its reset threshold (R465): the device stays in reset until the supplies are valid again. -/
def supplyDown (d : Dev) : Dev × Mem := (d.wiped, Mem.reset)

/-- The device has finished starting (R66, R67). -/
def Dev.deviceReady (d : Dev) (us : Word) (okA okB : Bool) : Dev :=
  if !d.ready && d.power != 1 && (d.syn 0).on then d.loadCal.comeUp us okA okB else d

/-! ## Supplies (R438, R465) -/

/-- A supply is outside its window, or in it again. -/
def Dev.setSupply (d : Dev) (sup : Nat) (out : Bool) : Dev :=
  { d with bill := { d.bill with supplyOut := withBit d.bill.supplyOut sup out } }

/-- A supply leaves its window; VHVP and VHVN fault the sideband channels (R369). -/
def Dev.windowExit (d : Dev) (sup : Nat) : Dev :=
  let d := d.setSupply sup true
  if !d.serving then d
  else
    let d := d.releasePaths.openInjection.showHv
    let d := (List.range 8).foldl Dev.sdFollow d
    let d := if d.on 0x8C F.SD_GSTAT_hv_ok then d else (List.range 8).foldl (fun d k => d.sdFault k 5) d
    if d.power = 3 ∨ d.power = 4 then d.emergency 3 else d

/-- A supply is in its window again. Assumption 37, DEDUCED. -/
def Dev.windowReturn (d : Dev) (sup : Nat) : Dev :=
  let d := d.setSupply sup false
  if !d.serving then d
  else if d.bill.supplyOut = 0 then d.showHv.settlePaths
  else d.showHv

/-! ## DORMANT (Table 3.4, R76, R77, R92) -/

/-- Eighth `e` of stack `s` is kept: a bit of AON_RETAIN (R77). -/
def eighthKept (retain s e : Nat) : Bool := retain.testBit (8 * s + e)

/-- A tile survives DORMANT: its logical pseudo-channel lies in a physical one that is kept (R292). -/
def Dev.survives (d : Dev) (retain t : Nat) : Bool :=
  eighthKept retain (tileStack t) (d.physical (tileStack t) (tileLpc t) / 4)

/-- The address of a register on pages 0x02 to 0x05, which DORMANT keeps. -/
def aonPage (a : Nat) : Bool := decide (0x02 ≤ a / 65536) && decide (a / 65536 ≤ 0x05)

/-- Registers with pages 0x02 to 0x05 from one table and the rest from another. -/
def keepAon (aon rest : Tab Word) : Tab Word :=
  let keep : List (Nat × Word) := aon.filter fun x => aonPage x.1
  let base : Tab Word := rest.filter fun x => !aonPage x.1
  keep.foldr (fun x t => tabSet resetWord t x.1 x.2) base

/-- The device in DORMANT: pages 0x02 to 0x05, the AON domain and what outlives a reset are kept, and the counts since RESET_N
(R425). Assumption 35, DEDUCED. -/
def Dev.asleep (d : Dev) (retain : Nat) : Dev :=
  let e := d.wiped
  let e := { e with
    regs := keepAon d.regs e.regs
    upset := d.upset.filter fun x => aonPage x.1
    rtc := d.rtc, rtcFrac := d.rtcFrac, bill := d.bill
    tiles := d.tiles.filter fun x => d.survives retain x.1
    dm := { DeepMem.init with flips := d.dm.flips.filter fun x => d.survives retain (x.1 / 4096) }
    sec := { e.sec with loaded := d.sec.loaded, overrideEver := d.sec.overrideEver, mcResets := d.sec.mcResets } }
  let e := (List.range 64).foldl (fun e b => e.setBankState b 2) e
  let e := (e.wr 0x10 F.SEC_VCOUNT (d.rd 0x10 F.SEC_VCOUNT)).wr 0x10 F.SEC_DEBUG_ever (d.rd 0x10 F.SEC_DEBUG_ever)
  let e := (e.wr 0x10 F.SEC_DEBUG_by (d.rd 0x10 F.SEC_DEBUG_by)).wr 0x98 F.CAL_STAT_reload (d.rd 0x98 F.CAL_STAT_reload)
  e.wr 0x60 F.DM_STAT_clearing (decide (retain ≠ 0xFFFFFFFF)).toNat

/-- Tile bytes that survive; the scratchpad is lost. -/
def Mem.asleep (m : Mem) (d : Dev) (retain : Nat) : Mem :=
  ⟨m.tiles.filter fun x => d.survives retain (x.1 / 4096), []⟩

/-- The enabled wake sources among those that fired (Table 3.6). -/
def Dev.wakeEnabled (d : Dev) (src : BitVec 8) : BitVec 8 := src &&& (d.reg (addrOf 0x04 0x044)).setWidth 8

/-- The RTC alarm's level (R76). -/
def Dev.alarm (d : Dev) : Bool :=
  d.on 0x04 F.AON_WAKE_EN_rtc &&
    decide (d.rd 0x04 F.AON_ALARM_LO + 2 ^ 32 * d.rd 0x04 F.AON_ALARM_HI ≤ d.rtc.toNat)

/-- A wake begins. -/
def Dev.wakeBegin (d : Dev) (src : BitVec 8) : Dev :=
  let d := { d with bill := { d.bill with wakeHeld := 0 } }
  ((d.wr 0x04 F.AON_STAT_wake_src src.toNat).setTrans .waking).csSearch

/-- The device is DORMANT with eighths of deep memory kept (R76, R77); a held wake or the alarm's level starts the wake at
once. -/
def sleepNow (d : Dev) (m : Mem) (retain : Nat) : Dev × Mem :=
  let held := d.bill.wakeHeld
  let e := ((d.asleep retain).setPower 1).setTrans .none
  let src := held ||| (if e.alarm then 2 else 0)
  (if src = 0 then e else e.wakeBegin src, m.asleep d retain)

/-- DORMANT is entered (R76, R77, R438). -/
def dormant (d : Dev) (m : Mem) : Dev × Mem :=
  if d.bill.trans = .toDormant then sleepNow d m (d.rd 0x04 F.AON_RETAIN) else (d, m)

/-- The sources that fire in an AON slow tick: the RTC's is a level (R76), whatever the tick brings of the others. -/
def Dev.fired (d : Dev) (src : BitVec 8) : BitVec 8 := d.wakeEnabled (src &&& 0xFD) ||| (if d.alarm then 2 else 0)

/-- Wake sources fire (R76). Assumption 118, DEDUCED. -/
def Dev.wakeEvent (d : Dev) (src : BitVec 8) : Dev :=
  let s := d.fired src
  if s = 0 then d
  else
    match d.bill.trans with
    | .none => if d.power = 1 then d.wakeBegin s else d
    | .toDormant | .toStandby _ true => { d with bill := { d.bill with wakeHeld := d.bill.wakeHeld ||| s } }
    | _ => d

/-- A wake ends in STANDBY (R75, R92, R417, R486). -/
def Dev.wakeDone (d : Dev) (us : Word) (post : BitVec 4) (okA okB : Bool) : Dev :=
  if d.power = 1 ∧ d.bill.trans = .waking then
    let cause := if d.bill.tripped then 2 else 3
    let d := { d with bill := { d.bill with tripped := false } }
    let d := (d.putBits (addrOf 0xF0 0x040) 0xF (post.setWidth 32)).wr 0x01 F.RST_STAT_cause cause
    d.reloadTime.recallCal.comeUp us okA okB
  else d

/-- Bits of PAGE_STAT become 1 where no interrupt can leave: Big Top has no power (R92). -/
def Dev.statSilent (d : Dev) (p b : Nat) : Dev := d.putBits (addrOf p 0x00C) (BitVec.twoPow 32 b) (BitVec.twoPow 32 b)

/-- The acts that the analog trip ends: Midway and the MC have no power (R92). -/
def Dev.tripActs (d : Dev) : Dev :=
  d.liveSlots.foldl
    (fun d s =>
      ((d.wr 0x03 (F.ACT_STAT_state.at s) 6).wr 0x03 (F.ACT_STAT_end.at s) 3).statSilent 0x03 (16 + s)) d

/-- The analog trip (R92), in every state in which the device has its supplies. -/
def trip (d : Dev) (m : Mem) : Dev × Mem :=
  if !d.ready && d.power != 1 && !(d.syn 0).on then (d, m)
  else
    let e :=
      if d.on 0x02 F.SB_EMERG_latched then d
      else ((d.tripActs.wr 0x02 F.SB_EMERG_latched 1).wr 0x02 F.SB_EMERG_cause 2).statSilent 0x02 18
    let e := { e with bill := { e.bill with tripped := true, pathWait := 0, exceeding := false } }
    sleepNow e.commitPower m 0

end Sys2Proof.Machine
end

