-- ==== Sys2Proof/Machine/Held.lean ====
section
/-! DEFINITION. Requests that may have to wait: those of a frozen master, at the register fabric, at a scratchpad bank and at the deep
memory controller (spec/02_register_pages_and_protection.md Table 2.4), those that a pin-rate change holds up and those of one cycle
(spec/10_deep_memory.md R281, R295), and those of the fallback transport (spec/14_host_link_and_mailboxes.md R394, R395). -/
namespace Sys2Proof.Machine

/-! ## Scratchpad -/

/-- An access at a bank's port that nothing of its master's goes before; a frozen HOST or DBG reads ones, and the others stall
(Table 2.4). -/
def spNow (d : Dev) (m : Mem) (b : Nat) (a : SpAccess) (hit : Option SpCollision) (ecc : EccResult) : Dev × Mem :=
  if d.frozen a.m then
    (if (a.m = .host ∨ a.m = .dbg) ∧ !a.write then { d with rbytes := List.replicate 64 0xFF } else d.stall (.pad b a), m)
  else
    match hit with
    | some h =>
      if d.frozen h.other.m || d.stalls h.other.m then
        (let (d, m) := spAccess d m b a none ecc
         (if d.stalls h.other.m then d.hold (.pad b h.other) else d.stall (.pad b h.other), m))
      else spAccess d m b a hit ecc
    | none => spAccess d m b a none ecc

/-- An access at a bank's port. -/
def spTake (d : Dev) (m : Mem) (b : Nat) (a : SpAccess) (hit : Option SpCollision) (ecc : EccResult) : Dev × Mem :=
  if !d.heard a.m then (d, m)
  else if d.stalls a.m then (d.hold (.pad b a), m)
  else spNow d m b a (hit.filter fun h => d.heard h.other.m) ecc

/-! ## Deep memory -/

/-- What a read of tile space answers; the record is the model's own. Assumption 20, DESIGN CHOICE. -/
def Dev.answerBytes (d : Dev) (bs : Bytes) : Dev := { d with rbytes := d.rbytes ++ bs }

/-- A request is carried out (R135, R136, R299, R300, R305, R379). Assumption 65, DEDUCED. -/
def serveAsk (d : Dev) (m : Mem) (a : Ask) : Dev × Mem :=
  match a with
  | .tile r =>
    (match r.op with
     | .read => (let x := readTile d m r.tile 0 4096 r.m.id (r.sq.map Fin.val); x.2.2.answerBytes x.1, m)
     | .writeWhole bs => writeWhole d m r.tile bs
     | .writePart off bs => writePart d m r.tile off bs r.m.id)
  | .aperture who a len none => (let x := bar4Read d m who.id a len; x.2.answerBytes x.1, m)
  | .aperture who a _ (some bs) => bar4Write d m who.id a bs
  | .query t => (d.takeQuery t, m)

/-- A request fits its tile. -/
def Ask.fits (a : Ask) : Bool :=
  match a with
  | .tile r =>
    decide (r.tile < tileCount) &&
      (match r.op with
       | .read => true
       | .writeWhole bs => bs.length == 4096
       | .writePart off bs => decide (off + bs.length ≤ 4096))
  | _ => true

/-- The bytes that a request reads. -/
def Ask.reads (a : Ask) : Option Nat :=
  match a with
  | .tile r => if r.op = .read then some 4096 else none
  | .aperture _ _ len none => some len
  | _ => none

/-- A request that nothing of its master's goes before: HOST's and DBG's are over while these are frozen, the others' stall (Table
2.4); in a pin-rate change it waits (R295). -/
def askNow (d : Dev) (m : Mem) (a : Ask) : Dev × Mem :=
  if d.frozen a.master then
    (match a.reads with
     | some n => if a.master = .host ∨ a.master = .dbg then d.answerBytes (List.replicate n 0xFF) else d.stall (.ask a)
     | none => d.stall (.ask a), m)
  else if d.dmWaits then ({ d with dm := { d.dm with waiting := d.dm.waiting ++ [a] } }, m)
  else serveAsk d m a

/-- A request reaches the controller. -/
def ask (d : Dev) (m : Mem) (a : Ask) : Dev × Mem :=
  if !d.heard a.master || !a.fits then (d, m)
  else if d.queued a.master then (d.hold (.ask a), m)
  else askNow d m a

/-- Requests reach the controller one after another. -/
def askAll (d : Dev) (m : Mem) (as_ : List Ask) : Dev × Mem := as_.foldl (fun x a => ask x.1 x.2 a) (d, m)

/-- The requests that waited are served in the order of their acceptance (R281, R282), each in a cycle of its own (R304). -/
def drainWaiting (d : Dev) (m : Mem) : Dev × Mem :=
  d.dm.waiting.foldl (fun x a => serveAsk x.1.cycle x.2 a) ({ d with rbytes := [], dm := { d.dm with waiting := [] } }, m)

/-- The requests of a cycle, in ascending master ID (R281). -/
def byMaster (rs : List DmReq) : List DmReq := (List.range 8).flatMap fun i => rs.filter fun r => r.m.id == i

/-- A master's request reaches deep memory now: the device hears it, the master is not frozen and nothing makes requests wait
(Table 2.4, R295). -/
def Dev.dmTakes (d : Dev) (m : Master) : Bool := d.heard m && !d.frozen m && !d.dmWaits

/-! ## The fallback transport (R394, R395) -/

/-- The device takes requests on EP1 OUT. -/
def Dev.fbServes (d : Dev) : Bool := d.serving && d.linkGen == 1

/-- The bytes of a space: BAR0, BAR2 and BAR4 (Table 1.6); none for space 3. -/
def fbSize (space : Nat) : Nat := match space with | 0 => 0x1000000 | 1 => 0x4000000 | 2 => 0x100000000 | _ => 0

/-- A READ or WRITE that the device answers with RANGE. -/
def fbRange (space len addr : Nat) : Bool :=
  len % 4 != 0 || decide (len < 4) || decide (0x100000 < len) || addr % 4 != 0 || decide (fbSize space < addr + len)

/-- A request of a frozen HOST that is not served: page 0x0A alone stays open (Table 2.4). -/
def Dev.fbFrozen (d : Dev) (space len addr : Nat) : Bool :=
  d.frozen .host && !(space == 0 && decide (0xA0000 ≤ addr) && decide (addr + len ≤ 0xB0000))

/-- One 32-bit read of a request, in a cycle of its own. -/
def fbReadWord (d : Dev) (m : Mem) (space a : Nat) : Bytes × Dev × Mem :=
  match space with
  | 0 =>
    let d := d.busRead .host a 15
    (wordBytes d.rdata, d.cycle, m)
  | 1 =>
    let (d, m) := spNow d m (a / 1048576) ⟨.host, 1, a % 1048576 / 64, false, []⟩ none .clean
    ((d.rbytes.drop (a % 64)).take 4, d.cycle, m)
  | _ =>
    let (bs, d) := bar4Read d m 0 (d.apAddr a) 4
    (bs, d.cycle, m)

/-- One 32-bit write of a request, in a cycle of its own. -/
def fbWriteWord (d : Dev) (m : Mem) (space a : Nat) (w : Word) : Dev × Mem :=
  let x := match space with
    | 0 => (d.busWrite .host a 15 w, m)
    | 1 =>
      spNow d m (a / 1048576)
        ⟨.host, 1, a % 1048576 / 64, true, List.replicate (a % 64) none ++ (wordBytes w).map some⟩ none .clean
    | _ => bar4Write d m 0 (d.apAddr a) ((wordBytes w).map some)
  (x.1.cycle, x.2)

/-- The words of a READ, in ascending address order. -/
def fbReadAll (d : Dev) (m : Mem) (space a : Nat) : Nat → Bytes × Dev × Mem
  | 0 => ([], d, m)
  | n + 1 =>
    let (bs, d, m) := fbReadWord d m space a
    let (rest, d, m) := fbReadAll d m space (a + 4) n
    (bs ++ rest, d, m)

/-- The words of a WRITE. -/
def fbWriteAll (d : Dev) (m : Mem) (space a : Nat) : List Word → Dev × Mem
  | [] => (d, m)
  | w :: ws =>
    let (d, m) := fbWriteWord d m space a w
    fbWriteAll d m space (a + 4) ws

/-- The response to a READ or WRITE. -/
def Dev.fbReply (d : Dev) (op status : Nat) (tag : BitVec 16) (bytes : Nat) (data : Bytes) : Dev :=
  d.emit (.reply op status tag bytes 0 0xFFFFFFFF data)

/-- A READ request: that of a frozen HOST reads ones (R395). Assumption 82, DEDUCED. -/
def fbRead (d : Dev) (m : Mem) (tag : BitVec 16) (space len addr : Nat) : Dev × Mem :=
  if d.fbFrozen space len addr then (d.fbReply 1 8 tag len (List.replicate len 0xFF), m)
  else if fbRange space len addr then (d.fbReply 1 2 tag 0 [], m)
  else
    let (bs, d, m) := fbReadAll d m space addr (len / 4)
    (d.fbReply 1 0 tag len bs, m)

/-- The words of bytes, lowest address first. -/
def bytesWords (bs : Bytes) : List Word :=
  (List.range (bs.length / 4)).map fun i => BitVec.ofNat 32 (bytesNat ((bs.drop (4 * i)).take 4))

/-- A WRITE request. -/
def fbWrite (d : Dev) (m : Mem) (tag : BitVec 16) (space addr : Nat) (bs : Bytes) : Dev × Mem :=
  let len := bs.length
  if d.fbFrozen space len addr then (d.fbReply 2 8 tag 0 [], m)
  else if fbRange space len addr then (d.fbReply 2 2 tag 0 [], m)
  else
    let (d, m) := fbWriteAll d m space addr (bytesWords bs)
    (d.fbReply 2 0 tag len [], m)

/-- A request whose op Table 14.3 does not have. -/
def Dev.fbOther (d : Dev) (op : Nat) (tag : BitVec 16) : Dev := d.fbReply op (if d.frozen .host then 8 else 2) tag 0 []

/-- A tile request runs on channel 7 as the descriptor that these words give (R395). -/
def fbDesc (dir len addr : Nat) : List Word :=
  [BitVec.ofNat 32 dir, BitVec.ofNat 32 len, 0, 0, BitVec.ofNat 32 addr, BitVec.ofNat 32 (addr / 2 ^ 32), 0, 0]

/-- A TILE_READ (dir 1) or TILE_WRITE (dir 0) request. HOSTERR cannot meet it. -/
def fbTile (d : Dev) (m : Mem) (op dir : Nat) (tag : BitVec 16) (len addr : Nat) (bs : Bytes) (why : DmaEnd) : Dev × Mem :=
  if d.frozen .host then
    (let n := if dir = 1 then len else 0
     (d.fbReply op 8 tag n (List.replicate n 0xFF), m))
  else
    let ws := fbDesc dir len addr
    let fail :=
      if descRange ws then some 2 else if (d.queueBanks (if dir = 0 then 2 else 3)).isEmpty then some 6 else none
    -- how far a transfer that ends early came is open
    let (far, d) := d.fresh
    let (status, n) := d.dmaStatus ⟨some ws, fail, none⟩ ws far.toNat (if why = .hostErr then .done else why)
    let r := dmaMove d m dir addr len n bs
    let status := if status = 0 ∧ !r.fails.isEmpty then 1 else status
    (r.d.emit (.reply op status tag r.bytes (min r.fails.length (2 ^ 32 - 1)) (r.fails.headD 0xFFFFFFFF) r.data), r.m)

/-- A request must wait: for the end of a pin-rate change (R295), or for the thaw of XDMA (Table 2.4). -/
def Dev.fbWaits (d : Dev) (r : FbReq) : Bool :=
  match r with
  | .read _ 2 len addr => d.dmWaits && !fbRange 2 len addr && !d.frozen .host
  | .write _ 2 addr bs => d.dmWaits && !fbRange 2 bs.length addr && !d.frozen .host
  | .tile .. => (d.dmWaits || d.frozen .xdma) && !d.frozen .host
  | _ => false

/-- A request is served. -/
def fbServe (d : Dev) (m : Mem) (r : FbReq) : Dev × Mem :=
  match r with
  | .read tag space len addr => fbRead d m tag space len addr
  | .write tag space addr bs => fbWrite d m tag space addr bs
  | .other op tag => (d.fbOther op tag, m)
  | .tile op dir tag len addr bs why => fbTile d m op dir tag len addr bs why

/-- A request arrives: it is served at once, or waits behind those that wait (R394). -/
def fbTake (d : Dev) (m : Mem) (r : FbReq) : Dev × Mem :=
  if !d.fbServes then (d, m)
  else if !d.fbq.isEmpty || d.fbWaits r then ({ d with fbq := d.fbq ++ [r] }, m)
  else fbServe d m r

/-! ## What a cycle with no command performs -/

/-- A request that was held up is performed; that of a HOST or DBG frozen meanwhile is over. -/
def perform (d : Dev) (m : Mem) (h : Held) : Dev × Mem :=
  match h with
  | .bus r => (if r.write then d.writeNow r.m r.addr r.be r.data else d.readNow r.m r.addr r.be, m)
  | .pad b a => spNow d m b a none .clean
  | .ask a => askNow { d with rbytes := [] } m a

/-- A request is held up no longer: its master is not frozen any more (Table 2.4), and no BAR4 write goes before it (R378). -/
def Dev.freed (d : Dev) (m : Master) : Bool := (!d.frozen m || m == .host || m == .dbg) && !d.postWaits m

/-- The oldest request that is held up no longer, and the others. -/
def Dev.nextStalled (d : Dev) : Option (Held × Dev) :=
  match d.prot.stalled.find? fun h => d.freed h.master with
  | some h => some (h, { d with prot := { d.prot with stalled := d.prot.stalled.erase h } })
  | none => none

/-- The oldest fallback request that waits, if it need wait no longer, and the others. -/
def Dev.nextFb (d : Dev) : Option (FbReq × Dev) :=
  match d.fbq with
  | r :: rs => if d.fbServes && !d.fbWaits r then some (r, { d with fbq := rs }) else none
  | [] => none

/-- What the deep memory controller does of itself in a cycle: the requests that page 0x60 held up while it was forced off; scrub's
write-back, and one slot of each migration (R301, R303). Assumption 68, DESIGN CHOICE. -/
def maintain (d : Dev) (m : Mem) : Dev × Mem :=
  if d.dmWaits then (d, m)
  else if !d.dm.waiting.isEmpty then drainWaiting d m
  else (List.range 4).foldl (fun x s => copySlots x.1 x.2 s 1) (d.writeBack, m)

end Sys2Proof.Machine
end

