-- ==== Sys2Proof/Machine/Run.lean ====
section
/-! DEFINITION. From an effect on the device to a command's outcome: after every command, RUNNING acts whose sequencers have all
halted end (R86), and the capture engines take notice of what became of the receive lanes (R265). -/
namespace Sys2Proof.Machine

/-- What follows any command, and the end of its register fabric cycle (R24); `old` is the device before it. -/
def settle (old d : Dev) : Dev := (Dev.laneNotices old d.haltCheck).cycle

/-- The state with another device. -/
def State.withDev (s : State) (d : Dev) : State := { s with dev := settle s.dev d }

/-- The state with another device and memories. -/
def State.withBoth (s : State) (x : Dev × Mem) : State := { s with dev := settle s.dev x.1, mem := x.2 }

/-- A command that acts on the device. -/
def onDev (s : State) (f : Dev → Dev) : Host.Outcome State Fault Refusal := .next (s.withDev (f s.dev))

/-- A command that acts on the device while it serves: ready and not DORMANT (R67, Table 3.3). Otherwise nothing happens. -/
def onLive (s : State) (f : Dev → Dev) : Host.Outcome State Fault Refusal :=
  .next (if s.dev.serving then s.withDev (f s.dev) else s)

/-- A command that acts on the device and its memories. -/
def onBoth (s : State) (f : Dev → Mem → Dev × Mem) : Host.Outcome State Fault Refusal := .next (s.withBoth (f s.dev s.mem))

/-- The same while the device serves. -/
def onLiveBoth (s : State) (f : Dev → Mem → Dev × Mem) : Host.Outcome State Fault Refusal :=
  .next (if s.dev.serving then s.withBoth (f s.dev s.mem) else s)

/-- The raises that wait reach their channels in a Midway cycle, and 1 ns passes. -/
def Dev.tick (d : Dev) : Dev := (if d.mw.wire.isEmpty then d else d.midwayCycle []).clock 1

/-- A clock cycle of 1 ns with no command (assumption 2): the oldest stalled request whose master is thawed is performed, or else the
oldest fallback request that need not wait any more; with none, the controller's own work goes on and the time passes. -/
def tickAll (d : Dev) (m : Mem) : Dev × Mem :=
  match d.nextStalled with
  | some (h, d) => perform d m h
  | none =>
    match d.nextFb with
    | some (r, d) => fbServe d m r
    | none => (let (d, m) := maintain d m; (d.tick, m))

/-- 1 ns passes while the device does not serve; in DORMANT the alarm's level starts a wake (R76). -/
def Dev.doze (d : Dev) : Dev :=
  let d := d.clock 1
  if d.power = 1 ∧ d.bill.trans = .none ∧ d.alarm then d.wakeBegin 2 else d

/-- The block with an empty queue. -/
def idle (s : State) : State := if s.dev.serving then s.withBoth (tickAll s.dev s.mem) else s.withDev s.dev.doze

end Sys2Proof.Machine
end

