-- ==== Sys2Proof/Machine/Operands.lean ====
section
/-! DEFINITION. The operand forms of the commands that access a register: a write or a read at a place that the row fixes, and a
change of bits of PAGE_CTRL. -/
namespace Sys2Proof.Machine

/-- A full-word write of a register at a fixed page and offset by a given access. -/
def Dev.writeAt (d : Dev) (p off : Nat) (w : BusWrite) : Dev := d.busWrite w.m (addrOf p off) w.be w.data

/-- A read of a register at a fixed page and offset. -/
def Dev.readAt (d : Dev) (p off : Nat) (r : BusRead) : Dev := d.busRead r.m (addrOf p off) r.be

/-- A master writes PAGE_CTRL whole with some bits set or cleared in what it reads there (assumption 25). -/
def Dev.writeCtrl (d : Dev) (m : Master) (p : Nat) (f : Word → Word) : Dev :=
  d.busWrite m (addrOf p 0x008) 15 (f (d.readWord m p 0x008))

/-- Bit `i` of a word takes a value. -/
def wordBit (w : Word) (i : Nat) (b : Bool) : Word :=
  if b then w ||| BitVec.twoPow 32 i else w &&& ~~~(BitVec.twoPow 32 i)

end Sys2Proof.Machine
end

