-- ==== Sys2Proof/Machine/AnalogCmd.lean ====
section
/-! DEFINITION. The commands of the analog section (spec/13_analog_outputs.md R349 to R374). -/
namespace Sys2Proof.Machine

/-! ## Calliope -/

/-- FTW_APPLY (R360): a write of CAL_FTW_HI. -/
def execFtwApply (k : Fin 4) (w : BusWrite) (s : State) : Host.Outcome State Fault Refusal :=
  onDev s fun d => d.writeAt (0x88 + k.val) 0x064 w

/-- CAL_AMP_WRITE (R360). -/
def execCalAmpWrite (k : Fin 4) (w : BusWrite) (s : State) : Host.Outcome State Fault Refusal :=
  onDev s fun d => d.writeAt (0x88 + k.val) 0x068 w

/-- CAL_SYNC_NOW (R361): a write of CAL_SYNC. -/
def execCalSyncNow (k : Fin 4) (w : BusWrite) (s : State) : Host.Outcome State Fault Refusal :=
  onDev s fun d => d.writeAt (0x88 + k.val) 0x06C w

/-- An event that Midway delivered restarts a channel's accumulator (R361). -/
def Dev.calSyncOne (d : Dev) (k : Nat) : Dev :=
  match d.take fun t => t == .calSync k with
  | some (_, d) => if d.on (0x88 + k) F.CAL_SYNC_en then d.calZero k else d
  | none => d

/-- The channels that sync on one event restart together: one receiver serves the four (R361). -/
def Dev.calSyncEvent (d : Dev) (k : Nat) : Dev :=
  if d.mw.inbox.contains (.calSync k) then
    ((List.range 4).filter fun j => d.rd (0x88 + j) F.CAL_SYNC_ev == d.rd (0x88 + k) F.CAL_SYNC_ev).foldl Dev.calSyncOne d
  else d

/-- CAL_SYNC_EVENT (R361). -/
def execCalSyncEvent (k : Fin 4) (s : State) : Host.Outcome State Fault Refusal := onLive s fun d => d.calSyncEvent k.val

/-! ## Sideband DACs -/

/-- The next update tick: the first timebase count from now on that is a multiple of 20 × SD_CLK.div and has had no tick yet (R364). -/
def Dev.nextTick (d : Dev) : Nat :=
  let n := 20 * d.rd 0x8C F.SD_CLK_div
  let t := (d.count.toNat + (n - 1)) / n * n
  if d.an.ticked = some d.count ∧ t = d.count.toNat then t + n else t

/-- The timebase reaches the next tick. -/
def Dev.toTick (d : Dev) : Dev :=
  let d := d.reachTime d.nextTick
  { d with an := { d.an with ticked := some d.count } }

/-- SD_TICK (R364 to R368). -/
def execSdTick (s : State) : Host.Outcome State Fault Refusal := onLive s fun d => d.toTick.sdTick

/-- SD_RANGE_CHANGE (R365): a write of SD_CTRLk. -/
def execSdRangeChange (k : Fin 8) (w : BusWrite) (s : State) : Host.Outcome State Fault Refusal :=
  onDev s fun d => d.writeAt 0x8C (0x100 + 16 * k.val) w

/-- SD_CLAMP_RELEASE (R365). -/
def execSdClampRelease (k : Fin 8) (s : State) : Host.Outcome State Fault Refusal := onLive s fun d => d.sdRelease k.val

/-- SD_FAULT (R369, Table 13.5). -/
def execSdFault (k : Fin 8) (cause : SdCause) (s : State) : Host.Outcome State Fault Refusal :=
  onLive s fun d => if d.sdMeets k.val cause then d.sdFault k.val cause.code else d

/-- SD_FAULT_CLEAR (R370): a write of SD_CLR. -/
def execSdFaultClear (w : BusWrite) (s : State) : Host.Outcome State Fault Refusal := onDev s fun d => d.writeAt 0x8C 0x048 w

/-! ## Monitor ADC -/

/-- MON_CONVERSION (R371 to R374). -/
def execMonConversion (input : Fin 32) (code : BitVec 12) (skew : Fin 21) (start : BitVec 40) (s : State) :
    Host.Outcome State Fault Refusal :=
  onLive s fun d => d.monConvert input.val code.toNat skew.val start

end Sys2Proof.Machine
end

