-- ==== Sys2Proof/Machine/TileCmd.lean ====
section
/-! DEFINITION. The commands on tile space and the deep memory controller (spec/05_segments_tiles_and_hot_residency.md R134 to R157;
spec/10_deep_memory.md R278 to R305; spec/14_host_link_and_mailboxes.md R379). -/
namespace Sys2Proof.Machine

/-! ## Tiles -/

/-- One request of tile space is all that a command brings: what it reads is its answer. -/
def askOne (d : Dev) (m : Mem) (a : Ask) : Dev × Mem := ask { d with rbytes := [] } m a

/-- TILE_WRITE_WHOLE (R135). -/
def execTileWriteWhole (m : Master) (tile : Nat) (data : Bytes) (s : State) : Host.Outcome State Fault Refusal :=
  onBoth s fun d mem => askOne d mem (.tile ⟨m, tile, .writeWhole data, none⟩)

/-- TILE_WRITE_PARTIAL (R136). -/
def execTileWritePartial (m : Master) (tile off : Nat) (data : List (Option Byte)) (flips : Flips) (s : State) :
    Host.Outcome State Fault Refusal :=
  onBoth s fun d mem => askOne (d.strike flips) mem (.tile ⟨m, tile, .writePart off data, none⟩)

/-- BAR4_READ (R138, R379). -/
def execBar4Read (m : Master) (off len : Nat) (s : State) : Host.Outcome State Fault Refusal :=
  onBoth s fun d mem => askOne d mem (.aperture m (d.apAddr off) len none)

/-- BAR4_WRITE (R379). -/
def execBar4Write (m : Master) (off : Nat) (data : List (Option Byte)) (s : State) : Host.Outcome State Fault Refusal :=
  onBoth s fun d mem => askOne d mem (.aperture m (d.apAddr off) data.length (some data))

/-- TILE_FETCH_DONE (R144, R147, R149, R157). -/
def execTileFetchDone (sq : Fin 20) (tile : Nat) (e : FetchEnd) (s : State) : Host.Outcome State Fault Refusal :=
  onDev s fun d => if d.dmTakes .pdma then tileFetched (d.strike e.flips) s.mem sq.val tile e.late else d

/-! ## Requests, refresh and training -/

/-- DM_REQUEST (R281 to R290): the requests of one cycle. -/
def execDmRequest (c : DmCycle) (s : State) : Host.Outcome State Fault Refusal :=
  onBoth s fun d m => askAll { (d.strike c.flips) with rbytes := [] } m ((byMaster c.reqs).map Ask.tile)

/-- Time passes until `ns` ns have gone by since a count (assumption 23). -/
def Dev.elapse (d : Dev) (since : BitVec 48) (ns : Nat) : Dev :=
  let gone := (d.count - since).toNat
  if d.timeRuns && decide (gone < ns) then d.clock (ns - gone) else d

/-- A stack's training bit on both pages. -/
def Dev.setTrain (d : Dev) (s : Nat) (b : Bool) : Dev :=
  (d.wr (stackPage s) F.DMS_STAT_train b.toNat).fbit 0x60 F.DM_STAT_training s b

/-- A stack that has had no request for DM_SR.idle_us enters self-refresh while no live act declares bandwidth (R291). The sweep's
requests keep it out. A burst that gathers data on it is over, its data discarded, since a stack in self-refresh does not retrain
(R298). Assumption 113, DEDUCED. -/
def Dev.srEnter (d : Dev) (s : Nat) : Dev :=
  if d.dmDeclared = 0 ∧ !d.dmWaits ∧ !d.on 0x60 F.DM_STAT_clearing then
    let d := d.elapse (d.stack s).last (1000 * d.rd 0x60 F.DM_SR_idle_us)
    let d := if d.on (stackPage s) F.DMS_STAT_train then (d.setTrain s false).bump (stackPage s) F.DMS_TRAIN_CNT_discarded else d
    d.setSr s true
  else d

/-- SELF_REFRESH_ENTER (R291). -/
def execSelfRefreshEnter (stack : Fin 4) (s : State) : Host.Outcome State Fault Refusal := onLive s fun d => d.srEnter stack.val

/-- A stack's sample: temperature, refresh band and traffic (R289). -/
def Dev.stackSample (d : Dev) (s : Nat) (temp : BitVec 8) (bw : Nat) : Dev :=
  let p := stackPage s
  let old := d.rd p F.DMS_STAT_band
  let band := refreshBand old temp.toInt
  let d := ((d.wr p F.DMS_STAT_temp temp.toNat).wr p F.DMS_STAT_band band).wr p F.DMS_BW_gbs bw
  if old < band then d.stat p 20 else d

/-- STACK_TEMP_SAMPLE (R289). -/
def execStackTempSample (stack : Fin 4) (temp : BitVec 8) (bw : BitVec 10) (s : State) : Host.Outcome State Fault Refusal :=
  onLive s fun d => d.stackSample stack.val temp bw.toNat

/-- The change of pin rate that is latched or due starts (R296): every stack goes into self-refresh and its synthesizer
retunes; a retraining in progress is over, since a full training follows (R297). -/
def Dev.rateStart (d : Dev) : Dev :=
  let d := d.wr 0x60 F.DM_STAT_latched 0
  (List.range 4).foldl
    (fun d s => ((d.setStack s { d.stack s with train := none }).setSr s true).retune (2 + s) (memTune d.dm.rate)) d

/-- A group's retraining is due (R298): its interval has passed, or its stack's temperature has moved by more than dtemp. -/
def Dev.trainDue (d : Dev) (s g : Nat) : Bool :=
  let (at_, temp) := tabGet (fun _ => ((0 : BitVec 48), (0 : BitVec 8))) (d.stack s).trained g
  decide (1000000 * d.rd 0x60 F.DM_TRAIN_interval_ms ≤ (d.count - at_).toNat) ||
    decide (d.rd 0x60 F.DM_TRAIN_dtemp < ((BitVec.ofNat 8 (d.rd (stackPage s) F.DMS_STAT_temp)).toInt - temp.toInt).natAbs)

/-- A burst of a group starts (R298): housekeeping runs, the stack is neither in self-refresh nor in a pin-rate change, and it is the
group whose retraining is in progress, 10 µs after its latest burst, or with none in progress one whose retraining is due. -/
def Dev.trainStart (d : Dev) (s g : Nat) : Dev :=
  let p := stackPage s
  if d.on p F.DMS_STAT_train || d.on p F.DMS_STAT_sr || d.dmWaits || !d.has 0x02 F.SB_HK_CTRL_en 0 then d
  else
    match (d.stack s).train with
    | none =>
      if d.trainDue s g then (d.setStack s { d.stack s with train := some ⟨g, 1, d.count⟩ }).setTrain s true else d
    | some t =>
      if t.group = g then
        let d := d.elapse t.at_ 10000
        (d.setStack s { d.stack s with train := some ⟨g, t.bursts + 1, d.count⟩ }).setTrain s true
      else d

/-- A burst ends: its data are discarded where a change is latched behind it, which then starts (R296). `last` says that the group's
retraining is complete, as it is after 16 bursts (R298). -/
def Dev.trainEnd (d : Dev) (s g : Nat) (last : Bool) : Dev :=
  match (d.stack s).train with
  | none => d
  | some t =>
    if t.group ≠ g ∨ !d.on (stackPage s) F.DMS_STAT_train then d
    else
      let d := d.setTrain s false
      if d.on 0x60 F.DM_STAT_latched then
        let d := d.bump (stackPage s) F.DMS_TRAIN_CNT_discarded
        if d.on 0x60 F.DM_STAT_training then d else d.rateStart
      else if last || decide (16 ≤ t.bursts) then
        let temp := BitVec.ofNat 8 (d.rd (stackPage s) F.DMS_STAT_temp)
        let d := d.setStack s { d.stack s with
          train := none
          trained := tabSet (fun _ => ((0 : BitVec 48), (0 : BitVec 8))) (d.stack s).trained g (d.count, temp) }
        (d.bump (stackPage s) F.DMS_TRAIN_CNT_done).hkRan 0 0
      else d

/-- RETRAIN_BURST (R296, R298): of a strobe group of a stack. -/
def execRetrainBurst (stack : Fin 4) (group : Fin 8) (ends last : Bool) (s : State) : Host.Outcome State Fault Refusal :=
  onLive s fun d => if ends then d.trainEnd stack.val group.val last else d.trainStart stack.val group.val

/-- CLEAR_SWEEP_DONE (R293): every tile that waited for the sweep reads as it already did. Assumption 69, DEDUCED. -/
def execClearSweepDone (s : State) : Host.Outcome State Fault Refusal :=
  onLive s fun d =>
    if d.on 0x60 F.DM_STAT_clearing then ((d.wr 0x60 F.DM_STAT_clearing 0).stat 0x60 19).raiseSys 251 else d

/-- REFRESH_WINDOW_START (R290): the stack's row-disturbance tables are cleared. -/
def execRefreshWindowStart (stack : Fin 4) (s : State) : Host.Outcome State Fault Refusal :=
  onLive s fun d => d.setStack stack.val { d.stack stack.val with rows := [] }

/-! ## Pin rate and hazard mode -/

/-- PIN_RATE_WRITE (R295, R296): a write of DM_CFG. -/
def execPinRateWrite (w : BusWrite) (s : State) : Host.Outcome State Fault Refusal := onDev s fun d => d.writeAt 0x60 0x040 w

/-- PIN_RATE_CHANGE_START (R296): the change starts at once, or at the end of the burst it waited for. -/
def execPinRateChangeStart (s : State) : Host.Outcome State Fault Refusal :=
  onLive s fun d => if d.on 0x60 F.DM_STAT_changing && !d.on 0x60 F.DM_STAT_training then d.rateStart else d

/-- The stacks serve at the new rate: every synthesizer has locked and every strobe group is trained (Table 10.6, R297). -/
def Dev.rateDone (d : Dev) : Dev :=
  let d := (List.range 4).foldl (fun d s => ((d.retune (2 + s) (memTune d.dm.rate)).setSr s false).fullTraining s) d
  let d := (List.range 4).foldl
    (fun d s => if (d.syn (2 + s)).job == .idle then d else let (w, d) := d.fresh; d.synLock (2 + s) (w.toNat % 64)) d
  let d := (d.wr 0x60 F.DM_STAT_rate d.dm.rate).wr 0x60 F.DM_STAT_changing 0
  d.showCeil.stat 0x60 18

/-- A change that has ended lets the requests that waited be served. -/
def pinRateEnd (d : Dev) (m : Mem) : Dev × Mem := if d.dmWaits then (d, m) else drainWaiting d m

/-- PIN_RATE_CHANGE_DONE (R295, R297): the requests that waited are served. -/
def execPinRateChangeDone (s : State) : Host.Outcome State Fault Refusal :=
  onLiveBoth s fun d m => if d.rateRuns then pinRateEnd d.rateDone m else (d, m)

/-- HAZARD_WRITE (R283): a write of DM_CFG. -/
def execHazardWrite (w : BusWrite) (s : State) : Host.Outcome State Fault Refusal := onDev s fun d => d.writeAt 0x60 0x040 w

/-! ## Retirement, scrub, the log and queries -/

/-- MIGRATION_START (R301, R302). -/
def execMigrationStart (stack : Fin 4) (s : State) : Host.Outcome State Fault Refusal := onLive s fun d => d.migrate stack.val

/-- MIGRATION_DONE (R301): the slots that no cycle has copied yet are copied. -/
def execMigrationDone (stack : Fin 4) (s : State) : Host.Outcome State Fault Refusal :=
  onLiveBoth s fun d m => migrateEnd d m stack.val

/-- Scrub goes on to a tile (R303): it is the next of the pass, and the housekeeping task runs. -/
def scrub (d : Dev) (m : Mem) (t : Nat) : Dev :=
  if d.dmWaits || !d.has 0x02 F.SB_HK_CTRL_en 0 then d
  else
    match d.scrubNext with
    | some (n, fresh) =>
      if n = t then
        let d := { d with dm := { d.dm with scrubAt := t + 1, scrubFrom := if fresh then d.rtc else d.dm.scrubFrom } }
        scrubTile (d.hkRan 0 0) m t
      else d
    | none => d

/-- SCRUB_READ (R303). -/
def execScrubRead (tile : Nat) (flips : Flips) (s : State) : Host.Outcome State Fault Refusal :=
  onLive s fun d => scrub (d.strike flips) s.mem tile

/-- DM_TLOG_POP (R304). -/
def execDmTlogPop (w : BusWrite) (s : State) : Host.Outcome State Fault Refusal := onDev s fun d => d.writeAt 0x60 0x06C w

/-- TILE_QUERY (R305): a write of DM_TILEQ. -/
def execTileQuery (w : BusWrite) (s : State) : Host.Outcome State Fault Refusal := onDev s fun d => d.writeAt 0x60 0x05C w

/-- The answer to a query is shown (R305). -/
def Dev.queryDone (d : Dev) : Dev :=
  match d.dm.query with
  | none => d
  | some i =>
    let d := { d with dm := { d.dm with query := none } }
    let d := (d.wr 0x60 F.DM_TILEA_state i.st.code).wr 0x60 F.DM_TILEA_TAG i.tag.toNat
    (d.wr 0x60 F.DM_TILEA_done 1).stat 0x60 20

/-- TILE_QUERY_DONE (R305). -/
def execTileQueryDone (s : State) : Host.Outcome State Fault Refusal := onLive s fun d => d.queryDone

end Sys2Proof.Machine
end

