-- ==== Sys2Proof/Machine/CaptureCmd.lean ====
section
/-! DEFINITION. The commands of the capture engines (spec/09_capture_and_triggers.md R249 to R276). -/
namespace Sys2Proof.Machine

/-- TIMER becomes true, once per entry (R259): TRG_ELAPSED has reached the limit of the present state. -/
def Dev.trgTimer (d : Dev) (c : Nat) : Dev :=
  let p := trgPage c
  let limit := d.rd p (F.TRG_TIME.at (d.rd p F.TRG_STAT_state))
  let spent := d.rd p F.TRG_ELAPSED
  if d.trgRuns c && !(d.cap c).timed && decide (spent ≤ limit) then
    (d.clock (limit - spent)).trgStep c [] none true
  else d

/-- TRG_TIMER_EXPIRY (R258, R259). -/
def execTrgTimerExpiry (ce : Fin 2) (s : State) : Host.Outcome State Fault Refusal := onLive s fun d => d.trgTimer ce.val

/-- An event that Midway delivered to the capture core is taken in a step (Table 9.3, op 3). -/
def Dev.trgEvent (d : Dev) (c : Nat) (ch : BitVec 8) : Dev :=
  match d.take fun t => t == .trg c ch with
  | some (_, d) => d.trgStep c [] (some ch.toNat) false
  | none => d

/-- TRG_EVENT (R258). -/
def execTrgEvent (ce : Fin 2) (ch : BitVec 8) (s : State) : Host.Outcome State Fault Refusal :=
  onLive s fun d => d.trgEvent ce.val ch

/-- RECORD_CLOSE (R265, R266): what the lane has open closes and is queued. -/
def execRecordClose (lane : Fin 16) (s : State) : Host.Outcome State Fault Refusal :=
  onLive s fun d => d.closeLane (lane.val / 8) (lane.val % 8)

/-- RECORD_AGE_EXPIRY (R265): the lane's DATA record is 8 µs old. -/
def execRecordAgeExpiry (lane : Fin 16) (s : State) : Host.Outcome State Fault Refusal :=
  onLive s fun d => d.closeData (lane.val / 8) (lane.val % 8)

/-- CDMA_TILE_WRITE (R263, R275): CDMA takes the record at the head of its engine's queue. A frozen CDMA stalls (Table 2.4). -/
def execCdmaTileWrite (ce : Fin 2) (s : State) : Host.Outcome State Fault Refusal :=
  onBoth s fun d m => if d.dmTakes .cdma then cdmaTake d m ce.val else (d, m)

/-- CAPTURE_DONE (R274). -/
def execCaptureDone (ce : Fin 2) (s : State) : Host.Outcome State Fault Refusal :=
  onBoth s fun d m => if d.dmTakes .cdma then capDone d m ce.val else (d, m)

end Sys2Proof.Machine
end

