-- ==== Sys2Proof/Machine/ClockCmd.lean ====
section
/-! DEFINITION. The commands of the reference and the synthesizers (spec/06_synthesizers_and_rate_changes.md R167 to R198;
spec/13_analog_outputs.md R355). Synthesizers are numbered CS0, CS1, MS0 to MS3, LS0 to LS7, WS0 as 0 to 14. -/
namespace Sys2Proof.Machine

/-! ## The reference -/

/-- REF_SELECT (R171, R177): a write of REF_SEL, or of REF_IN_KHZ. -/
def execRefSelect (khz : Bool) (w : BusWrite) (s : State) : Host.Outcome State Fault Refusal :=
  onDev s fun d => d.writeAt 0x18 (if khz then 0x044 else 0x040) w

/-- A reference source is within its limits, or not (REF_STAT.refin_ok and ring_ok). -/
def Dev.setRefOk (d : Dev) (src : Nat) (ok : Bool) : Dev :=
  if src = 1 then d.wr 0x18 F.REF_STAT_refin_ok ok.toNat
  else if src = 2 then d.wr 0x18 F.REF_STAT_ring_ok ok.toNat
  else d

/-- The selected reference is lost: the CS loops coast (R172). -/
def Dev.refLose (d : Dev) : Dev :=
  let d := (d.setRefOk (d.rd 0x18 F.REF_SEL_src) false).wr 0x18 F.REF_STAT_qualifying 0
  if d.on 0x18 F.REF_STAT_coast || d.on 0x18 F.REF_STAT_failover then d
  else
    let d := ((d.wr 0x18 F.REF_STAT_coast 1).synWr 0 F.SYN_STAT_coast 1).synWr 1 F.SYN_STAT_coast 1
    (d.stat 0x18 16).raiseSys 246

/-- REF_LOST (R172, R173). -/
def execRefLost (s : State) : Host.Outcome State Fault Refusal := onLive s Dev.refLose

/-- A source is within its limits again and, if the loops wait for it, is being qualified; or it has qualified, and the loops
close on it with the phase that the device measures, in fs (R174 to R176). -/
def Dev.refBack (d : Dev) (src : Nat) (buildout : Option Word) : Dev :=
  let d := d.setRefOk src true
  if d.rd 0x18 F.REF_SEL_src = src ∧ (d.on 0x18 F.REF_STAT_coast || d.on 0x18 F.REF_STAT_failover) then
    match buildout with
    | none => d.wr 0x18 F.REF_STAT_qualifying 1
    | some v => d.reference src v
  else d

/-- REF_RETURN (R174 to R176): the source has come back within its limits (no build-out yet), or has qualified. -/
def execRefReturn (src : BitVec 2) (buildout : Option Word) (s : State) : Host.Outcome State Fault Refusal :=
  onLive s fun d => d.refBack src.toNat buildout

/-- REF_FAILOVER (R176): a coast has lasted coast_ms. -/
def execRefFailover (buildout : Word) (s : State) : Host.Outcome State Fault Refusal :=
  onLive s fun d =>
    if d.on 0x18 F.REF_CFG_failover && d.on 0x18 F.REF_STAT_coast then
      (d.closeLoops 0 buildout).wr 0x18 F.REF_STAT_failover 1
    else d

/-- GUARD_PULSE (R178). -/
def execGuardPulse (_cs : Fin 2) (s : State) : Host.Outcome State Fault Refusal :=
  onLive s fun d => (d.bump 0x18 F.CLK_GUARD_count).stat 0x18 18

/-- A CS loop loses lock by an internal fault in ARMED or SHOW and coasts (R180). -/
def Dev.csFault (d : Dev) (c : Nat) : Dev :=
  if d.power = 3 ∨ d.power = 4 then
    let d := (d.synFault c).synWr c F.SYN_STAT_coast 1
    let d := d.fbit 0x18 F.CLK_GUARD_cs_fault c true
    (d.stat 0x18 19).raiseSys 248
  else d

/-- CS_LOCK_FAULT (R180). -/
def execCsLockFault (cs : Fin 2) (s : State) : Host.Outcome State Fault Refusal := onLive s fun d => d.csFault cs.val

/-! ## Synthesizers -/

/-- A CS loop that has locked ends its fault's coast, and the safe clock once neither searches (R179, R180). -/
def Dev.csLocked (d : Dev) (c : Nat) : Dev :=
  let d := (d.fbit 0x18 F.CLK_GUARD_cs_fault c false).synWr c F.SYN_STAT_coast (d.rd 0x18 F.REF_STAT_coast)
  if (d.syn 0).job == .search || (d.syn 1).job == .search then d else d.wr 0x18 F.CLK_GUARD_safe 0

/-- Once the memory synthesizers have all locked in a pin-rate change, the new rate is in effect (Table 10.6). -/
def Dev.msLocked (d : Dev) : Dev :=
  if d.rateRuns && (List.range 4).all fun s => d.synLocked (2 + s) then (d.wr 0x60 F.DM_STAT_rate d.dm.rate).showCeil else d

/-- A start or retune completes (R167, R168); `band` is what the band search chose. A search of CS0 has stopped the timebase,
which reloads unless the end of a wake is yet to reload it (R75, R179); a loop that had to run on to lock returns to its page's
rate (R195, R196). -/
def Dev.synDone (d : Dev) (i band : Nat) : Dev :=
  let s := d.syn i
  if s.on && s.job != .idle then
    let d := d.synLock i band
    if i < 2 then
      let d := if i = 0 ∧ s.job = .search ∧ d.serving ∧ d.bill.trans ≠ .waking then d.reloadTime else d
      d.csLocked i
    else if i < 6 then d.msLocked
    else if s.restore then (d.setSyn i { d.syn i with restore := false }).goHome i
    else d
  else d

/-- SYNTH_LOCKED (R167). -/
def execSynthLocked (i : Fin 15) (band : BitVec 6) (s : State) : Host.Outcome State Fault Refusal :=
  onLive s fun d => d.synDone i.val band.toNat

/-- SYNTH_LOCK_FAIL (R169): a forced band does not reach the frequency. `i` is the synthesizer's bit of SB_ARM_SYNTH. -/
def execSynthLockFail (i : Fin 9) (s : State) : Host.Outcome State Fault Refusal :=
  onLive s fun d => if d.forced (6 + i.val) && (d.syn (6 + i.val)).job == .search then d.synFault (6 + i.val) else d

/-- WS0 has left lock while an act plays on it (R355). -/
def Dev.wsFault (d : Dev) : Dev := (if d.synLocked 14 then d.synFault 14 else d).awgClockFault

/-- A locked synthesizer leaves lock other than by a requested retune (R180, R197, R355). -/
def Dev.lockLoss (d : Dev) (i : Nat) : Dev :=
  if !d.synLocked i then d
  else if i < 2 then (if d.power = 3 ∨ d.power = 4 then d.csFault i else d.synFault i)
  else if i = 14 then d.wsFault
  else d.synFault i

/-- SYNTH_LOCK_LOSS (R197). -/
def execSynthLockLoss (i : Fin 15) (s : State) : Host.Outcome State Fault Refusal := onLive s fun d => d.lockLoss i.val

/-- AWG_CLOCK_FAULT (R355). -/
def execAwgClockFault (s : State) : Host.Outcome State Fault Refusal :=
  onLive s fun d => if (List.range 4).any (d.running F.ACT_ENG_aw) then d.wsFault else d

/-- LANE_RATE_WRITE (R166, R197): a write of the rate of LSn. -/
def execLaneRateWrite (ls : Fin 8) (w : BusWrite) (s : State) : Host.Outcome State Fault Refusal :=
  onDev s fun d => d.writeAt (0x1B + ls.val / 2) (0x040 + 4 * (ls.val % 2)) w

/-- A register of a SYN block (Tables 6.8 and 6.9). -/
def synOff (i o : Nat) : Nat := 0x100 + 32 * synIndex i + o

/-- SYN_APPLY (R198); `i` is the synthesizer's bit of SB_ARM_SYNTH. -/
def execSynApply (i : Fin 9) (w : BusWrite) (s : State) : Host.Outcome State Fault Refusal :=
  onDev s fun d => d.writeAt (synPage (6 + i.val)) (synOff (6 + i.val) 0x0C) w

/-- SYN_PSTEP (R181). -/
def execSynPstep (i : Fin 15) (w : BusWrite) (s : State) : Host.Outcome State Fault Refusal :=
  onDev s fun d => d.writeAt (synPage i.val) (synOff i.val 0x10) w

/-- REFOUT_PSTEP (R181). -/
def execRefoutPstep (n : Fin 4) (w : BusWrite) (s : State) : Host.Outcome State Fault Refusal :=
  onDev s fun d => d.writeAt 0x18 (0x070 + 4 * n.val) w

/-- REFOUT_CONFIG (R182). -/
def execRefoutConfig (n : Fin 4) (w : BusWrite) (s : State) : Host.Outcome State Fault Refusal :=
  onDev s fun d => d.writeAt 0x18 (0x060 + 4 * n.val) w

/-- LANE_PHASE_MOVE (R188). -/
def execLanePhaseMove (lane : Fin 16) (w : BusWrite) (s : State) : Host.Outcome State Fault Refusal :=
  onDev s fun d => d.writeAt (groupPage lane.val) (0x050 + 4 * (lane.val % 4)) w

end Sys2Proof.Machine
end

