-- ==== Sys2Proof/Machine/FabricCmd.lean ====
section
/-! DEFINITION. The commands of the register fabric, of protection and of the Turnstiles
(spec/02_register_pages_and_protection.md R21 to R63, R485). -/
namespace Sys2Proof.Machine

/-- REGISTER_WRITE (R28 to R30, R485): bytes at an address, split into words in ascending order. -/
def execRegisterWrite (m : Master) (addr : BitVec 24) (bytes : List (Bool × Byte)) (s : State) :
    Host.Outcome State Fault Refusal :=
  onDev s fun d => d.writeBytes m addr.toNat bytes

/-- ALIAS_WRITE (R26, R27). -/
def execAliasWrite (addr : BitVec 24) (w : BusWrite) (s : State) : Host.Outcome State Fault Refusal :=
  onDev s fun d => d.busWrite w.m addr.toNat w.be w.data

/-- RC_READ (R25, R30, R31): a read of bytes at an address, registers or aliases, split into words in ascending order. -/
def execRcRead (addr : BitVec 24) (r : SpanRead) (s : State) : Host.Outcome State Fault Refusal :=
  onDev s fun d => d.readBytes r.m addr.toNat r.lanes

/-- PAGE_ENABLE (R21). -/
def execPageEnable (m : Master) (page : BitVec 8) (on : Bool) (s : State) : Host.Outcome State Fault Refusal :=
  onDev s fun d => d.writeCtrl m page.toNat fun w => wordBit w 0 on

/-- BLOCK_RESET (R37 to R39). -/
def execBlockReset (m : Master) (page : BitVec 8) (s : State) : Host.Outcome State Fault Refusal :=
  onDev s fun d => d.writeCtrl m page.toNat fun w => wordBit w 1 true

/-- BLOCK_RESET_DONE (R37): reset_busy falls on every page of the block. -/
def execBlockResetDone (page : BitVec 8) (s : State) : Host.Outcome State Fault Refusal :=
  onLive s fun d =>
    if d.on page.toNat F.PAGE_CTRL_reset_busy then
      (blockPages page.toNat).foldl (fun d p => d.wr p F.PAGE_CTRL_reset_busy 0) d
    else d

/-- LEVEL_CHANGE (R35). -/
def execLevelChange (m : Master) (page : BitVec 8) (expert : Bool) (s : State) : Host.Outcome State Fault Refusal :=
  onDev s fun d => d.writeCtrl m page.toNat fun w => wordBit w 2 expert

/-- PAGE_LOCK (R41). -/
def execPageLock (m : Master) (page : BitVec 8) (s : State) : Host.Outcome State Fault Refusal :=
  onDev s fun d => d.writeCtrl m page.toNat fun w => wordBit w 4 true

/-- CHECK_ENABLE (R53). -/
def execCheckEnable (m : Master) (page : BitVec 8) (on : Bool) (s : State) : Host.Outcome State Fault Refusal :=
  onDev s fun d => d.writeCtrl m page.toNat fun w => wordBit w 5 on

/-- PAGE_COMMIT (R54). -/
def execPageCommit (m : Master) (page : BitVec 8) (s : State) : Host.Outcome State Fault Refusal :=
  onDev s fun d => d.writeCtrl m page.toNat fun w => wordBit w 6 true

/-- COMMIT_DONE (R54). -/
def execCommitDone (page : BitVec 8) (s : State) : Host.Outcome State Fault Refusal := onLive s fun d => d.commitDone page.toNat

/-- KEY_ARM (R46, R47): a write of PAGE_UNLOCK. -/
def execKeyArm (page : BitVec 8) (w : BusWrite) (s : State) : Host.Outcome State Fault Refusal :=
  onDev s fun d => d.writeAt page.toNat 0x018 w

/-- KEY_EXPIRE (R48). -/
def execKeyExpire (page : BitVec 8) (s : State) : Host.Outcome State Fault Refusal := onLive s fun d => d.keyExpire page.toNat

/-- One of the writes of PAGE_OWNER in a cycle; `d0` is the device when the cycle began. A claim of a page that was free, after the
one that took it, is ignored where no access check of the cycle's beginning stops it (R45, R485). -/
def Dev.claim (d0 d : Dev) (p : Nat) (w : BusWrite) : Dev :=
  let claims := F.PAGE_OWNER_valid.get (w.data &&& beMask w.be) == 1 &&
    (d.privileged w.m || F.PAGE_OWNER_owner.get w.data == w.m.id)
  if isOwned p && !d0.on p F.PAGE_OWNER_valid && d.on p F.PAGE_OWNER_valid && claims && d.heard w.m && !d.stalls w.m &&
      !d.barred w.m p then
    match d0.accessCause (d0.mkWr w.m p 0x024 w.be w.data) w.data (w.be != 15) with
    | some c => d.violation w.m c p (addrOf p 0x024) w.be w.data
    | none => d.stateReject p
  else d.writeAt p 0x024 w

/-- PAGE_CLAIM (R45): the writes of one cycle, in ascending master ID. -/
def execPageClaim (page : BitVec 8) (ws : List BusWrite) (s : State) : Host.Outcome State Fault Refusal :=
  onDev s fun d =>
    ((List.range 8).flatMap fun i => ws.filter fun w => w.m.id == i).foldl (fun e w => Dev.claim d e page.toNat w) d

/-- T3_SWEEP (R49 to R51): the copies that have been upset since the last sweep, and the vote. -/
def execT3Sweep (upsets : List (Nat × Word × Word)) (s : State) : Host.Outcome State Fault Refusal :=
  onLive s fun d => (d.upsets upsets).sweep

/-- CHECK_RECOMPUTE (R52, R53). -/
def execCheckRecompute (page : BitVec 8) (s : State) : Host.Outcome State Fault Refusal := onLive s fun d => d.recheck page.toNat

/-- PROT_THAW (R58). -/
def execProtThaw (w : BusWrite) (s : State) : Host.Outcome State Fault Refusal := onDev s fun d => d.writeAt 0x08 0x044 w

/-- AUTOTHAW (R58). -/
def execAutothaw (m : Master) (s : State) : Host.Outcome State Fault Refusal := onDev s fun d => d.autothaw m

/-- THAW_REQ (R58). -/
def execThawReq (w : BusWrite) (s : State) : Host.Outcome State Fault Refusal := onDev s fun d => d.writeAt 0x0A 0x044 w

/-- MC_THAW (R58). -/
def execMcThaw (m : Master) (s : State) : Host.Outcome State Fault Refusal := onDev s fun d => d.mcThaw m

/-- MC_WATCHDOG_RESET (R57, R400). -/
def execMcWatchdogReset (s : State) : Host.Outcome State Fault Refusal := onDev s fun d => d.watchdog

/-- VLOG_POP (R59). -/
def execVlogPop (w : BusWrite) (s : State) : Host.Outcome State Fault Refusal := onDev s fun d => d.writeAt 0x08 0x05C w

/-- TURNSTILE_ACQUIRE (R61, R62): the reads of one cycle, in ascending master ID; each is answered. -/
def execTurnstileAcquire (n : Fin 64) (rs : List BusRead) (s : State) : Host.Outcome State Fault Refusal :=
  onDev s fun d =>
    ((List.range 8).flatMap fun i => rs.filter fun r => r.m.id == i).foldl (fun d r => d.readAt 0x09 (0x200 + 4 * n.val) r) d

/-- TURNSTILE_RELEASE (R63). -/
def execTurnstileRelease (n : Fin 64) (w : BusWrite) (s : State) : Host.Outcome State Fault Refusal :=
  onDev s fun d => d.writeAt 0x09 (0x200 + 4 * n.val) w

end Sys2Proof.Machine
end

