-- ==== Sys2Proof/Machine/LaneCmd.lean ====
section
/-! DEFINITION. The commands of the transmit lanes' error injectors (spec/07_transmit_lanes.md R217 to R221) and of the receive
lanes (spec/08_receive_lanes_and_inline_forwarding.md R223 to R248). -/
namespace Sys2Proof.Machine

/-! ## Error injection -/

/-- ERR_INJECT_GO (R219): a write of TXL_ERR_CTRL. -/
def execErrInjectGo (lane : Fin 16) (w : BusWrite) (s : State) : Host.Outcome State Fault Refusal :=
  onDev s fun d => d.writeAt (txPage lane.val) 0x420 w

/-- ERR_INJECT_EVENT (R219): an event that mode 4 listens to arrives. -/
def execErrInjectEvent (lane : Fin 16) (s : State) : Host.Outcome State Fault Refusal :=
  onLive s fun d =>
    match d.take fun t => t == .errInject lane.val with
    | some (_, d) => if d.rd (txPage lane.val) F.TXL_ERR_CTRL_mode = 4 then d.errTrigger lane.val else d
    | none => d

/-- ERR_INJECT (R217, R218, R221): the first changed bit leaves the pins at `ts`. -/
def execErrInject (lane : Fin 16) (ts : Stamp) (s : State) : Host.Outcome State Fault Refusal :=
  onLive s fun d => d.errApply lane.val ts

/-! ## Receive lane states -/

/-- The input rises above the threshold (Table 8.1). -/
def Dev.rxDetect (d : Dev) (n : Nat) : Dev :=
  if d.rxState n = 1 then (d.setRxState n 2).wr (rxPage n) F.RXL_STAT_sigdet 1 else d

/-- SIGNAL_DETECT (R227). -/
def execSignalDetect (lane : Fin 16) (s : State) : Host.Outcome State Fault Refusal := onLive s fun d => d.rxDetect lane.val

/-- CDR_LOCK (R227, R228): `ppm` is the measured offset. -/
def execCdrLock (lane : Fin 16) (ppm : BitVec 16) (s : State) : Host.Outcome State Fault Refusal :=
  onLive s fun d => if d.rxState lane.val = 2 then d.rxLock lane.val ppm else d

/-- Adaptation converges: to TRACK under mode 0, to HOLD otherwise (Table 8.1). -/
def Dev.rxConverged (d : Dev) (n : Nat) : Dev :=
  if d.rxState n = 3 then
    (d.rxBurstEnd n).rxArrive n (if d.rd (rxPage n) F.RXL_ADAPT_mode = 0 then 4 else 5)
  else d

/-- ADAPT_CONVERGED (R227). -/
def execAdaptConverged (lane : Fin 16) (s : State) : Host.Outcome State Fault Refusal := onLive s fun d => d.rxConverged lane.val

/-- The CDR loses lock (R227). -/
def Dev.rxUnlock (d : Dev) (n : Nat) : Dev :=
  if 3 ≤ d.rxState n ∧ d.rxState n ≤ 5 then (d.bump (rxPage n) F.RXL_CNT_lock_lost).rxAcquire n else d

/-- CDR_LOCK_LOSS (R227). -/
def execCdrLockLoss (lane : Fin 16) (s : State) : Host.Outcome State Fault Refusal := onLive s fun d => d.rxUnlock lane.val

/-- The input falls below the threshold: the lane holds what it has and is quiet (R227, R241, R248). A splice is cut with
cause 3 before the aligner leaves ALIGNED. -/
def Dev.rxQuiet (d : Dev) (n : Nat) : Dev :=
  let p := rxPage n
  let was := d.rxState n
  if was = 0 ∨ was = 6 then d
  else
    let aligned := d.aligned n
    let d := ((d.rxStore n).cutSplice n 3).hunt n
    let d := d.rxBurstEnd n
    let d := d.setRx n { d.rx n with back := was }
    let d := (d.setRxState n 6).wr p F.RXL_STAT_sigdet 0
    let d := (d.fwdStop n).stat p 21
    if aligned then d.raiseIf p F.RXL_EV_lost_en F.RXL_EV_lost_ev else d

/-- SIGNAL_LOSS (R227, R241). -/
def execSignalLoss (lane : Fin 16) (s : State) : Host.Outcome State Fault Refusal := onLive s fun d => d.rxQuiet lane.val

/-- The signal is back after `us` µs of quiet (R231): the lane returns to the state it left, or reacquires. -/
def Dev.rxReturn (d : Dev) (n us : Nat) : Dev :=
  let p := rxPage n
  if d.rxState n = 6 then
    let d := (d.hunt n).wr p F.RXL_STAT_sigdet 1
    if us ≤ d.rd p F.RXL_SIGDET_hold_us then
      (match (d.rx n).back with
       | 4 => d.rxArrive n 4
       | 5 => d.rxArrive n 5
       | 3 => d.setRxState n 3
       | _ => d.setRxState n 2)
    else d.setRxState n 2
  else d

/-- SIGNAL_RETURN (R231). -/
def execSignalReturn (lane : Fin 16) (quietUs : Nat) (s : State) : Host.Outcome State Fault Refusal :=
  onLive s fun d => d.rxReturn lane.val quietUs

/-- An adaptation burst starts gathering, or ends with the update `eq`; a change latched behind it discards the data (R229,
R230). -/
def Dev.rxBurst (d : Dev) (n : Nat) (done : Bool) (eq : List (BitVec 10)) : Dev :=
  let st := d.rxState n
  if done then
    if (d.rx n).burst then
      let d := if (d.rx n).latched then d else d.setRxEq n eq
      d.rxBurstEnd n
    else d
  else if (st = 3 ∨ st = 4) ∧ !(d.rx n).latched then d.setRx n { d.rx n with burst := true }
  else d

/-- ADAPT_BURST (R229). -/
def execAdaptBurst (lane : Fin 16) (done : Bool) (eq : List (BitVec 10)) (s : State) : Host.Outcome State Fault Refusal :=
  onLive s fun d => d.rxBurst lane.val done eq

/-- ADAPT_RESTART (R227): a write of RXL_ADAPT. -/
def execAdaptRestart (lane : Fin 16) (w : BusWrite) (s : State) : Host.Outcome State Fault Refusal :=
  onDev s fun d => d.writeAt (rxPage lane.val) 0x410 w

/-! ## Profile switches -/

/-- PROFILE_SWITCH_GO (R232): a write of RXL_SWITCH. -/
def execProfileSwitchGo (lane : Fin 16) (w : BusWrite) (s : State) : Host.Outcome State Fault Refusal :=
  onDev s fun d => d.writeAt (rxPage lane.val) 0x418 w

/-- PROFILE_SWITCH_EVENT (R232): an event that RXL_SWITCH listens to arrives. -/
def execProfileSwitchEvent (lane : Fin 16) (s : State) : Host.Outcome State Fault Refusal :=
  onLive s fun d =>
    match d.take fun t => t == .rxSwitch lane.val with
    | some (_, d) => if d.on (rxPage lane.val) F.RXL_SWITCH_en then d.rxSwitch lane.val else d
    | none => d

/-- SWITCH_APPLY (R230, R232, R233): at the end of the burst, or at the next boundary outside one. -/
def execSwitchApply (lane : Fin 16) (s : State) : Host.Outcome State Fault Refusal :=
  onLive s fun d =>
    if (d.rx lane.val).latched && !(d.rx lane.val).burst then (d.rxChange lane.val).fwdFollow lane.val else d

/-! ## Blocks -/

/-- The polarity of a lane (R224): NRZ bits invert, and PAM4 level L becomes 3 - L, which inverts both of its bits. -/
def Dev.rxPolarity (d : Dev) (n : Nat) (bits : List Bool) : List Bool :=
  if d.on (rxPage n) F.RXL_POL_invert then bits.map (!·) else bits

/-- The CDR tracks: the measured offset shows (R228). -/
def Dev.rxTrack (d : Dev) (n : Nat) (ppm : Option (BitVec 16)) : Dev :=
  match ppm with
  | some v => if ppmOk v then d.wr (rxPage n) F.RXL_STAT_ppm v.toNat else d
  | none => d

/-- Words of the play in a REPLACE leave until a spliced block stands in the position of the block that comes (R245), as far as the
play's tiles are resident. -/
def Dev.blockPull (d : Dev) (n : Nat) : Dev :=
  (List.range (d.rxBlockBits n / 64 + 1)).foldl
    (fun d _ =>
      if d.splicing n && !d.inserting n && decide ((d.rx n).lead ≤ 0) then (d.playStep (fwdTx n)).getD d else d) d

/-- A block for the aligner (R224, R228, R234 to R248, R252, R255): its polarity is corrected, it moves the aligner, is forwarded,
and is for the capture engine while the aligner is ALIGNED. Assumption 57, DESIGN CHOICE. -/
def Dev.rxTake (d : Dev) (n : Nat) (b : RxBlock) : Option CapIn × Dev :=
  let p := rxPage n
  let st := d.rxState n
  if st < 3 ∨ st = 6 then (none, d)
  else if b.bits.length ≠ d.rxBlockBits n || !d.alignOff n b.off then (none, d.rxTrack n b.ppm)
  else
    let d := d.rxTrack n b.ppm
    let b := { b with bits := d.rxPolarity n b.bits }
    let bits := d.lineBits n (d.blockOdd n b) (b.next != d.on p F.RXL_POL_invert) b.bits
    let was := d.aligned n
    let bad := was && !blockValid (d.rd p F.RXL_FRAME_framing) bits
    let d := d.alignStep n b.off bits
    let (rep, d) := if was || d.on p F.RXL_FWD_STAT_fwd then (d.blockPull n).forwardBlock n b bits else (false, d)
    let d := if rep then d.bump (cePage (n / 8)) F.CE_REPLACED else d
    if was then
      let (stream, d) := d.descramble n bits
      (some ⟨n, b, stream, bad, rep⟩, d)
    else (none, d)

/-- The blocks of a capture core cycle pass the aligners and reach the engines. -/
def Dev.rxCycle (d : Dev) (n : Nat) (b : RxCycle) : Dev :=
  let (ins, d) := ((n, b.block) :: b.more.map fun x => (x.1.val, x.2)).foldl
    (fun (y : List CapIn × Dev) x => let z := y.2.rxTake x.1 x.2; (y.1 ++ z.1.toList, z.2)) ([], d)
  if ins.isEmpty then d else [0, 1].foldl (fun d c => d.capCycle ins c) d

/-- RX_BLOCK (R235, R256). -/
def execRxBlock (lane : Fin 16) (b : RxCycle) (s : State) : Host.Outcome State Fault Refusal :=
  onLive s fun d => d.rxCycle lane.val b

end Sys2Proof.Machine
end

