-- ==== Sys2Proof/Machine/ScratchCmd.lean ====
section
/-! DEFINITION. The commands of the scratchpad and the queues (spec/11_scratchpad_and_queues.md R306 to R330). -/
namespace Sys2Proof.Machine

/-! ## Banks -/

/-- BANK_HANDOVER (R309, R310): a write of SPB_OWN. -/
def execBankHandover (bank : Fin 64) (w : BusWrite) (s : State) : Host.Outcome State Fault Refusal :=
  onDev s fun d => d.writeAt (bankPage bank.val) (0x100 + 32 * (bank.val % 8)) w

/-- ZERO_FILL_DONE (R310, R312). -/
def execZeroFillDone (bank : Fin 64) (s : State) : Host.Outcome State Fault Refusal :=
  onLiveBoth s fun d m => fillDone d m bank.val

/-- BANK_POWER_MODE (R312): a write of SPB_PWR. -/
def execBankPowerMode (bank : Fin 64) (w : BusWrite) (s : State) : Host.Outcome State Fault Refusal :=
  onDev s fun d => d.writeAt (bankPage bank.val) (0x104 + 32 * (bank.val % 8)) w

/-- BANK_RETENTION (R312, R313). -/
def execBankRetention (bank : Fin 64) (s : State) : Host.Outcome State Fault Refusal := onLive s fun d => d.retain bank.val

/-- SCRATCHPAD_ACCESS (R306, R314 to R318). -/
def execScratchpadAccess (bank : Fin 64) (a : SpAccess) (hit : Option SpCollision) (ecc : EccResult) (s : State) :
    Host.Outcome State Fault Refusal :=
  onBoth s fun d m => spTake d m bank.val a hit ecc

/-- A row of the background test, while the housekeeping task runs (R319); the task has run once every row is done. A bank that
fails stays counted as late, and overdue with it. Assumption 134, DESIGN CHOICE. -/
def testStep (d : Dev) (m : Mem) (b row : Nat) (pass : Bool) : Dev × Mem :=
  if d.has 0x02 F.SB_HK_CTRL_en 1 && d.testable b then
    let x := testRow d m b row pass
    (if d.testedRows b row = BitVec.allOnes 256 ∧ x.1.owner b ≠ 0x3F then x.1.hkRan 1 b else x.1, x.2)
  else (d, m)

/-- SCRATCHPAD_SAVE_TEST_RESTORE (R319 to R322): one row of a bank. -/
def execScratchpadSaveTestRestore (bank : Fin 64) (row : BitVec 8) (pass : Bool) (s : State) :
    Host.Outcome State Fault Refusal :=
  onLiveBoth s fun d m => testStep d m bank.val row.toNat pass

/-! ## Queues -/

/-- A packet that does not fit its queue: what its producer does then (R276, R326, R341, R345, R372). XDMA and PDMA hold their
data back. Assumption 73, DEDUCED. -/
def Dev.qFull (d : Dev) (q : Nat) (es : List (BitVec 512)) : Dev :=
  match q with
  | 0 | 1 => (d.qRewind q []).loseRecord q (es.flatMap fun e => natBytes 64 e.toNat)
  | 2 | 3 => d
  | 4 => ((d.stateReject 0x7A).bump 0x7A F.Q_EVT_overflow).stat 0x7A 19
  | 5 => d.bump (queuePage 5) (qf 5 F.Q_EVT_overflow)
  | 6 => (d.bump 0x80 F.MW_STAT2_trig_lost).stat 0x80 20
  | _ => (d.bump 0x80 F.MW_STAT_log_lost).stat 0x80 19

/-- The entries of Q4 to Q7 are 64 bits wide (Table 11.3). -/
def entryOf (q : Nat) (e : BitVec 512) : BitVec 512 := if q < 4 then e else (e.setWidth 64).setWidth 512

/-- A producer's packet is committed (R324, R328). -/
def Dev.qCommit (d : Dev) (q : Nat) (es : List (BitVec 512)) : Dev :=
  if es = [] then d
  else
    match d.qPush q (es.map (entryOf q)) with
    | some d => d
    | none => d.qFull q es

/-- QUEUE_COMMIT (R324). -/
def execQueueCommit (q : Fin 8) (entries : List (BitVec 512)) (s : State) : Host.Outcome State Fault Refusal :=
  onLive s fun d => d.qCommit q.val entries

/-- QUEUE_REWIND (R324): a packet written behind the committed entries is gone. -/
def execQueueRewind (q : Fin 8) (entries : List (BitVec 512)) (s : State) : Host.Outcome State Fault Refusal :=
  onLive s fun d => d.qRewind q.val (entries.map (entryOf q.val))

/-- QUEUE_POP (R326): a read of Q_RD_TAG. -/
def execQueuePop (q : Fin 8) (r : BusRead) (s : State) : Host.Outcome State Fault Refusal :=
  onDev s fun d => d.readAt (queuePage q.val) (0x118 + 64 * (q.val % 2)) r

/-- QUEUE_PUSH (R326): a write of Q_WR_HI of Q4. -/
def execQueuePush (w : BusWrite) (s : State) : Host.Outcome State Fault Refusal := onDev s fun d => d.writeAt 0x7A 0x128 w

/-- QUEUE_DROP (R327): a write of Q_DROP. -/
def execQueueDrop (q : Fin 8) (w : BusWrite) (s : State) : Host.Outcome State Fault Refusal :=
  onDev s fun d => d.writeAt (queuePage q.val) (0x12C + 64 * (q.val % 2)) w

/-- QUEUE_FLUSH (R330): a write of Q_FLUSH. -/
def execQueueFlush (w : BusWrite) (s : State) : Host.Outcome State Fault Refusal := onDev s fun d => d.writeAt 0x78 0x040 w

/-- QUEUE_MISMATCH (R329). -/
def execQueueMismatch (q : Fin 8) (s : State) : Host.Outcome State Fault Refusal := onLive s fun d => d.qMismatch q.val

end Sys2Proof.Machine
end

