-- ==== Sys2Proof/Machine/LinkCmd.lean ====
section
/-! DEFINITION. The commands of the host link, its DMA channels and the fallback transport
(spec/14_host_link_and_mailboxes.md R375 to R396). -/
namespace Sys2Proof.Machine

/-! ## The link -/

/-- LINK_UP (R375, R381). -/
def execLinkUp (gen : BitVec 3) (s : State) : Host.Outcome State Fault Refusal := onDev s fun d => d.linkUp gen.toNat

/-- LINK_DOWN (R381, R391). -/
def execLinkDown (s : State) : Host.Outcome State Fault Refusal := onDev s Dev.linkDown

/-- FALLBACK_ENUMERATE (R376). -/
def execFallbackEnumerate (s : State) : Host.Outcome State Fault Refusal := onDev s Dev.fallback

/-- The link's state changes, or the host configures the endpoint over it (R377). Assumption 138, DESIGN CHOICE. -/
def Dev.linkState (d : Dev) (c : LinkState) : Dev :=
  match c with
  | .cl n => d.linkCl n.toNat
  | .endpoint e => if 2 ≤ d.linkGen then { d with ep := e } else d

/-- LINK_CL_STATE_CHANGE (R375, R377). -/
def execLinkClStateChange (c : LinkState) (s : State) : Host.Outcome State Fault Refusal := onDev s fun d => d.linkState c

/-! ## DMA -/

/-- A write of a register of a channel's block. -/
def Dev.dmaWrite (d : Dev) (ch off : Nat) (w : BusWrite) : Dev := d.writeAt (dmaPage ch) (0x100 + 64 * (ch % 4) + off) w

/-- DMA_HEAD_WRITE (R382, R392). -/
def execDmaHeadWrite (ch : Fin 8) (w : BusWrite) (s : State) : Host.Outcome State Fault Refusal :=
  onDev s fun d => d.dmaWrite ch.val 0x0C w

/-- DMA_ENABLE (R382, R395): a write of DMA_CTRL. -/
def execDmaEnable (ch : Fin 8) (w : BusWrite) (s : State) : Host.Outcome State Fault Refusal :=
  onDev s fun d => d.dmaWrite ch.val 0x14 w

/-- DMA_ABORT (R390): a write of DMA_CTRL. -/
def execDmaAbort (ch : Fin 8) (w : BusWrite) (s : State) : Host.Outcome State Fault Refusal :=
  onDev s fun d => d.dmaWrite ch.val 0x14 w

/-- DMA_DESCRIPTOR (R382 to R387, R389): a frozen XDMA stalls (Table 2.4). -/
def execDmaDescriptor (ch : Fin 8) (words : List Word) (hostOk : Bool) (s : State) : Host.Outcome State Fault Refusal :=
  onDev s fun d => if d.frozen .xdma then d else d.dmaDescriptor ch.val words hostOk

/-- DMA_COMPLETION (R384 to R390). -/
def execDmaCompletion (ch : Fin 8) (fromHost : Bytes) (moved : Nat) (why : DmaEnd) (hostOk : Bool) (s : State) :
    Host.Outcome State Fault Refusal :=
  onLiveBoth s fun d m => if d.frozen .xdma then (d, m) else dmaComplete d m ch.val fromHost moved why hostOk

/-! ## The fallback transport (R394, R395) -/

/-- The request of a header that is not a WRITE's or a tile request's. -/
def fbHeader (tag : BitVec 16) (op : FbOp) (len addr : Nat) : FbReq :=
  match op with
  | .read space => .read tag space.toNat len addr
  | .other n => .other n.toNat tag

/-- FALLBACK_READ (R394, R395). -/
def execFallbackRead (tag : BitVec 16) (op : FbOp) (len : Word) (addr : BitVec 64) (s : State) :
    Host.Outcome State Fault Refusal :=
  onBoth s fun d m => fbTake d m (fbHeader tag op len.toNat addr.toNat)

/-- FALLBACK_WRITE (R395). -/
def execFallbackWrite (tag : BitVec 16) (space : BitVec 2) (addr : BitVec 64) (data : Bytes) (s : State) :
    Host.Outcome State Fault Refusal :=
  onBoth s fun d m => fbTake d m (.write tag space.toNat addr.toNat data)

/-- FALLBACK_TILE_READ (R395). -/
def execFallbackTileRead (tag : BitVec 16) (len : Word) (addr : BitVec 64) (why : DmaEnd) (s : State) :
    Host.Outcome State Fault Refusal :=
  onBoth s fun d m => fbTake d m (.tile 3 1 tag len.toNat addr.toNat [] why)

/-- FALLBACK_TILE_WRITE (R395, R396). -/
def execFallbackTileWrite (tag : BitVec 16) (addr : BitVec 64) (data : Bytes) (why : DmaEnd) (s : State) :
    Host.Outcome State Fault Refusal :=
  onBoth s fun d m => fbTake d m (.tile 4 0 tag data.length addr.toNat data why)

end Sys2Proof.Machine
end

