-- ==== Sys2Proof/Machine/MailCmd.lean ====
section
/-! DEFINITION. The commands of the mailboxes and of the firmwares that serve them (spec/14_host_link_and_mailboxes.md R397 to R411;
spec/05_segments_tiles_and_hot_residency.md R158 to R163; spec/15_security_identity_and_calibration.md R412 to R432). -/
namespace Sys2Proof.Machine

/-! ## Channels -/

/-- A write of a register of a channel's block. -/
def Dev.mbWrite (d : Dev) (ch off : Nat) (w : BusWrite) : Dev := d.writeAt (mbPage ch) (0x400 + 0x80 * (ch % 16) + off) w

/-- MB_DOORBELL (R399): a write of MB_DB. -/
def execMbDoorbell (ch : Fin 64) (w : BusWrite) (s : State) : Host.Outcome State Fault Refusal :=
  onDev s fun d => d.mbWrite ch.val 0x40 w

/-- MB_TAKE (R399): a write of MB_TAKE. -/
def execMbTake (ch : Fin 64) (w : BusWrite) (s : State) : Host.Outcome State Fault Refusal :=
  onDev s fun d => d.mbWrite ch.val 0x44 w

/-- MB_ACKW (R399): a write of MB_ACKW. -/
def execMbAckw (ch : Fin 64) (w : BusWrite) (s : State) : Host.Outcome State Fault Refusal :=
  onDev s fun d => d.mbWrite ch.val 0x48 w

/-- MB_FLUSH (R401): a write of MB_FLUSH. -/
def execMbFlush (ch : Fin 64) (w : BusWrite) (s : State) : Host.Outcome State Fault Refusal :=
  onDev s fun d => d.mbWrite ch.val 0x54 w

/-- NOTIFY_EMERGENCY (R411). -/
def execNotifyEmergency (s : State) : Host.Outcome State Fault Refusal := onLive s fun d => d.notify 0x8001

/-- NOTIFY_MC_RESTART (R411). -/
def execNotifyMcRestart (s : State) : Host.Outcome State Fault Refusal := onLive s fun d => d.notify 0x8002

/-! ## Commands of the MC (Table 14.7) -/

/-- HELLO (R405). -/
def execHello (ch : Fin 64) (s : State) : Host.Outcome State Fault Refusal := onLiveBoth s fun d m => mailHello d m ch.val

/-- INFO (R407). -/
def execInfo (ch : Fin 64) (s : State) : Host.Outcome State Fault Refusal := onLiveBoth s fun d m => mailInfo d m ch.val

/-- ECHO (R407). -/
def execEcho (ch : Fin 64) (s : State) : Host.Outcome State Fault Refusal := onLiveBoth s fun d m => mailEcho d m ch.val

/-- LOAD (R158 to R163, R408): a second run of the command ends a preparation that the load asked for. -/
def execLoad (ch : Fin 64) (s : State) : Host.Outcome State Fault Refusal :=
  onLiveBoth s fun d m => if d.dmWaits then (d, m) else mailLoad d m ch.val

/-- ACT_SUBMIT (R409). -/
def execActSubmit (ch : Fin 64) (s : State) : Host.Outcome State Fault Refusal := onLiveBoth s fun d m => mailSubmit d m ch.val

/-- ACT_ABORT (R407). -/
def execActAbort (ch : Fin 64) (s : State) : Host.Outcome State Fault Refusal := onLiveBoth s fun d m => mailAbort d m ch.val

/-- POWER (R410). -/
def execPower (ch : Fin 64) (s : State) : Host.Outcome State Fault Refusal := onLiveBoth s fun d m => mailPower d m ch.val

/-! ## Commands of the SE and of the calibration store (Table 15.7) -/

/-- FW_UPDATE (R416, R419). -/
def execFwUpdate (ch : Fin 64) (s : State) : Host.Outcome State Fault Refusal := onLiveBoth s fun d m => mailFwUpdate d m ch.val

/-- FW_ACTIVATE (R420): `intact` says of slot A and of slot B whether the store gives the image's bytes back. -/
def execFwActivate (ch : Fin 64) (intact : Bool × Bool) (s : State) : Host.Outcome State Fault Refusal :=
  onLiveBoth s fun d m => mailFwActivate intact.1 intact.2 d m ch.val

/-- FW_COMMIT (R421). -/
def execFwCommit (ch : Fin 64) (s : State) : Host.Outcome State Fault Refusal := onLiveBoth s fun d m => mailFwCommit d m ch.val

/-- CERT_GET (R422). -/
def execCertGet (ch : Fin 64) (s : State) : Host.Outcome State Fault Refusal := onLiveBoth s fun d m => mailCert d m ch.val

/-- ATTEST (R423). -/
def execAttest (ch : Fin 64) (s : State) : Host.Outcome State Fault Refusal := onLiveBoth s fun d m => mailAttest d m ch.val

/-- DBG_CHALLENGE (R426). -/
def execDbgChallenge (ch : Fin 64) (s : State) : Host.Outcome State Fault Refusal :=
  onLiveBoth s fun d m => mailChallenge d m ch.val

/-- DBG_UNLOCK (R426, R427). -/
def execDbgUnlock (ch : Fin 64) (s : State) : Host.Outcome State Fault Refusal := onLiveBoth s fun d m => mailUnlock d m ch.val

/-- DBG_LOCK (R427). -/
def execDbgLock (ch : Fin 64) (s : State) : Host.Outcome State Fault Refusal := onLiveBoth s fun d m => mailDbgLock d m ch.val

/-- OWNER_KEY_SET (R428). -/
def execOwnerKeySet (ch : Fin 64) (s : State) : Host.Outcome State Fault Refusal :=
  onLiveBoth s fun d m => mailOwnerKey d m ch.val

/-- CAL_EXPORT (R431). -/
def execCalExport (ch : Fin 64) (s : State) : Host.Outcome State Fault Refusal := onLiveBoth s fun d m => mailExport d m ch.val

/-- CAL_STAGE (R431). -/
def execCalStage (ch : Fin 64) (s : State) : Host.Outcome State Fault Refusal := onLiveBoth s fun d m => mailStage d m ch.val

/-- CAL_COMMIT (R429, R432). -/
def execCalCommit (ch : Fin 64) (s : State) : Host.Outcome State Fault Refusal := onLiveBoth s fun d m => mailCalCommit d m ch.val

/-- MEASUREMENT_SELECT (R424): a write of SEC_MEAS_SEL. -/
def execMeasurementSelect (w : BusWrite) (s : State) : Host.Outcome State Fault Refusal := onDev s fun d => d.writeAt 0x11 0x040 w

end Sys2Proof.Machine
end

