-- ==== Sys2Proof/Machine/MidwayCmd.lean ====
section
/-! DEFINITION. The commands of the Midway event fabric (spec/12_midway_event_fabric.md R331 to R348). -/
namespace Sys2Proof.Machine

/-- A Midway cycle goes by, which is one timebase count; what else the time moves catches up when the clock next runs (R338). -/
def Dev.midwayPass (d : Dev) : Dev :=
  if d.timeRuns then { d with count := d.count + 1, mw := { d.mw with owed := d.mw.owed + 1 } } else d

/-- EVENT_RAISE (R331 to R334): a Midway cycle with the raises of sources outside the model and those that wait. -/
def execEventRaise (rs : List Raise) (s : State) : Host.Outcome State Fault Refusal :=
  onLive s fun d => (d.midwayCycle rs).midwayPass

/-- LUT_DELAY_EXPIRY (R338). -/
def execLutDelayExpiry (cell : Fin 64) (s : State) : Host.Outcome State Fault Refusal := onLive s fun d => d.lutDelay cell.val

/-- LUT_CFG_WRITE (R339): a write of LUT_CFG. -/
def execLutCfgWrite (cell : Fin 64) (w : BusWrite) (s : State) : Host.Outcome State Fault Refusal :=
  onDev s fun d => d.writeAt (cellPage cell.val) (0x108 + 32 * (cell.val % 16)) w

/-- TRIG_IN_EDGE (R340, R341). -/
def execTrigInEdge (n : Fin 4) (rising : Bool) (e : TrigEdge) (s : State) : Host.Outcome State Fault Refusal :=
  onDev s fun d => d.trigIn n.val rising e

/-- MW_FIRE (R343): a write of MW_FIRE. -/
def execMwFire (w : BusWrite) (s : State) : Host.Outcome State Fault Refusal := onDev s fun d => d.writeAt 0x80 0x040 w

/-- MW_FIRE_MASK (R343): a write of MW_FIRE_MASKk. -/
def execMwFireMask (k : Fin 8) (w : BusWrite) (s : State) : Host.Outcome State Fault Refusal :=
  onDev s fun d => d.writeAt 0x80 (0x080 + 4 * k.val) w

end Sys2Proof.Machine
end

