-- ==== Sys2Proof/Machine/PowerCmd.lean ====
section
/-! DEFINITION. The commands of the mode, the power states and Showbill (spec/03_power_states_and_showbill.md R72 to R93, R486;
spec/01_device_at_a_glance.md R12, R13), and of the Safety Net's paths (spec/16_cartridge_safety_net_and_ring.md R433 to
R441). -/
namespace Sys2Proof.Machine

/-! ## The mode and the paths -/

/-- MODE_WRITE (R12, R13). -/
def execModeWrite (w : BusWrite) (s : State) : Host.Outcome State Fault Refusal := onDev s fun d => d.writeAt 0x00 0x040 w

/-- The last move of a mode change is confirmed (R437). -/
def Dev.modeDone (d : Dev) : Dev :=
  if d.on 0x00 F.GLB_MODE_STAT_changing then
    let d := d.checkReturn
    if d.pathsSettled && d.net.check != 1 then
      let d := (d.wr 0x00 F.GLB_MODE_STAT_active (d.rd 0x00 F.GLB_MODE_mode)).wr 0x00 F.GLB_MODE_STAT_changing 0
      let d := ({ d with net := { d.net with check := 0 } }).settlePaths
      (((List.range 16).foldl Dev.laneJoin d).rxSettleAll).openInjection
    else d
  else d

/-- MODE_CHANGE_DONE (R437). -/
def execModeChangeDone (s : State) : Host.Outcome State Fault Refusal := onLive s fun d => d.modeDone

/-- A path's sense confirms the commanded position (R434, R435). -/
def Dev.moveDone (d : Dev) (k : Nat) : Dev :=
  if d.net.moving.testBit k then
    let there := d.has 0x92 F.SN_CMD_module k
    let d := { d with net := { d.net with moving := withBit d.net.moving k false } }
    let d := ((d.fbit 0x92 F.SN_POS_module k there).stat 0x92 17).checkReturn
    let d := if d.inModule k then d.laneJoin (pathTx k) else d
    (d.rxSettle k).openInjection
  else d

/-- PATH_MOVE_DONE (R435). -/
def execPathMoveDone (k : Fin 16) (s : State) : Host.Outcome State Fault Refusal := onLive s fun d => d.moveDone k.val

/-- A commanded move is not confirmed in time (R439): the path is commanded to bypass and counts as faulted. -/
def Dev.moveFault (d : Dev) (k : Nat) : Dev :=
  if d.net.moving.testBit k then
    let d := { d with net := { d.net with moving := withBit d.net.moving k false } }
    let d := ((d.fbit 0x92 F.SN_FAULT_paths k true).stat 0x92 16).raiseSys 254
    ((d.movePath k false).checkReturn).txLost
  else d

/-- PATH_FAULT (R439). -/
def execPathFault (k : Fin 16) (s : State) : Host.Outcome State Fault Refusal := onLive s fun d => d.moveFault k.val

/-- SN_FAULT_READ (R439). -/
def execSnFaultRead (r : BusRead) (s : State) : Host.Outcome State Fault Refusal := onDev s fun d => d.readAt 0x92 0x048 r

/-- An injection switch follows the conditions of R357 (R441). -/
def Dev.moveSwitch (d : Dev) (p : Nat) : Dev := (d.fbit 0x92 F.SN_INJ_closed p (d.injectionOk p)).showAwg

/-- INJECTION_SWITCH_MOVE (R357, R441). -/
def execInjectionSwitchMove (pt : Fin 16) (s : State) : Host.Outcome State Fault Refusal := onLive s fun d => d.moveSwitch pt.val

/-! ## Power states -/

/-- A request for a power state by a full-word write of SB_STATE_REQ. -/
def Dev.askState (d : Dev) (m : Master) (req : Word) : Dev := d.writeAt 0x02 0x044 ⟨m, 15, req⟩

/-- REQ_DORMANT (R73, R294). -/
def execReqDormant (m : Master) (s : State) : Host.Outcome State Fault Refusal := onDev s fun d => d.askState m 1

/-- REQ_STANDBY (R73). -/
def execReqStandby (m : Master) (s : State) : Host.Outcome State Fault Refusal := onDev s fun d => d.askState m 2

/-- REQ_ARMED (R73, R465). -/
def execReqArmed (m : Master) (s : State) : Host.Outcome State Fault Refusal := onDev s fun d => d.askState m 3

/-- DORMANT_ENTERED (R76, R77, R292, R438). -/
def execDormantEntered (s : State) : Host.Outcome State Fault Refusal := onBoth s dormant

/-- STANDBY_ENTERED (R72, R486). -/
def execStandbyEntered (s : State) : Host.Outcome State Fault Refusal :=
  onDev s fun d =>
    match d.bill.trans with
    | .toStandby own dormant => d.enterStandby own dormant
    | _ => d

/-- ARMED_ENTERED (R72, R74). -/
def execArmedEntered (s : State) : Host.Outcome State Fault Refusal :=
  onDev s fun d =>
    match d.bill.trans with
    | .toArmed => d.enterArmed
    | _ => d

/-- WAKE (R76): the wake sources that fired in one AON slow tick, as AON_STAT.wake_src numbers them. -/
def execWake (src : BitVec 8) (s : State) : Host.Outcome State Fault Refusal := onDev s fun d => d.wakeEvent src

/-- WAKE_DONE (R75, R486). -/
def execWakeDone (us : Word) (post : BitVec 4) (okA okB : Bool) (s : State) : Host.Outcome State Fault Refusal :=
  onDev s fun d => d.wakeDone us post okA okB

/-- ARM_IDLE_EXPIRY (R486). -/
def execArmIdleExpiry (s : State) : Host.Outcome State Fault Refusal :=
  onDev s fun d =>
    if d.power = 3 ∧ d.bill.trans = .none ∧ !d.anyLive ∧ d.on 0x02 F.SB_ARM_IDLE_ms then d.setTrans (.toStandby true false) else d

/-- ARM_SYNTH_WRITE (R74). -/
def execArmSynthWrite (w : BusWrite) (s : State) : Host.Outcome State Fault Refusal := onDev s fun d => d.writeAt 0x02 0x048 w

/-! ## Acts -/

/-- SB_SUBMIT (R81, R93). -/
def execSbSubmit (w : BusWrite) (s : State) : Host.Outcome State Fault Refusal := onDev s fun d => d.writeAt 0x02 0x068 w

/-- ACT_EVALUATE (R78 to R84): of the acts in EVAL, the one that is next. -/
def execActEvaluate (slot : Fin 16) (s : State) : Host.Outcome State Fault Refusal :=
  onLive s fun d => if d.evalNext slot.val then d.evaluate slot.val else d

/-- The start event of a slot is taken from the inbox, where the slot starts on one. -/
def Dev.startEvent (d : Dev) (s : Nat) : Option Dev := (d.take fun t => t == .actStart s).map Prod.snd

/-- The paths of a forwarding act's pairs are commanded before its start (R436). -/
def Dev.forwardMove (d : Dev) (s : Nat) : Dev :=
  let go (d : Dev) : Dev := { d with bill := { d.bill with pathWait := withBit d.bill.pathWait s true } }.settlePaths
  if d.actState s == 2 && d.forwards s && !d.bill.pathWait.testBit s then
    match d.rd 0x03 (F.ACT_W0_start.at s) with
    | 0 => go d
    | 1 => go (d.reachTime (d.startCount s - 35000))
    | _ =>
      match d.startEvent s with
      | some d => go d
      | none => d
  else d

/-- FORWARD_PATH_MOVE (R436). -/
def execForwardPathMove (slot : Fin 16) (s : State) : Host.Outcome State Fault Refusal :=
  onLive s fun d => d.forwardMove slot.val

/-- An ADMITTED act starts (R85); one that forwards once its paths have been commanded (R436). -/
def Dev.startAct (d : Dev) (s : Nat) : Dev :=
  let go (d : Dev) : Dev :=
    let d := d.beginAct s
    { d with bill := { d.bill with pathWait := withBit d.bill.pathWait s false } }
  if d.actState s = 2 then
    let moved := !d.forwards s || d.bill.pathWait.testBit s
    match d.rd 0x03 (F.ACT_W0_start.at s) with
    | 0 => if moved then go d else d
    | 1 => if moved then go (d.reachTime (d.startCount s)) else d
    | _ =>
      if d.forwards s then (if moved then go d else d)
      else
        match d.startEvent s with
        | some d => go d
        | none => d
  else d

/-- ACT_START (R85, R99). -/
def execActStart (slot : Fin 16) (s : State) : Host.Outcome State Fault Refusal := onLive s fun d => d.startAct slot.val

/-- ACT_DURATION_EXPIRY (R86, R87): an open-ended act has none. -/
def execActDurationExpiry (slot : Fin 16) (s : State) : Host.Outcome State Fault Refusal :=
  onLive s fun d => if d.actState slot.val = 3 ∧ d.on 0x03 (F.ACT_DUR.at slot.val) then d.endAct slot.val 0 else d

/-- SB_ABORT (R86). -/
def execSbAbort (w : BusWrite) (s : State) : Host.Outcome State Fault Refusal := onDev s fun d => d.writeAt 0x02 0x06C w

/-! ## Heat, emergencies and housekeeping -/

/-- SENSOR_SAMPLE (R83, R88, R90): case and highest junction temperature in 1/16 °C, its sensor, and the power in 0.1 W. -/
def execSensorSample (tc tj : BitVec 16) (sensor : BitVec 8) (power : BitVec 12) (s : State) :
    Host.Outcome State Fault Refusal :=
  onDev s fun d => d.sample tc.toNat tj.toNat sensor.toNat power.toNat

/-- EMERG_CLEAR (R91). -/
def execEmergClear (w : BusWrite) (s : State) : Host.Outcome State Fault Refusal := onDev s fun d => d.writeAt 0x02 0x060 w

/-- THERMAL_TRIP (R92). -/
def execThermalTrip (s : State) : Host.Outcome State Fault Refusal := onBoth s trip

/-- HK_OVERDUE (R89): the task's row in Table 3.9, and its bank or synthesizer. -/
def execHkOverdue (task : Fin 5) (res : Fin 64) (s : State) : Host.Outcome State Fault Refusal :=
  onLive s fun d => d.overdue task.val res.val

/-- SYNTH_RECAL (R89, R190): the recalibration starts, or ends where it runs. -/
def execSynthRecal (i : Fin 9) (s : State) : Host.Outcome State Fault Refusal := onDev s fun d => d.recal i.val

/-- THERMAL_OFFSET_CHECK (R89). -/
def execThermalOffsetCheck (s : State) : Host.Outcome State Fault Refusal := onDev s fun d => d.offsetCheck

end Sys2Proof.Machine
end

