-- ==== Sys2Proof/Machine/RingCmd.lean ====
section
/-! DEFINITION. The commands of the cartridge, the Rolter ring, fingerprints and epochs
(spec/16_cartridge_safety_net_and_ring.md R442 to R459; R346 and R347 for ring event frames). -/
namespace Sys2Proof.Machine

/-! ## Cartridge -/

/-- CART_PRESENT (R442). -/
def execCartPresent (s : State) : Host.Outcome State Fault Refusal := onDev s Dev.cartPresent

/-- CART_REMOVED (R442). -/
def execCartRemoved (s : State) : Host.Outcome State Fault Refusal := onDev s Dev.cartRemoved

/-- CART_VERIFY (R443). -/
def execCartVerify (a : CartAnswer) (s : State) : Host.Outcome State Fault Refusal := onDev s fun d => d.cartVerify a

/-- CART_CHALLENGE (R444). -/
def execCartChallenge (a : CartAnswer) (s : State) : Host.Outcome State Fault Refusal := onDev s fun d => d.cartChallenge a

/-- CART_CHALLENGE_RETRY (R444): 100 ms after a failed challenge. -/
def execCartChallengeRetry (a : CartAnswer) (s : State) : Host.Outcome State Fault Refusal := onDev s fun d => d.cartRetry a

/-- A write of CART_CHAL and the challenge that an accepted one asks for. -/
def Dev.chalGo (d : Dev) (w : BusWrite) (a : CartAnswer) : Dev :=
  let d := d.writeAt 0x90 0x05C w
  if d.serving && d.net.asked then d.challengeAsked a else d

/-- CART_CHAL_GO (R444). -/
def execCartChalGo (w : BusWrite) (a : CartAnswer) (s : State) : Host.Outcome State Fault Refusal := onDev s fun d => d.chalGo w a

/-- CART_OVERRIDE (R447): a write of CART_OVR. -/
def execCartOverride (w : BusWrite) (s : State) : Host.Outcome State Fault Refusal := onDev s fun d => d.writeAt 0x90 0x100 w

/-! ## Ring -/

/-- RING_CONFIG (R448, R449): a write of RING_CFG. -/
def execRingConfig (w : BusWrite) (s : State) : Host.Outcome State Fault Refusal := onDev s fun d => d.writeAt 0x94 0x040 w

/-- RING_DISCOVERY_FRAME (R448 to R450). -/
def execRingDiscoveryFrame (f : Frame) (s : State) : Host.Outcome State Fault Refusal := onDev s fun d => d.discovery f

/-- RING_TIME_SEND (R453). -/
def execRingTimeSend (loopPs : Option Nat) (s : State) : Host.Outcome State Fault Refusal := onDev s fun d => d.timeSend loopPs

/-- RING_TIME_FRAME (R453, R454). -/
def execRingTimeFrame (f : Frame) (pathPs : Nat) (s : State) : Host.Outcome State Fault Refusal :=
  onDev s fun d => d.timeFrame f pathPs

/-- RING_NOMASTER (R449). -/
def execRingNomaster (s : State) : Host.Outcome State Fault Refusal := onDev s Dev.noMaster

/-- RING_WAKE_SEND (R451): a write of RING_WAKE. -/
def execRingWakeSend (w : BusWrite) (s : State) : Host.Outcome State Fault Refusal := onDev s fun d => d.writeAt 0x94 0x058 w

/-- RING_FINGERPRINT_FRAME (R457). -/
def execRingFingerprintFrame (f : Frame) (s : State) : Host.Outcome State Fault Refusal := onDev s fun d => d.printFrame f

/-- RING_EPOCH_FRAME (R459). -/
def execRingEpochFrame (f : Frame) (s : State) : Host.Outcome State Fault Refusal := onDev s fun d => d.epochFrame f

/-- A frame for all nodes arrives; a WAKE frame is a wake source too (Table 3.6). -/
def Dev.ringFrame (d : Dev) (f : Frame) : Dev :=
  let e := d.eventFrame f
  if f.body = .wake && f.crcOk then e.wakeEvent 8 else e

/-- RING_EVENT_FRAME (R347; R451 and R452 for the frames that no other command brings). -/
def execRingEventFrame (f : Frame) (s : State) : Host.Outcome State Fault Refusal := onDev s fun d => d.ringFrame f

/-- RING_IDLE_FRAME (R346, R452). -/
def execRingIdleFrame (s : State) : Host.Outcome State Fault Refusal := onDev s Dev.idleFrame

/-- RING_INPUT_LOCKED (R448). -/
def execRingInputLocked (s : State) : Host.Outcome State Fault Refusal := onDev s Dev.ringLock

/-- RING_INPUT_LOCK_LOST (R448). -/
def execRingInputLockLost (s : State) : Host.Outcome State Fault Refusal := onDev s Dev.ringUnlock

/-! ## Fingerprints -/

/-- FINGERPRINT_COMPUTE (R456): the timebase enters a millisecond. -/
def execFingerprintCompute (s : State) : Host.Outcome State Fault Refusal := onDev s Dev.printStart

/-- FINGERPRINT_DONE (R456, R457). -/
def execFingerprintDone (s : State) : Host.Outcome State Fault Refusal := onDev s Dev.printDone

/-! ## Epochs -/

/-- EPOCH_STAGE (R458): a write of EP_CTRL. -/
def execEpochStage (w : BusWrite) (s : State) : Host.Outcome State Fault Refusal := onDev s fun d => d.writeAt 0x0B 0x07C w

/-- STAGED_WRITE (R458): a write to a page that the staging master stages. -/
def execStagedWrite (addr : BitVec 24) (w : BusWrite) (s : State) : Host.Outcome State Fault Refusal :=
  onDev s fun d => d.busWrite w.m addr.toNat w.be w.data

/-- EPOCH_ARM (R459): a write of EP_CTRL. -/
def execEpochArm (w : BusWrite) (s : State) : Host.Outcome State Fault Refusal := onDev s fun d => d.writeAt 0x0B 0x07C w

/-- EPOCH_BROADCAST (R459): a write of EP_CTRL. -/
def execEpochBroadcast (w : BusWrite) (s : State) : Host.Outcome State Fault Refusal := onDev s fun d => d.writeAt 0x0B 0x07C w

/-- EPOCH_CANCEL (R459): a write of EP_CTRL. -/
def execEpochCancel (w : BusWrite) (s : State) : Host.Outcome State Fault Refusal := onDev s fun d => d.writeAt 0x0B 0x07C w

/-- A staged word as the write of the staging master that it stands for. -/
def Dev.stagedWr (d : Dev) (x : Nat × Word) : Wr :=
  d.mkWr (Master.ofId (d.rd 0x0B F.EP_STAT_master)) (x.1 / 65536) (x.1 % 65536) 15 x.2

/-- GLB_MODE, whose refusals are its own (R13). -/
def isModeReg (w : Wr) : Bool := w.p == 0x00 && w.off == 0x040

/-- A staged write that a state rule of R36 refuses. -/
def Dev.stagedBad (d : Dev) (x : Nat × Word) : Bool :=
  let w := d.stagedWr x
  if isModeReg w then d.on 0x00 F.PAGE_CTRL_reset_busy || d.modeBad.isSome else d.stateBad w

/-- A staged write is performed: the fabric has passed its state rules. -/
def Dev.stagedPerform (d : Dev) (x : Nat × Word) : Dev :=
  let w := d.stagedWr x
  if isModeReg w then d.judge w
  else if d.levelIgnores w.p w.off then d.stat w.p 1
  else if d.rangeBad w then d.rangeReject w.p
  else d.apply w

/-- The timebase reaches EP_AT (R459): all staged writes are performed, or none. Assumption 93, DEDUCED. -/
def Dev.epochApply (d : Dev) : Dev :=
  if d.serving && d.on 0x0B F.EP_STAT_armed then
    let d := d.reachTime d.epAt
    if d.count.toNat < d.epAt then d
    else
      match d.ring.store.find? d.stagedBad with
      | some x => (d.wr 0x0B F.EP_FAIL_addr x.1).epResult 2
      | none =>
        let d := d.ring.store.foldl Dev.stagedPerform d
        (((d.wr 0x0B F.EP_CUR_num (d.rd 0x0B F.EP_NUM_num)).setStore []).wr 0x0B F.EP_CTRL_stage 0).epResult 1
  else d

/-- EPOCH_APPLY (R459). -/
def execEpochApply (s : State) : Host.Outcome State Fault Refusal := onDev s Dev.epochApply

end Sys2Proof.Machine
end

