-- ==== Sys2Proof/Machine/SeqCmd.lean ====
section
/-! DEFINITION. The commands of the sequencers (spec/04_ringmaster_programs.md R96 to R131; spec/06_synthesizers_and_rate_changes.md
R187 to R195; spec/08_receive_lanes_and_inline_forwarding.md R244 to R246). An entry that is not the one at the sequencer's
present index, or cannot execute now, leaves everything as it is. -/
namespace Sys2Proof.Machine

/-- SQ_PREPARE (R98): a write of SQ_CTRL. -/
def execSqPrepare (sq : Fin 20) (w : BusWrite) (s : State) : Host.Outcome State Fault Refusal :=
  onDev s fun d => d.writeAt (sqPage sq.val) 0x040 w

/-- PREPARE_DONE (R98). -/
def execPrepareDone (sq : Fin 20) (s : State) : Host.Outcome State Fault Refusal := onLive s fun d => d.sqPrepared sq.val

/-- HALT_REQ (R127): a write of SQ_CTRL. -/
def execHaltReq (sq : Fin 20) (w : BusWrite) (s : State) : Host.Outcome State Fault Refusal :=
  onDev s fun d => d.writeAt (sqPage sq.val) 0x040 w

/-- PROGRAM_ENTRY_WRITE (R96, R97): a write of SQ_PDATA3. -/
def execProgramEntryWrite (sq : Fin 20) (w : BusWrite) (s : State) : Host.Outcome State Fault Refusal :=
  onDev s fun d => d.writeAt (sqPage sq.val) 0x090 w

/-- PDATA3_READ (R96). -/
def execPdata3Read (sq : Fin 20) (r : BusRead) (s : State) : Host.Outcome State Fault Refusal :=
  onDev s fun d => d.readAt (sqPage sq.val) 0x090 r

/-- SEG (R108): `late` words were due before their tile was resident (R147). -/
def execSeg (sq : Fin 20) (late : Nat) (s : State) : Host.Outcome State Fault Refusal := onLive s fun d => d.sqSeg sq.val late

/-- LOOP (R109). -/
def execLoop (sq : Fin 20) (s : State) : Host.Outcome State Fault Refusal := onLive s fun d => d.sqLoop sq.val

/-- ENDLOOP (R110). -/
def execEndloop (sq : Fin 20) (s : State) : Host.Outcome State Fault Refusal := onLive s fun d => d.sqEndloop sq.val

/-- JUMP_TEST (R111). -/
def execJumpTest (sq : Fin 20) (s : State) : Host.Outcome State Fault Refusal := onLive s fun d => d.sqTest sq.val

/-- JUMP_ARM (R112). -/
def execJumpArm (sq : Fin 20) (s : State) : Host.Outcome State Fault Refusal := onLive s fun d => d.sqArm sq.val

/-- JUMP_DISARM (R113). -/
def execJumpDisarm (sq : Fin 20) (s : State) : Host.Outcome State Fault Refusal := onLive s fun d => d.sqDisarmSlot sq.val

/-- WATCH_FIRE (R112, R115): `sooner` says that the watch lands no later than the one that waits to land. -/
def execWatchFire (sq : Fin 20) (slot : Fin 4) (sooner : Bool) (s : State) : Host.Outcome State Fault Refusal :=
  onLive s fun d => d.watchFire sq.val slot.val sooner

/-- WATCH_LAND (R112 to R114): the landing's departure time, and the words that leave before its boundary. -/
def execWatchLand (sq : Fin 20) (l : Landing) (s : State) : Host.Outcome State Fault Refusal :=
  onLive s fun d => d.watchLand sq.val l

/-- LATCH_SET (R107). -/
def execLatchSet (sq : Fin 20) (k : Fin 4) (s : State) : Host.Outcome State Fault Refusal := onLive s fun d => d.latchSet sq.val k.val

/-- WAIT (R116). -/
def execWait (sq : Fin 20) (s : State) : Host.Outcome State Fault Refusal := onLive s fun d => d.sqWait sq.val

/-- The end of a WAIT (R116); one that waits for a time brings the time along (assumption 23). -/
def Dev.waitReach (d : Dev) (n : Nat) : Dev :=
  match (d.sq n).wait with
  | some w => if eb w.entry 123 122 = 1 then (d.reachTime (eb w.entry 95 48)).waitEnd n else d.waitEnd n
  | none => d

/-- WAIT_END (R116). -/
def execWaitEnd (sq : Fin 20) (s : State) : Host.Outcome State Fault Refusal := onLive s fun d => d.waitReach sq.val

/-- WAIT_TIMEOUT (R117). -/
def execWaitTimeout (sq : Fin 20) (s : State) : Host.Outcome State Fault Refusal := onLive s fun d => d.waitTimeout sq.val

/-- MARK (R119). -/
def execMark (sq : Fin 20) (s : State) : Host.Outcome State Fault Refusal := onLive s fun d => d.sqMark sq.val

/-- MARK_EMIT (R120, R121): the symbol of the `i`-th pending mark leaves the pins at `ts`. -/
def execMarkEmit (sq : Fin 20) (i : Fin 4) (ts : Stamp) (s : State) : Host.Outcome State Fault Refusal :=
  onLive s fun d => d.markEmit sq.val i.val ts

/-- RATE_ABS (R122 to R124, R190). -/
def execRateAbs (sq : Fin 20) (s : State) : Host.Outcome State Fault Refusal := onLive s fun d => d.sqRateAbs sq.val

/-- RATE_PPM (R187). -/
def execRatePpm (sq : Fin 20) (s : State) : Host.Outcome State Fault Refusal := onLive s fun d => d.sqRatePpm sq.val

/-- HANDOFF_READY (R190). -/
def execHandoffReady (lane : Fin 16) (s : State) : Host.Outcome State Fault Refusal := onLive s fun d => d.handoffReady lane.val

/-- HANDOFF_SWITCH (R123, R192): `fills` words of fill went out before the target was ready. -/
def execHandoffSwitch (lane : Fin 16) (fills : Nat) (s : State) : Host.Outcome State Fault Refusal :=
  onLive s fun d => d.handoffSwitch lane.val fills

/-- SPLICE_BEGIN (R125). -/
def execSpliceBegin (sq : Fin 20) (s : State) : Host.Outcome State Fault Refusal := onLive s fun d => d.sqSpliceBegin sq.val

/-- SPLICE_START (R244). -/
def execSpliceStart (sq : Fin 20) (s : State) : Host.Outcome State Fault Refusal := onLive s fun d => d.spliceStart sq.val

/-- SPLICE_END (R125). -/
def execSpliceEnd (sq : Fin 20) (s : State) : Host.Outcome State Fault Refusal := onLive s fun d => d.sqSpliceEnd sq.val

/-- SPLICE_DRAIN_DONE (R246). -/
def execSpliceDrainDone (lane : Fin 16) (s : State) : Host.Outcome State Fault Refusal := onLive s fun d => d.drained lane.val

/-- HALT (R127). -/
def execHalt (sq : Fin 20) (s : State) : Host.Outcome State Fault Refusal := onLive s fun d => d.sqHaltEntry sq.val

end Sys2Proof.Machine
end

