-- ==== Sys2Proof/Machine/StartCmd.lean ====
section
/-! DEFINITION. The commands of start-up and the supplies: POWER_UP to XTAL_VALID and SUPPLY_WINDOW_RETURN
(spec/03_power_states_and_showbill.md R66 to R71; spec/17_package_pins_and_electrical.md R465). -/
namespace Sys2Proof.Machine

/-- POWER_UP (R66, R68): a start from nothing; `post` is the self-test's result. -/
def execPowerUp (post : BitVec 4) (s : State) : Host.Outcome State Fault Refusal := onBoth s fun d _ => powerOn d post

/-- DEVICE_READY (R67, R417): ready `us` µs after the start; `okA` and `okB` say whether the store gives the images' bytes back. -/
def execDeviceReady (us : Word) (okA okB : Bool) (s : State) : Host.Outcome State Fault Refusal :=
  onDev s fun d => d.deviceReady us okA okB

/-- RESET_N (R70): low for `lowNs`. -/
def execResetN (lowNs : Nat) (post : BitVec 4) (s : State) : Host.Outcome State Fault Refusal :=
  onBoth s fun d m => resetPin d m lowNs post

/-- SUPPLY_RESET (R465): any supply below its reset threshold for 1 µs. -/
def execSupplyReset (_sup : Fin 13) (s : State) : Host.Outcome State Fault Refusal := onBoth s fun d _ => supplyDown d

/-- SUPPLY_WINDOW_EXIT (R90, R370, R438, R465). -/
def execSupplyWindowExit (sup : Fin 13) (s : State) : Host.Outcome State Fault Refusal := onDev s fun d => d.windowExit sup.val

/-- XTAL_VALID (R69). -/
def execXtalValid (s : State) : Host.Outcome State Fault Refusal := onDev s fun d => d.wr 0x04 F.AON_STAT_xtal_ok 1

/-- SUPPLY_WINDOW_RETURN (R370, R465). -/
def execSupplyWindowReturn (sup : Fin 13) (s : State) : Host.Outcome State Fault Refusal :=
  onDev s fun d => d.windowReturn sup.val

end Sys2Proof.Machine
end

