-- ==== Sys2Proof/Machine/Dispatch.lean ====
section
/-! DEFINITION. What each command does: one arm per row of spec/opcode_table.json. -/
namespace Sys2Proof.Machine

/-- The effect of a command on everything but the queue. -/
def exec (i : Instr) (s : State) : Host.Outcome State Fault Refusal :=
  match i with
  | .powerUp post => Sys2Proof.Machine.execPowerUp post s
  | .deviceReady us okA okB => Sys2Proof.Machine.execDeviceReady us okA okB s
  | .resetN lowNs post => Sys2Proof.Machine.execResetN lowNs post s
  | .supplyReset sup => Sys2Proof.Machine.execSupplyReset sup s
  | .supplyWindowExit sup => Sys2Proof.Machine.execSupplyWindowExit sup s
  | .xtalValid => Sys2Proof.Machine.execXtalValid s
  | .registerWrite m addr bytes => Sys2Proof.Machine.execRegisterWrite m addr bytes s
  | .aliasWrite addr w => Sys2Proof.Machine.execAliasWrite addr w s
  | .rcRead addr r => Sys2Proof.Machine.execRcRead addr r s
  | .pageEnable m page on => Sys2Proof.Machine.execPageEnable m page on s
  | .blockReset m page => Sys2Proof.Machine.execBlockReset m page s
  | .blockResetDone page => Sys2Proof.Machine.execBlockResetDone page s
  | .levelChange m page expert => Sys2Proof.Machine.execLevelChange m page expert s
  | .pageLock m page => Sys2Proof.Machine.execPageLock m page s
  | .checkEnable m page on => Sys2Proof.Machine.execCheckEnable m page on s
  | .pageCommit m page => Sys2Proof.Machine.execPageCommit m page s
  | .commitDone page => Sys2Proof.Machine.execCommitDone page s
  | .keyArm page w => Sys2Proof.Machine.execKeyArm page w s
  | .keyExpire page => Sys2Proof.Machine.execKeyExpire page s
  | .pageClaim page ws => Sys2Proof.Machine.execPageClaim page ws s
  | .t3Sweep upsets => Sys2Proof.Machine.execT3Sweep upsets s
  | .checkRecompute page => Sys2Proof.Machine.execCheckRecompute page s
  | .protThaw w => Sys2Proof.Machine.execProtThaw w s
  | .autothaw m => Sys2Proof.Machine.execAutothaw m s
  | .thawReq w => Sys2Proof.Machine.execThawReq w s
  | .mcThaw m => Sys2Proof.Machine.execMcThaw m s
  | .mcWatchdogReset => Sys2Proof.Machine.execMcWatchdogReset s
  | .vlogPop w => Sys2Proof.Machine.execVlogPop w s
  | .turnstileAcquire n rs => Sys2Proof.Machine.execTurnstileAcquire n rs s
  | .turnstileRelease n w => Sys2Proof.Machine.execTurnstileRelease n w s
  | .modeWrite w => Sys2Proof.Machine.execModeWrite w s
  | .modeChangeDone => Sys2Proof.Machine.execModeChangeDone s
  | .reqDormant m => Sys2Proof.Machine.execReqDormant m s
  | .reqStandby m => Sys2Proof.Machine.execReqStandby m s
  | .reqArmed m => Sys2Proof.Machine.execReqArmed m s
  | .dormantEntered => Sys2Proof.Machine.execDormantEntered s
  | .standbyEntered => Sys2Proof.Machine.execStandbyEntered s
  | .armedEntered => Sys2Proof.Machine.execArmedEntered s
  | .wake src => Sys2Proof.Machine.execWake src s
  | .wakeDone us post okA okB => Sys2Proof.Machine.execWakeDone us post okA okB s
  | .armIdleExpiry => Sys2Proof.Machine.execArmIdleExpiry s
  | .armSynthWrite w => Sys2Proof.Machine.execArmSynthWrite w s
  | .sbSubmit w => Sys2Proof.Machine.execSbSubmit w s
  | .actEvaluate slot => Sys2Proof.Machine.execActEvaluate slot s
  | .actStart slot => Sys2Proof.Machine.execActStart slot s
  | .actDurationExpiry slot => Sys2Proof.Machine.execActDurationExpiry slot s
  | .sbAbort w => Sys2Proof.Machine.execSbAbort w s
  | .sensorSample tc tj sensor power => Sys2Proof.Machine.execSensorSample tc tj sensor power s
  | .emergClear w => Sys2Proof.Machine.execEmergClear w s
  | .thermalTrip => Sys2Proof.Machine.execThermalTrip s
  | .hkOverdue task res => Sys2Proof.Machine.execHkOverdue task res s
  | .synthRecal syn => Sys2Proof.Machine.execSynthRecal syn s
  | .thermalOffsetCheck => Sys2Proof.Machine.execThermalOffsetCheck s
  | .sqPrepare sq w => Sys2Proof.Machine.execSqPrepare sq w s
  | .prepareDone sq => Sys2Proof.Machine.execPrepareDone sq s
  | .haltReq sq w => Sys2Proof.Machine.execHaltReq sq w s
  | .programEntryWrite sq w => Sys2Proof.Machine.execProgramEntryWrite sq w s
  | .pdata3Read sq r => Sys2Proof.Machine.execPdata3Read sq r s
  | .seg sq late => Sys2Proof.Machine.execSeg sq late s
  | .loop sq => Sys2Proof.Machine.execLoop sq s
  | .endloop sq => Sys2Proof.Machine.execEndloop sq s
  | .jumpTest sq => Sys2Proof.Machine.execJumpTest sq s
  | .jumpArm sq => Sys2Proof.Machine.execJumpArm sq s
  | .jumpDisarm sq => Sys2Proof.Machine.execJumpDisarm sq s
  | .watchFire sq slot sooner => Sys2Proof.Machine.execWatchFire sq slot sooner s
  | .watchLand sq ts => Sys2Proof.Machine.execWatchLand sq ts s
  | .latchSet sq k => Sys2Proof.Machine.execLatchSet sq k s
  | .wait sq => Sys2Proof.Machine.execWait sq s
  | .waitEnd sq => Sys2Proof.Machine.execWaitEnd sq s
  | .waitTimeout sq => Sys2Proof.Machine.execWaitTimeout sq s
  | .mark sq => Sys2Proof.Machine.execMark sq s
  | .markEmit sq mark ts => Sys2Proof.Machine.execMarkEmit sq mark ts s
  | .rateAbs sq => Sys2Proof.Machine.execRateAbs sq s
  | .ratePpm sq => Sys2Proof.Machine.execRatePpm sq s
  | .handoffReady lane => Sys2Proof.Machine.execHandoffReady lane s
  | .handoffSwitch lane fills => Sys2Proof.Machine.execHandoffSwitch lane fills s
  | .spliceBegin sq => Sys2Proof.Machine.execSpliceBegin sq s
  | .spliceStart sq => Sys2Proof.Machine.execSpliceStart sq s
  | .spliceEnd sq => Sys2Proof.Machine.execSpliceEnd sq s
  | .spliceDrainDone lane => Sys2Proof.Machine.execSpliceDrainDone lane s
  | .halt sq => Sys2Proof.Machine.execHalt sq s
  | .tileWriteWhole m tile data => Sys2Proof.Machine.execTileWriteWhole m tile data s
  | .tileWritePartial m tile off data ecc => Sys2Proof.Machine.execTileWritePartial m tile off data ecc s
  | .bar4Read m off len => Sys2Proof.Machine.execBar4Read m off len s
  | .bar4Write m off data => Sys2Proof.Machine.execBar4Write m off data s
  | .tileFetchDone sq tile ecc => Sys2Proof.Machine.execTileFetchDone sq tile ecc s
  | .refSelect khz w => Sys2Proof.Machine.execRefSelect khz w s
  | .refLost => Sys2Proof.Machine.execRefLost s
  | .refReturn src buildout => Sys2Proof.Machine.execRefReturn src buildout s
  | .refFailover buildout => Sys2Proof.Machine.execRefFailover buildout s
  | .guardPulse cs => Sys2Proof.Machine.execGuardPulse cs s
  | .csLockFault cs => Sys2Proof.Machine.execCsLockFault cs s
  | .synthLocked syn band => Sys2Proof.Machine.execSynthLocked syn band s
  | .synthLockFail syn => Sys2Proof.Machine.execSynthLockFail syn s
  | .synthLockLoss syn => Sys2Proof.Machine.execSynthLockLoss syn s
  | .laneRateWrite ls w => Sys2Proof.Machine.execLaneRateWrite ls w s
  | .synApply syn w => Sys2Proof.Machine.execSynApply syn w s
  | .synPstep syn w => Sys2Proof.Machine.execSynPstep syn w s
  | .refoutPstep n w => Sys2Proof.Machine.execRefoutPstep n w s
  | .refoutConfig n w => Sys2Proof.Machine.execRefoutConfig n w s
  | .lanePhaseMove lane w => Sys2Proof.Machine.execLanePhaseMove lane w s
  | .errInjectGo lane w => Sys2Proof.Machine.execErrInjectGo lane w s
  | .errInjectEvent lane => Sys2Proof.Machine.execErrInjectEvent lane s
  | .errInject lane ts => Sys2Proof.Machine.execErrInject lane ts s
  | .signalDetect lane => Sys2Proof.Machine.execSignalDetect lane s
  | .cdrLock lane ppm => Sys2Proof.Machine.execCdrLock lane ppm s
  | .adaptConverged lane => Sys2Proof.Machine.execAdaptConverged lane s
  | .cdrLockLoss lane => Sys2Proof.Machine.execCdrLockLoss lane s
  | .signalLoss lane => Sys2Proof.Machine.execSignalLoss lane s
  | .signalReturn lane quietUs => Sys2Proof.Machine.execSignalReturn lane quietUs s
  | .adaptBurst lane done eq => Sys2Proof.Machine.execAdaptBurst lane done eq s
  | .adaptRestart lane w => Sys2Proof.Machine.execAdaptRestart lane w s
  | .profileSwitchGo lane w => Sys2Proof.Machine.execProfileSwitchGo lane w s
  | .profileSwitchEvent lane => Sys2Proof.Machine.execProfileSwitchEvent lane s
  | .switchApply lane => Sys2Proof.Machine.execSwitchApply lane s
  | .rxBlock lane b => Sys2Proof.Machine.execRxBlock lane b s
  | .trgTimerExpiry ce => Sys2Proof.Machine.execTrgTimerExpiry ce s
  | .trgEvent ce ch => Sys2Proof.Machine.execTrgEvent ce ch s
  | .recordClose lane => Sys2Proof.Machine.execRecordClose lane s
  | .recordAgeExpiry lane => Sys2Proof.Machine.execRecordAgeExpiry lane s
  | .cdmaTileWrite ce => Sys2Proof.Machine.execCdmaTileWrite ce s
  | .captureDone ce => Sys2Proof.Machine.execCaptureDone ce s
  | .dmRequest r => Sys2Proof.Machine.execDmRequest r s
  | .selfRefreshEnter stack => Sys2Proof.Machine.execSelfRefreshEnter stack s
  | .stackTempSample stack temp bw => Sys2Proof.Machine.execStackTempSample stack temp bw s
  | .retrainBurst stack group ends last => Sys2Proof.Machine.execRetrainBurst stack group ends last s
  | .clearSweepDone => Sys2Proof.Machine.execClearSweepDone s
  | .pinRateWrite w => Sys2Proof.Machine.execPinRateWrite w s
  | .pinRateChangeStart => Sys2Proof.Machine.execPinRateChangeStart s
  | .pinRateChangeDone => Sys2Proof.Machine.execPinRateChangeDone s
  | .hazardWrite w => Sys2Proof.Machine.execHazardWrite w s
  | .migrationStart stack => Sys2Proof.Machine.execMigrationStart stack s
  | .migrationDone stack => Sys2Proof.Machine.execMigrationDone stack s
  | .scrubRead tile ecc => Sys2Proof.Machine.execScrubRead tile ecc s
  | .dmTlogPop w => Sys2Proof.Machine.execDmTlogPop w s
  | .tileQuery w => Sys2Proof.Machine.execTileQuery w s
  | .tileQueryDone => Sys2Proof.Machine.execTileQueryDone s
  | .bankHandover bank w => Sys2Proof.Machine.execBankHandover bank w s
  | .zeroFillDone bank => Sys2Proof.Machine.execZeroFillDone bank s
  | .bankPowerMode bank w => Sys2Proof.Machine.execBankPowerMode bank w s
  | .bankRetention bank => Sys2Proof.Machine.execBankRetention bank s
  | .scratchpadAccess bank a hit ecc => Sys2Proof.Machine.execScratchpadAccess bank a hit ecc s
  | .scratchpadSaveTestRestore bank row pass => Sys2Proof.Machine.execScratchpadSaveTestRestore bank row pass s
  | .queueCommit q entries => Sys2Proof.Machine.execQueueCommit q entries s
  | .queueRewind q entries => Sys2Proof.Machine.execQueueRewind q entries s
  | .queuePop q r => Sys2Proof.Machine.execQueuePop q r s
  | .queuePush w => Sys2Proof.Machine.execQueuePush w s
  | .queueDrop q w => Sys2Proof.Machine.execQueueDrop q w s
  | .queueFlush w => Sys2Proof.Machine.execQueueFlush w s
  | .queueMismatch q => Sys2Proof.Machine.execQueueMismatch q s
  | .eventRaise rs => Sys2Proof.Machine.execEventRaise rs s
  | .lutDelayExpiry cell => Sys2Proof.Machine.execLutDelayExpiry cell s
  | .lutCfgWrite cell w => Sys2Proof.Machine.execLutCfgWrite cell w s
  | .trigInEdge n rising e => Sys2Proof.Machine.execTrigInEdge n rising e s
  | .mwFire w => Sys2Proof.Machine.execMwFire w s
  | .mwFireMask k w => Sys2Proof.Machine.execMwFireMask k w s
  | .ringEventFrame f => Sys2Proof.Machine.execRingEventFrame f s
  | .awgClockFault => Sys2Proof.Machine.execAwgClockFault s
  | .ftwApply k w => Sys2Proof.Machine.execFtwApply k w s
  | .calAmpWrite k w => Sys2Proof.Machine.execCalAmpWrite k w s
  | .calSyncNow k w => Sys2Proof.Machine.execCalSyncNow k w s
  | .calSyncEvent k => Sys2Proof.Machine.execCalSyncEvent k s
  | .injectionSwitchMove pt => Sys2Proof.Machine.execInjectionSwitchMove pt s
  | .sdTick => Sys2Proof.Machine.execSdTick s
  | .sdRangeChange k w => Sys2Proof.Machine.execSdRangeChange k w s
  | .sdClampRelease k => Sys2Proof.Machine.execSdClampRelease k s
  | .sdFault k cause => Sys2Proof.Machine.execSdFault k cause s
  | .sdFaultClear w => Sys2Proof.Machine.execSdFaultClear w s
  | .monConversion input code skew start => Sys2Proof.Machine.execMonConversion input code skew start s
  | .linkUp gen => Sys2Proof.Machine.execLinkUp gen s
  | .linkDown => Sys2Proof.Machine.execLinkDown s
  | .fallbackEnumerate => Sys2Proof.Machine.execFallbackEnumerate s
  | .dmaHeadWrite ch w => Sys2Proof.Machine.execDmaHeadWrite ch w s
  | .dmaEnable ch w => Sys2Proof.Machine.execDmaEnable ch w s
  | .dmaDescriptor ch words hostOk => Sys2Proof.Machine.execDmaDescriptor ch words hostOk s
  | .dmaCompletion ch fromHost moved why hostOk => Sys2Proof.Machine.execDmaCompletion ch fromHost moved why hostOk s
  | .dmaAbort ch w => Sys2Proof.Machine.execDmaAbort ch w s
  | .fallbackRead tag op len addr => Sys2Proof.Machine.execFallbackRead tag op len addr s
  | .fallbackWrite tag space addr data => Sys2Proof.Machine.execFallbackWrite tag space addr data s
  | .fallbackTileRead tag len addr why => Sys2Proof.Machine.execFallbackTileRead tag len addr why s
  | .fallbackTileWrite tag addr data why => Sys2Proof.Machine.execFallbackTileWrite tag addr data why s
  | .mbDoorbell ch w => Sys2Proof.Machine.execMbDoorbell ch w s
  | .mbTake ch w => Sys2Proof.Machine.execMbTake ch w s
  | .mbAckw ch w => Sys2Proof.Machine.execMbAckw ch w s
  | .mbFlush ch w => Sys2Proof.Machine.execMbFlush ch w s
  | .hello ch => Sys2Proof.Machine.execHello ch s
  | .info ch => Sys2Proof.Machine.execInfo ch s
  | .echo ch => Sys2Proof.Machine.execEcho ch s
  | .load ch => Sys2Proof.Machine.execLoad ch s
  | .actSubmit ch => Sys2Proof.Machine.execActSubmit ch s
  | .actAbort ch => Sys2Proof.Machine.execActAbort ch s
  | .power ch => Sys2Proof.Machine.execPower ch s
  | .notifyEmergency => Sys2Proof.Machine.execNotifyEmergency s
  | .notifyMcRestart => Sys2Proof.Machine.execNotifyMcRestart s
  | .fwUpdate ch => Sys2Proof.Machine.execFwUpdate ch s
  | .fwActivate ch ok => Sys2Proof.Machine.execFwActivate ch ok s
  | .fwCommit ch => Sys2Proof.Machine.execFwCommit ch s
  | .certGet ch => Sys2Proof.Machine.execCertGet ch s
  | .attest ch => Sys2Proof.Machine.execAttest ch s
  | .dbgChallenge ch => Sys2Proof.Machine.execDbgChallenge ch s
  | .dbgUnlock ch => Sys2Proof.Machine.execDbgUnlock ch s
  | .dbgLock ch => Sys2Proof.Machine.execDbgLock ch s
  | .ownerKeySet ch => Sys2Proof.Machine.execOwnerKeySet ch s
  | .calExport ch => Sys2Proof.Machine.execCalExport ch s
  | .calStage ch => Sys2Proof.Machine.execCalStage ch s
  | .calCommit ch => Sys2Proof.Machine.execCalCommit ch s
  | .measurementSelect w => Sys2Proof.Machine.execMeasurementSelect w s
  | .pathMoveDone k => Sys2Proof.Machine.execPathMoveDone k s
  | .pathFault k => Sys2Proof.Machine.execPathFault k s
  | .snFaultRead r => Sys2Proof.Machine.execSnFaultRead r s
  | .forwardPathMove slot => Sys2Proof.Machine.execForwardPathMove slot s
  | .cartPresent => Sys2Proof.Machine.execCartPresent s
  | .cartRemoved => Sys2Proof.Machine.execCartRemoved s
  | .cartVerify a => Sys2Proof.Machine.execCartVerify a s
  | .cartChallenge a => Sys2Proof.Machine.execCartChallenge a s
  | .cartChallengeRetry a => Sys2Proof.Machine.execCartChallengeRetry a s
  | .cartChalGo w a => Sys2Proof.Machine.execCartChalGo w a s
  | .cartOverride w => Sys2Proof.Machine.execCartOverride w s
  | .ringConfig w => Sys2Proof.Machine.execRingConfig w s
  | .ringDiscoveryFrame f => Sys2Proof.Machine.execRingDiscoveryFrame f s
  | .ringTimeSend loopPs => Sys2Proof.Machine.execRingTimeSend loopPs s
  | .ringTimeFrame f pathPs => Sys2Proof.Machine.execRingTimeFrame f pathPs s
  | .ringNomaster => Sys2Proof.Machine.execRingNomaster s
  | .ringWakeSend w => Sys2Proof.Machine.execRingWakeSend w s
  | .ringFingerprintFrame f => Sys2Proof.Machine.execRingFingerprintFrame f s
  | .ringEpochFrame f => Sys2Proof.Machine.execRingEpochFrame f s
  | .fingerprintCompute => Sys2Proof.Machine.execFingerprintCompute s
  | .fingerprintDone => Sys2Proof.Machine.execFingerprintDone s
  | .epochStage w => Sys2Proof.Machine.execEpochStage w s
  | .stagedWrite addr w => Sys2Proof.Machine.execStagedWrite addr w s
  | .epochArm w => Sys2Proof.Machine.execEpochArm w s
  | .epochBroadcast w => Sys2Proof.Machine.execEpochBroadcast w s
  | .epochCancel w => Sys2Proof.Machine.execEpochCancel w s
  | .epochApply => Sys2Proof.Machine.execEpochApply s
  | .ringIdleFrame => Sys2Proof.Machine.execRingIdleFrame s
  | .ringInputLocked => Sys2Proof.Machine.execRingInputLocked s
  | .ringInputLockLost => Sys2Proof.Machine.execRingInputLockLost s
  | .refreshWindowStart stack => Sys2Proof.Machine.execRefreshWindowStart stack s
  | .supplyWindowReturn sup => Sys2Proof.Machine.execSupplyWindowReturn sup s
  | .linkClStateChange c => Sys2Proof.Machine.execLinkClStateChange c s

end Sys2Proof.Machine
end

