-- ==== Sys2Proof/WellFormed.lean ====
section
/-! DEFINITION. Which commands are well formed: their operands lie in the ranges of the rules their rows name. The machine takes
any command, so that none of its meanings rests on these checks; the world outside sends well-formed ones. -/
namespace Sys2Proof

/-- No value occurs twice: a master makes one access in a cycle (R45, R62). -/
def distinct : List Nat → Bool
  | [] => true
  | x :: xs => !xs.contains x && distinct xs

/-- A tile of tile space (R134). -/
def tileOk (t : Nat) : Bool := decide (t < 24379392)

/-- Bytes that lie in one tile (R136). -/
def partOk (off : Nat) (data : List (Option Byte)) : Bool := !data.isEmpty && decide (off + data.length ≤ 4096)

/-- A deep memory request names a tile and fits it. -/
def reqOk (r : DmReq) : Bool :=
  tileOk r.tile &&
    match r.op with
    | .read => true
    | .writeWhole bs => bs.length == 4096
    | .writePart off bs => partOk off bs

/-- An op that Table 14.3 does not have is none of its four (R394). -/
def FbOp.wf (o : FbOp) : Bool := match o with | .read _ => true | .other n => n == 0 || decide (4 < n.toNat)

/-- There are three CL states (R375). -/
def LinkState.wf (c : LinkState) : Bool := match c with | .cl n => decide (n.toNat < 3) | .endpoint _ => true

/-- Array errors lie in tile space and change something (R280). -/
def flipsOk (fs : Flips) : Bool := fs.all fun x => tileOk (x.1 / 4096) && x.2 != 0

/-- An access of a scratchpad word carries at most its 64 bytes (R306). -/
def accessOk (a : SpAccess) : Bool := decide (a.word < 16384) && decide (a.data.length ≤ 64)

/-- A second access comes on the other port (R314, R315). -/
def hitOk (a : SpAccess) (hit : Option SpCollision) : Bool :=
  match hit with
  | none => true
  | some c => accessOk c.other && c.other.port != a.port

/-- A block has bits, and its last symbol does not come before its first (R269). -/
def blockOk (b : RxBlock) : Bool := !b.bits.isEmpty && !stampBefore b.tsLast b.tsFirst

/-- The entries of a ring event frame (R346, R347). -/
def eventsOk (es : List (BitVec 8 × Nat)) : Bool := decide (es.length ≤ 24) && es.all fun e => decide (e.2 ≤ 7)

/-- An identity record has a coupling ratio for each of its 16 points (Table 16.3); the device finds VERSION and ROLLBACK from the
record and the counters itself (Table 16.4). -/
def answerOk (a : CartAnswer) : Bool :=
  (a.coupling.length == 16 && a.verdict != some .version && a.verdict != some .rollback) || a.verdict == some .noReply

/-- A well-formed command. -/
def Instr.wf (i : Instr) : Bool :=
  match i with
  | .powerUp _ => true
  | .deviceReady _ _ _ => true
  | .resetN _ _ => true
  | .supplyReset _ => true
  | .supplyWindowExit _ => true
  | .xtalValid => true
  | .registerWrite _ addr bytes => !bytes.isEmpty && decide (addr.toNat + bytes.length ≤ 2 ^ 24)
  | .aliasWrite addr _ => decide (0x8000 ≤ addr.toNat % 65536)
  | .rcRead addr r => !r.lanes.isEmpty && decide (addr.toNat + r.lanes.length ≤ 2 ^ 24)
  | .pageEnable _ _ _ => true
  | .blockReset _ _ => true
  | .blockResetDone _ => true
  | .levelChange _ _ _ => true
  | .pageLock _ _ => true
  | .checkEnable _ _ _ => true
  | .pageCommit _ _ => true
  | .commitDone _ => true
  | .keyArm _ _ => true
  | .keyExpire _ => true
  | .pageClaim _ ws => distinct (ws.map fun w => w.m.id)
  | .t3Sweep us => us.all (fun u => decide (u.1 < 2 ^ 24) && u.1 % 4 == 0) && distinct (us.map fun u => u.1)
  | .checkRecompute _ => true
  | .protThaw _ => true
  | .autothaw _ => true
  | .thawReq _ => true
  | .mcThaw _ => true
  | .mcWatchdogReset => true
  | .vlogPop _ => true
  | .turnstileAcquire _ rs => distinct (rs.map fun r => r.m.id)
  | .turnstileRelease _ _ => true
  | .modeWrite _ => true
  | .modeChangeDone => true
  | .reqDormant _ => true
  | .reqStandby _ => true
  | .reqArmed _ => true
  | .dormantEntered => true
  | .standbyEntered => true
  | .armedEntered => true
  | .wake _ => true
  | .wakeDone _ _ _ _ => true
  | .armIdleExpiry => true
  | .armSynthWrite _ => true
  | .sbSubmit _ => true
  | .actEvaluate _ => true
  | .actStart _ => true
  | .actDurationExpiry _ => true
  | .sbAbort _ => true
  | .sensorSample _ _ _ _ => true
  | .emergClear _ => true
  | .thermalTrip => true
  | .hkOverdue _ _ => true
  | .synthRecal _ => true
  | .thermalOffsetCheck => true
  | .sqPrepare _ _ => true
  | .prepareDone _ => true
  | .haltReq _ _ => true
  | .programEntryWrite _ _ => true
  | .pdata3Read _ _ => true
  | .seg _ _ => true
  | .loop _ => true
  | .endloop _ => true
  | .jumpTest _ => true
  | .jumpArm _ => true
  | .jumpDisarm _ => true
  | .watchFire _ _ _ => true
  | .watchLand _ _ => true
  | .latchSet _ _ => true
  | .wait _ => true
  | .waitEnd _ => true
  | .waitTimeout _ => true
  | .mark _ => true
  | .markEmit _ _ _ => true
  | .rateAbs _ => true
  | .ratePpm _ => true
  | .handoffReady _ => true
  | .handoffSwitch _ _ => true
  | .spliceBegin _ => true
  | .spliceStart _ => true
  | .spliceEnd _ => true
  | .spliceDrainDone _ => true
  | .halt _ => true
  | .tileWriteWhole _ tile data => tileOk tile && data.length == 4096
  | .tileWritePartial _ tile off data flips => tileOk tile && partOk off data && flipsOk flips
  | .bar4Read _ off len => decide (0 < len) && decide (off + len ≤ 2 ^ 32)
  | .bar4Write _ off data => !data.isEmpty && decide (off + data.length ≤ 2 ^ 32)
  | .tileFetchDone _ tile e => tileOk tile && flipsOk e.flips
  | .refSelect _ _ => true
  | .refLost => true
  | .refReturn _ _ => true
  | .refFailover _ => true
  | .guardPulse _ => true
  | .csLockFault _ => true
  | .synthLocked _ _ => true
  | .synthLockFail _ => true
  | .synthLockLoss _ => true
  | .laneRateWrite _ _ => true
  | .synApply _ _ => true
  | .synPstep _ _ => true
  | .refoutPstep _ _ => true
  | .refoutConfig _ _ => true
  | .lanePhaseMove _ _ => true
  | .errInjectGo _ _ => true
  | .errInjectEvent _ => true
  | .errInject _ _ => true
  | .signalDetect _ => true
  | .cdrLock _ _ => true
  | .adaptConverged _ => true
  | .cdrLockLoss _ => true
  | .signalLoss _ => true
  | .signalReturn _ _ => true
  | .adaptBurst _ _ _ => true
  | .adaptRestart _ _ => true
  | .profileSwitchGo _ _ => true
  | .profileSwitchEvent _ => true
  | .switchApply _ => true
  | .rxBlock _ b => blockOk b.block && b.more.all fun x => blockOk x.2
  | .trgTimerExpiry _ => true
  | .trgEvent _ _ => true
  | .recordClose _ => true
  | .recordAgeExpiry _ => true
  | .cdmaTileWrite _ => true
  | .captureDone _ => true
  | .dmRequest c => c.reqs.all reqOk && flipsOk c.flips
  | .selfRefreshEnter _ => true
  | .stackTempSample _ _ _ => true
  | .retrainBurst _ _ _ _ => true
  | .clearSweepDone => true
  | .pinRateWrite _ => true
  | .pinRateChangeStart => true
  | .pinRateChangeDone => true
  | .hazardWrite _ => true
  | .migrationStart _ => true
  | .migrationDone _ => true
  | .scrubRead tile flips => tileOk tile && flipsOk flips
  | .dmTlogPop _ => true
  | .tileQuery _ => true
  | .tileQueryDone => true
  | .bankHandover _ _ => true
  | .zeroFillDone _ => true
  | .bankPowerMode _ _ => true
  | .bankRetention _ => true
  | .scratchpadAccess _ a hit _ => accessOk a && hitOk a hit
  | .scratchpadSaveTestRestore _ _ _ => true
  | .queueCommit _ es => !es.isEmpty
  | .queueRewind _ es => !es.isEmpty
  | .queuePop _ _ => true
  | .queuePush _ => true
  | .queueDrop _ _ => true
  | .queueFlush _ => true
  | .queueMismatch _ => true
  | .eventRaise rs => rs.all fun r => if r.kind = .ring then decide (r.hops ≤ 7) else r.hops == 0
  | .lutDelayExpiry _ => true
  | .lutCfgWrite _ _ => true
  | .trigInEdge _ _ e => e.sample.toNat % 512 == 0
  | .mwFire _ => true
  | .mwFireMask _ _ => true
  | .ringEventFrame f => match f.body with | .event es => eventsOk es | .wake | .other => true | _ => false
  | .awgClockFault => true
  | .ftwApply _ _ => true
  | .calAmpWrite _ _ => true
  | .calSyncNow _ _ => true
  | .calSyncEvent _ => true
  | .injectionSwitchMove _ => true
  | .sdTick => true
  | .sdRangeChange _ _ => true
  | .sdClampRelease _ => true
  | .sdFault _ _ => true
  | .sdFaultClear _ => true
  | .monConversion _ _ _ _ => true
  | .linkUp gen => decide (2 ≤ gen.toNat) && decide (gen.toNat ≤ 4)
  | .linkDown => true
  | .fallbackEnumerate => true
  | .dmaHeadWrite _ _ => true
  | .dmaEnable _ _ => true
  | .dmaDescriptor _ ws _ => ws.length == 16
  | .dmaCompletion _ _ _ _ _ => true
  | .dmaAbort _ _ => true
  | .fallbackRead _ op _ _ => op.wf
  | .fallbackWrite _ _ _ bs => decide (bs.length < 2 ^ 32)
  | .fallbackTileRead _ _ _ _ => true
  | .fallbackTileWrite _ _ data _ => decide (data.length ≤ 0x10000000)
  | .mbDoorbell _ _ => true
  | .mbTake _ _ => true
  | .mbAckw _ _ => true
  | .mbFlush _ _ => true
  | .hello _ => true
  | .info _ => true
  | .echo _ => true
  | .load _ => true
  | .actSubmit _ => true
  | .actAbort _ => true
  | .power _ => true
  | .notifyEmergency => true
  | .notifyMcRestart => true
  | .fwUpdate _ => true
  | .fwActivate _ _ => true
  | .fwCommit _ => true
  | .certGet _ => true
  | .attest _ => true
  | .dbgChallenge _ => true
  | .dbgUnlock _ => true
  | .dbgLock _ => true
  | .ownerKeySet _ => true
  | .calExport _ => true
  | .calStage _ => true
  | .calCommit _ => true
  | .measurementSelect _ => true
  | .pathMoveDone _ => true
  | .pathFault _ => true
  | .snFaultRead _ => true
  | .forwardPathMove _ => true
  | .cartPresent => true
  | .cartRemoved => true
  | .cartVerify a => answerOk a
  | .cartChallenge a => answerOk a
  | .cartChallengeRetry a => answerOk a
  | .cartChalGo _ a => answerOk a
  | .cartOverride _ => true
  | .ringConfig _ => true
  | .ringDiscoveryFrame f => match f.body with | .discovery .. => true | _ => false
  | .ringTimeSend _ => true
  | .ringTimeFrame f _ => match f.body with | .time _ => true | _ => false
  | .ringNomaster => true
  | .ringWakeSend _ => true
  | .ringFingerprintFrame f => match f.body with | .fingerprint .. => true | _ => false
  | .ringEpochFrame f => match f.body with | .epoch .. => true | _ => false
  | .fingerprintCompute => true
  | .fingerprintDone => true
  | .epochStage _ => true
  | .stagedWrite addr _ => decide (addr.toNat % 4 = 0)
  | .epochArm _ => true
  | .epochBroadcast _ => true
  | .epochCancel _ => true
  | .epochApply => true
  | .ringIdleFrame => true
  | .ringInputLocked => true
  | .ringInputLockLost => true
  | .refreshWindowStart _ => true
  | .supplyWindowReturn _ => true
  | .linkClStateChange c => c.wf

end Sys2Proof
end

