-- ==== Sys2Proof/Safety.lean ====
section
/-! DEFINITION. The words of the statements: a completed command, a well-formed state, a safe run, a write that every rule of
R485 lets through, and what a command leaves alone. -/
namespace Sys2Proof.Safety

open Sys2Proof.Machine

/-- A step answers a next state. -/
def Completes (o : Host.Outcome State Fault Refusal) : Prop := ∃ t, o = .next t

/-- The memories hold their canonical form: addresses strictly rising, no byte equal to what an unlisted one reads as. -/
def MemOk (s : State) : Prop := s.mem.wf = true

/-- The byte of tile space at an address, and the byte of the scratchpad at a BAR2 offset. -/
def tileByte (m : Mem) (a : Nat) : Byte := tabGet (fun _ => (0 : Byte)) m.tiles a
def padByte (m : Mem) (a : Nat) : Byte := tabGet (fun _ => (0 : Byte)) m.pad a

/-- A run of `n` steps neither faults nor refuses. -/
def RunsSafely (n : Nat) (s : State) : Prop := ∃ t, Host.Core.run Sys2Proof.core n s = .next t

/-- A command answers a next state with the queue and the memories of `s`. Its own effect makes the device `e`; `withDev` adds
what follows every command: acts end whose sequencers have all halted (R86), and capture notices the lanes (R265). -/
def Gives (c : Instr) (s : State) (e : Dev) : Prop := exec c s = .next (s.withDev e)

/-- The same for a command that acts on the memories too: they become `m`, and the queue stays. -/
def GivesMem (c : Instr) (s : State) (e : Dev) (m : Mem) : Prop := exec c s = .next (s.withBoth (e, m))

/-- A command that writes a register: the same, but that the write may also unsettle a fingerprint that is being computed, where
it changes a word that the fingerprint covers (R456). -/
def Performs (c : Instr) (s : State) (e : Dev) : Prop :=
  Gives c s e ∨ Gives c s (e.modRing fun r => { r with touched := true })

/-- A write as its block sees it: `val f` is the value that field `f` takes, and `cmd f` that of a WO field. -/
def seen (d : Dev) (p off : Nat) (w : BusWrite) : Wr := d.mkWr w.m p off w.be w.data

/-- A write of a register at page `p`, offset `off` passes every step of R485: the device serves, nothing of its master's goes
before it and the master is not frozen out, the register exists, no access check fails (`narrow` where the write is narrower
than a word or comes by an alias), it is not staged, it reaches a field that it can change, and no level, state or range rule
stops it. GLB_MODE, whose refusals are its own (R13), is apart. -/
def acceptedAs (d : Dev) (p off : Nat) (w : BusWrite) (narrow : Bool) : Bool :=
  let x := seen d p off w
  d.heard w.m && !d.stalls w.m && !d.barred w.m p && (fieldsAt p off).isSome && w.be != 0 &&
    (d.accessCause x w.data narrow).isNone && !d.staged w.m p off && x.reaches (d.canWrite w.m p off) &&
    !d.levelIgnores p off && !(p == 0 && off == 0x040) && !d.stateBad x && !d.rangeBad x &&
    !(off == 0x008 && decide (p < 0x18) && x.val F.PAGE_CTRL_enable == 0)

/-- A word write passes. -/
def accepted (d : Dev) (p off : Nat) (w : BusWrite) : Bool := acceptedAs d p off w (w.be != 15)

/-- The word that an alias write of a bit writes to its register (R26): the register as it stands with the bit's new value; to an
unprivileged master PV fields stand at 0. -/
def aliasWord (d : Dev) (m : Master) (p off bit : Nat) (v : Bool) : Word :=
  wordBit (d.reg (addrOf p off) &&& ~~~(if d.privileged m then 0 else bitsWhere p off Field.pv)) bit v

/-- The write of a whole word that an alias write stands for. -/
def aliasWr (d : Dev) (m : Master) (p off bit : Nat) (v : Bool) : BusWrite := ⟨m, 15, aliasWord d m p off bit v⟩

/-- An alias write of a bit passes. -/
def acceptedAlias (d : Dev) (m : Master) (p off bit : Nat) (v : Bool) : Bool :=
  acceptedAs d p off (aliasWr d m p off bit v) true && (d.writeMask m p off).getLsbD bit && !aliasIgnored p off bit

/-- The four bytes of a word write with their enables, lowest first. -/
def lanes (w : BusWrite) : List (Bool × Byte) :=
  (List.range 4).map fun k => (w.be.getLsbD k, (w.data >>> (8 * k)).setWidth 8)

/-- The enables of a word's bytes, lowest first, and the read of a word as a read of its bytes. -/
def beLanes (be : BitVec 4) : List Bool := (List.range 4).map be.getLsbD
def span (r : BusRead) : SpanRead := ⟨r.m, beLanes r.be⟩

/-- The whole-word write of PAGE_CTRL that sets or clears one bit of what its master reads there. -/
def ctrlWr (d : Dev) (m : Master) (p bit : Nat) (v : Bool) : BusWrite := ⟨m, 15, wordBit (d.readWord m p 0x008) bit v⟩

/-- A read of a register at page `p`, offset `off` is served: it is heard, nothing of its master's goes before it, the
master is not frozen out, the register exists and a byte is enabled. -/
def readable (d : Dev) (p off : Nat) (r : BusRead) : Bool :=
  d.heard r.m && !d.stalls r.m && !d.barred r.m p && (fieldsAt p off).isSome && r.be != 0

/-- Every register reads as before, but for the addresses in `as_`. -/
def SameRegs (as_ : List Nat) (d e : Dev) : Prop := ∀ a, a ∉ as_ → e.reg a = d.reg a

/-- The addresses that a status bit of page `p` may change: its PAGE_STAT, and the pending bits of MSI-X (R24, R380). -/
def statAddrs (p : Nat) : List Nat := [addrOf p 0x00C, addrOf 0x17 0x800, addrOf 0x17 0x804]

/-- The commands whose effect may reach the bytes of tile space or of the scratchpad. -/
def reachesMemory (c : Instr) : Bool :=
  match c with
  | .powerUp _ | .resetN _ _ | .supplyReset _ | .dormantEntered | .thermalTrip | .tileWriteWhole _ _ _
  | .tileWritePartial _ _ _ _ _ | .bar4Write _ _ _ | .dmRequest _ | .cdmaTileWrite _ | .captureDone _ | .zeroFillDone _
  | .scratchpadAccess _ _ _ _ | .scratchpadSaveTestRestore _ _ _ | .dmaCompletion _ _ _ _ _ | .fallbackRead _ _ _ _
  | .migrationDone _ | .pinRateChangeDone | .fallbackWrite _ _ _ _ | .fallbackTileRead _ _ _ _ | .fallbackTileWrite _ _ _ _ | .fwUpdate _ | .certGet _
  | .attest _ | .dbgUnlock _ | .ownerKeySet _ | .calExport _ | .calStage _ => true
  | _ => false

/-- A mailbox command has been taken: what its receiver then works on. -/
def begun (d : Dev) (ch : Nat) : Dev :=
  let d := if d.mbState ch = 1 then d.mbTake ch else d
  { d with mail := { d.mail with begun := if d.mail.begun.contains ch then d.mail.begun else ch :: d.mail.begun } }

/-- The message that a channel's receiver can begin or go on with asks for a command that runs: none of R404 to R407 stops it. -/
def asked (d : Dev) (ch op : Nat) : Bool :=
  d.serving && d.mbReady ch && (d.mbWord ch 0).toNat == op && (d.early ch op).isNone

/-- The same for a command that has not begun yet. -/
def askedFirst (d : Dev) (ch op : Nat) : Bool := asked d ch op && !d.mail.begun.contains ch

/-- A frame of another node that passes its CRC reaches a node that takes part. -/
def hears (d : Dev) (f : Frame) : Bool := d.ringOn && f.crcOk && !d.ringOwn f

end Sys2Proof.Safety
end

