-- ==== Sys2Proof/Certificates/Slice0/Obligations.lean ====
section
/-! DEFINITION. The statements for the provers. -/

open Sys2Proof Sys2Proof.Machine Sys2Proof.Safety

/-! ## The machine -/

/-- A step runs the command at the front of the queue, with the queue's rest. Log entry 1. -/
def Obligations.StepRunsFrontCommand : Prop :=
  ∀ (c : Instr) (s : State) (r : List Instr), step { s with pending := c :: r } = exec c { s with pending := r }

/-- Every command of every state answers a next state: none faults, and none is refused. The step on an empty queue does
so too. Log entries 2, 3, 94. -/
def Obligations.EveryCommandCompletes : Prop :=
  (∀ (c : Instr) (s : State), Completes (exec c s)) ∧ ∀ s : State, Completes (step s)

/-- No command touches the queue, and the bytes of tile space and of the scratchpad stay under every command outside
`reachesMemory`: read one by one they are what they were. Log entry 26. -/
def Obligations.QueueAndMemoryFrame : Prop :=
  ∀ (c : Instr) (s t : State), exec c s = .next t →
    t.pending = s.pending ∧
    (reachesMemory c = false → ∀ a, tileByte t.mem a = tileByte s.mem a ∧ padByte t.mem a = padByte s.mem a)

/-- The canonical form of the memories is kept by every step from every state, the step on an empty queue included; and no
step leaves behind what a cycle notes for itself: the vectors that have been asked for (R380) and the tiles that have a
detection (R304). Log entries 2, 15, 26, 110. -/
def Obligations.MemoryInvariant : Prop :=
  (∀ s t : State, MemOk s → step s = .next t → MemOk t) ∧
  (∀ s t : State, s.dev.rose = [] → s.dev.dm.logged = [] → step s = .next t → t.dev.rose = [] ∧ t.dev.dm.logged = [])

/-! ## The register fabric (chapter 2) -/

/-- R485: a word write that passes every step is performed by its block. A stored header register that acts on nothing,
PAGE_IRQ_EN or PAGE_IRQ_MAP, then holds the enabled bytes of its fields, and every other register reads as before. Log
entry 17. -/
def Obligations.AcceptedWriteStores : Prop :=
  ∀ (s : State) (p off : Nat) (w : BusWrite), p < 256 → off < 0x1000 → off % 4 = 0 → accepted s.dev p off w = true →
    Gives (.registerWrite w.m (BitVec.ofNat 24 (addrOf p off)) (lanes w)) s (s.dev.apply (seen s.dev p off w)).cycle ∧
    (off = 0x010 ∨ off = 0x014 →
      (s.dev.apply (seen s.dev p off w)).reg (addrOf p off) = (seen s.dev p off w).new ∧
      SameRegs [addrOf p off] s.dev (s.dev.apply (seen s.dev p off w)))

/-- R26: an alias write of a bit that passes is performed as a write of its whole register. In PAGE_IRQ_EN that bit takes
the written value and the other bits stay, and every other register reads as before. R31: a read of PAGE_STAT returns it,
and clears the RC bits of the enabled bytes; every other register reads as before. R30: a read of two registers' bytes is
two reads, in ascending order. Log entries 17, 27. -/
def Obligations.AliasWritesAndStatusReads : Prop :=
  (∀ (s : State) (m : Master) (p off bit : Nat) (v : Bool) (be : BitVec 4) (data : Word),
    p < 256 → off < 0x1000 → off % 4 = 0 → bit < 32 → be.getLsbD 0 = true → data.getLsbD 0 = v →
    acceptedAlias s.dev m p off bit v = true →
    ∃ e, Gives (.aliasWrite (BitVec.ofNat 24 (addrOf p (0x8000 + off / 4 * 128 + bit * 4))) ⟨m, be, data⟩) s e ∧
      e = s.dev.apply (seen s.dev p off (aliasWr s.dev m p off bit v)) ∧
      (off = 0x010 → e.reg (addrOf p off) = wordBit (s.dev.reg (addrOf p off)) bit v ∧ SameRegs [addrOf p off] s.dev e)) ∧
  (∀ (s : State) (p : Nat) (r : BusRead), p < 256 → readable s.dev p 0x00C r = true →
    ∃ e, Gives (.rcRead (BitVec.ofNat 24 (addrOf p 0x00C)) (span r)) s e ∧ e.rdata = s.dev.reg (addrOf p 0x00C) ∧
      e.reg (addrOf p 0x00C) =
        s.dev.reg (addrOf p 0x00C) &&& ~~~(bitsWhere p 0x00C (fun f => f.acc == .rc) &&& beMask r.be) ∧
      SameRegs [addrOf p 0x00C] s.dev e) ∧
  (∀ (s : State) (m : Master) (p off : Nat) (w v : BitVec 4), p < 256 → off < 0xFFC → off % 4 = 0 →
    Gives (.rcRead (BitVec.ofNat 24 (addrOf p off)) ⟨m, beLanes w ++ beLanes v⟩) s
      ((s.dev.busRead m (addrOf p off) w).cycle.busRead m (addrOf p (off + 4)) v).cycle)

/-- The commands that set or clear one bit of PAGE_CTRL: where the write passes, it is performed and that bit stands. A
block reset makes reset_busy 1 on every page of its block (R37), a lock stays set (R41), check_en takes the value (R53),
and a commit makes check_busy 1 (R54). Log entry 25. -/
def Obligations.PageControlWrites : Prop :=
  ∀ (s : State) (m : Master) (page : BitVec 8) (v : Bool),
    let d := s.dev
    let p := page.toNat
    let x (bit : Nat) (b : Bool) : Wr := seen d p 0x008 (ctrlWr d m p bit b)
    (accepted d p 0x008 (ctrlWr d m p 0 v) = true →
      ∃ e, Gives (.pageEnable m page v) s e ∧ e = d.apply (x 0 v) ∧ e.rd p F.PAGE_CTRL_enable = v.toNat) ∧
    (accepted d p 0x008 (ctrlWr d m p 1 true) = true →
      ∃ e, Gives (.blockReset m page) s e ∧ e = d.apply (x 1 true) ∧ (x 1 true).cmd F.PAGE_CTRL_block_reset = 1 ∧
        ∀ q ∈ blockPages p, e.rd q F.PAGE_CTRL_reset_busy = 1) ∧
    (accepted d p 0x008 (ctrlWr d m p 2 v) = true → hasBasic p = true →
      ∃ e, Gives (.levelChange m page v) s e ∧ e = d.apply (x 2 v) ∧ e.rd p F.PAGE_CTRL_level = v.toNat) ∧
    (d.privileged m = true → accepted d p 0x008 (ctrlWr d m p 4 true) = true →
      ∃ e, Gives (.pageLock m page) s e ∧ e.rd p F.PAGE_CTRL_lock = 1 ∧ SameRegs [addrOf p 0x008] d e) ∧
    (d.privileged m = true → accepted d p 0x008 (ctrlWr d m p 5 v) = true →
      ∃ e, Gives (.checkEnable m page v) s e ∧ e.rd p F.PAGE_CTRL_check_en = v.toNat ∧ SameRegs [addrOf p 0x008] d e) ∧
    (d.privileged m = true → accepted d p 0x008 (ctrlWr d m p 6 true) = true →
      ∃ e, Gives (.pageCommit m page) s e ∧ e.rd p F.PAGE_CTRL_check_busy = 1 ∧ SameRegs [addrOf p 0x008] d e)

/-- What the device writes into a field of its own: the field takes the value, the other fields and registers stay, and so
does everything that is no register. R28, R29: a stored write leaves in every field that is not WO the written value where
its master can change the field and the bytes are enabled, and the old value otherwise; no other register changes. Log
entry 27. -/
def Obligations.StoredFields : Prop :=
  ∀ (d : Dev) (p : Nat) (f : Field), f.lo + f.w ≤ 32 →
    (∀ v, (d.wr p f v).rd p f = v % 2 ^ f.w ∧ SameRegs [addrOf p f.off] d (d.wr p f v) ∧
      (∀ g : Field, g.off = f.off → g.lo + g.w ≤ 32 → g.mask &&& f.mask = 0 → (d.wr p f v).rd p g = d.rd p g) ∧
      d.wr p f v = { d with regs := (d.wr p f v).regs, upset := (d.wr p f v).upset }) ∧
    (∀ w : BusWrite, tsOf p f.off = none → f.mask &&& bitsWhere p f.off (fun g => g.acc == .wo) = 0 →
      (d.store (seen d p f.off w)).rd p f = f.get ((d.reg (addrOf p f.off) &&& ~~~(d.writeMask w.m p f.off &&& beMask w.be)) |||
        (w.data &&& (d.writeMask w.m p f.off &&& beMask w.be))) ∧
      SameRegs [addrOf p f.off] d (d.store (seen d p f.off w)))

/-- R24, R380: setting a bit of PAGE_STAT makes it 1 and leaves every register but that one and the pending bits of MSI-X.
Where the bit was 0, is enabled in PAGE_IRQ_EN and its page's vector is unmasked on a USB4 link, the vector's message
leaves, unless the vector has been asked for in the same cycle; where the bit was 1 or is not enabled, or the vector has
been asked for in the cycle, none does. Log entry 15. -/
def Obligations.StatusBitRequests : Prop :=
  ∀ (d : Dev) (p b : Nat), b < 32 →
    (d.stat p b).bit p 0x00C b = true ∧ SameRegs (statAddrs p) d (d.stat p b) ∧
    (d.bit p 0x00C b = false → d.bit p 0x010 b = true → d.rd p F.PAGE_IRQ_MAP_vector ∉ d.rose → 2 ≤ d.rd 0x14 F.HL_STAT_gen →
      d.on 0x17 (F.MSIX_VCTRL_mask.at (d.rd p F.PAGE_IRQ_MAP_vector)) = false →
      ∃ a v, (d.stat p b).sent = .msix (d.rd p F.PAGE_IRQ_MAP_vector) a v :: d.sent) ∧
    (d.bit p 0x00C b = true ∨ d.bit p 0x010 b = false ∨ d.rd p F.PAGE_IRQ_MAP_vector ∈ d.rose →
      (d.stat p b).sent = d.sent ∧ SameRegs [addrOf p 0x00C] d (d.stat p b))

/-- R55 to R60: a write that fails an access check changes no register but the status of its page, the pending bits of
MSI-X, the log's count of lost entries, the count of violations and PROT_FROZEN. Its page's violation bit is set, its
master (but the SE) is frozen, the entry is the master's THAW_LAST and, while the log has room, the log's newest, and
EV240 is raised. A key write whose key the same master has armed (R43) is apart. Log entry 28. -/
def Obligations.ViolationFreezes : Prop :=
  ∀ (s : State) (p off c : Nat) (w : BusWrite), p < 256 → off < 0x1000 → off % 4 = 0 → w.be ≠ 0 →
    (fieldsAt p off).isSome = true → s.dev.heard w.m = true → s.dev.stalls w.m = false → s.dev.barred w.m p = false →
    s.dev.accessCause (seen s.dev p off w) w.data (w.be != 15) = some c → s.dev.armedBy p w.m = false →
    let entry : VEntry := ⟨vInfo (some w.m) c w.be, BitVec.ofNat 32 (addrOf p off), w.data, s.dev.now⟩
    ∃ e, Gives (.registerWrite w.m (BitVec.ofNat 24 (addrOf p off)) (lanes w)) s e ∧
      SameRegs (statAddrs p ++ [addrOf 0x08 0x040, addrOf 0x08 0x058, addrOf 0x10 0x054]) s.dev e ∧
      e.bit p 0x00C 2 = true ∧ (w.m ≠ .se → e.frozen w.m = true) ∧ (w.m = .se → e.frozen .se = s.dev.frozen .se) ∧
      (∀ m, m ≠ w.m → e.frozen m = s.dev.frozen m) ∧
      tabGet (fun _ => none) e.prot.thawLast w.m.id = some entry ∧
      (s.dev.prot.vlog.length < 32 → e.prot.vlog = s.dev.prot.vlog ++ [entry]) ∧
      e.mw.wire = s.dev.mw.wire ++ [⟨240, 0, .system, 240⟩]

/-- Table 2.4: a write of a frozen master outside page 0x0A changes no register. HOST's and DBG's are over, where no
earlier request of theirs is held up; the others' stall, in order. Log entry 18. -/
def Obligations.FrozenWritesStop : Prop :=
  ∀ (s : State) (p off : Nat) (w : BusWrite), p < 256 → off < 0x1000 → off % 4 = 0 → (fieldsAt p off).isSome = true →
    s.dev.serving = true → s.dev.frozen w.m = true → p ≠ 0x0A →
    ∃ e, Gives (.registerWrite w.m (BitVec.ofNat 24 (addrOf p off)) (lanes w)) s e ∧ SameRegs [] s.dev e ∧
      (w.m = .host ∨ w.m = .dbg → s.dev.stalls w.m = false → e = s.dev.cycle) ∧
      (w.m ≠ .host → w.m ≠ .dbg →
        e.prot.stalled = s.dev.prot.stalled ++ [.bus ⟨w.m, true, addrOf p off, w.be, w.data⟩])

/-- The ends of what a page has running (R37, R48, R52 to R54): a block reset, a key's life, a check, a commit. Log
entries 3, 95. -/
def Obligations.PageEvents : Prop :=
  ∀ (s : State) (page : BitVec 8), s.dev.serving = true →
    let d := s.dev
    let p := page.toNat
    (d.on p F.PAGE_CTRL_reset_busy = true →
      ∃ e, Gives (.blockResetDone page) s e ∧ (∀ q ∈ blockPages p, e.rd q F.PAGE_CTRL_reset_busy = 0) ∧
        SameRegs ((blockPages p).map fun q => addrOf q 0x008) d e) ∧
    (d.on p F.PAGE_CTRL_key_armed = true →
      ∃ e, Gives (.keyExpire page) s e ∧ e.rd p F.PAGE_CTRL_key_armed = 0 ∧ e.rd p F.PAGE_CTRL_key_master = 0 ∧
        e.bit p 0x00C 6 = true ∧ SameRegs (addrOf p 0x008 :: statAddrs p) d e) ∧
    (d.on p F.PAGE_CTRL_check_busy = true → isPriv p = true →
      ∃ e, Gives (.commitDone page) s e ∧ e.rd p F.PAGE_CHECK = (d.pageCheck p).toNat ∧
        e.rd p F.PAGE_CHECK_REF = (d.pageCheck p).toNat ∧ e.rd p F.PAGE_CTRL_check_en = 1 ∧
        e.rd p F.PAGE_CTRL_check_busy = 0 ∧ SameRegs [addrOf p 0x008, addrOf p 0x01C, addrOf p 0x020] d e) ∧
    (isPriv p = true → d.on p F.PAGE_CTRL_check_en = false ∨ d.pageCheck p = d.reg (addrOf p 0x020) →
      ∃ e, Gives (.checkRecompute page) s e ∧ e.rd p F.PAGE_CHECK = (d.pageCheck p).toNat ∧
        SameRegs [addrOf p 0x01C] d e) ∧
    (isPriv p = true → d.on p F.PAGE_CTRL_check_en = true → d.pageCheck p ≠ d.reg (addrOf p 0x020) →
      tabGet (fun _ => none) d.prot.lastDiff p ≠ some (d.pageCheck p) →
      ∃ e, Gives (.checkRecompute page) s e ∧ e.rd p F.PAGE_CHECK = (d.pageCheck p).toNat ∧ e.bit p 0x00C 5 = true ∧
        e.mw.wire = d.mw.wire ++ [⟨240, 0, .system, 240⟩])

/-- R46: a whole-word write of a page's key arms it for its master, and changes PAGE_CTRL alone. R58: a thaw write,
AUTOTHAW and a thaw request that the MC carries out thaw their masters and no other; R59: a pop takes the log's oldest
entry off. Log entry 28. -/
def Obligations.KeysAndThaws : Prop :=
  ∀ (s : State) (w : BusWrite) (m : Master) (page : BitVec 8),
    let d := s.dev
    let p := page.toNat
    (isKeyed p = true → w.be = 15 → w.data = pageKey p → accepted d p 0x018 w = true →
      ∃ e, Performs (.keyArm page w) s e ∧ e.armedBy p w.m = true ∧ SameRegs [addrOf p 0x008] d e) ∧
    (accepted d 0x08 0x044 w = true →
      ∃ e, Performs (.protThaw w) s e ∧ SameRegs [addrOf 0x08 0x040] d e ∧
        ∀ k, e.frozen k = (d.frozen k && !((seen d 0x08 0x044 w).cmd F.PROT_THAW_mask).testBit k.id)) ∧
    (d.mcRuns = true → d.frozen m = true → d.has 0x08 F.PROT_AUTOTHAW_mask m.id = true →
      ∃ e, Gives (.autothaw m) s e ∧ SameRegs [addrOf 0x08 0x040] d e ∧ e.frozen m = false ∧
        ∀ k, k ≠ m → e.frozen k = d.frozen k) ∧
    (accepted d 0x0A 0x044 w = true → (seen d 0x0A 0x044 w).cmd F.THAW_REQ_req = 1 → d.frozen w.m = true →
      ∃ e, Performs (.thawReq w) s e ∧ SameRegs [] d e ∧ e.thawPending w.m = true) ∧
    (d.mcRuns = true → d.thawPending m = true →
      ∃ e, Gives (.mcThaw m) s e ∧ SameRegs [addrOf 0x08 0x040] d e ∧ e.frozen m = false ∧ e.thawPending m = false ∧
        ∀ k, k ≠ m → e.frozen k = d.frozen k) ∧
    (accepted d 0x08 0x05C w = true → (seen d 0x08 0x05C w).cmd F.VLOG_POP_pop = 1 →
      ∃ e, Performs (.vlogPop w) s e ∧ SameRegs [] d e ∧ e.prot.vlog = d.prot.vlog.drop 1)

/-- R57, R411: the SE watchdog resets a frozen MC. It runs again thawed, from the image that it ran from, holds no
Turnstile, its stalled requests are gone, posted messages and acknowledges stay, and it has a notification of the reset to
post. Log entries 83, 86. -/
def Obligations.WatchdogRestartsMc : Prop :=
  ∀ s : State, s.dev.serving = true → s.dev.rd 0x01 F.RST_STAT_boot ≠ 2 → s.dev.frozen .mc = true →
    ∃ e, Gives .mcWatchdogReset s e ∧ e.frozen .mc = false ∧ (∀ k, k ≠ .mc → e.frozen k = s.dev.frozen k) ∧
      (∀ n, n < 64 → s.dev.taken n = true → s.dev.rd 0x09 (tsHolder n) = Master.mc.id → e.taken n = false) ∧
      e.prot.stalled = s.dev.prot.stalled.filter (fun h => h.master != .mc) ∧ e.mcRuns = true ∧
      (∀ a, a / 65536 = 0x10 → e.reg a = s.dev.reg a) ∧ e.sec = { s.dev.sec with mcResets := s.dev.sec.mcResets + 1 } ∧
      (∀ ch, ch < 64 → (s.dev.mbState ch ≠ 2 → e.mbState ch = s.dev.mbState ch) ∧
        (∀ k, k < 16 → e.mbWord ch k = s.dev.mbWord ch k) ∧
        e.rd (mbPage ch) (mf ch F.MB_ACK_code) = s.dev.rd (mbPage ch) (mf ch F.MB_ACK_code) ∧
        e.rd (mbPage ch) (mf ch F.MB_ACK_seq) = s.dev.rd (mbPage ch) (mf ch F.MB_ACK_seq)) ∧
      e.mail.notes = s.dev.mail.notes ++ [(0x8002, BitVec.ofNat 32 (s.dev.sec.mcResets + 1))]

/-- R61 to R63: a read with byte lane 0 of a free Turnstile returns 0 and takes it for its master; a read of a taken one
returns 1 and changes no register; a read without byte lane 0 returns the state and changes none. The alias of bit 0
behaves as a read with byte lane 0, and the aliases of the other bits read 0 and do nothing. Of two readers in a cycle the
one with the lower ID has it and reads 0, and the other's read returns 1; a write of 0 by the holder or a privileged
master frees it. Log entry 16. -/
def Obligations.TurnstilesLock : Prop :=
  ∀ (s : State) (n : Fin 64) (r q : BusRead) (w : BusWrite),
    let d := s.dev
    let off := 0x200 + 4 * n.val
    let alias_ (j : Nat) : BitVec 24 := BitVec.ofNat 24 (addrOf 0x09 (0x8000 + off / 4 * 128 + 4 * j))
    let mine (e : Dev) (m : Master) : Prop := e.taken n.val = true ∧ e.rd 0x09 (tsHolder n.val) = m.id ∧
      e.rd 0x09 (tsHeld n.val) = 1 ∧ SameRegs [addrOf 0x09 off, addrOf 0x09 (0x300 + 4 * (n.val / 8))] d e
    (readable d 0x09 off r = true → r.be.getLsbD 0 = true → d.taken n.val = false →
      ∃ e, Gives (.turnstileAcquire n [r]) s e ∧ e.rdata = 0 ∧ mine e r.m) ∧
    (readable d 0x09 off r = true → r.be.getLsbD 0 = true → d.taken n.val = true →
      ∃ e, Gives (.turnstileAcquire n [r]) s e ∧ e.rdata = 1 ∧ SameRegs [] d e) ∧
    (readable d 0x09 off r = true → r.be.getLsbD 0 = false →
      ∃ e, Gives (.turnstileAcquire n [r]) s e ∧ e.rdata.getLsbD 0 = d.taken n.val ∧ SameRegs [] d e) ∧
    (readable d 0x09 off r = true →
      (∃ e, Gives (.rcRead (alias_ 0) (span r)) s e.cycle ∧ Gives (.turnstileAcquire n [⟨r.m, 1⟩]) s e) ∧
      ∀ j, 1 ≤ j → j < 32 → ∃ e, Gives (.rcRead (alias_ j) (span r)) s e ∧ e.rdata = 0 ∧ SameRegs [] d e) ∧
    (readable d 0x09 off r = true → readable d 0x09 off q = true → r.be.getLsbD 0 = true → q.be.getLsbD 0 = true →
      r.m.id < q.m.id → d.taken n.val = false →
      ∃ e, Gives (.turnstileAcquire n [q, r]) s e ∧ e.answers = ⟨q.m, 1⟩ :: ⟨r.m, 0⟩ :: d.answers ∧ mine e r.m) ∧
    (accepted d 0x09 off w = true → w.be.getLsbD 0 = true → w.data.getLsbD 0 = false →
      ∃ e, Performs (.turnstileRelease n w) s e ∧ e.taken n.val = false ∧ e.rd 0x09 (tsHolder n.val) = 0 ∧
        e.rd 0x09 (tsHeld n.val) = 0 ∧ SameRegs [addrOf 0x09 off, addrOf 0x09 (0x300 + 4 * (n.val / 8))] d e)

/-- R45: a write of PAGE_OWNER that passes leaves the written owner there and nothing else. Of two claims of a free page
in a cycle the one with the lower ID takes it; the other, where no access check stops it, sets the page's state_reject and
changes no owner. Log entry 16. -/
def Obligations.PageClaims : Prop :=
  ∀ (s : State) (page : BitVec 8) (w v : BusWrite),
    let d := s.dev
    let p := page.toNat
    (accepted d p 0x024 w = true →
      ∃ e, Performs (.pageClaim page [w]) s e ∧ e.reg (addrOf p 0x024) = (seen d p 0x024 w).new ∧
        SameRegs [addrOf p 0x024] d e) ∧
    (accepted d p 0x024 w = true → isOwned p = true → d.on p F.PAGE_OWNER_valid = false →
      w.m.id < v.m.id → d.stalls v.m = false → d.barred v.m p = false → w.be = 15 → v.be = 15 →
      d.accessCause (seen d p 0x024 v) v.data false = none →
      F.PAGE_OWNER_valid.get w.data = 1 → F.PAGE_OWNER_valid.get v.data = 1 → F.PAGE_OWNER_owner.get v.data = v.m.id →
      ∃ e, Performs (.pageClaim page [v, w]) s e ∧ e.reg (addrOf p 0x024) = (seen d p 0x024 w).new ∧
        e.bit p 0x00C 0 = true ∧ SameRegs (addrOf p 0x024 :: statAddrs p) d e)

/-- R49, R50: the sweep over a T3 field one of whose copies was upset gives all copies the majority's value, sets t3_fixed
of its page and counts it; every other register stays but for the page's status and MSI-X. With no copy upset it changes
nothing. Log entry 29. -/
def Obligations.SweepCorrects : Prop :=
  ∀ (s : State) (f : Field) (p off : Nat) (x : Word), s.dev.serving = true → s.dev.upset = [] →
    Gives (.t3Sweep []) s s.dev ∧
    (t3Fields p off = [f] → p < 256 → off < 0x1000 → off % 4 = 0 → f.lo + f.w ≤ 32 → x &&& f.mask ≠ 0 →
      ∃ e, Gives (.t3Sweep [(addrOf p off, x, 0)]) s e ∧ e.upset = [] ∧ e.bit p 0x00C 3 = true ∧
        e.rd 0x08 F.PROT_T3_FIXED = min (s.dev.rd 0x08 F.PROT_T3_FIXED + 1) (2 ^ F.PROT_T3_FIXED.w - 1) ∧
        SameRegs (addrOf 0x08 F.PROT_T3_FIXED.off :: statAddrs p) s.dev e)

/-! ## Start-up, supplies and the power states (chapter 3) -/

/-- The machine right after reset: every register holds its Reset value, the counts stand at 0, nothing is ready, logged,
pending or sent, and the memories list nothing, which is their canonical form. Log entries 5, 6, 7, 8, 10, 26, 98. -/
def Obligations.ResetValues : Prop :=
  (∀ a, State.reset.dev.reg a = resetWord a) ∧ State.reset.dev.ready = false ∧ State.reset.dev.count = 0 ∧
    State.reset.dev.prot.vlog = [] ∧ State.reset.dev.sent = [] ∧ State.reset.dev.mw.wire = [] ∧
    (∀ m, State.reset.dev.frozen m = false) ∧ State.reset.pending = [] ∧ State.reset.mem = Mem.reset ∧ MemOk State.reset

/-- R66, R70, R465: power-up, RESET_N low for 100 ns or longer, and a supply below its threshold return the device to its
state after reset but for what is fused or stored: every register outside that list holds its Reset value, and the
memories list nothing. Power-up and RESET_N then start it, with the self-test's result, RST_STAT.cause 0 or 1 and the
searches of CS0 and CS1 running. Log entries 7, 35, 36. -/
def Obligations.WholeResets : Prop :=
  ∀ (s : State) (post : BitVec 4) (lowNs : Nat) (sup : Fin 13),
    let d := s.dev
    (∃ e, GivesMem (.supplyReset sup) s e Mem.reset ∧ e = d.wiped ∧ e.ready = false ∧
      ∀ a, (∀ k ∈ d.kept, k.1 ≠ a) → e.reg a = resetWord a) ∧
    (∃ e, GivesMem (.powerUp post) s e Mem.reset ∧ e = d.wiped.begin post 0 ∧ e.ready = false ∧
      e.rd 0x01 F.RST_STAT_cause = 0 ∧ e.reg (addrOf 0xF0 0x040) &&& 0xF = post.setWidth 32 ∧
      (e.syn 0).job = .search ∧ (e.syn 1).job = .search ∧ e.on 0x18 F.CLK_GUARD_safe = true) ∧
    (100 ≤ lowNs →
      ∃ e, GivesMem (.resetN lowNs post) s e Mem.reset ∧ e = d.pinReset.begin post 1 ∧ e.ready = false ∧
        e.rd 0x01 F.RST_STAT_cause = 1 ∧ e.reg (addrOf 0xF0 0x040) &&& 0xF = post.setWidth 32 ∧
        (e.syn 0).job = .search ∧ (e.syn 1).job = .search ∧ e.on 0x18 F.CLK_GUARD_safe = true) ∧
    (lowNs < 100 → GivesMem (.resetN lowNs post) s d s.mem)

/-- R67, R69, R75, R486: the end of the start makes the device ready in STANDBY with req 2 and the time that the start
took; the end of a wake does the same and shows its cause, 3 for a wake source and 2 after the thermal trip; the crystal's
validity shows in AON_STAT alone. Log entries 4, 36. -/
def Obligations.ComesReady : Prop :=
  ∀ (s : State) (us : Word) (post : BitVec 4) (okA okB : Bool),
    let d := s.dev
    let inStandby (e : Dev) : Prop := e.ready = true ∧ e.power = 2 ∧ e.rd 0x02 F.SB_STATE_changing = 0 ∧
      e.rd 0x02 F.SB_STATE_REQ_req = 2 ∧ e.rd 0x01 F.RST_READY_US = us.toNat ∧ e.bill.trans = .none
    (d.ready = false → d.power ≠ 1 → (d.syn 0).on = true →
      ∃ e, Gives (.deviceReady us okA okB) s e ∧ e = d.loadCal.comeUp us okA okB ∧ inStandby e) ∧
    (d.power = 1 → d.bill.trans = .waking →
      ∃ e, Gives (.wakeDone us post okA okB) s e ∧ inStandby e ∧
        e.reg (addrOf 0xF0 0x040) &&& 0xF = post.setWidth 32 ∧
        e.rd 0x01 F.RST_STAT_cause = if d.bill.tripped then 2 else 3) ∧
    (∃ e, Gives .xtalValid s e ∧ e.rd 0x04 F.AON_STAT_xtal_ok = 1 ∧ SameRegs [addrOf 0x04 F.AON_STAT_xtal_ok.off] d e)

/-- R72, R73, R74, Table 3.5: an accepted request sets the transition that it asks for and SB_STATE.changing. DORMANT out
of ARMED or SHOW goes by way of STANDBY; ARMED starts the synthesizers of SB_ARM_SYNTH whose pages are enabled. Log
entries 24, 34. -/
def Obligations.PowerRequests : Prop :=
  ∀ (s : State) (m : Master),
    let d := s.dev
    let w (k : Word) : BusWrite := ⟨m, 15, k⟩
    let x (k : Word) : Wr := seen d 0x02 0x044 (w k)
    (accepted d 0x02 0x044 (w 1) = true → (x 1).val F.SB_STATE_REQ_req = 1 →
      ∃ e, Performs (.reqDormant m) s e ∧ e.rd 0x02 F.SB_STATE_changing = 1 ∧ e.rd 0x02 F.SB_STATE_REQ_req = 1 ∧
        SameRegs [addrOf 0x02 0x040, addrOf 0x02 0x044] d e ∧
        e.bill = { d.bill with trans := if d.power = 3 ∨ d.power = 4 then .toStandby false true else .toDormant }) ∧
    (accepted d 0x02 0x044 (w 2) = true → (x 2).val F.SB_STATE_REQ_req = 2 →
      ∃ e, Performs (.reqStandby m) s e ∧ e.rd 0x02 F.SB_STATE_REQ_req = 2 ∧
        SameRegs [addrOf 0x02 0x040, addrOf 0x02 0x044] d e ∧
        (d.power = 3 ∨ d.power = 4 →
          e.rd 0x02 F.SB_STATE_changing = 1 ∧ e.bill = { d.bill with trans := .toStandby false false }) ∧
        (d.power = 2 → e.bill = d.bill)) ∧
    (accepted d 0x02 0x044 (w 3) = true → (x 3).val F.SB_STATE_REQ_req = 3 →
      ∃ e, Performs (.reqArmed m) s e ∧ e.rd 0x02 F.SB_STATE_REQ_req = 3 ∧
        (d.power = 2 → e.rd 0x02 F.SB_STATE_changing = 1 ∧ e.bill.trans = .toArmed ∧
          ∀ i, i < 9 → d.on (synPage (6 + i)) F.PAGE_CTRL_enable = true → (e.syn (6 + i)).on = d.bit 0x02 0x048 i) ∧
        (d.power = 3 ∨ d.power = 4 → e.bill = d.bill ∧ SameRegs [addrOf 0x02 0x044] d e))

/-- R72, R74, R76, R77, R486: what the end of each transition does. DORMANT keeps the tile bytes of the eighths of
AON_RETAIN and no byte of the scratchpad; a source that fires on the way is held, and starts the wake at once. Log entries
24, 34, 35, 118. -/
def Obligations.PowerEntries : Prop :=
  ∀ (s : State) (own goOn : Bool) (src : BitVec 8),
    let d := s.dev
    let keep := d.rd 0x04 F.AON_RETAIN
    let hit := d.fired src
    (d.bill.trans = .toDormant →
      ∃ e m, GivesMem .dormantEntered s e m ∧ e.power = 1 ∧ m.pad = [] ∧
        (∀ a, tileByte m a = if d.survives keep (a / 4096) then tileByte s.mem a else 0) ∧
        (d.bill.wakeHeld = 0 → d.alarm = false → e.rd 0x02 F.SB_STATE_changing = 0 ∧ e.bill.trans = .none) ∧
        (d.bill.wakeHeld ≠ 0 → e.bill.trans = .waking ∧ e.bill.wakeHeld = 0 ∧ (e.syn 0).job = .search)) ∧
    (d.bill.trans = .toStandby own goOn →
      ∃ e, Gives .standbyEntered s e ∧ e = d.enterStandby own goOn ∧ e.power = 2 ∧
        e.bill.trans = (if goOn then .toDormant else .none) ∧ e.rd 0x02 F.SB_STATE_changing = goOn.toNat ∧
        (own = true → e.rd 0x02 F.SB_STATE_REQ_req = 2) ∧ ∀ i, i < 9 → (e.syn (6 + i)).on = false) ∧
    (d.bill.trans = .toArmed →
      ∃ e, Gives .armedEntered s e ∧ e.power = 3 ∧ e.rd 0x02 F.SB_STATE_changing = 0 ∧ e.bill.trans = .none ∧
        ∀ i, i < 9 → d.on (synPage (6 + i)) F.PAGE_CTRL_enable = true → (e.syn (6 + i)).on = d.bit 0x02 0x048 i) ∧
    (hit ≠ 0 → d.bill.trans = .none → d.power = 1 →
      ∃ e, Gives (.wake src) s e ∧ e.bill.trans = .waking ∧ e.bill.wakeHeld = 0 ∧
        e.rd 0x04 F.AON_STAT_wake_src = hit.toNat ∧ e.rd 0x02 F.SB_STATE_changing = 1 ∧
        (e.syn 0).job = .search ∧ (e.syn 1).job = .search) ∧
    (hit ≠ 0 → d.bill.trans = .toDormant →
      ∃ e, Gives (.wake src) s e ∧ e = { d with bill := { d.bill with wakeHeld := d.bill.wakeHeld ||| hit } }) ∧
    (d.power = 3 → d.bill.trans = .none → d.anyLive = false → d.on 0x02 F.SB_ARM_IDLE_ms = true →
      ∃ e, Gives .armIdleExpiry s e ∧ e.bill = { d.bill with trans := .toStandby true false } ∧
        e.rd 0x02 F.SB_STATE_changing = 1 ∧ SameRegs [addrOf 0x02 0x040] d e)

/-- R12, R13, Table 1.4, Table 16.2: a write of GLB_MODE.mode outside a change, in STANDBY or ARMED, stores the mode and
commands the paths of the change to another one, and to the same one changes nothing; otherwise the mode stays, and
GLB_MODE_STAT.reject shows why: 1 the power state, 3 a change in progress, 2 the reserved value. The end of a change shows
the new mode. R74, R82: a write of SB_ARM_SYNTH commits the synthesizers' power, and in ARMED and SHOW starts and stops
those whose pages are enabled. Log entries 24, 28, 78. -/
def Obligations.ModeWrites : Prop :=
  ∀ (s : State) (m : Master) (data : Word) (w : BusWrite),
    let d := s.dev
    let v : BusWrite := ⟨m, 15, data⟩
    let x := seen d 0x00 0x040 v
    let to_ := F.GLB_MODE_mode.get data
    let y := seen d 0x02 0x048 w
    (d.heard m = true → d.stalls m = false → d.barred m 0x00 = false → d.accessCause x data false = none →
      d.staged m 0x00 0x040 = false → d.on 0x00 F.PAGE_CTRL_reset_busy = false →
      (d.modeBad = none → to_ ≠ 3 → to_ ≠ d.mode →
        ∃ e, Performs (.modeWrite v) s e ∧ e.rd 0x00 F.GLB_MODE_mode = to_ ∧ e.mode = d.mode ∧
          e.on 0x00 F.GLB_MODE_STAT_changing = true ∧
          ∀ k, k < 16 → e.has 0x92 F.SN_CMD_module k =
            (decide (to_ = 1 ∨ (d.mode = 0 ∧ to_ = 2) ∨ (d.mode = 2 ∧ to_ = 0)) && !d.has 0x92 F.SN_FAULT_paths k &&
              d.bill.supplyOut == 0)) ∧
      (d.modeBad = none → to_ ≠ 3 → to_ = d.mode →
        ∃ e, Performs (.modeWrite v) s e ∧ e.rd 0x00 F.GLB_MODE_mode = to_ ∧ e.net = d.net ∧ SameRegs [addrOf 0x00 0x040] d e) ∧
      (d.modeBad = none → to_ = 3 →
        ∃ e, Gives (.modeWrite v) s e ∧ e.rd 0x00 F.GLB_MODE_STAT_reject = 2 ∧
          SameRegs [addrOf 0x00 F.GLB_MODE_STAT_reject.off] d e) ∧
      (∀ c, d.modeBad = some c →
        ∃ e, Gives (.modeWrite v) s e ∧ e.rd 0x00 F.GLB_MODE_STAT_reject = c ∧ e.bit 0x00 0x00C 0 = true ∧
          SameRegs (addrOf 0x00 F.GLB_MODE_STAT_reject.off :: statAddrs 0x00) d e)) ∧
    (d.serving = true → d.on 0x00 F.GLB_MODE_STAT_changing = true → d.net.check ≠ 1 → d.pathsSettled = true →
      ∃ e, Gives .modeChangeDone s e ∧ e.mode = d.rd 0x00 F.GLB_MODE_mode ∧ e.on 0x00 F.GLB_MODE_STAT_changing = false ∧
        e.net.check = 0) ∧
    (accepted d 0x02 0x048 w = true →
      ∃ e, Performs (.armSynthWrite w) s e ∧ e.reg (addrOf 0x02 0x048) = y.new ∧
        e.rd 0x02 F.SB_PWR_COMMIT = e.committed % 2 ^ F.SB_PWR_COMMIT.w ∧
        (d.power = 2 → e.syns = d.syns) ∧
        (d.power = 3 ∨ d.power = 4 →
          ∀ i, i < 9 → d.on (synPage (6 + i)) F.PAGE_CTRL_enable = true → (e.syn (6 + i)).on = y.new.getLsbD i))

/-- R434 to R439, R441, R465: a confirmed move shows its position and sets path_moved, and the last one of a check cycle
sends every path back; a move that is not confirmed in time faults its path, which is commanded to bypass, sets
path_fault, raises the safety event and idles its lane in an act; a read of SN_FAULT clears it; a supply that leaves its
window releases every path, and in ARMED and SHOW is an emergency, which ends in STANDBY; its return outside a mode
change, and a forwarding act's approach in IN-LINE, command paths to module position; an injection switch follows R357.
Log entries 32, 37, 78. -/
def Obligations.PathsMove : Prop :=
  ∀ (s : State) (k : Fin 16) (slot : Fin 16) (sup : Fin 13) (r : BusRead) (u : Dev),
    let d := s.dev
    let start := d.rd 0x03 (F.ACT_W0_start.at slot.val)
    (d.serving = true → d.net.moving.testBit k.val = true →
      ∃ e, Gives (.pathMoveDone k) s e ∧ e.bit 0x92 0x00C 17 = true ∧
        (d.net.check ≠ 1 → e.has 0x92 F.SN_POS_module k.val = d.has 0x92 F.SN_CMD_module k.val ∧
          e.net.moving = withBit d.net.moving k.val false) ∧
        (d.on 0x00 F.GLB_MODE_STAT_changing = true → d.net.check = 1 → withBit d.net.moving k.val false = 0 →
          e.net.check = 2 ∧ ∀ j, j < 16 → e.has 0x92 F.SN_CMD_module j = false)) ∧
    (d.serving = true → d.net.moving.testBit k.val = true →
      ∃ e, Gives (.pathFault k) s e ∧ e.has 0x92 F.SN_FAULT_paths k.val = true ∧ e.has 0x92 F.SN_CMD_module k.val = false ∧
        e.bit 0x92 0x00C 16 = true ∧ ⟨254, 0, .system, 254⟩ ∈ e.mw.wire ∧
        (d.running F.ACT_LANES_tx (pathTx k.val) = true → (e.tx (pathTx k.val)).lost = true)) ∧
    (readable d 0x92 0x048 r = true → r.be = 15 → d.has 0x92 F.SN_FAULT_paths k.val = true →
      ∃ e, Gives (.snFaultRead r) s e ∧ e.rdata = d.readWord r.m 0x92 0x048 ∧ e.rd 0x92 F.SN_FAULT_paths = 0) ∧
    (d.serving = true →
      ∃ e, Gives (.supplyWindowExit sup) s e ∧ e.bill.supplyOut = withBit d.bill.supplyOut sup.val true ∧
        e.rd 0x92 F.SN_CMD_module = 0 ∧ e.rd 0x92 F.SN_POS_module = 0 ∧
        (11 ≤ sup.val → e.on 0x8C F.SD_GSTAT_hv_ok = false) ∧
        (d.power = 2 → e.rd 0x02 F.SB_EMERG_latched = d.rd 0x02 F.SB_EMERG_latched) ∧
        (d.power = 3 ∨ d.power = 4 → d.on 0x02 F.SB_EMERG_latched = false →
          e.on 0x02 F.SB_EMERG_latched = true ∧ e.rd 0x02 F.SB_EMERG_cause = 3 ∧ e.bit 0x02 0x00C 18 = true ∧
            e.power = 2 ∧ e.bill.trans = .none ∧ ⟨244, 0, .system, 244⟩ ∈ e.mw.wire ∧ e.anyLive = false)) ∧
    (d.serving = true →
      ∃ e, Gives (.supplyWindowReturn sup) s e ∧ e.bill.supplyOut = withBit d.bill.supplyOut sup.val false ∧
        (withBit d.bill.supplyOut sup.val false = 0 →
          e.on 0x8C F.SD_GSTAT_hv_ok = true ∧
          (d.on 0x00 F.GLB_MODE_STAT_changing = false → d.mode = 1 →
            ∀ j, j < 16 → e.has 0x92 F.SN_CMD_module j = !d.has 0x92 F.SN_FAULT_paths j) ∧
          (d.on 0x00 F.GLB_MODE_STAT_changing = false → d.mode = 0 → ∀ j, j < 16 → e.has 0x92 F.SN_CMD_module j = false))) ∧
    (d.serving = true → d.actState slot.val = 2 → d.forwards slot.val = true → d.bill.pathWait.testBit slot.val = false →
      (start = 0 ∧ u = d) ∨ (start = 1 ∧ u = d.reachTime (d.startCount slot.val - 35000)) ∨
        (start = 2 ∧ d.startEvent slot.val = some u) →
      ∃ e, Gives (.forwardPathMove slot) s e ∧ e.bill.pathWait.testBit slot.val = true ∧
        (u.on 0x00 F.GLB_MODE_STAT_changing = false → u.mode = 2 → u.bill.supplyOut = 0 → u.actState slot.val = 2 → ∀ j, j < 16 → (u.fwdSources slot.val).contains j = true →
          u.has 0x92 F.SN_FAULT_paths j = false → e.has 0x92 F.SN_CMD_module j = true)) ∧
    (d.serving = true →
      ∃ e, Gives (.injectionSwitchMove k) s e ∧ e.has 0x92 F.SN_INJ_closed k.val = d.injectionOk k.val ∧
        ∀ j, j ≠ k.val → e.has 0x92 F.SN_INJ_closed j = d.has 0x92 F.SN_INJ_closed j)

/-! ## Showbill (chapter 3) -/

/-- R81, R86, R91: a submit puts its slot in EVAL with reason, end and peak 0; an abort ends the ADMITTED and RUNNING
slots of its mask, and no other; a clear ends the emergency. Log entries 31, 32. -/
def Obligations.ActWrites : Prop :=
  ∀ (s : State) (w : BusWrite),
    let d := s.dev
    (accepted d 0x02 0x068 w = true →
      let k := (seen d 0x02 0x068 w).cmd F.SB_SUBMIT_slot
      ∃ e, Performs (.sbSubmit w) s e ∧ e.actState k = 1 ∧ e.rd 0x03 (F.ACT_STAT_reason.at k) = 0 ∧
        e.rd 0x03 (F.ACT_STAT_end.at k) = 0 ∧ e.rd 0x03 (F.ACT_STAT_peak.at k) = 0 ∧
        SameRegs [addrOf 0x03 (F.ACT_STAT_state.at k).off] d e) ∧
    (accepted d 0x02 0x06C w = true →
      ∃ e, Performs (.sbAbort w) s e ∧ ∀ k, k < 16 →
        let ends := ((seen d 0x02 0x06C w).cmd F.SB_ABORT_mask).testBit k && (d.actState k == 2 || d.actState k == 3)
        e.actState k = (if ends then 6 else d.actState k) ∧
          (ends = true → e.rd 0x03 (F.ACT_STAT_end.at k) = 2 ∧ e.bit 0x03 0x00C (16 + k) = true)) ∧
    (accepted d 0x02 0x060 w = true → (seen d 0x02 0x060 w).cmd F.SB_EMERG_clear = 1 →
      ∃ e, Performs (.emergClear w) s e ∧ e.rd 0x02 F.SB_EMERG_latched = 0 ∧ e.rd 0x02 F.SB_EMERG_cause = 0 ∧
        SameRegs [addrOf 0x02 0x060] d e)

/-- R81 to R84: the act that is next is refused with the first reason of Table 3.13 that holds, or becomes ADMITTED with
its power committed; either way its peak shows the prediction rounded up, where the register can hold it, and a free value
elsewhere. Log entry 31. -/
def Obligations.ActIsEvaluated : Prop :=
  ∀ (s : State) (slot : Fin 16),
    let d := s.dev
    let k := slot.val
    let p := d.committed + d.actPower k
    let t := d.predict p (d.rd 0x03 (F.ACT_DUR.at k))
    let fits := decide (-128 ≤ wholeUp t) && decide (wholeUp t ≤ 127)
    let b := if fits then d.wr 0x03 (F.ACT_STAT_peak.at k) (unsigned 8 (wholeUp t))
      else d.fresh.2.wr 0x03 (F.ACT_STAT_peak.at k) (d.fresh.1.toNat % 256)
    d.serving = true → d.evalNext k = true →
      ∃ e, Gives (.actEvaluate slot) s e ∧
        (fits = true → e.rd 0x03 (F.ACT_STAT_peak.at k) = unsigned 8 (wholeUp t)) ∧
        (∀ o, o < 16 → o ≠ k → e.actState o = d.actState o) ∧
        (b.refusal k p t = none →
          e.actState k = 2 ∧ e.rd 0x02 F.SB_PWR_COMMIT = e.committed % 2 ^ F.SB_PWR_COMMIT.w ∧
            ∀ n, n < 64 → e.keptOn n = true → e.bankState n = 0 ∨ e.bankState n = 2) ∧
        (∀ r, b.refusal k p t = some r →
          e.actState k = 5 ∧ e.rd 0x03 (F.ACT_STAT_reason.at k) = r ∧ e.bit 0x02 0x00C 17 = true ∧
            e.bit 0x03 0x00C (16 + k) = true ∧
            SameRegs (addrOf 0x03 (F.ACT_STAT_state.at k).off :: (statAddrs 0x02 ++ statAddrs 0x03)) d e)

/-- R82, R84, Table 3.13: what an admitted act meets. No emergency is latched, the state is ARMED or SHOW, every TX lane
it names meets the condition of R2, the commitment stays within the limit, and the predicted peak and power stay under the
cap. Log entries 12, 31. -/
def Obligations.AdmissionIsSafe : Prop :=
  ∀ (d : Dev) (k p : Nat) (t : Int), d.refusal k p t = none →
    d.formatBad k = false ∧ d.on 0x02 F.SB_EMERG_latched = false ∧ d.armed = true ∧
      d.on 0x00 F.GLB_MODE_STAT_changing = false ∧ (d.namesLane k = true → d.mode ≠ 0) ∧ (d.forwards k = true → d.mode = 2) ∧
      (∀ n, n < 16 → d.names F.ACT_LANES_tx n k = true → d.r2 n = true) ∧ d.conflicts k = false ∧
      (d.rd 0x03 (F.ACT_W0_start.at k) = 1 → d.count.toNat + 2000 ≤ d.startCount k) ∧
      p ≤ 10 * d.rd 0x02 F.SB_PWR_LIMIT_watts ∧ p ≤ 1500 ∧ t ≤ 1250000 * tempScale

/-- R85, R86: an ADMITTED act starts at once, at its count, or on its event, and one that forwards once its paths have
been commanded: it is RUNNING, the state is SHOW, and the start is raised. A RUNNING act with a duration ends at it, DONE
with cause 0. Log entries 23, 32, 38. -/
def Obligations.ActsStartAndEnd : Prop :=
  ∀ (s : State) (slot : Fin 16) (u : Dev),
    let d := s.dev
    let k := slot.val
    let start := d.rd 0x03 (F.ACT_W0_start.at k)
    d.serving = true →
      (d.actState k = 2 → d.forwards k = false ∨ d.bill.pathWait.testBit k = true →
        (start = 0 ∧ u = d) ∨ (start = 1 ∧ u = d.reachTime (d.startCount k)) ∨
          (start = 2 ∧ d.forwards k = false ∧ d.startEvent k = some u) ∨ (start = 2 ∧ d.forwards k = true ∧ u = d) →
        ∃ e, Gives (.actStart slot) s e ∧ e.actState k = 3 ∧ (∀ o, o < 16 → o ≠ k → e.actState o = u.actState o) ∧
          (u.power = 3 ∨ u.power = 4 → e.power = 4) ∧ ⟨241, 0, .system, 241⟩ ∈ e.mw.wire ∧
          e.bill.pathWait.testBit k = false) ∧
      (d.actState k = 3 → d.on 0x03 (F.ACT_DUR.at k) = true →
        ∃ e, Gives (.actDurationExpiry slot) s e ∧ e.actState k = 4 ∧ e.rd 0x03 (F.ACT_STAT_end.at k) = 0 ∧
          (∀ o, o < 16 → o ≠ k → e.actState o = d.actState o) ∧ e.bit 0x03 0x00C (16 + k) = true ∧
          ⟨242, 0, .system, 242⟩ ∈ e.mw.wire ∧
          ((∀ o, o < 16 → o ≠ k → d.actState o ≠ 3) → d.power = 4 → e.power = 3))

/-- What these commands leave while the device serves. A sample of the sensors shows its four values; one that calls for
no emergency, or finds one latched, shows the band and the prediction too (THERM_PRED where the register holds it) and
writes nothing else but a new spell's bits; one that calls for one not yet latched declares it with its cause: the mode is
0, no act is live, and STANDBY is reached (R83, R88, R90). The analog trip leaves DORMANT, an emergency latched, of cause
2 where none was, and no byte of either memory (R92). An overdue task shows its bit, and its bank or synthesizer is late;
a recalibration starts, ends, or does nothing, and so does the offset check (R89). Log entries 12, 32, 33, 119. -/
def Obligations.HeatAndHousekeeping : Prop :=
  ∀ (s : State) (tc tj : BitVec 16) (sensor : BitVec 8) (power : BitVec 12) (task : Fin 5) (res : Fin 64) (i : Fin 9),
    let d := s.dev
    let b := (d.sampleRegs tc.toNat tj.toNat sensor.toNat power.toNat).modelCheck
    let t := roundAway ((b.caseTemp + (b.rise b.committed : Nat)) * 16) 10000
    let shows (e : Dev) : Prop := e.rd 0x05 F.THERM_TC = tc.toNat ∧ e.rd 0x05 F.THERM_TJ_MAX_temp = tj.toNat ∧
      e.rd 0x05 F.THERM_TJ_MAX_sensor = sensor.toNat ∧ e.rd 0x02 F.SB_PWR_NOW = power.toNat
    d.serving = true →
      (b.heatCause = none ∨ d.on 0x02 F.SB_EMERG_latched = true →
        ∃ e, Gives (.sensorSample tc tj sensor power) s e ∧ shows e ∧ e.rd 0x05 F.THERM_STAT_band = bandOf e.caseTemp ∧
          (-32768 ≤ t → t ≤ 32767 → e.rd 0x05 F.THERM_PRED = unsigned 16 t) ∧
          SameRegs ([addrOf 0x05 F.THERM_TC.off, addrOf 0x05 F.THERM_TJ_MAX_temp.off, addrOf 0x02 F.SB_PWR_NOW.off,
            addrOf 0x05 F.THERM_STAT_band.off, addrOf 0x05 F.THERM_PRED.off] ++ statAddrs 0x02) d e) ∧
      (∀ c, b.heatCause = some c → d.on 0x02 F.SB_EMERG_latched = false →
        ∃ e, Gives (.sensorSample tc tj sensor power) s e ∧ shows e ∧ e.rd 0x02 F.SB_EMERG_latched = 1 ∧
          e.rd 0x02 F.SB_EMERG_cause = c ∧ e.bit 0x02 0x00C 18 = true ∧ e.anyLive = false ∧
          e.rd 0x00 F.GLB_MODE_mode = 0 ∧ e.rd 0x02 F.SB_STATE_REQ_req = 2 ∧ (d.power = 3 ∨ d.power = 4 → e.power = 2)) ∧
      (∃ e, GivesMem .thermalTrip s e Mem.reset ∧ e.power = 1 ∧ e.rd 0x02 F.SB_EMERG_latched = 1 ∧
        e.rd 0x02 F.SB_EMERG_cause = (if d.on 0x02 F.SB_EMERG_latched then d.rd 0x02 F.SB_EMERG_cause else 2) ∧
        e.bill.tripped = true ∧ e.ready = false) ∧
      (∃ e, Gives (.hkOverdue task res) s e ∧ e.has 0x02 F.SB_HK_STAT_overdue task.val = true ∧ e.bit 0x02 0x00C 19 = true ∧
        SameRegs (addrOf 0x02 F.SB_HK_STAT_overdue.off :: statAddrs 0x02) d e ∧
        (task.val = 1 → e.bill.lateBanks.testBit res.val = true) ∧
        (task.val = 2 → res.val < 9 → e.bill.lateSynths.testBit res.val = true)) ∧
      (d.has 0x02 F.SB_HK_CTRL_en 2 = true → d.playsOn (6 + i.val) = false →
        d.synOn (6 + i.val) F.SYN_STAT_recal = false →
        ∃ e, Gives (.synthRecal i) s e ∧ e.synOn (6 + i.val) F.SYN_STAT_recal = true ∧
          e.has 0x02 F.SB_HK_STAT_running 2 = true) ∧
      (d.synOn (6 + i.val) F.SYN_STAT_recal = true →
        ∃ e, Gives (.synthRecal i) s e ∧ e.synOn (6 + i.val) F.SYN_STAT_recal = false ∧
          e.bill.lateSynths.testBit i.val = false ∧
          e.has 0x02 F.SB_HK_STAT_overdue 2 = (e.bill.lateSynths != 0)) ∧
      (d.has 0x02 F.SB_HK_CTRL_en 2 = false ∨ d.playsOn (6 + i.val) = true → d.synOn (6 + i.val) F.SYN_STAT_recal = false →
        Gives (.synthRecal i) s d) ∧
      (d.has 0x02 F.SB_HK_CTRL_en 4 = true →
        ∃ e, Gives .thermalOffsetCheck s e ∧ e.has 0x02 F.SB_HK_STAT_overdue 4 = false ∧
          SameRegs [addrOf 0x02 F.SB_HK_STAT_overdue.off] d e) ∧
      (d.has 0x02 F.SB_HK_CTRL_en 4 = false → Gives .thermalOffsetCheck s d)

/-! ## Sequencers (chapters 4 to 6 and 8) -/

/-- R131: a fault leaves its sequencer in state FAULT with the cause and the entry in its registers, its fault bit set,
and no watch, wait or landing. Log entries 30, 45. -/
def Obligations.SequencerFaults : Prop :=
  ∀ (d : Dev) (n cause pc : Nat), n < 20 → cause < 16 → pc < 2048 →
    let e := d.sqFault n cause pc
    e.sqState n = 6 ∧ e.rd (sqPage n) F.SQ_STAT_cause = cause ∧ e.rd (sqPage n) F.SQ_FAULT_cause = cause ∧
      e.rd (sqPage n) F.SQ_FAULT_pc = pc ∧ e.bit (sqPage n) 0x00C 17 = true ∧ (e.sq n).watches = [] ∧
      (e.sq n).wait = none ∧ (e.sq n).landing = none

/-- R96 to R98, R127: an accepted write of SQ_PDATA3 stores the entry of SQ_PDATA0 to 3 at SQ_PADDR and moves SQ_PADDR on;
a read of it moves SQ_PADDR on; prepare starts preparation, which ends READY once every hot target is fetched and FAULT
with its cause otherwise, at the entry that the cause names; halt_req is kept for the next SEG. Log entries 30, 42, 43. -/
def Obligations.ProgramsLoad : Prop :=
  ∀ (s : State) (sq : Fin 20) (w : BusWrite) (r : BusRead),
    let d := s.dev
    let n := sq.val
    let p := sqPage n
    (accepted d p 0x090 w = true →
      let c := d.store (seen d p 0x090 w)
      ∃ e, Performs (.programEntryWrite sq w) s e ∧
        e.entry n (d.rd p F.SQ_PADDR_entry) =
          BitVec.ofNat 128 ((List.range 4).foldl (fun v k => v + 2 ^ (32 * k) * c.rd p (F.SQ_PDATA.at k)) 0) ∧
        (∀ i, i < 2048 → i ≠ d.rd p F.SQ_PADDR_entry → e.entry n i = d.entry n i) ∧
        e.rd p F.SQ_PADDR_entry = (d.rd p F.SQ_PADDR_entry + 1) % 2048) ∧
    (readable d p 0x090 r = true →
      ∃ e, Gives (.pdata3Read sq r) s e ∧ e.rdata = d.readWord r.m p 0x090 ∧
        e.rd p F.SQ_PADDR_entry = (d.rd p F.SQ_PADDR_entry + 1) % 2048 ∧ SameRegs [addrOf p F.SQ_PADDR_entry.off] d e) ∧
    (accepted d p 0x040 w = true → d.on p F.PAGE_CTRL_enable = true → (seen d p 0x040 w).cmd F.SQ_CTRL_prepare = 1 →
      (seen d p 0x040 w).cmd F.SQ_CTRL_halt_req = 0 →
      ∃ e, Performs (.sqPrepare sq w) s e ∧ e.sqState n = 1 ∧ e.rd p F.SQ_STAT_cause = 0 ∧ e.rd p F.SQ_FAULT_cause = 0 ∧
        (e.sq n).prep.isSome = true ∧ (e.sq n).hot = []) ∧
    (accepted d p 0x040 w = true → (seen d p 0x040 w).cmd F.SQ_CTRL_prepare = 0 →
      (seen d p 0x040 w).cmd F.SQ_CTRL_halt_req = 1 → d.sqState n = 3 ∨ d.sqState n = 4 →
      ∃ e, Performs (.haltReq sq w) s e ∧ e.sq n = { d.sq n with haltReq := true } ∧ SameRegs [] d e) ∧
    (d.serving = true → d.sqState n = 1 →
      (∀ k, (d.sq n).prep = some ⟨none, [], k⟩ → k ≤ 64 →
        ∃ e, Gives (.prepareDone sq) s e ∧ e.sqState n = 2 ∧ e.rd p F.SQ_HOT_targets = k ∧ e.bit p 0x00C 22 = true ∧
          e.sq n = { d.sq n with prep := none, prepared := true }) ∧
      (∀ c i l k, (d.sq n).prep = some ⟨some (c, i), l, k⟩ → c < 16 →
        ∃ e, Gives (.prepareDone sq) s e ∧ e.sqState n = 6 ∧ e.rd p F.SQ_FAULT_cause = c ∧ e.bit p 0x00C 17 = true ∧
          (e.sq n).prep = none ∧ ∀ j, i = some j → j < 2048 → e.rd p F.SQ_FAULT_pc = j))

/-- R105: execution goes on at an index with the stack, the watches and the marks that it had; past entry 2047 the
sequencer faults, but while a play is in progress it waits there for the play's end. A commit point shows its index in
SQ_STAT.pc. Log entry 45. -/
def Obligations.ExecutionGoesOn : Prop :=
  ∀ (d : Dev) (n pc : Nat), n < 20 →
    (pc < 2048 ∨ (d.sq n).play ≠ none →
      let q := (d.sqGo n pc).sq n
      q.pc = pc ∧ q.play = (d.sq n).play ∧ q.frames = (d.sq n).frames ∧ q.watches = (d.sq n).watches ∧ q.marks = (d.sq n).marks ∧
        (d.sqGo n pc).sqState n = d.sqState n ∧ (d.sqGo n pc).prog = d.prog) ∧
    (2048 ≤ pc → (d.sq n).play = none → (d.sqGo n pc).sqState n = 6 ∧ (d.sqGo n pc).rd (sqPage n) F.SQ_FAULT_cause = 11) ∧
    ((d.sqEnter n).rd (sqPage n) F.SQ_STAT_pc = (d.sq n).pc % 2048 ∧ ((d.sqEnter n).sq n).pc = (d.sq n).pc ∧
      ((d.sqEnter n).sq n).frames.length = (d.sq n).frames.length ∧ ((d.sqEnter n).sq n).watches = (d.sq n).watches ∧
      ((d.sqEnter n).sq n).marks = (d.sq n).marks)

/-- R109 to R111: once the play before it is over, LOOP pushes a frame with its count and goes on, or faults cause 2 with
eight frames; ENDLOOP without a frame faults cause 3, with a true break condition pops its frame and goes on, and
otherwise repeats from the frame's start or, in the last iteration, pops it; a taken TEST cuts the stack to its depth and
goes to its target. Log entry 45. -/
def Obligations.LoopsAndJumps : Prop :=
  ∀ (s : State) (sq : Fin 20) (e : BitVec 128),
    let d := s.dev
    let n := sq.val
    let b := d.playOn n
    let c := b.sqEnter n
    let q := c.sq n
    let cond := eb e 114 106
    d.serving = true → (b.sq n).play = none → b.sqState n = 3 → q.pc < 2047 →
      (d.sqAt n 2 = some e → q.frames.length < 8 →
        ∃ x, Gives (.loop sq) s x ∧ (x.sq n).pc = q.pc + 1 ∧
          (x.sq n).frames = ⟨if eb e 123 123 = 0 then BitVec.ofNat 32 (eb e 31 0) else
              c.reg (addrOf (sqPage n) (0x70 + 4 * eb e 122 121)), q.pc + 1, 0, true⟩ :: q.frames) ∧
      (d.sqAt n 2 = some e → 8 ≤ q.frames.length → Gives (.loop sq) s (c.sqFault n 2 q.pc)) ∧
      (d.sqAt n 3 = some e → q.frames = [] → Gives (.endloop sq) s (c.sqFault n 3 q.pc)) ∧
      (∀ f r, d.sqAt n 3 = some e → q.frames = f :: r → f.start < 2048 → eb e 123 122 ≠ 1 →
        ∃ x, Gives (.endloop sq) s x ∧
          (f.left = 1 → (x.sq n).pc = q.pc + 1 ∧ (x.sq n).frames = r) ∧
          (f.left = 0 → (x.sq n).pc = f.start ∧ (x.sq n).frames = { f with seen := 0, fresh := true } :: r) ∧
          (f.left ≠ 0 → f.left ≠ 1 →
            (x.sq n).pc = f.start ∧ (x.sq n).frames = { f with left := f.left - 1, seen := 0, fresh := true } :: r)) ∧
      (∀ f r, d.sqAt n 3 = some e → q.frames = f :: r → eb e 123 122 = 1 →
        (if condLatch (eb e 120 112) then c.latchCond n (eb e 120 112) else f.seen.getLsbD (eb e 120 112)) = true →
        ∃ x, Gives (.endloop sq) s x ∧ (x.sq n).pc = q.pc + 1 ∧ (x.sq n).frames = r) ∧
      (d.sqAt n 4 = some e → eb e 123 122 = 0 → eb e 116 115 = 0 ∨ (eb e 116 115 = 1 ∧ c.latchCond n cond = true) →
        eb e 94 91 ≤ 8 → eb e 94 91 ≤ q.frames.length →
        ∃ x, Gives (.jumpTest sq) s x ∧ (x.sq n).pc = eb e 105 95 ∧
          (x.sq n).frames = q.frames.drop (q.frames.length - eb e 94 91) ∧
          (eb e 116 115 = 1 → x.latch n (cond % 4) = false)) ∧
      (d.sqAt n 4 = some e → eb e 123 122 = 0 → eb e 116 115 = 1 → c.latchCond n cond = false →
        ∃ x, Gives (.jumpTest sq) s x ∧ (x.sq n).pc = q.pc + 1 ∧ (x.sq n).frames = q.frames)

/-- R107, R112 to R115: ARM sets its slot's watch, DISARM clears it; a fired watch waits to land with its slot free; a
landing cuts the play at its boundary, records its time, ends a wait, cuts the stack and goes to its target, and a keep
watch is armed again; a delivered latch event sets its latch. Log entries 46, 106. -/
def Obligations.WatchesFire : Prop :=
  ∀ (s : State) (sq : Fin 20) (slot : Fin 4) (sooner : Bool) (l : Landing) (e : BitVec 128) (v : Watch),
    let d := s.dev
    let n := sq.val
    let b := d.playOn n
    let q := (b.sqEnter n).sq n
    let g := d.landCut n v.at_ l.words
    d.serving = true →
      (d.sqAt n 4 = some e → eb e 123 122 = 1 → (b.sq n).play = none → b.sqState n = 3 → q.pc < 2047 →
        ∃ x, Gives (.jumpArm sq) s x ∧ (x.sq n).pc = q.pc + 1 ∧
          (x.sq n).watches = q.watches.filter (fun y => y.1 != eb e 121 120) ++
            [(eb e 121 120, ⟨eb e 119 118, eb e 117 117 == 1, eb e 114 106, eb e 105 95, eb e 94 91⟩)]) ∧
      (d.sqAt n 4 = some e → eb e 123 122 = 2 → (b.sq n).play = none → b.sqState n = 3 → q.pc < 2047 →
        ∃ x, Gives (.jumpDisarm sq) s x ∧ (x.sq n).pc = q.pc + 1 ∧
          (x.sq n).watches = q.watches.filter fun y => y.1 != eb e 121 120) ∧
      (d.mw.inbox.contains (.watch n slot.val) = true → (d.sq n).landing = none →
        (d.sq n).watches.find? (fun y => y.1 == slot.val) = some (slot.val, v) →
        ∃ x, Gives (.watchFire sq slot sooner) s x ∧ (x.sq n).landing = some (slot.val, v) ∧
          (x.sq n).watches = (d.sq n).watches.filter (fun y => y.1 != slot.val) ∧
          x.mw.inbox = d.mw.inbox.erase (.watch n slot.val)) ∧
      ((d.sq n).landing = some (slot.val, v) → g.sqState n ≠ 6 → v.at_ ≠ 2 ∨ (g.sq n).play = none →
        v.target < 2048 → v.sdepth ≤ 8 → v.sdepth ≤ (g.sq n).frames.length →
        ∃ x, Gives (.watchLand sq l) s x ∧ (x.sq n).landing = none ∧ (x.sq n).wait = none ∧ (x.sq n).play = none ∧
          (x.sq n).pc = v.target ∧ (x.sq n).frames = (g.sq n).frames.drop ((g.sq n).frames.length - v.sdepth) ∧
          x.sqState n = 3 ∧
          x.rd (sqPage n) F.SQ_LAND_TS_LO + 2 ^ 32 * x.rd (sqPage n) F.SQ_LAND_TS_HI = l.ts.toNat ∧
          (x.sq n).watches = if v.keep then (g.sq n).watches.filter (fun y => y.1 != slot.val) ++ [(slot.val, v)]
            else (g.sq n).watches) ∧
      (d.mw.inbox.contains (.latch n slot.val) = true →
        ∃ x, Gives (.latchSet sq slot) s x ∧ x.latch n slot.val = true ∧ SameRegs [addrOf (sqPage n) F.SQ_LATCH_latch.off] d x ∧
          x.mw.inbox = d.mw.inbox.erase (.latch n slot.val))

/-- R116 to R121, R127: WAIT keeps its entry and the sequencer waits; it ends at the next entry once its event has come,
its time is reached or its lane words have passed, and at its own target at a timeout; MARK adds a mark, or faults cause
12 with four pending; a mark whose word is committed leaves as a pulse at its time; HALT leaves state HALTED and the halt
bit. Log entries 23, 47. -/
def Obligations.WaitsMarksHalts : Prop :=
  ∀ (s : State) (sq : Fin 20) (i : Fin 4) (ts : Stamp) (e : BitVec 128) (w : WaitRec) (m : MarkRec),
    let d := s.dev
    let n := sq.val
    let b := d.playOn n
    let c := b.sqEnter n
    let q := c.sq n
    let y := d.waitWords n (eb w.entry 79 48)
    let z := match (d.sq n).play with | some p => d.markOn n i.val p.left | none => d
    d.serving = true → (d.sq n).pc < 2047 → q.pc < 2047 →
      (d.sqAt n 5 = some e → eb e 123 122 = 0 → (b.sq n).play = none → b.sqState n = 3 →
        ∃ x, Gives (.wait sq) s x ∧ (x.sq n).wait = some ⟨e, false, 0⟩ ∧ x.sqState n = 4 ∧ (x.sq n).pc = q.pc) ∧
      ((d.sq n).wait = some w → (d.sq n).landing = none → eb w.entry 123 122 = 0 → w.arrived = true →
        (d.repeatEnd n).repeatOver n = true →
        ∃ x, Gives (.waitEnd sq) s x ∧ (x.sq n).wait = none ∧ x.sqState n = 3 ∧ (x.sq n).pc = (d.sq n).pc + 1) ∧
      ((d.sq n).wait = some w → (d.sq n).landing = none → eb w.entry 123 122 = 1 → eb w.entry 95 48 ≤ d.count.toNat →
        (d.repeatEnd n).repeatOver n = true →
        ∃ x, Gives (.waitEnd sq) s x ∧ (x.sq n).wait = none ∧ x.sqState n = 3 ∧ (x.sq n).pc = (d.sq n).pc + 1) ∧
      ((d.sq n).wait = some w → (d.sq n).landing = none → eb w.entry 123 122 = 2 → (y.repeatEnd n).repeatOver n = true →
        ∃ x, Gives (.waitEnd sq) s x ∧ (x.sq n).wait = none ∧ x.sqState n = 3 ∧ (x.sq n).pc = (d.sq n).pc + 1) ∧
      ((d.sq n).wait = some w → (d.sq n).landing = none → eb w.entry 123 122 = 0 → eb w.entry 119 119 = 1 →
        w.arrived = false → d.latchCond n (eb w.entry 118 110) = false → (y.repeatEnd n).repeatOver n = true →
        ∃ x, Gives (.waitTimeout sq) s x ∧ (x.sq n).wait = none ∧ x.sqState n = 3 ∧ (x.sq n).pc = eb w.entry 109 99) ∧
      (d.sqAt n 6 = some e → (b.sq n).play = none → b.sqState n = 3 → q.marks.length < 4 →
        ∃ x, Gives (.mark sq) s x ∧ (x.sq n).pc = q.pc + 1 ∧
          (x.sq n).marks = q.marks ++ [⟨eb e 123 123 == 1, eb e 122 120, eb e 119 119 == 1, eb e 118 111, eb e 110 110 == 1,
            eb e 109 102, eb e 101 70, none, false⟩]) ∧
      (d.sqAt n 6 = some e → (b.sq n).play = none → b.sqState n = 3 → 4 ≤ q.marks.length →
        Gives (.mark sq) s (c.sqFault n 12 q.pc)) ∧
      ((z.sq n).marks[i.val]? = some m → m.out = true →
        ∃ x, Gives (.markEmit sq i ts) s x ∧ (x.sq n).marks = (z.sq n).marks.eraseIdx i.val ∧
          x.sent = (if m.pinEn then .markPulse m.pin ts m.width :: z.sent else z.sent) ∧
          (m.stamp = true →
            x.rd (sqPage n) F.SQ_MARK_TS_LO + 2 ^ 32 * x.rd (sqPage n) F.SQ_MARK_TS_HI = ts.toNat)) ∧
      (d.sqAt n 0 = some e → (b.sq n).play = none → b.sqState n = 3 →
        ∃ x, Gives (.halt sq) s x ∧ x.sqState n = 5 ∧ x.bit (sqPage n) 0x00C 16 = true ∧ (x.sq n).watches = [] ∧
          (x.sq n).wait = none)

/-- What these commands leave while the device serves. At the entry that is due, before entry 2047, with no play in
progress: a SEG begins its play and the counter goes on (R108; on a lane whose tile holds it, outside a bracket or in a
started one with whole blocks; on SQ16 to SQ19 outside a bracket), or the sequencer halts on a halt request (R127). On a
lane that neither is IN-LINE nor hands off, an absolute RATE of the same format within its limit and the offset of the
serving synthesizer keeps its rate for later relative ones and sets the lane's, at once with no slew and as the target of
a slew otherwise; outside the offset with no other synthesizer free it faults with cause 7 (R122, R124, R186, R187); a
relative RATE within both goes on, and sets the lane's rate with no slew (R187). On an IN-LINE lane that forwards,
SPLICE_BEGIN outside a bracket opens it with its mode and condition, and SPLICE_END closes it (R125). A handoff's locked
target becomes ready and aligned (R190), and at the switch the lane has its synthesizer, rate, format and no offset
(R192). A bracket's splice starts once its condition is met and the source is aligned (R244), and a lane that has drained
holds no block (R246). Log entries 44, 48, 49. -/
def Obligations.PlaysRatesSplices : Prop :=
  ∀ (s : State) (sq : Fin 20) (lane : Fin 16) (late fills : Nat) (e : BitVec 128) (h : Handoff) (b : Bracket),
    let d := s.dev
    let n := sq.val
    let a := d.playOn n
    let c := a.sqEnter n
    let q := c.sq n
    let k := lane.val
    let r := fwdTx n
    let o := (if d.sqForwards k then d else d.playOn k)
    let y := c.synRate (c.servingSynth n)
    d.serving = true → q.pc < 2047 →
      ((a.sq n).play = none → a.sqState n = 3 →
        (d.sqAt n 1 = some e → (a.sq n).haltReq = false → (a.tx n).handoff = none →
          (a.sqInline n = false ∧ q.bracket = none ∨ q.bracket = some b ∧ b.started = true ∧
            (segOf e).len * (segOf e).reps * wordBits n (a.sqPam n) % a.rxBlockBits (fwdTx n) = 0) →
          n < 16 → (segOf e).word < wordsPerTile n (a.sqPam n) → (segOf e).beyond (wordsPerTile n (a.sqPam n)) = false →
          ∃ x, Gives (.seg sq late) s x ∧ (x.sq n).pc = q.pc + 1 ∧ (x.sq n).play = some ⟨segOf e, 0, 0, false⟩ ∧
            (x.sq n).lastSeg = some (segOf e) ∧ x.sqState n = 3) ∧
        (d.sqAt n 1 = some e → (a.sq n).haltReq = false → 16 ≤ n → q.bracket = none →
          ∃ x, Gives (.seg sq late) s x ∧ (x.sq n).pc = q.pc + 1 ∧ (x.sq n).play = some ⟨segOf e, 0, 0, false⟩ ∧
            (x.sq n).lastSeg = some (segOf e) ∧ x.sqState n = 3) ∧
        (d.sqAt n 1 = some e → (a.sq n).haltReq = true → ∃ x, Gives (.seg sq late) s x ∧ x.sqState n = 5) ∧
        (d.sqAt n 7 = some e → eb e 123 122 = 0 → n < 16 → a.sqInline n = false → (a.tx n).handoff = none →
          1000 * eb e 118 93 ≤ c.rateLimit n → eb e 121 120 = 0 →
          (offsetOk y.1 y.2 (1000 * eb e 118 93) = true →
            ∃ x, Gives (.rateAbs sq) s x ∧ (x.sq n).absRate = some (eb e 118 93) ∧ (x.sq n).pc = q.pc + 1 ∧
              (c.laneSlew n = 0 → (x.tx n).rate = rateAt y.1 y.2 (x.laneOff n) ∧ (x.tx n).target = none) ∧
              (c.laneSlew n ≠ 0 → offsetTo y.1 y.2 (1000 * eb e 118 93) ≠ c.laneOff n →
                (x.tx n).target = some (offsetTo y.1 y.2 (1000 * eb e 118 93)) ∧
                  x.has (groupPage n) F.LG_STAT_moving (n % 4) = true)) ∧
          (offsetOk y.1 y.2 (1000 * eb e 118 93) = false → c.synthFree n (1000 * eb e 118 93) (c.sqPam n) = false →
            Gives (.rateAbs sq) s (c.sqFault n 7 q.pc))) ∧
        (d.sqAt n 7 = some e → eb e 123 122 = 1 → n < 16 → a.sqInline n = false → (a.tx n).handoff = none →
          (let rate := (match q.absRate with | some k => 1000 * k | none => c.txPageRate n) *
             (1000000000 + signed 24 (eb e 92 69)).toNat
           offsetOk (1000000000 * y.1) y.2 rate = true → rate ≤ 1000000000 * c.rateLimit n →
           ∃ x, Gives (.ratePpm sq) s x ∧ (x.sq n).pc = q.pc + 1 ∧
             (c.laneSlew n = 0 → (x.tx n).rate = rateAt y.1 y.2 (x.laneOff n) ∧ (x.tx n).target = none))) ∧
        (d.sqAt n 8 = some e → eb e 123 122 ≠ 0 → n < 16 → c.sqInline n = true → c.sqForwards n = true → q.bracket = none →
          ∃ x, Gives (.spliceBegin sq) s x ∧ (x.sq n).pc = q.pc + 1 ∧
            (x.sq n).bracket = some ⟨eb e 123 122 == 2, if eb e 121 121 = 1 then some (eb e 120 112) else none, false, false⟩) ∧
        (d.sqAt n 8 = some e → eb e 123 122 = 0 → n < 16 → c.sqInline n = true → c.sqForwards n = true → q.bracket = some b →
          ∃ x, Gives (.spliceEnd sq) s x ∧ (x.sq n).pc = q.pc + 1 ∧ (x.sq n).bracket = none ∧
            x.on (rxPage r) F.RXL_FWD_STAT_splice = false)) ∧
      ((d.tx k).handoff = some h → d.synLocked h.syn = true → (d.syn h.syn).job = .idle →
        ∃ x, Gives (.handoffReady lane) s x ∧ x.has (groupPage k) F.LG_STAT_ready (k % 4) = true ∧
          x.synOn h.syn F.SYN_STAT_aligned = true) ∧
      ((o.tx k).handoff = some h → o.has (groupPage k) F.LG_STAT_ready (k % 4) = true → o.switchDue k h = true →
        ∃ x, Gives (.handoffSwitch lane fills) s x ∧ (x.tx k).handoff = none ∧ (x.tx k).rate = h.rate ∧
          x.has (groupPage k) F.LG_STAT_serve (k % 4) = ((h.syn - 6) % 2 == 1) ∧ x.laneOff k = 0 ∧
          x.on (0x20 + k) F.TXL_STAT_fmt = h.pam ∧ x.bit (groupPage k) 0x00C 16 = true) ∧
      ((d.sq n).bracket = some b → b.started = false → b.cond = none ∨ b.met = true → d.aligned r = true →
        d.on (rxPage r) F.RXL_FWD_STAT_fwd = true →
        ∃ x, Gives (.spliceStart sq) s x ∧ (x.sq n).bracket = some { b with started := true } ∧
          x.on (rxPage r) F.RXL_FWD_STAT_splice = true ∧ (x.rx r).spliced = true) ∧
      (d.on (rxPage k) F.RXL_FWD_STAT_draining = true → d.splicing k = false → (d.rx k).part = [] →
        ∃ x, Gives (.spliceDrainDone lane) s x ∧ (x.rx k).held = [] ∧ x.on (rxPage k) F.RXL_FWD_STAT_draining = false)

/-! ## Tiles and deep memory (chapters 5 and 10) -/

/-- R135, R136, R280, R300: a whole write gives its tile the written bytes and their CRC as tag, in state VALID; a partial
write reads what the array delivers, merges its enabled bytes and stores the whole tile; it leaves the tile VALID with a
new tag where the tile passed its check, and BAD with its old tag where it did not or an uncorrectable error met the read.
No other byte of tile space changes, and none of the scratchpad. Log entries 66, 111. -/
def Obligations.TileWrites : Prop :=
  ∀ (s : State) (m : Master) (t off : Nat) (bs : Bytes) (ps : List (Option Byte)) (fs : Flips),
    let d := s.dev.strike fs
    let old := d.arrayRead s.mem (4096 * t) 4096
    let new := (List.range 4096).map fun i => if i < off then old.getD i 0 else (ps.getD (i - off) none).getD (old.getD i 0)
    s.dev.dmTakes m = true → s.dev.stalls m = false → t < tileCount →
      (bs.length = 4096 →
        ∃ e q, GivesMem (.tileWriteWhole m t bs) s e q ∧ e.tile t = ⟨.valid, crc32c bs⟩ ∧
          (∀ u, u ≠ t → e.tile u = s.dev.tile u) ∧ (∀ i, i < 4096 → tileByte q (4096 * t + i) = bs.getD i 0) ∧
          (∀ a, a < 4096 * t ∨ 4096 * t + 4096 ≤ a → tileByte q a = tileByte s.mem a) ∧ q.pad = s.mem.pad) ∧
      (off + ps.length ≤ 4096 →
        ∃ e q, GivesMem (.tileWritePartial m t off ps fs) s e q ∧
          e.tile t = (if tilePasses d t old ∧ d.unitsWith (4096 * t) 4096 2 = [] then ⟨.valid, crc32c new⟩
            else ⟨.bad, (d.tile t).tag⟩) ∧
          (∀ u, u ≠ t → e.tile u = s.dev.tile u) ∧ e.unitsWith (4096 * t) 4096 1 = [] ∧
          (∀ i b, ps[i]? = some (some b) → tileByte q (4096 * t + off + i) = b) ∧
          (∀ i, i < 4096 → (∀ j b, ps[j]? = some (some b) → i ≠ off + j) → tileByte q (4096 * t + i) = old.getD i 0) ∧
          (∀ a, a < 4096 * t ∨ 4096 * t + 4096 ≤ a → tileByte q a = tileByte s.mem a) ∧ q.pad = s.mem.pad)

/-- R138, R144, R149, R281, R379: a read through BAR4 answers the bytes that the array delivers at its window's address
and zeros beyond tile space; a write into an array without errors stores its enabled bytes there and nothing elsewhere; a
request that reads answers its tile, and one that writes a whole tile stores it; the requests of one cycle run in
ascending master ID; a fetch that passes its check brings its tile into the streaming buffer. Log entries 65, 111. -/
def Obligations.TileAccesses : Prop :=
  ∀ (s : State) (m : Master) (off len t : Nat) (ps : List (Option Byte)) (r g : DmReq) (fs : Flips) (bs : Bytes) (sq : Fin 20)
    (fe : FetchEnd),
    let d := s.dev
    let x := d.strike fs
    let y := d.strike fe.flips
    let got := y.arrayRead s.mem (4096 * t) 4096
    let a := d.apAddr off
    let n := sq.val
    (d.dmTakes m = true → d.stalls m = false →
      ∃ e, GivesMem (.bar4Read m off len) s e s.mem ∧ e.rbytes.length = len ∧ (d.dm.flips = [] → e.tiles = d.tiles) ∧
        ∀ i, i < len → e.rbytes.getD i 0 = if a + i < tileSpace then (d.arrayRead s.mem (a + i) 1).getD 0 0 else 0) ∧
    (d.dmTakes m = true → d.stalls m = false → d.dm.flips = [] →
      ∃ e q, GivesMem (.bar4Write m off ps) s e q ∧ q.pad = s.mem.pad ∧
        (∀ i b, ps[i]? = some (some b) → a + i < tileSpace → tileByte q (a + i) = b) ∧
        (∀ c, (∀ i b, ps[i]? = some (some b) → a + i < tileSpace → c ≠ a + i) → tileByte q c = tileByte s.mem c)) ∧
    (d.dmTakes r.m = true → d.stalls r.m = false → r.tile < tileCount → r.op = .read →
      ∃ e, GivesMem (.dmRequest ⟨[r], fs⟩) s e s.mem ∧ e.rbytes = x.arrayRead s.mem (4096 * r.tile) 4096 ∧
        (x.unitsWith (4096 * r.tile) 4096 2 = [] → e.tiles = d.tiles)) ∧
    (d.dmTakes r.m = true → d.stalls r.m = false → r.tile < tileCount → r.op = .writeWhole bs → bs.length = 4096 →
      ∃ e q, GivesMem (.dmRequest ⟨[r], fs⟩) s e q ∧ e.tile r.tile = ⟨.valid, crc32c bs⟩ ∧
        (∀ i, i < 4096 → tileByte q (4096 * r.tile + i) = bs.getD i 0) ∧
        (∀ c, c < 4096 * r.tile ∨ 4096 * r.tile + 4096 ≤ c → tileByte q c = tileByte s.mem c) ∧ q.pad = s.mem.pad) ∧
    (r.m.id < g.m.id → exec (.dmRequest ⟨[g, r], fs⟩) s = exec (.dmRequest ⟨[r, g], fs⟩) s) ∧
    (d.dmTakes .pdma = true → (d.sq n).wanted.contains t = true → (d.sq n).dropped.contains t = false → d.sqState n ≠ 1 → tilePasses y t got = true →
      y.unitsWith (4096 * t) 4096 2 = [] →
      ∃ e, Gives (.tileFetchDone sq t fe) s e ∧
        (e.sq n).stream = (d.sq n).stream ++ [⟨t, 4096, got⟩] ∧ (e.sq n).wanted = (d.sq n).wanted.erase t)

/-- R289 to R292, R296, R298 to R300, R303 to R305: self-refresh, the samples of a stack, the refresh window, retraining,
the clearing sweep, scrub, the error log and tile queries. Log entries 67, 69, 111, 113. -/
def Obligations.StacksAreKept : Prop :=
  ∀ (s : State) (k : Fin 4) (g : Fin 8) (temp : BitVec 8) (bw : BitVec 10) (t : Nat) (w : BusWrite) (info : TileInfo) (last : Bool)
    (fs : Flips) (fresh : Bool) (n : Training),
    let d := s.dev
    let p := stackPage k.val
    let x := (d.strike fs).writeBack
    let got := x.arrayRead s.mem (4096 * t) 4096
    (d.serving = true → d.dmDeclared = 0 → d.dmWaits = false → d.on 0x60 F.DM_STAT_clearing = false →
      ∃ e, Gives (.selfRefreshEnter k) s e ∧ e.on p F.DMS_STAT_sr = true ∧ e.has 0x60 F.DM_STAT_sr k.val = true) ∧
    (d.serving = true →
      ∃ e, Gives (.stackTempSample k temp bw) s e ∧ e.rd p F.DMS_STAT_temp = temp.toNat ∧ e.rd p F.DMS_BW_gbs = bw.toNat ∧
        e.rd p F.DMS_STAT_band = refreshBand (d.rd p F.DMS_STAT_band) temp.toInt ∧
        (d.rd p F.DMS_STAT_band < refreshBand (d.rd p F.DMS_STAT_band) temp.toInt → e.bit p 0x00C 20 = true)) ∧
    (d.serving = true →
      ∃ e, Gives (.refreshWindowStart k) s e ∧ e.stack k.val = { d.stack k.val with rows := [] } ∧ SameRegs [] d e) ∧
    (d.serving = true → d.on p F.DMS_STAT_train = false → d.on p F.DMS_STAT_sr = false →
      d.dmWaits = false → d.has 0x02 F.SB_HK_CTRL_en 0 = true →
      (d.stack k.val).train = none ∧ d.trainDue k.val g.val = true ∨ (d.stack k.val).train = some n ∧ n.group = g.val →
      ∃ e, Gives (.retrainBurst k g false last) s e ∧ e.on p F.DMS_STAT_train = true ∧
        e.has 0x60 F.DM_STAT_training k.val = true) ∧
    (d.serving = true → d.on p F.DMS_STAT_train = true → (d.stack k.val).train = some n → n.group = g.val →
      ∃ e, Gives (.retrainBurst k g true last) s e ∧ e.on p F.DMS_STAT_train = false ∧
        e.has 0x60 F.DM_STAT_training k.val = false ∧
        (d.on 0x60 F.DM_STAT_latched = true →
          e.rd p F.DMS_TRAIN_CNT_discarded = min (d.rd p F.DMS_TRAIN_CNT_discarded + 1) (2 ^ F.DMS_TRAIN_CNT_discarded.w - 1)) ∧
        (d.on 0x60 F.DM_STAT_latched = false → last = true ∨ 16 ≤ n.bursts → (e.stack k.val).train = none ∧
          e.rd p F.DMS_TRAIN_CNT_done = min (d.rd p F.DMS_TRAIN_CNT_done + 1) (2 ^ F.DMS_TRAIN_CNT_done.w - 1))) ∧
    (d.serving = true → d.on 0x60 F.DM_STAT_clearing = true →
      ∃ e, Gives .clearSweepDone s e ∧ e.on 0x60 F.DM_STAT_clearing = false ∧ e.bit 0x60 0x00C 19 = true ∧
        e.mw.wire = d.mw.wire ++ [⟨251, 0, .system, 251⟩] ∧
        SameRegs (addrOf 0x60 F.DM_STAT_clearing.off :: statAddrs 0x60) d e) ∧
    (d.serving = true → d.dmWaits = false → d.has 0x02 F.SB_HK_CTRL_en 0 = true → d.scrubNext = some (t, fresh) →
      (d.tile t).st = .valid →
      (x.unitsWith (4096 * t) 4096 2 = [] → tilePasses d t got = true →
        ∃ e, Gives (.scrubRead t fs) s e ∧ e.tiles = d.tiles ∧ e.dm.tlog = d.dm.tlog ∧ e.dm.scrubAt = t + 1) ∧
      (x.unitsWith (4096 * t) 4096 2 = [] → tilePasses d t got = false → d.dm.tlog.length < 16 → d.dm.logged = [] →
        ∃ e, Gives (.scrubRead t fs) s e ∧ e.tile t = ⟨.bad, (d.tile t).tag⟩ ∧
          e.dm.tlog = d.dm.tlog ++ [⟨t, tlogInfo 4 0 none t, d.now⟩] ∧ e.bit 0x60 0x00C 17 = true) ∧
      (x.unitsWith (4096 * t) 4096 2 ≠ [] → d.dm.tlog.length < 16 → d.dm.logged = [] →
        ∃ e, Gives (.scrubRead t fs) s e ∧ e.tile t = ⟨.bad, (d.tile t).tag⟩ ∧
          e.dm.tlog = d.dm.tlog ++ [⟨t, tlogInfo 3 0 none t, d.now⟩] ∧ e.bit (stackPage (tileStack t)) 0x00C 16 = true)) ∧
    (accepted d 0x60 0x06C w = true → (seen d 0x60 0x06C w).cmd F.DM_TLOG_POP_pop = 1 →
      ∃ e, Performs (.dmTlogPop w) s e ∧ e.dm.tlog = d.dm.tlog.drop 1 ∧
        e.rd 0x60 F.DM_TLOG_STAT_count = (d.dm.tlog.drop 1).length % 2 ^ F.DM_TLOG_STAT_count.w) ∧
    (accepted d 0x60 0x05C w = true → d.dmWaits = false →
      ∃ e, Performs (.tileQuery w) s e ∧ e.dm.query = some (d.tile ((seen d 0x60 0x05C w).val F.DM_TILEQ_tile)) ∧
        e.rd 0x60 F.DM_TILEA_done = 0) ∧
    (d.serving = true → d.dm.query = some info →
      ∃ e, Gives .tileQueryDone s e ∧ e.dm.query = none ∧ e.rd 0x60 F.DM_TILEA_done = 1 ∧
        e.rd 0x60 F.DM_TILEA_state = info.st.code ∧ e.rd 0x60 F.DM_TILEA_TAG = info.tag.toNat ∧ e.bit 0x60 0x00C 20 = true)

/-- R283, R295 to R297, R301: a new pin rate, or any while one is latched, makes the controller wait for its change, which
ends with the rate in effect and the waiting requests served; hazard mode changes the ceilings; a retirement copies its
pseudo-channel to the spare, which takes its place. Log entries 67, 68. -/
def Obligations.RatesAndRetirement : Prop :=
  ∀ (s : State) (k : Fin 4) (w : BusWrite) (l : Nat),
    let d := s.dev
    let x := seen d 0x60 0x040 w
    let p := stackPage k.val
    (accepted d 0x60 0x040 w = true → x.reach F.DM_CFG_pin_rate = true →
      x.val F.DM_CFG_pin_rate ≠ d.rd 0x60 F.DM_STAT_rate ∨ d.on 0x60 F.DM_STAT_latched = true →
      ∃ e, Performs (.pinRateWrite w) s e ∧ e.dm.rate = x.val F.DM_CFG_pin_rate ∧ e.on 0x60 F.DM_STAT_changing = true ∧
        (d.on 0x60 F.DM_STAT_training = true → e.on 0x60 F.DM_STAT_latched = true) ∧ e.rd 0x60 F.DM_CEIL_gbs = 0) ∧
    (accepted d 0x60 0x040 w = true → x.reach F.DM_CFG_pin_rate = false ∨
        x.val F.DM_CFG_pin_rate = d.rd 0x60 F.DM_STAT_rate ∧ d.on 0x60 F.DM_STAT_latched = false →
      ∃ e, Performs (.hazardWrite w) s e ∧ e.rd 0x60 F.DM_CFG_hazard = x.val F.DM_CFG_hazard ∧
        (d.on 0x60 F.DM_STAT_changing = false → e.rd 0x60 F.DM_CEIL_gbs =
          (if x.val F.DM_CFG_hazard = 1 then 600 + 300 * d.rd 0x60 F.DM_STAT_rate else 800 + 400 * d.rd 0x60 F.DM_STAT_rate) %
            2 ^ F.DM_CEIL_gbs.w)) ∧
    (d.serving = true → d.on 0x60 F.DM_STAT_changing = true → d.on 0x60 F.DM_STAT_training = false →
      ∃ e, Gives .pinRateChangeStart s e ∧ e.on 0x60 F.DM_STAT_latched = false ∧ e.on p F.DMS_STAT_sr = true ∧
        (e.syn (2 + k.val)).tune = some (memTune d.dm.rate)) ∧
    (d.serving = true → d.rateRuns = true → d.on 0x60 F.PAGE_CTRL_enable = true →
      ∃ e q, GivesMem .pinRateChangeDone s e q ∧ e.rd 0x60 F.DM_STAT_rate = d.dm.rate % 2 ^ F.DM_STAT_rate.w ∧
        e.on 0x60 F.DM_STAT_changing = false ∧ e.bit 0x60 0x00C 18 = true ∧ e.dm.waiting = [] ∧ q.pad = s.mem.pad ∧
        (d.dm.waiting = [] → q = s.mem)) ∧
    (d.serving = true → (d.stack k.val).retire = some l → l < 31 → d.on p F.DMS_STAT_migrating = false →
      ∃ e, Gives (.migrationStart k) s e ∧ e.on p F.DMS_STAT_migrating = true ∧ e.rd p F.DMS_MIG_lpc = l ∧
        e.rd p F.DMS_MIG_from = d.physical k.val l ∧ e.rd p F.DMS_MIG_to = d.rd p F.DMS_MAP7_spare ∧
        e.rd p F.DMS_MIG_PTR_slots = 0 ∧ e.bit p 0x00C 17 = true) ∧
    (d.serving = true → d.on p F.DMS_STAT_migrating = true → d.dmWaits = false → d.rd p F.DMS_MIG_lpc < 31 →
      ∃ e q, GivesMem (.migrationDone k) s e q ∧ e.physical k.val (d.rd p F.DMS_MIG_lpc) = d.rd p F.DMS_MIG_to ∧
        e.on p F.DMS_STAT_migrating = false ∧ e.on p F.DMS_STAT_spare_free = false ∧ (e.stack k.val).retire = none ∧
        e.has p F.DMS_RETIRED (d.rd p F.DMS_MIG_from) = true ∧ e.bit p 0x00C 18 = true ∧
        ⟨250, 0, .system, 250⟩ ∈ e.mw.wire ∧ q.pad = s.mem.pad ∧
        (d.dm.flips = [] → ∀ a, tileByte q a = tileByte s.mem a))

/-! ## Reference and synthesizers (chapter 6) -/

/-- R171 to R180: a loss of the selected reference makes both CS loops coast; a return is qualified first; a qualified
return, a new selection and a failover close them on their source at the tuning that it asks for, with the phase built
out; a removed pulse is counted; a CS loop's own fault makes it coast. Log entry 51. -/
def Obligations.ReferenceFollows : Prop :=
  ∀ (s : State) (src : BitVec 2) (buildout : Word) (cs : Fin 2) (w : BusWrite),
    let d := s.dev
    let closed (e : Dev) (k : Nat) : Prop := e.rd 0x18 F.REF_STAT_active = k ∧ e.on 0x18 F.REF_STAT_coast = false ∧
      (e.syn 0).tune = some (csTune (e.refKhz k)) ∧ (e.syn 1).tune = (e.syn 0).tune
    let told (e : Dev) : Prop := e.on 0x18 F.REF_STAT_failover = false ∧ e.on 0x18 F.REF_STAT_qualifying = false ∧
      e.bit 0x18 0x00C 17 = true ∧
      e.mw.wire = d.mw.wire ++ [⟨247, 0, .system, 247⟩]
    (accepted d 0x18 0x040 w = true →
      ∃ e, Performs (.refSelect false w) s e ∧ closed e ((seen d 0x18 0x040 w).val F.REF_SEL_src) ∧ told e) ∧
    (accepted d 0x18 0x044 w = true → d.rd 0x18 F.REF_SEL_src = 1 →
      ∃ e, Performs (.refSelect true w) s e ∧ closed e 1 ∧ told e ∧
        e.rd 0x18 F.REF_IN_KHZ_khz = (seen d 0x18 0x044 w).val F.REF_IN_KHZ_khz) ∧
    (d.serving = true → d.on 0x18 F.REF_STAT_coast = false → d.on 0x18 F.REF_STAT_failover = false →
      ∃ e, Gives .refLost s e ∧ e.on 0x18 F.REF_STAT_coast = true ∧ e.synOn 0 F.SYN_STAT_coast = true ∧
        e.synOn 1 F.SYN_STAT_coast = true ∧ e.bit 0x18 0x00C 16 = true ∧ e.mw.wire = d.mw.wire ++ [⟨246, 0, .system, 246⟩]) ∧
    (d.serving = true → d.rd 0x18 F.REF_SEL_src = src.toNat →
      d.on 0x18 F.REF_STAT_coast = true ∨ d.on 0x18 F.REF_STAT_failover = true →
      (∃ e, Gives (.refReturn src none) s e ∧ e.on 0x18 F.REF_STAT_qualifying = true ∧ e.mw = d.mw) ∧
      ∃ e, Gives (.refReturn src (some buildout)) s e ∧ closed e src.toNat ∧ told e ∧ e.rd 0x18 F.REF_BUILDOUT = buildout.toNat) ∧
    (d.serving = true → d.on 0x18 F.REF_CFG_failover = true → d.on 0x18 F.REF_STAT_coast = true →
      ∃ e, Gives (.refFailover buildout) s e ∧ closed e 0 ∧ e.on 0x18 F.REF_STAT_failover = true ∧
        e.on 0x18 F.REF_STAT_qualifying = d.on 0x18 F.REF_STAT_qualifying) ∧
    (d.serving = true →
      ∃ e, Gives (.guardPulse cs) s e ∧ e.bit 0x18 0x00C 18 = true ∧
        e.rd 0x18 F.CLK_GUARD_count = min (d.rd 0x18 F.CLK_GUARD_count + 1) (2 ^ F.CLK_GUARD_count.w - 1) ∧
        SameRegs (addrOf 0x18 F.CLK_GUARD_count.off :: statAddrs 0x18) d e) ∧
    (d.serving = true → d.power = 3 ∨ d.power = 4 →
      ∃ e, Gives (.csLockFault cs) s e ∧ e.synLocked cs.val = false ∧ e.synOn cs.val F.SYN_STAT_coast = true ∧
        e.has 0x18 F.CLK_GUARD_cs_fault cs.val = true ∧ e.bit 0x18 0x00C 19 = true ∧
        e.mw.wire = d.mw.wire ++ [⟨248, 0, .system, 248⟩])

/-- R167 to R169, R180, R196, R197, R355: of a loop that no act's end sends home, a start or retune that completes leaves
it locked; a forced band that does not reach the frequency, and a loss of lock, leave it unlocked with its fault bit; a
loss of WS0's lock under an act's channel is one, and shows on every channel. Log entry 50. -/
def Obligations.LoopsLock : Prop :=
  ∀ (s : State) (i : Fin 15) (j : Fin 9) (a : Fin 4) (band : BitVec 6),
    let d := s.dev
    let k := i.val
    let l := 6 + j.val
    let lost (e : Dev) (k : Nat) : Prop :=
      e.synLocked k = false ∧ (e.syn k).job = .idle ∧ e.synOn k F.SYN_STAT_fault = true ∧ e.bit 0x01 0x048 (lockBit k) = false
    d.serving = true →
      ((d.syn k).on = true → (d.syn k).job ≠ .idle → (d.syn k).restore = false ∨ k < 6 →
        ∃ e, Gives (.synthLocked i band) s e ∧ e.synLocked k = true ∧ (e.syn k).job = .idle ∧
          e.synOn k F.SYN_STAT_fault = false ∧ e.synOn k F.SYN_STAT_search = false ∧ e.bit 0x01 0x048 (lockBit k) = true ∧
          (k < 2 → e.has 0x18 F.CLK_GUARD_cs_fault k = false) ∧
          ((d.syn k).job = .search → (d.syn k).band = none → e.synRd k F.SYN_BAND_found = band.toNat)) ∧
      (d.forced l = true → (d.syn l).job = .search → (d.syn l).restore = false →
        ∃ e, Gives (.synthLockFail j) s e ∧ lost e l ∧ e.bit (synPage l) 0x00C 18 = true) ∧
      (d.synLocked k = true → k < 14 → (d.syn k).restore = false → ∃ e, Gives (.synthLockLoss i) s e ∧ lost e k ∧
        (6 ≤ k → e.bit (synPage k) 0x00C 18 = true) ∧
        (k < 2 → d.power = 3 ∨ d.power = 4 → e.synOn k F.SYN_STAT_coast = true ∧ e.has 0x18 F.CLK_GUARD_cs_fault k = true)) ∧
      (d.synLocked 14 = true → (d.syn 14).restore = false → ∃ e, Gives (.synthLockLoss 14) s e ∧ lost e 14 ∧ e.bit 0x1A 0x00C 18 = true) ∧
      (d.synLocked 14 = true → (d.syn 14).restore = false → (List.range 4).any (d.running F.ACT_ENG_aw) = true →
        ∃ e, Gives .awgClockFault s e ∧ lost e 14 ∧ e.bit 0x1A 0x00C 18 = true ∧
          e.on (0x88 + a.val) F.AWG_STAT_clk_fault = true ∧ e.bit (0x88 + a.val) 0x00C 18 = true)

/-- R166, R181, R182, R188, R197, R198: what accepted writes of the clock pages do. A rate retunes its synthesizer, an
apply retunes to the staged values and keeps them with the forced band, phase steps add up, a lane's are still to be
taken, and a reference output takes its settings. Page 0x19 is read-only. Log entries 50, 52. -/
def Obligations.ClockWrites : Prop :=
  ∀ (s : State) (ls : Fin 8) (j : Fin 9) (i : Fin 15) (n : Fin 4) (lane : Fin 16) (w : BusWrite),
    let d := s.dev
    let l := 6 + j.val
    let k := i.val
    let at_ (p off : Nat) : Wr := seen d p off w
    let g := groupPage lane.val
    (accepted d (0x1B + ls.val / 2) (0x040 + 4 * (ls.val % 2)) w = true →
      let x := at_ (0x1B + ls.val / 2) (0x040 + 4 * (ls.val % 2))
      ∃ e, Performs (.laneRateWrite ls w) s e ∧ (e.syn (6 + ls.val)).tune = some ((d.store x).homeTune (6 + ls.val)) ∧
        e.reg (addrOf (0x1B + ls.val / 2) (0x040 + 4 * (ls.val % 2))) = x.new) ∧
    (accepted d (synPage l) (synOff l 0x0C) w = true →
      (at_ (synPage l) (synOff l 0x0C)).cmd (F.SYN_APPLY_go.at (synIndex l)) = 1 →
      let t : Tune := ⟨d.synRd l F.SYN_INT_n, d.synRd l F.SYN_INT_odiv, d.synRd l F.SYN_FRAC⟩
      ∃ e, Performs (.synApply j w) s e ∧ (e.syn l).applied = some t ∧ (e.syn l).tune = some t ∧
        (e.syn l).band = (if d.synOn l F.SYN_BAND_force then some (d.synRd l F.SYN_BAND_band) else none) ∧
        e.synRd l F.SYN_INT_n = t.n ∧ e.synRd l F.SYN_INT_odiv = t.c ∧ e.synRd l F.SYN_FRAC = t.frac) ∧
    (6 ≤ k → accepted d (synPage k) (synOff k 0x10) w = true →
      ∃ e, Performs (.synPstep i w) s e ∧ SameRegs [] d e ∧
        e.syn k = { d.syn k with
          steps := (d.syn k).steps + signed 16 ((at_ (synPage k) (synOff k 0x10)).cmd (F.SYN_PSTEP_steps.at (synIndex k))) }) ∧
    (k < 6 → d.heard w.m = true → d.stalls w.m = false → d.barred w.m 0x19 = false →
      d.accessCause (at_ 0x19 (synOff k 0x10)) w.data (w.be != 15) = none → d.staged w.m 0x19 (synOff k 0x10) = false →
      Gives (.synPstep i w) s d) ∧
    (accepted d 0x18 (0x070 + 4 * n.val) w = true → 3 ≤ d.rd 0x18 (F.REFOUT_src.at n.val) →
      ∃ e, Performs (.refoutPstep n w) s e ∧ SameRegs [] d e ∧
        tabGet (fun _ => (0 : Int)) e.refs.refoutSteps n.val = tabGet (fun _ => (0 : Int)) d.refs.refoutSteps n.val +
          signed 16 ((at_ 0x18 (0x070 + 4 * n.val)).cmd (F.REFOUT_PSTEP_steps.at n.val))) ∧
    (accepted d 0x18 (0x060 + 4 * n.val) w = true →
      ∃ e, Performs (.refoutConfig n w) s e ∧ e.reg (addrOf 0x18 (0x060 + 4 * n.val)) = (at_ 0x18 (0x060 + 4 * n.val)).new ∧
        SameRegs [addrOf 0x18 (0x060 + 4 * n.val)] d e) ∧
    (accepted d g (0x050 + 4 * (lane.val % 4)) w = true →
      let left := (d.tx lane.val).phaseLeft +
        signed 16 ((at_ g (0x050 + 4 * (lane.val % 4))).cmd (F.LG_LPHASE_steps.at (lane.val % 4)))
      ∃ e, Performs (.lanePhaseMove lane w) s e ∧ e.tx lane.val = { d.tx lane.val with phaseLeft := left } ∧
        e.has g F.LG_STAT_moving (lane.val % 4) = ((d.tx lane.val).target.isSome || left != 0) ∧
        SameRegs [addrOf g F.LG_STAT_moving.off] d e)

/-! ## Transmit and receive lanes (chapters 7 and 8) -/

/-- R217 to R221: a trigger takes the injector's settings, or is absorbed by a pending injection and counted. As its first
changed bit leaves, an injection of modes 2 and 3 whose block has gone is counted with its time; else the next block takes
the pending one, with its time and its count, at the set or a random position. A pending one does not leave in electrical
idle. Log entry 55. -/
def Obligations.ErrorsAreInjected : Prop :=
  ∀ (s : State) (lane : Fin 16) (w : BusWrite) (ts : Stamp) (h : Shot),
    let d := s.dev
    let n := lane.val
    let p := txPage n
    let x := seen d p 0x420 w
    let shot (e : Dev) : Shot := ⟨e.rd p F.TXL_ERR_CTRL_type, e.rd p F.TXL_ERR_CTRL_mode, e.on p F.TXL_ERR_CTRL_pos_rand,
      e.rd p F.TXL_ERR_CTRL_sym_mask, e.rd p F.TXL_ERR_POS_off, e.rd p F.TXL_ERR_POS_len⟩
    let free : Bool := (d.tx n).shot.isNone && (d.tx n).next.isEmpty
    let counted (e : Dev) : Prop := e.rd p F.TXL_ERR_CNT_inj = min (d.rd p F.TXL_ERR_CNT_inj + 1) (2 ^ F.TXL_ERR_CNT_inj.w - 1) ∧
      e.rd p F.TXL_ERR_TS_LO + 2 ^ 32 * e.rd p F.TXL_ERR_TS_HI = ts.toNat
    (accepted d p 0x420 w = true → x.cmd F.TXL_ERR_CTRL_go = 1 → x.val F.TXL_ERR_CTRL_mode = 1 → free = true →
      ∃ e, Performs (.errInjectGo lane w) s e ∧ (e.tx n).shot = some (shot e) ∧
        e.rd p F.TXL_ERR_CTRL_type = x.val F.TXL_ERR_CTRL_type ∧ SameRegs [addrOf p 0x420] d e) ∧
    (accepted d p 0x420 w = true → x.cmd F.TXL_ERR_CTRL_go = 1 → x.val F.TXL_ERR_CTRL_mode = 1 → free = false →
      ∃ e, Performs (.errInjectGo lane w) s e ∧ (e.tx n).shot = (d.tx n).shot ∧ e.bit p 0x00C 19 = true ∧
        e.rd p F.TXL_ERR_CNT_drop = min (d.rd p F.TXL_ERR_CNT_drop + 1) (2 ^ F.TXL_ERR_CNT_drop.w - 1)) ∧
    (d.serving = true → d.mw.inbox.contains (.errInject n) = true → d.rd p F.TXL_ERR_CTRL_mode = 4 → free = true →
      ∃ e, Gives (.errInjectEvent lane) s e ∧ e.tx n = { d.tx n with shot := some (shot d) } ∧ SameRegs [] d e ∧
        e.mw.inbox = d.mw.inbox.erase (.errInject n)) ∧
    (d.serving = true → (d.tx n).due = 0 → (d.tx n).shot = some h → (d.tx n).next = [] → d.txDriving n = true →
      posFits (d.txBlockBits n) h.typ h.off h.len h.rand = true →
      ∃ e off, Gives (.errInject lane ts) s e ∧ (e.tx n).shot = none ∧
        (e.tx n).next = flips h.typ off h.len h.mask (d.txPam n) ∧ (h.rand = false ∨ h.typ = 2 → off = h.off) ∧
        (0 < d.txBlockBits n → off < d.txBlockBits n ∨ off = h.off) ∧
        counted e ∧ (h.mode = 1 → e.bit p 0x00C 18 = true)) ∧
    (∀ m, d.serving = true → (d.tx n).due = m + 1 →
      ∃ e, Gives (.errInject lane ts) s e ∧ e.tx n = { d.tx n with due := m } ∧ counted e) ∧
    (d.serving = true → (d.tx n).due = 0 → d.txDriving n = false ∨ (d.tx n).shot = none → Gives (.errInject lane ts) s d)

/-- R226 to R231, R241, Table 8.1: the state of a receiving lane after each of its events, and the adapted values within
their bounds. As the signal goes, forwarding ends, at once where no block is held or in progress. Log entries 56, 58. -/
def Obligations.ReceiverStates : Prop :=
  ∀ (s : State) (lane : Fin 16) (ppm : BitVec 16) (us : Nat) (eq : List (BitVec 10)),
    let d := s.dev
    let n := lane.val
    let p := rxPage n
    d.serving = true →
      (d.rxState n = 1 →
        ∃ e, Gives (.signalDetect lane) s e ∧ e.rxState n = 2 ∧ e.on p F.RXL_STAT_sigdet = true ∧
          SameRegs [addrOf p F.RXL_STAT_state.off] d e) ∧
      (d.rxState n = 2 → ppmOk ppm = true →
        ∃ e, Gives (.cdrLock lane ppm) s e ∧ e.rd p F.RXL_STAT_ppm = ppm.toNat ∧
          e.rxState n = (match d.rxStored n with
            | some _ => if d.rd p F.RXL_ADAPT_mode = 0 then 4 else 5
            | none => if d.rd p F.RXL_ADAPT_mode = 2 then 5 else 3)) ∧
      (d.rxState n = 2 → ppmOk ppm = false → Gives (.cdrLock lane ppm) s d) ∧
      (d.rxState n = 3 →
        ∃ e, Gives (.adaptConverged lane) s e ∧ e.rxState n = (if d.rd p F.RXL_ADAPT_mode = 0 then 4 else 5) ∧
          (e.rx n).burst = false ∧ (d.rd p F.RXL_FRAME_framing = 0 → e.aligned n = true)) ∧
      (3 ≤ d.rxState n → d.rxState n ≤ 5 →
        ∃ e, Gives (.cdrLockLoss lane) s e ∧ e.rxState n = 2 ∧ e.aligned n = false ∧ e.bit p 0x00C 17 = true ∧
          e.rd p F.RXL_CNT_lock_lost = min (d.rd p F.RXL_CNT_lock_lost + 1) (2 ^ F.RXL_CNT_lock_lost.w - 1)) ∧
      (1 ≤ d.rxState n → d.rxState n ≤ 5 →
        ∃ e, Gives (.signalLoss lane) s e ∧ e.rxState n = 6 ∧ e.aligned n = false ∧ e.on p F.RXL_STAT_sigdet = false ∧
          (e.rx n).back = d.rxState n ∧ e.bit p 0x00C 21 = true ∧
          ((d.rx n).held = [] → (d.rx n).part = [] → e.on p F.RXL_FWD_STAT_fwd = false) ∧
          ((d.rx n).held ≠ [] ∨ (d.rx n).part ≠ [] → d.on p F.RXL_FWD_STAT_fwd = true → d.splicing n = false →
            (e.rx n).ending = true)) ∧
      (d.rxState n = 6 →
        ∃ e, Gives (.signalReturn lane us) s e ∧ e.on p F.RXL_STAT_sigdet = true ∧
          e.rxState n = if us ≤ d.rd p F.RXL_SIGDET_hold_us ∧ 3 ≤ (d.rx n).back ∧ (d.rx n).back ≤ 5 then (d.rx n).back else 2) ∧
      ((d.rxState n = 3 ∨ d.rxState n = 4) → (d.rx n).latched = false →
        ∃ e, Gives (.adaptBurst lane false eq) s e ∧ e.rx n = { d.rx n with burst := true } ∧ SameRegs [] d e) ∧
      ((d.rx n).burst = true → (d.rx n).latched = true →
        ∃ e, Gives (.adaptBurst lane true eq) s e ∧ (e.rx n).burst = false ∧ ((d.rx n).eqWait = false → SameRegs [] d e)) ∧
      ((d.rx n).burst = true → (d.rx n).latched = false → d.on p F.PAGE_CTRL_level = false →
        ∃ e, Gives (.adaptBurst lane true eq) s e ∧ (e.rx n).burst = false ∧
          e.rd p F.RXL_EQ_NOW_peak = min 48 (eq.getD 0 0).toNat ∧ e.rd p F.RXL_EQ_NOW_vga = min 40 (eq.getD 1 0).toNat ∧
          e.rd p F.RXL_EQ_NOW_eye_mv = (eq.getD 10 0).toNat % 2 ^ F.RXL_EQ_NOW_eye_mv.w)

/-- R224, R227, R228, R230, R232, R233, R235: a restart takes a lane back to ACQUIRE; a switch is latched, by a write or
by its event, and changes the profile in effect at the next boundary, which a forwarding lane's TX side follows or goes
quiet; a block moves the aligner of a lane that receives and is not yet ALIGNED, and shows the measured offset; it does
nothing on a lane that does not receive. Log entries 56, 57, 105. -/
def Obligations.ReceiverSwitches : Prop :=
  ∀ (s : State) (lane : Fin 16) (w : BusWrite) (b : RxBlock) (ppm : BitVec 16),
    let d := s.dev
    let n := lane.val
    let p := rxPage n
    let f := d.rd p F.RXL_FRAME_framing
    let line := d.lineBits n (d.blockOdd n b) (b.next != d.on p F.RXL_POL_invert) (d.rxPolarity n b.bits)
    let full := if f = 1 then 3 else if f = 2 then 64 else 32
    (accepted d p 0x410 w = true → (seen d p 0x410 w).cmd F.RXL_ADAPT_restart = 1 → 3 ≤ d.rxState n → d.rxState n ≤ 5 →
      ∃ e, Performs (.adaptRestart lane w) s e ∧ e.rxState n = 2 ∧ e.aligned n = false) ∧
    (accepted d p 0x418 w = true → (seen d p 0x418 w).cmd F.RXL_SWITCH_go = 1 →
      ∃ e, Performs (.profileSwitchGo lane w) s e ∧ e.rx n = { d.rx n with latched := true, toggle := true }) ∧
    (d.serving = true → d.mw.inbox.contains (.rxSwitch n) = true → d.on p F.RXL_SWITCH_en = true →
      ∃ e, Gives (.profileSwitchEvent lane) s e ∧ e.rx n = { d.rx n with latched := true, toggle := true } ∧ SameRegs [] d e ∧
        e.mw.inbox = d.mw.inbox.erase (.rxSwitch n)) ∧
    (d.serving = true → (d.rx n).latched = true → (d.rx n).burst = false →
      ∃ e, Gives (.switchApply lane) s e ∧ (e.rx n).latched = false ∧ (e.rx n).toggle = false ∧
        e.rxProf n = (if (d.rx n).toggle then !d.rxProf n else d.rxProf n) ∧
        (e.rx n).rate = d.rxPageRate n (e.rxProf n) ∧ (e.rx n).pam = d.rxPageFmt n (e.rxProf n) ∧
        (2 ≤ d.rxState n → d.rxState n ≤ 5 → e.rxState n = 2 ∧ e.aligned n = false) ∧
        (d.forwarding n = true → (e.tx (fwdTx n)).handoff.isSome = true ∨ (e.tx (fwdTx n)).quiet = true)) ∧
    (d.serving = true → 3 ≤ d.rxState n → d.rxState n ≤ 5 → b.bits.length = d.rxBlockBits n → d.alignOff n b.off = true →
      f ≠ 0 →
      (d.rd p F.RXL_STAT_align = 0 → blockMark f line = true →
        ∃ e, Gives (.rxBlock lane ⟨b, []⟩) s e ∧ e.rd p F.RXL_STAT_align = 1 ∧ (e.rx n).off = b.off ∧ (e.rx n).good = 0 ∧
          (b.ppm = some ppm → ppmOk ppm = true → e.rd p F.RXL_STAT_ppm = ppm.toNat)) ∧
      (d.rd p F.RXL_STAT_align = 1 → blockValid f line = false →
        ∃ e, Gives (.rxBlock lane ⟨b, []⟩) s e ∧ e.rd p F.RXL_STAT_align = 0 ∧
          (e.rx n).off = ((d.rx n).off + 1) % d.rxBlockBits n) ∧
      (d.rd p F.RXL_STAT_align = 1 → blockValid f line = true → blockMark f line = true →
        ∃ e, Gives (.rxBlock lane ⟨b, []⟩) s e ∧
          (if (d.rx n).good + 1 = full then e.aligned n = true
           else e.rd p F.RXL_STAT_align = 1 ∧ (e.rx n).good = (d.rx n).good + 1))) ∧
    (d.serving = true → d.rxState n < 3 ∨ d.rxState n = 6 → Gives (.rxBlock lane ⟨b, []⟩) s d)

/-! ## Capture, the scratchpad and the queues (chapters 9 and 11) -/

/-- R258 to R260, R265, R276: TIMER and a delivered event move the trigger sequencer, whose counts clear; a lane's close
leaves nothing open on it; a DATA record that the queue has room for is queued, numbered and its blocks counted as stored,
and one that it has no room for is dropped, its blocks counted as lost and its gap opened. Log entries 61, 62. -/
def Obligations.CaptureCollects : Prop :=
  ∀ (s : State) (ce : Fin 2) (lane : Fin 16) (ch : BitVec 8),
    let d := s.dev
    let t := trgPage ce.val
    let n := d.rd t F.TRG_STAT_state
    let moved (e : Dev) : Prop := e.rd t F.TRG_STAT_state = d.rd t (F.TRG_COND_a_next.at n) ∧ e.rd t F.TRG_ACNT_count = 0 ∧
      e.rd t F.TRG_ELAPSED = 0
    let c := lane.val / 8
    let k := lane.val % 8
    let p := cePage c
    let bs := (d.lane c k).data.reverse
    d.serving = true →
      (d.trgRuns ce.val = true → max 1 (d.rd t (F.TRG_COND_a_cnt.at n)) ≤ d.rd t F.TRG_ACNT_count + 1 →
        (d.rd t (F.TRG_COND_a_op.at n) = 4 → (d.cap ce.val).timed = false → d.rd t F.TRG_ELAPSED ≤ d.rd t (F.TRG_TIME.at n) →
          ∃ e, Gives (.trgTimerExpiry ce) s e ∧ moved e) ∧
        (d.rd t (F.TRG_COND_a_op.at n) = 3 → d.rd t (F.TRG_EV_a_ev.at n) = ch.toNat →
          d.mw.inbox.contains (.trg ce.val ch) = true →
          ∃ e, Gives (.trgEvent ce ch) s e ∧ moved e)) ∧
      (∃ e, Gives (.recordClose lane) s e ∧ (e.lane c k).data = [] ∧ (e.lane c k).cand = [] ∧ (e.lane c k).idle = none) ∧
      (bs ≠ [] → (d.lane c k).gap = none → (d.cap c).trig = none → (bs.flatMap (·.bits)).length ≤ 7936 →
        (48 ≤ d.queueFree c →
          ∃ e, Gives (.recordAgeExpiry lane) s e ∧ (e.lane c k).data = [] ∧ e.rd p F.CE_SEQ = (d.cap c).seq % 2 ^ F.CE_SEQ.w ∧
            (e.cap c).seq = (d.cap c).seq + 1 ∧
            e.rd (p + 1) (F.CE_STORED.at k) = min (d.rd (p + 1) (F.CE_STORED.at k) + bs.length) (2 ^ F.CE_STORED.w - 1)) ∧
        (d.queueFree c < 33 →
          ∃ e, Gives (.recordAgeExpiry lane) s e ∧ (e.lane c k).data = [] ∧ (e.lane c k).gap.isSome = true ∧
            (e.cap c).seq = (d.cap c).seq ∧ (e.cap c).lost = (d.cap c).lost + bs.length ∧ e.bit p 0x00C 18 = true ∧
            e.rd (p + 1) (F.CE_LOST.at k) = min (d.rd (p + 1) (F.CE_LOST.at k) + bs.length) (2 ^ F.CE_LOST.w - 1)))

/-- R263, R271, R272, R274: CDMA takes a record into the tile that it fills. A tile that is full is written whole, VALID
with its tag, and the next one is the next of the region, or its first one again in ring mode; nothing else of tile space
changes. Once closing has placed everything the engine is DONE. Log entry 63. -/
def Obligations.CapturePlaces : Prop :=
  ∀ (s : State) (ce : Fin 2) (raw : Bytes) (f : Dev),
    let d := s.dev
    let c := ce.val
    let p := cePage c
    let bs := raw.take (recordLen raw)
    let old := (d.cap c).buf
    let t := d.rd p F.CE_WR_TILE_tile
    let next := if t + 1 = d.rd p F.CE_REGION_BASE_tile + d.rd p F.CE_REGION_LEN_tiles ∧ d.rd p F.CE_CFG_mode = 1
      then d.rd p F.CE_REGION_BASE_tile else (t + 1) % 2 ^ F.CE_WR_TILE_tile.w
    d.dmTakes .cdma = true →
      (d.takePacket c = some (raw, f) → bytesNat (bs.take 1) ≠ 4 → bytesNat (bs.take 1) ≠ 6 → d.roomEnd c = 4096 →
        (old.length + bs.length < 4096 →
          ∃ e, GivesMem (.cdmaTileWrite ce) s e s.mem ∧ (e.cap c).buf = old ++ bs ∧ e.tiles = d.tiles ∧
            (e.queue c).ready = (d.queue c).ready.drop (headLen (d.queue c).ready)) ∧
        (old.length + bs.length = 4096 →
          ∃ e q, GivesMem (.cdmaTileWrite ce) s e q ∧ (e.cap c).buf = [] ∧ e.rd p F.CE_WR_TILE_tile = next ∧
            e.tile t = ⟨.valid, crc32c (old ++ bs)⟩ ∧ (∀ u, u ≠ t → e.tile u = d.tile u) ∧
            (∀ i, i < 4096 → tileByte q (4096 * t + i) = (old ++ bs).getD i 0) ∧
            (∀ a, a < 4096 * t ∨ 4096 * t + 4096 ≤ a → tileByte q a = tileByte s.mem a) ∧ q.pad = s.mem.pad)) ∧
      (d.ceState c = 3 → d.queueEmpty c = true →
        (old = [] →
          ∃ e, GivesMem (.captureDone ce) s e s.mem ∧ e.ceState c = 4 ∧ e.bit p 0x00C 17 = true ∧
            (e.cap c).held = ((d.cap c).held && d.running F.ACT_ENG_ce c) ∧ e.tiles = d.tiles) ∧
        (old ≠ [] → old.length < 4096 → old.length % 32 = 0 →
          ∃ e q, GivesMem (.captureDone ce) s e q ∧ e.ceState c = 4 ∧ e.bit p 0x00C 17 = true ∧ (e.cap c).buf = [] ∧
            (e.tile t).st = .valid ∧ (∀ i, i < old.length → tileByte q (4096 * t + i) = old.getD i 0) ∧
            (∀ a, a < 4096 * t ∨ 4096 * t + 4096 ≤ a → tileByte q a = tileByte s.mem a) ∧ q.pad = s.mem.pad))

/-- R306, R309 to R317, R319, R321: a handover gives the bank its new owner and fills it with zeros, a queue that loses or
gains it being reset; the power states; an access of a served master reads or writes its word and no other byte, wakes a
bank in RET, and is refused elsewhere; a reader disturbed twice is counted and reported, one disturbed once by a write on
port 1 is counted; a row of the background test, and its last one. Log entries 70, 71, 72. -/
def Obligations.BanksAreUsed : Prop :=
  ∀ (s : State) (bank : Fin 64) (w : BusWrite) (a o : SpAccess) (row : BitVec 8),
    let d := s.dev
    let b := bank.val
    let p := bankPage b
    let own := 0x100 + 32 * (b % 8)
    let x := seen d p own w
    let y := seen d p (own + 4) w
    let at_ := padAddr b a.word
    (accepted d p own w = true → x.alters (bf b F.SPB_OWN_owner) = true →
      ∃ e, Performs (.bankHandover bank w) s e ∧ e.owner b = x.val (bf b F.SPB_OWN_owner) ∧ e.filling b = true ∧
        e.bankState b = 0 ∧
        ∀ q, ownerQueue (d.owner b) = some q ∨ ownerQueue (e.owner b) = some q → e.queueEmpty q = true) ∧
    (d.serving = true → d.filling b = true →
      ∃ e q, GivesMem (.zeroFillDone bank) s e q ∧ e.filling b = false ∧ q.tiles = s.mem.tiles ∧
        (∀ i, padByte q i = if 1048576 * b ≤ i ∧ i < 1048576 * (b + 1) then 0 else padByte s.mem i) ∧
        ((d.bank b).handover = true → e.bit p 0x00C 20 = true)) ∧
    (accepted d p (own + 4) w = true → y.reach (bf b F.SPB_PWR_mode) = true →
      let m := y.val (bf b F.SPB_PWR_mode)
      ∃ e, Performs (.bankPowerMode bank w) s e ∧
        e.bankState b = (if m = 2 then 2 else if d.bankState b = 2 then 0 else if m = 1 ∧ d.bankState b = 1 then 0
          else d.bankState b) ∧
        (m ≠ 2 → d.bankState b = 2 → e.filling b = true)) ∧
    (d.serving = true → d.rd p (bf b F.SPB_PWR_mode) = 0 → d.bankState b = 0 → d.filling b = false → d.keptOn b = false →
      d.owner b ≠ 0x3F →
      ∃ e, Gives (.bankRetention bank) s e ∧ e.bankState b = 1 ∧ SameRegs [addrOf p (own + 4)] d e) ∧
    (d.heard a.m = true → d.stalls a.m = false → d.frozen a.m = false → d.filling b = false →
      (d.spServed b a = true → ownerQueue (d.owner b) = none → ((ownerSq (d.owner b)).isSome = true → (d.bank b).placed = false) →
        (a.write = false →
          ∃ e, GivesMem (.scratchpadAccess bank a none .clean) s e s.mem ∧
            (∀ i, i < 64 → e.rbytes.getD i 0 = padByte s.mem (at_ + i)) ∧
            e.bankState b = if d.bankState b = 1 then 0 else d.bankState b) ∧
        (a.write = true →
          ∃ e q, GivesMem (.scratchpadAccess bank a none .clean) s e q ∧ q.tiles = s.mem.tiles ∧
            (∀ i v, i < 64 → a.data[i]? = some (some v) → padByte q (at_ + i) = v) ∧
            (∀ c, (∀ i v, i < 64 → a.data[i]? = some (some v) → c ≠ at_ + i) → padByte q c = padByte s.mem c))) ∧
      (d.spServed b a = true → ∀ q, ownerQueue (d.owner b) = some q → a.write = false →
        ∃ e, GivesMem (.scratchpadAccess bank a none .clean) s e s.mem ∧
          e.rbytes = natBytes 64 (tabGet (fun _ => (0 : BitVec 512)) (d.bank b).words a.word).toNat) ∧
      (d.spServed b a = false →
        ∃ e, GivesMem (.scratchpadAccess bank a none .clean) s e s.mem ∧ e.bit p 0x00C 0 = true ∧
          (a.write = false → e.rbytes = List.replicate 64 0))) ∧
    (d.heard a.m = true → d.heard o.m = true → d.stalls a.m = false → d.stalls o.m = false → d.frozen a.m = false → d.frozen o.m = false →
      d.filling b = false → d.spServed b a = true → d.spServed b o = true → a.port = 0 → o.port = 1 → a.word = o.word →
      (a.write = true → o.write = false →
        ∃ e q, GivesMem (.scratchpadAccess bank a (some ⟨o, .sameCycle, true⟩) .clean) s e q ∧
          e.rd p (F.SPC_CONF_count.at o.m.id) = min (d.rd p (F.SPC_CONF_count.at o.m.id) + 1) (2 ^ F.SPC_CONF_count.w - 1) ∧
          e.rd p (F.SPC_CONF_bank.at o.m.id) = b ∧ e.rd p (F.SPC_CONF_port.at o.m.id) = 1 ∧
          e.rd p (F.SPC_CONF_kind.at o.m.id) = 1 ∧ e.bit p 0x00C 16 = true) ∧
      (a.write = false → o.write = true →
        ∃ e q, GivesMem (.scratchpadAccess bank a (some ⟨o, .sameCycle, false⟩) .clean) s e q ∧
          e.rd p (F.SPC_CONF_count.at a.m.id) = min (d.rd p (F.SPC_CONF_count.at a.m.id) + 1) (2 ^ F.SPC_CONF_count.w - 1) ∧
          e.reg (addrOf p 0x00C) = d.reg (addrOf p 0x00C))) ∧
    (d.serving = true → d.has 0x02 F.SB_HK_CTRL_en 1 = true → d.testable b = true →
      let used := d.rd p (bf b F.SPB_REP_factory) + d.rd p (bf b F.SPB_REP_runtime)
      (∃ e, GivesMem (.scratchpadSaveTestRestore bank row true) s e s.mem ∧ e.rd p (bf b F.SPB_STAT_row) = row.toNat ∧
        (let all_ := d.testedRows b row.toNat = BitVec.allOnes 256
         e.bankState b = (if all_ then 0 else 3) ∧ (all_ → e.rd p (bf b F.SPB_STAT_tested_s) = 0))) ∧
      (used < 16 →
        ∃ e, GivesMem (.scratchpadSaveTestRestore bank row false) s e s.mem ∧ e.bit p 0x00C 17 = true ∧
          e.rd p (bf b F.SPB_REP_runtime) = min (d.rd p (bf b F.SPB_REP_runtime) + 1) (2 ^ F.SPB_REP_runtime.w - 1) ∧
          e.rd p (bf b F.SPB_LASTERR_cause) = 2 ∧ e.rd p (bf b F.SPB_LASTERR_word) = 64 * row.toNat) ∧
      (16 ≤ used →
        ∃ e q, GivesMem (.scratchpadSaveTestRestore bank row false) s e q ∧ e.owner b = 0x3F ∧ e.bit p 0x00C 18 = true ∧
          ∀ i, padByte q i = if 1048576 * b ≤ i ∧ i < 1048576 * (b + 1) then 0 else padByte s.mem i))

/-- R324, R326 to R330: a packet that fits is committed behind the others, and one that does not is left out, as its queue
has it; a rewound one is gone and counted; a pop takes the oldest entry, whose tag the read returns; a write of Q_WR_HI
pushes to Q4; a drop takes the packet at the head; a flush empties the queues of its classes; a mismatch empties its
queue. Log entries 22, 73. -/
def Obligations.QueuesMove : Prop :=
  ∀ (s : State) (q : Fin 8) (es : List (BitVec 512)) (r : BusRead) (w : BusWrite),
    let d := s.dev
    let k := q.val
    let p := queuePage k
    let off := 0x118 + 64 * (k % 2)
    let ready := (d.queue k).ready
    let up (f : Field) (n : Nat) : Nat := min (d.rd p (qf k f) + n) (2 ^ f.w - 1)
    (d.serving = true → es ≠ [] →
      (es.length ≤ d.queueFree k →
        ∃ e, Gives (.queueCommit q es) s e ∧ e.queue k = { d.queue k with ready := ready ++ packet (es.map (entryOf k)) } ∧
          (∀ j, j ≠ k → e.queue j = d.queue j)) ∧
      (d.queueFree k < es.length →
        ∃ e, Gives (.queueCommit q es) s e ∧ (∀ j, (e.queue j).ready = (d.queue j).ready) ∧ (k = 2 ∨ k = 3 → e = d) ∧
          (k = 0 ∨ k = 1 → e.rd p (qf k F.Q_CNT_drop) = up F.Q_CNT_drop 1) ∧
          (k = 4 ∨ k = 5 → e.rd p (qf k F.Q_EVT_overflow) = up F.Q_EVT_overflow 1) ∧
          (k = 6 → e.bit 0x80 0x00C 20 = true) ∧ (k = 7 → e.bit 0x80 0x00C 19 = true))) ∧
    (d.serving = true →
      ∃ e, Gives (.queueRewind q es) s e ∧ e.queues = d.queues ∧ e.rd p (qf k F.Q_CNT_drop) = up F.Q_CNT_drop 1) ∧
    (readable d p off r = true → 5 ≤ k →
      (∀ x rest, ready = x :: rest →
        ∃ e, Gives (.queuePop q r) s e ∧ (e.queue k).ready = rest ∧
          e.rdata = BitVec.ofNat 32 (x.sop.toNat + 2 * x.eop.toNat + 2 ^ 31) ∧
          e.rd p (qf k F.Q_RD_LO) = x.data.toNat % 2 ^ 32 ∧ e.rd p (qf k F.Q_RD_HI) = x.data.toNat / 2 ^ 32 % 2 ^ 32 ∧
          SameRegs [addrOf p (qf k F.Q_RD_LO).off, addrOf p (qf k F.Q_RD_HI).off] d e) ∧
      (ready = [] →
        ∃ e, Gives (.queuePop q r) s e ∧ e.queues = d.queues ∧ e.rdata = 0 ∧
          e.rd p (qf k F.Q_CNT_under) = up F.Q_CNT_under 1)) ∧
    (readable d p off r = true → k < 5 → ∃ e, Gives (.queuePop q r) s e ∧ e.queues = d.queues ∧ SameRegs [] d e) ∧
    (accepted d 0x7A 0x128 w = true →
      let v := BitVec.ofNat 512 (2 ^ 32 * (seen d 0x7A 0x128 w).new.toNat + d.rd 0x7A F.Q_WR_LO)
      ((d.queue 4).ready.length < 1024 →
        ∃ e, Performs (.queuePush w) s e ∧ e.queue 4 = { d.queue 4 with ready := (d.queue 4).ready ++ packet [v] }) ∧
      (1024 ≤ (d.queue 4).ready.length →
        ∃ e, Performs (.queuePush w) s e ∧ e.queues = d.queues ∧ e.bit 0x7A 0x00C 0 = true ∧ e.bit 0x7A 0x00C 19 = true ∧
          e.rd 0x7A F.Q_EVT_overflow = min (d.rd 0x7A F.Q_EVT_overflow + 1) (2 ^ F.Q_EVT_overflow.w - 1))) ∧
    (accepted d p (0x12C + 64 * (k % 2)) w = true → 5 ≤ k →
      (seen d p (0x12C + 64 * (k % 2)) w).cmd (qf k F.Q_DROP_drop) = 1 → ready ≠ [] →
      ∃ e, Performs (.queueDrop q w) s e ∧ (e.queue k).ready = dropPacket ready ∧
        e.rd p (qf k F.Q_CNT_drop) = up F.Q_CNT_drop 1 ∧ (∀ j, j ≠ k → e.queue j = d.queue j)) ∧
    (accepted d 0x78 0x040 w = true →
      let classes := (seen d 0x78 0x040 w).cmd F.Q_FLUSH_class
      ∃ e, Performs (.queueFlush w) s e ∧
        ∀ j, j < 8 → (e.queue j).ready = (if classes.testBit (queueClass j) then [] else (d.queue j).ready) ∧
          e.rd (queuePage j) (qf j F.Q_EVT_flush) = (if classes.testBit (queueClass j)
            then min (d.rd (queuePage j) (qf j F.Q_EVT_flush) + 1) (2 ^ F.Q_EVT_flush.w - 1)
            else d.rd (queuePage j) (qf j F.Q_EVT_flush))) ∧
    (d.serving = true →
      ∃ e, Gives (.queueMismatch q) s e ∧ e.queueEmpty k = true ∧ (∀ j, j ≠ k → e.queue j = d.queue j) ∧
        e.rd p (qf k F.Q_EVT_mismatch) = up F.Q_EVT_mismatch 1 ∧ e.bit p 0x00C 16 = true ∧
        e.mw.wire.getLast? = some ⟨253, 0, .system, 253⟩)

/-! ## Midway and the analog section (chapters 12 and 13) -/

/-- R331, R332, R336 to R344: the admitted raises of a cycle merge to one event on their channel, counted once, with its
coincidence bit where several sources met and only there; a raise that is not admitted is reported. A DELAY raise, a write
of LUT_CFG, the edges of TRIG_IN that pass their filter, with the time that their entry in Q6 marks, and software firing.
While Midway's clock stands, raises wait (R179). Log entry 74. -/
def Obligations.EventsMeet : Prop :=
  ∀ (s : State) (rs : List Raise) (cell : Fin 64) (n : Fin 4) (rising : Bool) (t : TrigEdge) (k : Fin 8) (w : BusWrite),
    let d := s.dev
    let p := cellPage cell.val
    let j := cell.val % 16
    let x := seen d p (0x108 + 32 * j) w
    let z := seen d 0x80 (0x080 + 4 * k.val) w
    let all_ := d.mw.wire ++ rs
    let fits := d.rd 0x80 (F.MW_TRIG_edge.at n.val)
    (d.serving = true → d.on 0x80 F.PAGE_CTRL_enable = true → d.timeRuns = false →
      Gives (.eventRaise rs) s { d with mw := { d.mw with wire := all_ } }) ∧
    (d.serving = true → d.on 0x80 F.PAGE_CTRL_enable = true → d.timeRuns = true →
      ∃ e, Gives (.eventRaise rs) s e ∧ e.count = d.count + 1 ∧
        (∀ ch, ch < 256 →
          let met := (all_.filter d.admits).filter fun r => decide (r.ch.toNat = ch)
          e.rd 0x86 (F.MW_CNT.at ch) = min (d.rd 0x86 (F.MW_CNT.at ch) + (if met = [] then 0 else 1)) (2 ^ F.MW_CNT.w - 1) ∧
            e.bit 0x86 (0x40 + 4 * (ch / 32)) (ch % 32) =
              (d.bit 0x86 (0x40 + 4 * (ch / 32)) (ch % 32) ||
                decide (2 ≤ met.length) && met.any fun r => met.any fun r' => !sameSource r r')) ∧
        ((all_.any fun r => r.ch != 0 && !d.admits r) = true → e.bit 0x80 0x00C 18 = true) ∧
        (d.power ≠ 3 → d.power ≠ 4 → e.mw.inbox = d.mw.inbox)) ∧
    (d.serving = true → d.on p (F.LUT_STAT_pend.at j) = true →
      ∃ e, Gives (.lutDelayExpiry cell) s e ∧ e.on p (F.LUT_STAT_pend.at j) = false ∧
        e.rd p (F.LUT_CNT.at j) = min (d.rd p (F.LUT_CNT.at j) + 1) (2 ^ F.LUT_CNT.w - 1) ∧
        e.mw.wire = d.mw.wire ++
          [⟨BitVec.ofNat 8 (d.rd p (F.LUT_CFG_out_ev.at j)), (d.cell cell.val).delayHops, .source,
            sourceOf p (F.LUT_CFG_out_ev.at j)⟩]) ∧
    (accepted d p (0x108 + 32 * j) w = true →
      ∃ e, Performs (.lutCfgWrite cell w) s e ∧ e.rd p (F.LUT_STAT_q.at j) = x.val (F.LUT_CFG_init_q.at j) ∧
        e.on p (F.LUT_STAT_pend.at j) = false ∧ (e.cell cell.val).seen = 0 ∧ e.mw.wire = d.mw.wire ∧
        SameRegs [addrOf p (0x108 + 32 * j), addrOf p (0x10C + 32 * j)] d e) ∧
    (d.serving = true →
      (d.trigPasses n.val rising t.held = false → Gives (.trigInEdge n rising t) s d) ∧
      (d.trigPasses n.val rising t.held = true → rising = true → d.on 0x80 (F.MW_TRIG_log.at n.val) = true →
        (d.queue 6).ready.length < 256 →
        let at_ := (trigTime (d.rd 0x80 (F.MW_TRIG_filt.at n.val)) t.sample).toNat
        ∃ e, Gives (.trigInEdge n rising t) s e ∧ e.mw.pins.getLsbD n.val = true ∧
          (e.queue 6).ready = (d.queue 6).ready ++ packet [BitVec.ofNat 512 (at_ / 512 * 512 % 2 ^ 58 + 2 ^ 58 * n.val)]) ∧
      (d.trigPasses n.val rising t.held = true → d.on 0x80 (F.MW_TRIG_log.at n.val) = false →
        ∃ e, Gives (.trigInEdge n rising t) s e ∧ e.mw.pins.getLsbD n.val = rising ∧ SameRegs [] d e ∧ e.queues = d.queues ∧
          e.mw.wire = d.mw.wire ++
            (if d.on 0x80 (F.MW_TRIG_en.at n.val) = true ∧ (fits = 2 ∨ (fits = 0 ∧ rising = true) ∨ (fits ≠ 0 ∧ rising = false))
              then [⟨BitVec.ofNat 8 (d.rd 0x80 (F.MW_TRIG_ev.at n.val)), 0, .source, sourceOf 0x80 (F.MW_TRIG_ev.at n.val)⟩]
              else []))) ∧
    (accepted d 0x80 0x040 w = true → (seen d 0x80 0x040 w).reach F.MW_FIRE_ch = true →
      ∃ e, Performs (.mwFire w) s e ∧ SameRegs [] d e ∧
        e.mw.wire = d.mw.wire ++ [⟨BitVec.ofNat 8 ((seen d 0x80 0x040 w).cmd F.MW_FIRE_ch), 0, .fired, 0⟩]) ∧
    (accepted d 0x80 (0x080 + 4 * k.val) w = true →
      ∃ e, Performs (.mwFireMask k w) s e ∧ SameRegs [] d e ∧
        e.mw.wire = d.mw.wire ++ (bitsOf 32 (z.new &&& beMask z.be).toNat).map
          fun i => ⟨BitVec.ofNat 8 (32 * k.val + i), 0, .fired, 0⟩)

/-- R356, R360, R361, R364 to R374: a tuning word takes effect with the accumulator kept, and a synchronization sets the
accumulators of all channels that sync on its event to 0; a tick gives every sideband channel its code; the range clamp,
faults whose condition holds and their clearing; a conversion shows its code and reports it outside its window. Log
entries 75, 76, 77. -/
def Obligations.AnalogOutputs : Prop :=
  ∀ (s : State) (k : Fin 4) (c : Fin 8) (cause : SdCause) (input : Fin 32) (code : BitVec 12) (skew : Fin 21)
      (start : BitVec 40) (w : BusWrite),
    let d := s.dev
    let p := 0x88 + k.val
    let x (off : Nat) : Wr := seen d p off w
    let r := 0x100 + 16 * c.val
    let u := d.toTick
    let synced (j : Nat) : Bool := d.rd (0x88 + j) F.CAL_SYNC_ev == d.rd p F.CAL_SYNC_ev
    let ticks (e : Dev) (hold : Nat) : Prop :=
      e.an = { d.an with hold := hold, ticked := some u.count, changed := e.an.changed }
    let follows (e : Dev) : Prop := ∀ i, i < 8 →
      e.rd 0x8C (F.SD_STAT_out.at i) =
        if d.running F.ACT_AUX_sd i && !d.sdFaulted i && !d.sdClamp i && d.on 0x8C F.SD_GSTAT_hv_ok && d.on 0x8C F.PAGE_CTRL_enable
        then (if d.on 0x8C (F.SD_CTRL_src.at i) then tabGet (fun _ => 0) e.an.applied i % 2 ^ F.SD_STAT_out.w
          else d.rd 0x8C (F.SD_CODE_code.at i))
        else 0
    (accepted d p 0x064 w = true →
      ∃ e, Performs (.ftwApply k w) s e ∧ (e.awg k.val).acc = (d.awg k.val).acc ∧
        (e.awg k.val).ftw = BitVec.ofNat 48 (2 ^ 32 * (x 0x064).val F.CAL_FTW_HI_ftw + d.rd p F.CAL_FTW_LO)) ∧
    (accepted d p 0x068 w = true →
      ∃ e, Performs (.calAmpWrite k w) s e ∧ e.reg (addrOf p 0x068) = (x 0x068).new ∧ e.awgs = d.awgs ∧
        SameRegs [addrOf p 0x068] d e) ∧
    (accepted d p 0x06C w = true → (x 0x06C).cmd F.CAL_SYNC_now = 1 →
      ∃ e, Performs (.calSyncNow k w) s e ∧ (e.awg k.val).acc = 0 ∧ (e.awg k.val).ftw = (d.awg k.val).ftw) ∧
    (d.serving = true → d.mw.inbox.contains (.calSync k.val) = true →
      ∃ e, Gives (.calSyncEvent k) s e ∧ SameRegs [] d e ∧
        e.mw.inbox = ((List.range 4).filter synced).foldl (fun l j => l.erase (.calSync j)) d.mw.inbox ∧
        ∀ j, j < 4 → (e.awg j).ftw = (d.awg j).ftw ∧ (e.awg j).acc =
          if synced j && d.mw.inbox.contains (.calSync j) && d.on (0x88 + j) F.CAL_SYNC_en then 0 else (d.awg j).acc) ∧
    (d.serving = true →
      (u.sdQueued = [] → ∃ e, Gives .sdTick s e ∧ follows e ∧ ticks e d.an.hold) ∧
      (u.sdQueued ≠ [] → 1 < d.an.hold → ∃ e, Gives .sdTick s e ∧ follows e ∧ ticks e (d.an.hold - 1)) ∧
      (u.sdQueued ≠ [] → d.an.hold ≤ 1 → ∀ n, groupLen (d.queue 4).ready = some n →
        ∃ e, Gives .sdTick s e ∧ follows e ∧ (e.queue 4).ready = (d.queue 4).ready.drop n ∧ 1 ≤ e.an.hold) ∧
      (u.sdQueued ≠ [] → d.an.hold ≤ 1 → groupLen (d.queue 4).ready = none → d.an.last = false → d.an.spell = false →
        ∃ e, Gives .sdTick s e ∧ follows e ∧ e.bit 0x8C 0x00C 18 = true ∧ e.an.spell = true ∧
          e.rd 0x7A F.Q_CNT_under = min (d.rd 0x7A F.Q_CNT_under + 1) (2 ^ F.Q_CNT_under.w - 1))) ∧
    (accepted d 0x8C r w = true → (seen d 0x8C r w).alters (F.SD_CTRL_range.at c.val) = true →
      ∃ e, Performs (.sdRangeChange c w) s e ∧ e.sdClamp c.val = true ∧ e.rd 0x8C (F.SD_STAT_out.at c.val) = 0 ∧
        e.reg (addrOf 0x8C r) = (seen d 0x8C r w).new ∧ SameRegs [addrOf 0x8C r, addrOf 0x8C (r + 8)] d e) ∧
    (d.serving = true → d.sdClamp c.val = true →
      ∃ e, Gives (.sdClampRelease c) s e ∧ e.sdClamp c.val = false ∧ e.bit 0x8C 0x00C 20 = true) ∧
    (d.serving = true → d.sdMeets c.val cause = false → Gives (.sdFault c cause) s d) ∧
    (d.serving = true → d.sdMeets c.val cause = true → d.sdClamp c.val = false → d.sdFaulted c.val = false →
      ∃ e, Gives (.sdFault c cause) s e ∧ e.rd 0x8C (F.SD_STAT_out.at c.val) = 0 ∧
        e.rd 0x8C (F.SD_STAT_fault.at c.val) = cause.code ∧ e.bit 0x8C 0x00C 17 = true) ∧
    (accepted d 0x8C 0x048 w = true →
      ∃ e, Performs (.sdFaultClear w) s e ∧ ∀ i, i < 8 →
        e.rd 0x8C (F.SD_STAT_fault.at i) =
          if ((seen d 0x8C 0x048 w).cmd F.SD_CLR_mask).testBit i then 0 else d.rd 0x8C (F.SD_STAT_fault.at i)) ∧
    (d.serving = true → d.monRuns = true → d.monNext.map Prod.fst = some input.val →
      ∃ e, Gives (.monConversion input code skew start) s e ∧ e.rd 0x8D (F.MON_LAST_code.at input.val) = code.toNat ∧
        e.on 0x8D (F.MON_LAST_valid.at input.val) = true ∧
        (d.bit 0x8D 0x048 input.val = true → (d.queue 5).ready.length < 4096 →
          (e.queue 5).ready.length = (d.queue 5).ready.length + 1) ∧
        (d.on 0x8D (F.MON_WIN_en.at input.val) = true →
          code.toNat < d.rd 0x8D (F.MON_WIN_lo.at input.val) ∨ d.rd 0x8D (F.MON_WIN_hi.at input.val) < code.toNat →
          e.bit 0x8D 0x054 input.val = true ∧ e.bit 0x8D 0x00C 17 = true))

/-! ## The host link and the mailboxes (chapters 14 and 15) -/

/-- R375 to R377, R381, R391, R394, R395: the link's comings and goings, and the endpoint's configuration; what the device
answers to the requests of the fallback transport, and what these do, where no stored bit has turned over and no earlier
request waits. Log entries 80, 81, 82. -/
def Obligations.LinkServes : Prop :=
  ∀ (s : State) (gen : BitVec 3) (cl : BitVec 2) (ep : Endpoint) (tag : BitVec 16) (space : BitVec 2) (op : BitVec 8) (len : Word)
      (addr : BitVec 64) (data : Bytes),
    let d := s.dev
    let sp := space.toNat
    let n := len.toNat
    let a := addr.toNat
    let k := data.length
    let b := d.apAddr a
    let free (e : Dev) (r : Message) : Prop := e.sent.head? = some r
    (d.serving = true → d.linkGen = 0 → 2 ≤ gen.toNat → gen.toNat ≤ d.rd 0x14 F.HL_CFG_max_gen →
      ∃ e, Gives (.linkUp gen) s e ∧ e.linkGen = gen.toNat ∧ e.rd 0x14 F.HL_STAT_cl = 0 ∧ e.bit 0x14 0x00C 16 = true) ∧
    (d.serving = true → d.linkGen = 0 → d.on 0x14 F.HL_CFG_fallback_en = true →
      ∃ e, Gives .fallbackEnumerate s e ∧ e.linkGen = 1 ∧ e.bit 0x14 0x00C 16 = true) ∧
    (d.linkGen ≠ 0 →
      ∃ e, Gives .linkDown s e ∧ e.linkGen = 0 ∧ e.bit 0x14 0x00C 17 = true ∧ e.fbq = [] ∧
        e.ep = Endpoint.init ∧ (∀ h, h ∈ e.prot.stalled → h.master ≠ .host) ∧
        e.rd 0x14 F.HL_CNT_down = min (d.rd 0x14 F.HL_CNT_down + 1) (2 ^ F.HL_CNT_down.w - 1) ∧
        ∀ ch, ch < 8 → (e.dma ch).active = none ∧ e.dmaOn ch F.DMA_STAT_link = true) ∧
    (2 ≤ d.linkGen → cl.toNat < 3 → cl = 0 ∨ d.on 0x14 F.HL_CFG_lp_en = true →
      ∃ e, Gives (.linkClStateChange (.cl cl)) s e ∧ e.rd 0x14 F.HL_STAT_cl = cl.toNat ∧ e.linkGen = d.linkGen) ∧
    (2 ≤ d.linkGen → Gives (.linkClStateChange (.endpoint ep)) s { d with ep := ep }) ∧
    (d.fbServes = true → d.fbq = [] →
      (sp ≠ 2 ∨ d.dmWaits = false →
        (fbRange sp n a = false → d.fbFrozen sp n a = false →
          ∃ e q bs, GivesMem (.fallbackRead tag (.read space) len addr) s e q ∧ free e (.reply 1 0 tag n 0 0xFFFFFFFF bs) ∧
            bs.length = n ∧ (sp ≠ 1 → q = s.mem) ∧
            (sp = 2 → d.dm.flips = [] → ∀ i, i < n →
              bs.getD i 0 = if b + i < tileSpace then tileByte s.mem (b + i) else 0) ∧
            (sp = 0 → n = 4 → bs = wordBytes (d.busRead .host a 15).rdata)) ∧
        (fbRange sp k a = false → d.fbFrozen sp k a = false →
          ∃ e q, GivesMem (.fallbackWrite tag space addr data) s e q ∧ free e (.reply 2 0 tag k 0 0xFFFFFFFF []) ∧
            (sp = 2 → d.dm.flips = [] →
              (∀ i, i < k → b + i < tileSpace → tileByte q (b + i) = data.getD i 0) ∧
              ∀ c, c < b ∨ b + k ≤ c → tileByte q c = tileByte s.mem c) ∧
            (sp = 0 → q = s.mem ∧ ∀ w, bytesWords data = [w] → ∀ r, d.busWrite .host a 15 w = r → ∀ x, e.reg x = r.reg x))) ∧
      (fbRange sp n a = true → d.fbFrozen sp n a = false →
        ∃ e, GivesMem (.fallbackRead tag (.read space) len addr) s e s.mem ∧ free e (.reply 1 2 tag 0 0 0xFFFFFFFF [])) ∧
      (d.fbFrozen sp n a = true →
        ∃ e, GivesMem (.fallbackRead tag (.read space) len addr) s e s.mem ∧
          free e (.reply 1 8 tag n 0 0xFFFFFFFF (List.replicate n 0xFF))) ∧
      (fbRange sp k a = true → d.fbFrozen sp k a = false →
        ∃ e, GivesMem (.fallbackWrite tag space addr data) s e s.mem ∧ free e (.reply 2 2 tag 0 0 0xFFFFFFFF [])) ∧
      (d.fbFrozen sp k a = true →
        ∃ e, GivesMem (.fallbackWrite tag space addr data) s e s.mem ∧ free e (.reply 2 8 tag 0 0 0xFFFFFFFF [])) ∧
      (∃ e, GivesMem (.fallbackRead tag (.other op) len addr) s e s.mem ∧
        free e (.reply op.toNat (if d.frozen .host then 8 else 2) tag 0 0 0xFFFFFFFF [])) ∧
      (d.frozen .host = true →
        ∃ e, GivesMem (.fallbackTileRead tag len addr .done) s e s.mem ∧
          free e (.reply 3 8 tag n 0 0xFFFFFFFF (List.replicate n 0xFF))) ∧
      (d.frozen .host = false → d.frozen .xdma = false → d.dmWaits = false → d.dm.flips = [] →
        (descRange (fbDesc 1 n a) = false → d.queueBanks 3 ≠ [] →
          let bad := ((tileParts a n).filter fun q => decide (q.2.2 = 4096) && !tilePasses d q.1 (s.mem.tile q.1)).map Prod.fst
          ∃ e, GivesMem (.fallbackTileRead tag len addr .done) s e s.mem ∧
            free e (.reply 3 (if bad = [] then 0 else 1) tag n (min bad.length (2 ^ 32 - 1)) (bad.headD 0xFFFFFFFF)
              (bytesGet 0 s.mem.tiles a n))) ∧
        (descRange (fbDesc 0 data.length a) = false → d.queueBanks 2 ≠ [] → data.length < 2 ^ 32 →
          ∃ e q, GivesMem (.fallbackTileWrite tag addr data .done) s e q ∧ q.pad = s.mem.pad ∧
            free e (.reply 4 0 tag data.length 0 0xFFFFFFFF []) ∧
            (∀ i, i < data.length → tileByte q (a + i) = data.getD i 0) ∧
            ∀ c, c < a ∨ a + data.length ≤ c → tileByte q c = tileByte s.mem c)))

/-- R382 to R390, R392: head and control writes of a DMA channel; a descriptor is read, or the ring fails; a descriptor
that ends without error has moved all its data, is completed and passed by DMA_TAIL, and counted. Log entries 19, 81. -/
def Obligations.DmaRuns : Prop :=
  ∀ (s : State) (ch : Fin 8) (w : BusWrite) (words : List Word) (bs : Bytes) (moved : Nat),
    let d := s.dev
    let k := ch.val
    let p := dmaPage k
    let off := 0x100 + 64 * (k % 4)
    let x := seen d p (off + 0x14) w
    let head (e : Dev) : Nat := e.rd p (df k F.DMA_HEAD_idx)
    let tail := d.rd p (df k F.DMA_TAIL_idx)
    let next := (tail + 1) % d.ringSize k % 2 ^ F.DMA_TAIL_idx.w
    (accepted d p (off + 0x0C) w = true →
      ∃ e, Performs (.dmaHeadWrite ch w) s e ∧ head e = (seen d p (off + 0x0C) w).val (df k F.DMA_HEAD_idx) ∧
        e.dmaOn k F.DMA_STAT_busy = decide (tail ≠ head e) ∧ SameRegs [addrOf p (off + 0x0C), addrOf p (off + 0x18)] d e) ∧
    (accepted d p (off + 0x14) w = true → x.val (df k F.DMA_CTRL_en) = 1 → x.cmd (df k F.DMA_CTRL_abort) = 0 →
      ∃ e, Performs (.dmaEnable ch w) s e ∧ e.dmaOn k F.DMA_CTRL_en = true ∧ e.dmaOn k F.DMA_STAT_ring_err = false ∧
        e.dmas = d.dmas ∧ SameRegs [addrOf p (off + 0x14), addrOf p (off + 0x18)] d e) ∧
    (accepted d p (off + 0x14) w = true → x.cmd (df k F.DMA_CTRL_abort) = 1 → d.dmaOn k F.DMA_STAT_busy = true →
      ∃ e, Performs (.dmaAbort ch w) s e ∧ e.dma k = { d.dma k with abortTo := some (head d) }) ∧
    (d.serving = true → d.frozen .xdma = false → 2 ≤ d.linkGen → d.dmaOn k F.DMA_STAT_busy = true → (d.dma k).active = none →
      d.dmaOn k F.DMA_CTRL_en = true →
      ((d.dma k).abortTo = none →
        ∃ e, Gives (.dmaDescriptor ch words true) s e ∧ (e.dma k).active = some (words.take 8) ∧ SameRegs [] d e ∧
          (e.dma k).fail = (if descRange (words.take 8) then some 2
            else if descDir (words.take 8) < 2 ∧ (d.queueBanks (if descDir (words.take 8) = 0 then 2 else 3)).isEmpty = true
            then some 6 else none)) ∧
      (∃ e, Gives (.dmaDescriptor ch words false) s e ∧ e.dmaOn k F.DMA_CTRL_en = false ∧ e.dmaOn k F.DMA_STAT_ring_err = true ∧
        e.dma k = Dma.init ∧ e.bit p 0x00C (20 + k % 4) = true)) ∧
    (d.serving = true → d.frozen .xdma = false → ∀ ws, d.dma k = ⟨some ws, none, none⟩ →
      let n := descLen ws
      let a := pairAt ws 4
      let r := dmaMove d s.mem (descDir ws) a n n bs
      (descDir ws < 2 → d.dmWaits = false) → (descDir ws % 2 = 0 → n ≤ bs.length) → (2 ≤ descDir ws → d.freeBytes a n = n) →
      ∃ e, GivesMem (.dmaCompletion ch bs moved .done true) s e r.m ∧ (e.dma k).active = none ∧
        e.rd p (df k F.DMA_TAIL_idx) = next ∧
        e.rd p (df k F.DMA_DONE) = min (d.rd p (df k F.DMA_DONE) + 1) (2 ^ F.DMA_DONE.w - 1) ∧
        e.rd p (df k F.DMA_STAT_last) = (if r.fails = [] then 0 else 1) ∧
        (descDir ws % 2 = 1 → r.data ≠ [] → .hostWrite (BitVec.ofNat 64 (pairAt ws 2)) r.data ∈ e.sent) ∧
        (descDir ws = 0 → d.dm.flips = [] → (∀ i, i < n → tileByte r.m (a + i) = bs.getD i 0) ∧
          ∀ c, c < a ∨ a + n ≤ c → tileByte r.m c = tileByte s.mem c) ∧
        (descDir ws = 1 → r.m = s.mem ∧ (d.dm.flips = [] → r.data = bytesGet 0 s.mem.tiles a n)) ∧
        (descDir ws = 2 → ∀ i, i < n → d.bankState ((a + i) / 1048576) ≠ 2 → padByte r.m (a + i) = bs.getD i 0) ∧
        (descDir ws = 3 → (∀ b, d.filling b = false) → ∀ i, i < n → d.bankState ((a + i) / 1048576) ≠ 2 →
          r.data.getD i 0 = padByte s.mem (a + i)))

/-- R398 to R402, R411: a doorbell posts a message with its seq, a receiver takes it and acknowledges it with a code, a
flush returns the channel to IDLE; the MC posts its oldest notification on the lowest free channel of 8 to 15. Log entry
83. -/
def Obligations.MailboxMoves : Prop :=
  ∀ (s : State) (ch : Fin 64) (w : BusWrite) (w1 : Word) (rest : List (Word × Word)) (i : Nat),
    let d := s.dev
    let c := ch.val
    let p := mbPage c
    let off := 0x400 + 0x80 * (c % 16)
    let x (o : Nat) : Wr := seen d p (off + o) w
    let posted (e : Dev) : Prop := e.mbState (8 + i) = 1 ∧ e.mbWord (8 + i) 1 = w1 ∧ e.mail.notes = rest
    (accepted d p (off + 0x40) w = true → w.be.getLsbD 0 = true →
      ∃ e, Performs (.mbDoorbell ch w) s e ∧ e.mbState c = 1 ∧ e.rd p (mf c F.MB_STAT_seq) = (x 0x40).new.toNat % 65536 ∧
        e.on p (mf c F.MB_STAT_flushed) = false ∧ e.on p (mf c F.MB_STAT_retaken) = false ∧
        e.mail.order = d.mail.order ++ [c]) ∧
    (accepted d p (off + 0x44) w = true → (x 0x44).new.getLsbD 0 = true →
      ∃ e, Performs (.mbTake ch w) s e ∧ e.mbState c = 2 ∧ e.mail.order = d.mail.order.erase c ∧
        SameRegs [addrOf p (mf c F.MB_STAT_state).off] d e) ∧
    (accepted d p (off + 0x48) w = true → w.be.getLsbD 0 = true →
      ∃ e, Performs (.mbAckw ch w) s e ∧ e.mbState c = 3 ∧ e.rd p (mf c F.MB_ACK_code) = (x 0x48).new.toNat % 65536 ∧
        e.rd p (mf c F.MB_ACK_seq) = d.rd p (mf c F.MB_STAT_seq)) ∧
    (accepted d p (off + 0x54) w = true → (x 0x54).new.getLsbD 0 = true → d.mbState c = 1 ∨ d.mbState c = 2 →
      ∃ e, Performs (.mbFlush ch w) s e ∧ e.mbState c = 0 ∧ e.on p (mf c F.MB_STAT_flushed) = true ∧
        e.mail.order = d.mail.order.erase c ∧ SameRegs [addrOf p (mf c F.MB_STAT_state).off] d e) ∧
    (d.serving = true → d.mcRuns = true →
      ((List.range 8).find? fun i => d.mbState (8 + i) == 0 || d.mbState (8 + i) == 3) = some i →
      (d.mail.notes = (0x8001, w1) :: rest →
        ∃ e, Gives .notifyEmergency s e ∧ posted e ∧ e.mbWord (8 + i) 0 = 0x8001) ∧
      (d.mail.notes = (0x8002, w1) :: rest →
        ∃ e, Gives .notifyMcRestart s e ∧ posted e ∧ e.mbWord (8 + i) 0 = 0x8002))

/-- R158 to R163, R403 to R410: what the MC's commands do and answer. An answer leaves the channel ACKED with its code,
the seq of the message, and its results, zeros behind them. Log entries 84, 85. -/
def Obligations.McCommandsAnswer : Prop :=
  ∀ (s : State) (ch : Fin 64),
    let d := s.dev
    let c := ch.val
    let g := begun d c
    let arg (k : Nat) : Nat := (d.mbWord c k).toNat
    let stat (e : Dev) (k : Nat) : Word := e.reg (addrOf 0x03 (0x300 + 4 * k))
    let answers (i : Instr) (code : Nat) (ws : List Word) (holds : Dev → Prop) : Prop :=
      ∃ r, GivesMem i s r s.mem ∧ r.mbState c = 3 ∧ r.rd (mbPage c) (mf c F.MB_ACK_code) = code ∧
        r.rd (mbPage c) (mf c F.MB_ACK_seq) = d.rd (mbPage c) (mf c F.MB_STAT_seq) ∧
        (∀ k, k < 15 → r.mbWord c (k + 1) = ws.getD k 0) ∧ holds r
    (asked d c 0x01 = true → arg 1 % 65536 ≤ arg 1 / 65536 →
      (∀ k, k < 8 → k ≠ c → d.mbState k ≠ 1 ∧ d.mbState k ≠ 2) →
      ∀ v, (versions.find? fun v => decide (arg 1 % 65536 ≤ v) && decide (v ≤ arg 1 / 65536)) = some v →
        answers (.hello ch) 0 [BitVec.ofNat 32 v, d.reg (addrOf 0x10 0x044)] fun r => r.rd 0x0C F.MB_VER_ver = v) ∧
    (asked d c 0x02 = true →
      answers (.info ch) 0
        [d.reg (addrOf 0x00 0x048), d.reg (addrOf 0x00 0x04C), d.reg (addrOf 0x10 0x044), 0x11, 0x02010104]
        fun r => ∀ k, k < 16 → r.actState k = d.actState k) ∧
    (asked d c 0x03 = true →
      answers (.echo ch) 0 ((List.range 15).map fun i => d.mbWord c (i + 1)) fun r => ∀ k, k < 16 → r.actState k = d.actState k) ∧
    (askedFirst d c 0x10 = true → d.dmWaits = false → d.dm.flips = [] → arg 1 < tileCount → arg 2 < tileCount → arg 3 = 0 →
      let bs := s.mem.tile (arg 1)
      let fmt := headBits bs 1 7 0
      let n := if fmt = 2 then 15 else 7
      tilePasses d (arg 1) bs = true → headWord bs 0 = 0x53444C46 → fmt = 1 ∨ fmt = 2 →
      (crc32c (bs.take (4 * n))).toNat = headWord bs n → ∀ h, headerOf bs = some h → 4096 * (arg 1 + 1) + h.bytes ≤ tileSpace →
      (∀ t ∈ h.targets, d.sqState t ≠ 1 ∧ d.sqLive t = false) →
      (∀ i, i < (h.bytes + 4095) / 4096 → tilePasses d (arg 1 + 1 + i) (s.mem.tile (arg 1 + 1 + i)) = true) →
      let load := bytesGet 0 s.mem.tiles (4096 * (arg 1 + 1)) h.bytes
      crc32c load = h.crc →
      ∀ es, (h.program = true → (payloadEntries load h.count).mapM (loadEntry h (arg 2)) = some es) →
        answers (.load ch) 0 [0xFFFFFFFF, BitVec.ofNat 32 h.words, 0] fun r =>
          h.program = true → ∀ t ∈ h.targets, (d.sqState t < 3 → r.sqState t = 0) ∧ ∀ i, i < es.length → r.entry t (h.base + i) = es.getD i 0) ∧
    (askedFirst d c 0x20 = true → arg 1 < 16 → d.submitBad (arg 1) = false →
      let e := (g.submit (arg 1)).evaluateTo (arg 1) 16
      (e.actState (arg 1) = 2 → answers (.actSubmit ch) 0 [stat e (arg 1)] fun r => r.actState (arg 1) = 2) ∧
      (e.actState (arg 1) = 5 →
        answers (.actSubmit ch) (refusalCode (e.rd 0x03 (F.ACT_STAT_reason.at (arg 1)))) [stat e (arg 1)] fun r =>
          r.actState (arg 1) = 5)) ∧
    (asked d c 0x21 = true →
      answers (.actAbort ch) 0 [] fun r => ∀ k, k < 16 →
        let ends := (arg 1 % 65536).testBit k && (d.actState k == 2 || d.actState k == 3)
        r.actState k = (if ends then 6 else d.actState k) ∧ (ends = true → r.rd 0x03 (F.ACT_STAT_end.at k) = 2)) ∧
    (askedFirst d c 0x30 = true → 1 ≤ arg 1 → arg 1 ≤ 3 → g.stateReqBad (arg 1) = false → d.on 0x02 F.PAGE_CTRL_reset_busy = false →
      let e := (g.wr 0x02 F.SB_STATE_REQ_req (arg 1)).requestState (arg 1)
      let t := e.bill.trans
      if arg 1 = 1 ∨ (e.power = arg 1 ∧ e.on 0x02 F.SB_STATE_changing = false) then
        answers (.power ch) 0 [e.reg (addrOf 0x02 0x040)] fun r => r.rd 0x02 F.SB_STATE_REQ_req = arg 1 ∧ r.bill.trans = t
      else ∃ r, GivesMem (.power ch) s r s.mem ∧ r.mbState c = 2 ∧ r.rd 0x02 F.SB_STATE_REQ_req = arg 1 ∧ r.bill.trans = t) ∧
    (asked d c 0x30 = true → d.mail.begun.contains c = true → d.power = arg 1 → d.on 0x02 F.SB_STATE_changing = false →
      answers (.power ch) 0 [d.reg (addrOf 0x02 0x040)] fun r => r.rd 0x02 F.SB_STATE_REQ_req = d.rd 0x02 F.SB_STATE_REQ_req)

/-- R412 to R432: what the commands of the SE and of the calibration store do and answer, whatever the verdicts of the
cryptography that the spec leaves to the device; the selection of a measurement. Log entries 11, 86, 87, 88. -/
def Obligations.SeCommandsAnswer : Prop :=
  ∀ (s : State) (ch : Fin 64) (intact : Bool × Bool) (w : BusWrite),
    let d := s.dev
    let c := ch.val
    let g := begun d c
    let arg (k : Nat) : Nat := (d.mbWord c k).toNat
    let ends (i : Instr) (m : Mem) (code : Nat) (ws : List Word) (holds : Dev → Prop) : Prop :=
      ∃ e, GivesMem i s e m ∧ e.mbState c = 3 ∧ e.rd (mbPage c) (mf c F.MB_ACK_code) = code ∧
        e.rd (mbPage c) (mf c F.MB_ACK_seq) = e.rd (mbPage c) (mf c F.MB_STAT_seq) ∧
        (∀ k, k < 15 → e.mbWord c (k + 1) = ws.getD k 0) ∧ holds e
    let r := movePad g s.mem (arg 1) (arg 2) none
    let writes (i : Instr) (f : Dev) (off len : Nat) (out : Bytes) (ws : List Word) : Prop :=
      match f.regionBad off len out.length with
      | none =>
        ∃ q, ends i q 0 ws (fun _ => True) ∧ q.tiles = s.mem.tiles ∧
          ∀ j, j < out.length → d.bankState ((off + j) / 1048576) ≠ 2 → padByte q (off + j) = out.getD j 0
      | some code => ends i s.mem code (if len < out.length then [BitVec.ofNat 32 out.length] else []) fun _ => True
    (asked d c 0x40 = true →
      let b := !d.sec.activeB
      match g.regionBad (arg 1) (arg 2) 0, r.d.imageBad r.data with
      | some code, _ => ends (.fwUpdate ch) s.mem code [] fun e => e.slotState b = 0
      | none, none =>
        ends (.fwUpdate ch) r.m 0 [BitVec.ofNat 32 (imageSvn r.data), imageRev r.data, if b then 1 else 0] fun e =>
          e.slotState b = 2 ∧ e.image b = imageIn r.data
      | none, some code => ends (.fwUpdate ch) r.m code [] fun e => e.slotState b = 0) ∧
    (asked d c 0x41 = true → d.anyLive = false → d.mail.loading = 0 → ∀ b, d.trySlot = some b →
      let ran := g.mcRestart.slotOk b (if b then intact.2 else intact.1)
      ends (.fwActivate ch intact) s.mem (if ran then 0 else 8) (g.mcRestart.boot intact.1 intact.2).slotRunning fun e =>
        e.slotState b = (if ran then 1 else 0) ∧ (ran = true → e.sec.activeB = b)) ∧
    (asked d c 0x42 = true → d.rd 0x10 F.SEC_BOOT_mode ≠ 2 → d.trySlot = none →
      let n := max (d.rd 0x10 F.SEC_SVN_counter) (d.rd 0x10 F.SEC_SVN_run)
      ends (.fwCommit ch) s.mem 0 [BitVec.ofNat 32 n] fun e => e.rd 0x10 F.SEC_SVN_counter = n) ∧
    (asked d c 0x43 = true → arg 1 < 4 →
      writes (.certGet ch) g (arg 2) (arg 3) (certificate (arg 1)) [BitVec.ofNat 32 (certificate (arg 1)).length]) ∧
    (asked d c 0x43 = true → 4 ≤ arg 1 →
      ends (.certGet ch) s.mem ((g.regionBad (arg 2) (arg 3) 0).getD 3) [] fun _ => True) ∧
    (asked d c 0x44 = true →
      let body := g.attestBody c
      writes (.attest ch) g (arg 1) (arg 2) (body ++ deviceSignature body) [3888]) ∧
    (asked d c 0x45 = true →
      ∃ ws, ws.length = 8 ∧
        ends (.dbgChallenge ch) s.mem 0 ws fun e => e.sec.challenge = some (ws.flatMap wordBytes, 0)) ∧
    (asked d c 0x46 = true → arg 2 ≠ 5408 ∨ g.regionBad (arg 1) (arg 2) 0 ≠ none →
      ends (.dbgUnlock ch) s.mem ((g.regionBad (arg 1) (arg 2) 0).getD 3) [] fun e =>
        e.sec.challenge = none ∧ e.on 0x10 F.SEC_DEBUG_unlocked = d.on 0x10 F.SEC_DEBUG_unlocked) ∧
    (asked d c 0x46 = true → arg 2 = 5408 → g.regionBad (arg 1) (arg 2) 0 = none →
      let bs := r.data
      let sel := sliceNat bs 0x28 4
      let msg := slice bs 0 0x7F0
      let pass : Bool := decide (sel ≤ 1) && sliceZero bs 0x2C 4 && d.challengeOk bs &&
        decide (sliceNat bs 0x20 8 = Config.serial.toNat) &&
        decide (d.tokenKeys sel = some (sha512 (slice bs 0x30 32), sha512 (slice bs 0x50 1952))) &&
        pairVerifies (slice bs 0x30 32) (slice bs 0x50 1952) msg (slice bs 0x7F0 64) (slice bs 0x830 3312)
      ∃ code ws, (code = 0 ↔ pass = true) ∧
        ends (.dbgUnlock ch) r.m code ws fun e => e.sec.challenge = none ∧
          e.on 0x10 F.SEC_DEBUG_unlocked = (d.on 0x10 F.SEC_DEBUG_unlocked || pass) ∧
          (pass = true → e.rd 0x10 F.SEC_DEBUG_by = sel ∧ e.on 0x10 F.SEC_DEBUG_ever = true)) ∧
    (asked d c 0x47 = true →
      ends (.dbgLock ch) s.mem 0 [] fun e =>
        e.on 0x10 F.SEC_DEBUG_unlocked = false ∧ e.on 0xF0 F.TST_FACTORY_active = false) ∧
    (asked d c 0x48 = true → arg 2 = 1984 → g.regionBad (arg 1) (arg 2) 0 = none → d.on 0x10 F.SEC_KEYS_owner = false →
      ends (.ownerKeySet ch) r.m 0 [] fun e => e.on 0x10 F.SEC_KEYS_owner = true ∧
        e.sec.ownerKey = some (sha512 (slice r.data 0 32), sha512 (slice r.data 32 1952))) ∧
    (asked d c 0x50 = true → writes (.calExport ch) g (arg 1) (arg 2) (d.calBytes ++ deviceSignature d.calBytes) [7536]) ∧
    (asked d c 0x51 = true → g.regionBad (arg 1) (arg 2) 0 = none →
      match setBad r.data with
      | none =>
        ends (.calStage ch) r.m 0 [BitVec.ofNat 32 (sliceNat r.data 5 1)] fun e => e.on 0x98 F.CAL_STAT_staged = true ∧
          e.sec.staged = some ((List.range 1040).map fun i => BitVec.ofNat 32 (headWord r.data i))
      | some code => ends (.calStage ch) r.m code [] fun e => e.sec.staged = d.sec.staged) ∧
    (asked d c 0x52 = true → d.anyLive = false → d.rd 0x98 F.CAL_STAT_commits < 10000 → ∀ set, d.sec.staged = some set →
      let n := d.rd 0x98 F.CAL_STAT_commits + 1
      ends (.calCommit ch) s.mem 0 [BitVec.ofNat 32 n] fun e => e.sec.cal = some set ∧ e.sec.staged = none ∧
        e.on 0x98 F.CAL_STAT_staged = false ∧ e.on 0x98 F.CAL_STAT_reload = true ∧ e.rd 0x98 F.CAL_STAT_commits = n) ∧
    (accepted d 0x11 0x040 w = true →
      ∃ e, Performs (.measurementSelect w) s e ∧ ∀ k, k < 16 →
        e.rd 0x11 (F.SEC_MEAS.at k) =
          (d.measurement ((seen d 0x11 0x040 w).val F.SEC_MEAS_SEL_sel)).toNat / 2 ^ (32 * k) % 2 ^ 32)

/-! ## The cartridge, the ring and epochs (chapter 16) -/

/-- R442 to R447: a cartridge appears, is verified, challenged, challenged again and removed; only an answer that passes
all six checks makes it or leaves it VERIFIED; the override is remembered. Log entry 90. -/
def Obligations.CartridgeQualifies : Prop :=
  ∀ (s : State) (a : CartAnswer) (w : BusWrite),
    let d := s.dev
    let verified (e : Dev) : Prop := e.vstate = 2 ∧ e.rd 0x90 F.CART_MATINGS = a.matings.toNat ∧ e.cartCycles = a.cycles.toNat
    let failed (e : Dev) (c : CartCause) : Prop := e.vstate = 3 ∧ e.rd 0x90 F.CART_STAT_cause = c.code
    let x := seen d 0x90 0x100 w
    (d.serving = true →
      (d.vstate = 0 → ∃ e, Gives .cartPresent s e ∧ e.vstate = 1 ∧ e.on 0x90 F.CART_STAT_present = true ∧ e.bit 0x90 0x00C 16 = true) ∧
      (d.on 0x90 F.CART_STAT_present = true →
        ∃ e, Gives .cartRemoved s e ∧ e.vstate = 0 ∧ e.on 0x90 F.CART_STAT_present = false ∧ e.bit 0x90 0x00C 16 = true ∧
          e.net.retry = false) ∧
      (d.vstate = 1 →
        ∃ e, Gives (.cartVerify a) s e ∧ e.bit 0x90 0x00C 16 = true ∧
          match d.cartCheck a with
          | none => verified e
          | some c => failed e c) ∧
      (d.vstate = 2 → d.net.asked = false → d.net.retry = false → d.has 0x02 F.SB_HK_CTRL_en 3 = true →
        ∃ e, Gives (.cartChallenge a) s e ∧
          match d.cartCheck a with
          | none => verified e ∧ e.net.retry = false
          | some c => if c = .rollback then failed e c else e.vstate = 2 ∧ e.net.retry = true) ∧
      (d.vstate = 2 → d.net.retry = true →
        ∃ e, Gives (.cartChallengeRetry a) s e ∧ e.net.retry = false ∧
          match d.cartCheck a with
          | none => verified e
          | some c => failed e c)) ∧
    (accepted d 0x90 0x05C w = true → (seen d 0x90 0x05C w).cmd F.CART_CHAL_go = 1 → d.vstate = 2 ∨ d.vstate = 3 →
      ∃ e, Gives (.cartChalGo w a) s e ∧ e.net.asked = false ∧
        match d.cartCheck a with
        | none => verified e
        | some c =>
          if d.vstate = 3 ∨ c = .rollback ∨ d.net.retry = true then failed e c else e.vstate = 2 ∧ e.net.retry = true) ∧
    (accepted d 0x90 0x100 w = true → x.val F.CART_OVR_en = 1 →
      ∃ e, Performs (.cartOverride w) s e ∧ e.on 0x90 F.CART_OVR_en = true ∧ e.sec.overrideEver = true ∧
        (d.on 0x90 F.CART_OVR_en = false → e.bit 0x90 0x00C 20 = true))

/-- R346 to R349, R448 to R454: the frames of the ring. A repeater passes a frame on. A node that takes part forwards what
is not its own, but for one of an unknown type, adopts ring time, imports the events that it is set to import, and puts
its own frames, gathered events first, in place of IDLE ones. A DISCOVERY frame goes round twice, the second time to tell
the nodes what it found: the model's choice. Log entries 91, 131. -/
def Obligations.RingCarries : Prop :=
  ∀ (s : State) (f : Frame) (w : BusWrite) (ps : Nat) (stamp : Stamp) (ver : BitVec 8) (nodes : BitVec 16)
      (dup told : Bool) (es : List (BitVec 8 × Nat)),
    let d := s.dev
    let own (b : FrameBody) : Message := .ring ⟨BitVec.ofNat 8 d.ringVer, BitVec.ofNat 4 d.ringNode, d.ring.seq, b, true⟩
    let x := seen d 0x94 0x040 w
    let found := if d.on 0x94 F.RING_STAT_nomaster then 1 else min ver.toNat 2
    let target := stamp.toNat + (1024 * ps + 500) / 1000
    let added := FrameBody.discovery (if ver.toNat < 2 then ver else 2) (nodes ||| BitVec.twoPow 16 d.ringNode)
      (ps + d.declaredPs) (dup || nodes.getLsbD d.ringNode) false
    let older (l : List (FrameBody × Nat)) : List (FrameBody × Nat) := l.map fun y => (y.1, y.2 + 1)
    (accepted d 0x94 0x040 w = true →
      ∃ e, Performs (.ringConfig w) s e ∧ e.on 0x94 F.RING_STAT_multi = false ∧ e.on 0x94 F.RING_STAT_dup = false ∧
        e.ring.yielded = false ∧
        e.ring.own = (if x.val F.RING_CFG_en = 1 ∧ x.val F.RING_CFG_master = 1
          then [(.discovery 2 (BitVec.twoPow 16 (x.val F.RING_CFG_node)) d.declaredPs false false, 0)] else [])) ∧
    (f.body = .discovery ver nodes ps dup told → d.ringOn = true → f.crcOk = true →
      (d.ringMaster = true → d.ownDiscovery f = true →
        ∃ e, Gives (.ringDiscoveryFrame f) s e ∧ e.rd 0x94 F.RING_STAT_ver = found ∧
          (told = true → e.sent = d.sent) ∧
          (told = false → e.sent = .ring { f with body := .discovery ver nodes ps dup true } :: d.sent ∧
            e.on 0x94 F.RING_STAT_loop = true ∧ e.ring.declared = ps ∧
            e.rd 0x94 F.RING_STAT_nodes = (bitsOf 16 nodes.toNat).length) ∧
          (dup = true → e.on 0x94 F.RING_STAT_dup = true)) ∧
      (d.ownDiscovery f = false →
        ∃ e, Gives (.ringDiscoveryFrame f) s e ∧ e.rd 0x94 F.RING_STAT_ver = found ∧
          Message.ring (if told then f else { f with body := added }) ∈ e.sent ∧
          ((dup || !told && nodes.getLsbD d.ringNode) = true →
            e.on 0x94 F.RING_STAT_dup = true ∧ e.bit 0x94 0x00C 19 = true)) ∧
      (d.ringMaster = false → d.ownDiscovery f = true → ∃ e, Gives (.ringDiscoveryFrame f) s e ∧ e.sent = d.sent)) ∧
    (d.ringOn = true → d.ringMaster = true →
      let u := d.reachTime (1024 * ((d.count.toNat + 1023) / 1024))
      let skew : Int := (ps : Int) - d.ring.declared
      (∃ e, Gives (.ringTimeSend none) s e ∧ e.sent = own (.time u.now) :: u.sent ∧ e.count = u.count ∧
        e.ring.seq = d.ring.seq + 1) ∧
      (∃ e, Gives (.ringTimeSend (some ps)) s e ∧ own (.time u.now) ∈ e.sent ∧ e.rd 0x94 F.RING_SKEW = unsigned 32 skew ∧
        (500 < skew.natAbs → e.bit 0x94 0x00C 18 = true))) ∧
    (f.body = .time stamp → hears d f = true → d.on 0x94 F.RING_CFG_master = false →
      (d.on 0x94 F.RING_STAT_timed = false ∨ 200 * 1024 < 1000 * (d.ringOff target).natAbs →
        ∃ e, Gives (.ringTimeFrame f ps) s e ∧ e.count = BitVec.ofNat 48 (target / 1024) ∧
          e.rd 0x94 F.RING_TSTEP = unsigned 32 (BitVec.ofNat 48 (target / 1024) - d.count).toInt ∧
          e.on 0x94 F.RING_STAT_timed = true ∧ e.on 0x94 F.RING_STAT_nomaster = false ∧ e.bit 0x94 0x00C 17 = true ∧
          Message.ring f ∈ e.sent) ∧
      (d.on 0x94 F.RING_STAT_timed = true → 1000 * (d.ringOff target).natAbs ≤ 200 * 1024 →
        ∃ e, Gives (.ringTimeFrame f ps) s e ∧ e.count = d.count ∧ e.on 0x94 F.RING_STAT_nomaster = false ∧
          e.sent = .ring f :: d.sent)) ∧
    (d.serving = true → d.on 0x94 F.RING_CFG_en = true → d.on 0x94 F.RING_STAT_lock = true →
      ∃ e, Gives .ringNomaster s e ∧ e.on 0x94 F.RING_STAT_nomaster = true ∧ e.on 0x94 F.RING_STAT_timed = false ∧
        e.rd 0x94 F.RING_STAT_ver = 1 ∧ e.bit 0x94 0x00C 22 = true ∧
        (d.ringMaster = true → e.on 0x94 F.RING_STAT_loop = false)) ∧
    (accepted d 0x94 0x058 w = true → (seen d 0x94 0x058 w).cmd F.RING_WAKE_send = 1 → d.on 0x94 F.RING_CFG_en = true →
      ∃ e, Performs (.ringWakeSend w) s e ∧ e.ring.own = d.ring.own ++ [(.wake, 0)] ∧ SameRegs [] d e) ∧
    (f.body = .event es → hears d f = true →
      ∃ e, Gives (.ringEventFrame f) s e ∧ e.sent = .ring f :: d.sent ∧
        e.mw.wire = d.mw.wire ++ (es.filter fun x => d.bit 0x80 (0xE0 + 4 * (x.1.toNat / 32)) (x.1.toNat % 32) && decide (x.2 < 7)).map
          fun x => ⟨x.1, x.2 + 1, .ring, f.src.toNat⟩) ∧
    (d.ringOn = true →
      (d.mw.export_ ≠ [] →
        ∃ e, Gives .ringIdleFrame s e ∧ e.sent = own (.event (d.mw.export_.take 24)) :: d.sent ∧
          e.mw.export_ = d.mw.export_.drop 24 ∧ e.ring.own = older d.ring.own) ∧
      (d.mw.export_ = [] → ∀ b age r, d.ring.own = (b, age) :: r →
        ∃ e, Gives .ringIdleFrame s e ∧ e.sent = own b :: d.sent ∧ e.ring.own = older r ∧
          e.rd 0x94 F.RING_CNT_noslot =
            min (d.rd 0x94 F.RING_CNT_noslot + (if 2 < age then 1 else 0)) (2 ^ F.RING_CNT_noslot.w - 1))) ∧
    (hears d f = true → (f.body = .wake → ∃ e, Gives (.ringEventFrame f) s e ∧ Message.ring f ∈ e.sent) ∧
      (f.body = .other → ∃ e, Gives (.ringEventFrame f) s e ∧ e.sent = d.sent)) ∧
    (d.serving = true →
      ∃ e, Gives .ringInputLocked s e ∧ e.on 0x94 F.RING_STAT_lock = true ∧ SameRegs [addrOf 0x94 F.RING_STAT_lock.off] d e) ∧
    (d.ringRepeats = true →
      let passes (i : Instr) : Prop := ∃ e, Gives i s e ∧ e.sent = .ring f :: d.sent ∧ SameRegs [] d e
      (f.body = .discovery ver nodes ps dup told → passes (.ringDiscoveryFrame f)) ∧
      (f.body = .time stamp → passes (.ringTimeFrame f ps)) ∧
      (f.body = .event es ∨ f.body = .other → passes (.ringEventFrame f)) ∧
      (f.body = .wake → ∃ e, Gives (.ringEventFrame f) s e ∧ Message.ring f ∈ e.sent)) ∧
    (d.on 0x94 F.RING_STAT_lock = true →
      ∃ e, Gives .ringInputLockLost s e ∧ e.on 0x94 F.RING_STAT_lock = false ∧ e.on 0x94 F.RING_STAT_loop = false ∧
        e.bit 0x94 0x00C 16 = true)

/-- R455 to R459: the fingerprint is computed over the selected pages and compared; a publication shows whether its node
matches. Staged writes wait in their store; an armed epoch performs all of them at its count, or none. Log entries 92, 93. -/
def Obligations.EpochsApply : Prop :=
  ∀ (s : State) (w : BusWrite) (f : Frame) (fp : BitVec 64) (ep num : BitVec 16) (ok : Bool) (at_ : BitVec 48) (p off : Nat),
    let d := s.dev
    let x := seen d 0x0B 0x07C w
    let go (f : Field) : Bool := x.cmd f == 1
    let armed (e : Dev) (t : Nat) : Prop :=
      if t < d.count.toNat + 10000
      then e.on 0x0B F.EP_STAT_armed = false ∧ e.rd 0x0B F.EP_STAT_result = 3 ∧ e.bit 0x0B 0x00C 17 = true
      else e.on 0x0B F.EP_STAT_armed = true
    (d.serving = true →
      ∃ e, Gives .fingerprintCompute s e ∧ e.ring.computing = true ∧ e.ring.touched = false) ∧
    (d.serving = true → d.ring.computing = true →
      (d.ring.touched = false →
        ∃ e, Gives .fingerprintDone s e ∧ e.fpNow = d.fingerprint ∧ e.on 0x0B F.FP_STAT_unsettled = false ∧
          e.ring.computing = false ∧
          (d.rd 0x94 F.RING_STAT_ver ≠ 1 → d.rd 0x0B F.FP_CFG_mode = 0 → e.on 0x0B F.FP_STAT_match = true) ∧
          (d.rd 0x94 F.RING_STAT_ver ≠ 1 → d.rd 0x0B F.FP_CFG_mode = 1 →
            e.on 0x0B F.FP_STAT_match = (d.fingerprint == d.fpExpect))) ∧
      (d.ring.touched = true →
        ∃ e, Gives .fingerprintDone s e ∧ e.on 0x0B F.FP_STAT_unsettled = true ∧ e.bit 0x0B 0x00C 18 = true ∧
          e.ring.computing = false)) ∧
    (f.body = .fingerprint fp ep ok true → hears d f = true → d.ringVer = 2 →
      ∃ e, Gives (.ringFingerprintFrame f) s e ∧ e.has 0x0B F.FP_MISMATCH_nodes f.src.toNat = !ok ∧
        (f.src.toNat, fp, ep) ∈ e.ring.pubs ∧ Message.ring f ∈ e.sent ∧
        (d.has 0x0B F.FP_MISMATCH_nodes f.src.toNat = ok → e.bit 0x0B 0x00C 16 = true)) ∧
    (accepted d 0x0B 0x07C w = true →
      (x.val F.EP_CTRL_stage = 1 → d.on 0x0B F.EP_CTRL_stage = false → go F.EP_CTRL_arm = false →
        go F.EP_CTRL_broadcast = false → go F.EP_CTRL_cancel = false →
        ∃ e, Performs (.epochStage w) s e ∧ e.on 0x0B F.EP_CTRL_stage = true ∧ e.rd 0x0B F.EP_STAT_master = w.m.id ∧
          e.on 0x0B F.EP_STAT_overflow = false ∧ SameRegs [addrOf 0x0B 0x07C, addrOf 0x0B 0x0AC] d e) ∧
      (go F.EP_CTRL_arm = true → go F.EP_CTRL_broadcast = false → go F.EP_CTRL_cancel = false →
        ∃ e, Performs (.epochArm w) s e ∧ armed e d.epAt) ∧
      (go F.EP_CTRL_broadcast = true → go F.EP_CTRL_cancel = false → d.on 0x94 F.RING_CFG_en = true →
        ∃ e, Performs (.epochBroadcast w) s e ∧ armed e d.epAt ∧
          e.ring.own = d.ring.own ++ [(.epoch (BitVec.ofNat 16 (d.rd 0x0B F.EP_NUM_num)) (BitVec.ofNat 48 d.epAt), 0)]) ∧
      (go F.EP_CTRL_cancel = true →
        ∃ e, Performs (.epochCancel w) s e ∧ e.ring.store = [] ∧ e.on 0x0B F.EP_CTRL_stage = false ∧
          e.on 0x0B F.EP_STAT_armed = false ∧ e.rd 0x0B F.EP_STAT_result = 4 ∧ e.bit 0x0B 0x00C 17 = true)) ∧
    (p < 256 → off % 4 = 0 → d.heard w.m = true → d.stalls w.m = false → d.barred w.m p = false → (fieldsAt p off).isSome = true →
      w.be = 15 → d.accessCause (seen d p off w) w.data false = none → d.staged w.m p off = true → stageBad p off false = false →
      d.ring.store.any (fun y => y.1 == addrOf p off) = true ∨ d.ring.store.length < 1024 →
      ∃ e, Gives (.stagedWrite (BitVec.ofNat 24 (addrOf p off)) w) s e ∧
        e.ring.store = tabInsert d.ring.store (addrOf p off) w.data ∧ SameRegs [addrOf 0x0B 0x0AC] d e) ∧
    (f.body = .epoch num at_ → hears d f = true → d.ringVer = 2 → d.on 0x0B F.EP_CTRL_stage = true →
      num.toNat = d.rd 0x0B F.EP_NUM_num → num ≠ 0 →
      ∃ e, Gives (.ringEpochFrame f) s e ∧ e.epAt = at_.toNat ∧ armed e at_.toNat) ∧
    (d.serving = true → d.on 0x0B F.EP_STAT_armed = true →
      let u := d.reachTime d.epAt
      u.epAt ≤ u.count.toNat →
      (u.ring.store.find? u.stagedBad = none →
        let v := u.ring.store.foldl Dev.stagedPerform u
        ∃ e, Gives .epochApply s e ∧ e.rd 0x0B F.EP_CUR_num = v.rd 0x0B F.EP_NUM_num ∧ e.ring.store = [] ∧
          e.on 0x0B F.EP_CTRL_stage = false ∧ e.on 0x0B F.EP_STAT_armed = false ∧ e.rd 0x0B F.EP_STAT_result = 1 ∧
          SameRegs ([addrOf 0x0B 0x0B0, addrOf 0x0B 0x0AC, addrOf 0x0B 0x07C] ++ statAddrs 0x0B) v e) ∧
      (∀ y, u.ring.store.find? u.stagedBad = some y →
        ∃ e, Gives .epochApply s e ∧ e.rd 0x0B F.EP_FAIL_addr = y.1 % 2 ^ F.EP_FAIL_addr.w ∧ e.ring.store = u.ring.store ∧
          e.on 0x0B F.EP_STAT_armed = false ∧ e.rd 0x0B F.EP_STAT_result = 2 ∧
          SameRegs ([addrOf 0x0B 0x0B4, addrOf 0x0B 0x0AC] ++ statAddrs 0x0B) u e))
end

