-- ==== Sys2Proof/Laws/Tab.lean ====
section
/-! SUPPORT. Sparse tables: a read after a write, and the canonical form under every table operation. -/
namespace Sys2Proof.Machine

variable {α : Type}

/-! ## Reads -/

@[simp] theorem tabGet_nil (d : Nat → α) (k : Nat) : tabGet d [] k = d k := rfl

/-- Every key of a rising table is above the bound. -/
theorem tabGet_of_rising (d : Nat → α) (t : Tab α) (l k : Nat) (h : tabRising (some l) t = true) (hk : k ≤ l) :
    tabGet d t k = d k := by
  induction t generalizing l with
  | nil => rfl
  | cons x r ih =>
    obtain ⟨j, v⟩ := x
    simp only [tabRising, Bool.and_eq_true, decide_eq_true_eq] at h
    have hj : j ≠ k := by omega
    simp only [tabGet, hj, if_false]
    exact ih j h.2 (by omega)

/-- A looser bound. -/
theorem tabRising_mono (t : Tab α) (l : Option Nat) (k : Nat) (h : tabRising (some k) t = true)
    (hl : ∀ x, l = some x → x ≤ k) : tabRising l t = true := by
  cases t with
  | nil => rfl
  | cons x r =>
    obtain ⟨j, v⟩ := x
    simp only [tabRising, Bool.and_eq_true, decide_eq_true_eq] at h ⊢
    refine ⟨?_, h.2⟩
    cases l with
    | none => rfl
    | some y => have := hl y rfl; simp only [decide_eq_true_eq]; omega

theorem tabGet_tabInsert_same (d : Nat → α) (t : Tab α) (k : Nat) (v : α) : tabGet d (tabInsert t k v) k = v := by
  induction t with
  | nil => simp [tabInsert, tabGet]
  | cons x r ih =>
    obtain ⟨j, w⟩ := x
    simp only [tabInsert]
    split
    · simp [tabGet]
    · split
      · simp [tabGet]
      · simp only [tabGet, *, if_false]

theorem tabGet_tabInsert_other (d : Nat → α) (t : Tab α) (k i : Nat) (v : α) (h : i ≠ k) :
    tabGet d (tabInsert t k v) i = tabGet d t i := by
  induction t with
  | nil => simp [tabInsert, tabGet, Ne.symm h]
  | cons x r ih =>
    obtain ⟨j, w⟩ := x
    simp only [tabInsert]
    split
    · simp [tabGet, Ne.symm h]
    · split
      · rename_i hj
        subst hj
        simp [tabGet, Ne.symm h]
      · simp only [tabGet, ih]

theorem tabGet_tabErase_other (d : Nat → α) (t : Tab α) (k i : Nat) (h : i ≠ k) :
    tabGet d (tabErase t k) i = tabGet d t i := by
  induction t with
  | nil => rfl
  | cons x r ih =>
    obtain ⟨j, w⟩ := x
    simp only [tabErase]
    split
    · rename_i hj
      subst hj
      simp only [tabGet, Ne.symm h, if_false]
      exact ih
    · simp only [tabGet, ih]

theorem tabGet_tabErase_same (d : Nat → α) (t : Tab α) (k : Nat) : tabGet d (tabErase t k) k = d k := by
  induction t with
  | nil => rfl
  | cons x r ih =>
    obtain ⟨j, w⟩ := x
    simp only [tabErase]
    split
    · exact ih
    · rename_i hj
      simp only [tabGet, hj, if_false]
      exact ih

variable [DecidableEq α]

/-- Another key reads as before. -/
theorem tabGet_tabSet_other (d : Nat → α) (t : Tab α) (k i : Nat) (v : α) (h : i ≠ k) :
    tabGet d (tabSet d t k v) i = tabGet d t i := by
  unfold tabSet
  split
  · exact tabGet_tabErase_other d t k i h
  · exact tabGet_tabInsert_other d t k i v h

/-- The key written reads as written. -/
theorem tabGet_tabSet_same (d : Nat → α) (t : Tab α) (k : Nat) (v : α) :
    tabGet d (tabSet d t k v) k = v := by
  unfold tabSet
  split
  · rename_i hv
    rw [tabGet_tabErase_same d t k, hv]
  · exact tabGet_tabInsert_same d t k v

/-! ## The canonical form -/

omit [DecidableEq α] in
theorem tabRising_tabErase (t : Tab α) (k : Nat) (l : Option Nat) (h : tabRising l t = true) :
    tabRising l (tabErase t k) = true := by
  induction t generalizing l with
  | nil => rfl
  | cons x r ih =>
    obtain ⟨j, w⟩ := x
    simp only [tabErase]
    split
    · simp only [tabRising, Bool.and_eq_true] at h
      refine ih l (tabRising_mono r l j h.2 ?_)
      intro y hy
      subst hy
      have := h.1
      simp only [decide_eq_true_eq] at this
      omega
    · simp only [tabRising, Bool.and_eq_true] at h ⊢
      exact ⟨h.1, ih _ h.2⟩

theorem tabLean_tabErase (d : Nat → α) (t : Tab α) (k : Nat) (h : tabLean d t = true) : tabLean d (tabErase t k) = true := by
  induction t with
  | nil => rfl
  | cons x r ih =>
    obtain ⟨j, w⟩ := x
    simp only [tabLean, Bool.and_eq_true] at h
    simp only [tabErase]
    split
    · exact ih h.2
    · simp only [tabLean, Bool.and_eq_true]
      exact ⟨h.1, ih h.2⟩

omit [DecidableEq α] in
theorem tabRising_tabInsert (t : Tab α) (k : Nat) (v : α) (l : Option Nat) (h : tabRising l t = true)
    (hk : ∀ y, l = some y → y < k) : tabRising l (tabInsert t k v) = true := by
  induction t generalizing l with
  | nil =>
    cases l with
    | none => rfl
    | some y => simp [tabInsert, tabRising, hk y rfl]
  | cons x r ih =>
    obtain ⟨j, w⟩ := x
    simp only [tabRising, Bool.and_eq_true] at h
    simp only [tabInsert]
    split
    · cases l with
      | none => simp [tabRising, h.2, ‹k < j›]
      | some y => simp [tabRising, h.2, ‹k < j›, hk y rfl]
    · split
      · rename_i hj
        subst hj
        cases l with
        | none => simp [tabRising, h.2]
        | some y => simp [tabRising, h.2, hk y rfl]
      · simp only [tabRising, Bool.and_eq_true]
        refine ⟨h.1, ih _ h.2 ?_⟩
        intro y hy
        cases hy
        omega

theorem tabLean_tabInsert (d : Nat → α) (t : Tab α) (k : Nat) (v : α) (h : tabLean d t = true) (hv : v ≠ d k) :
    tabLean d (tabInsert t k v) = true := by
  induction t with
  | nil => simp [tabInsert, tabLean, hv]
  | cons x r ih =>
    obtain ⟨j, w⟩ := x
    simp only [tabInsert]
    split
    · simpa [tabLean, hv] using h
    · simp only [tabLean, Bool.and_eq_true] at h
      split
      · simp [tabLean, hv, h.2]
      · simp [tabLean, ih h.2, of_decide_eq_true h.1]

/-- A write keeps the canonical form. -/
theorem tabWf_tabSet (d : Nat → α) (t : Tab α) (k : Nat) (v : α) (h : tabWf d t = true) : tabWf d (tabSet d t k v) = true := by
  simp only [tabWf, Bool.and_eq_true] at h ⊢
  unfold tabSet
  split
  · exact ⟨tabRising_tabErase t k none h.1, tabLean_tabErase d t k h.2⟩
  · exact ⟨tabRising_tabInsert t k v none h.1 (by simp), tabLean_tabInsert d t k v h.2 ‹_›⟩

omit [DecidableEq α] in
theorem tabRising_filter (t : Tab α) (q : Nat × α → Bool) (l : Option Nat) (h : tabRising l t = true) :
    tabRising l (t.filter q) = true := by
  induction t generalizing l with
  | nil => rfl
  | cons x r ih =>
    obtain ⟨j, w⟩ := x
    simp only [tabRising, Bool.and_eq_true] at h
    simp only [List.filter]
    split
    · simp only [tabRising, Bool.and_eq_true]
      exact ⟨h.1, ih _ h.2⟩
    · refine ih l (tabRising_mono r l j h.2 ?_)
      intro y hy
      subst hy
      have := h.1
      simp only [decide_eq_true_eq] at this
      omega

theorem tabLean_filter (d : Nat → α) (t : Tab α) (q : Nat × α → Bool) (h : tabLean d t = true) :
    tabLean d (t.filter q) = true := by
  induction t with
  | nil => rfl
  | cons x r ih =>
    obtain ⟨j, w⟩ := x
    simp only [tabLean, Bool.and_eq_true] at h
    simp only [List.filter]
    split
    · simp [tabLean, ih h.2, of_decide_eq_true h.1]
    · exact ih h.2

/-- Leaving entries out keeps the canonical form. -/
theorem tabWf_filter (d : Nat → α) (t : Tab α) (q : Nat × α → Bool) (h : tabWf d t = true) : tabWf d (t.filter q) = true := by
  simp only [tabWf, Bool.and_eq_true] at h ⊢
  exact ⟨tabRising_filter t q none h.1, tabLean_filter d t q h.2⟩

/-- Writing bytes under enables keeps the canonical form. -/
theorem tabWf_bytesSetEn (d : Byte) (bs : List (Option Byte)) (t : Tab Byte) (k : Nat)
    (h : tabWf (fun _ => d) t = true) : tabWf (fun _ => d) (bytesSetEn d t k bs) = true := by
  induction bs generalizing t k with
  | nil => exact h
  | cons b r ih =>
    cases b with
    | none => exact ih t (k + 1) h
    | some b => exact ih _ (k + 1) (tabWf_tabSet _ t k b h)

/-- Writing bytes keeps the canonical form. -/
theorem tabWf_bytesSet (d : Byte) (bs : Bytes) (t : Tab Byte) (k : Nat) (h : tabWf (fun _ => d) t = true) :
    tabWf (fun _ => d) (bytesSet d t k bs) = true := by
  induction bs generalizing t k with
  | nil => exact h
  | cons b r ih => exact ih _ (k + 1) (tabWf_tabSet _ t k b h)

/-- Clearing a range keeps the canonical form. -/
theorem tabWf_bytesClear (d : Byte) (t : Tab Byte) (lo hi : Nat) (h : tabWf (fun _ => d) t = true) :
    tabWf (fun _ => d) (bytesClear t lo hi) = true := tabWf_filter _ t _ h

/-! ## Bytes read back -/

/-- A byte that is not written keeps its value. -/
theorem tabGet_bytesSetEn_other (d : Byte) (bs : List (Option Byte)) (t : Tab Byte) (k i : Nat)
    (h : ∀ j b, bs[j]? = some (some b) → i ≠ k + j) :
    tabGet (fun _ => d) (bytesSetEn d t k bs) i = tabGet (fun _ => d) t i := by
  induction bs generalizing t k with
  | nil => rfl
  | cons b r ih =>
    have hr : ∀ j c, r[j]? = some (some c) → i ≠ k + 1 + j := fun j c hj => by
      have := h (j + 1) c (by simpa using hj)
      omega
    cases b with
    | none => exact ih t (k + 1) hr
    | some b => exact (ih _ (k + 1) hr).trans (tabGet_tabSet_other _ t k i b (h 0 b (by simp)))

/-- A written byte reads back. -/
theorem tabGet_bytesSetEn_same (d : Byte) (bs : List (Option Byte)) (t : Tab Byte) (k j : Nat) (b : Byte)
    (h : bs[j]? = some (some b)) : tabGet (fun _ => d) (bytesSetEn d t k bs) (k + j) = b := by
  induction bs generalizing t k j with
  | nil => simp at h
  | cons c r ih =>
    cases j with
    | zero =>
      simp only [List.getElem?_cons_zero, Option.some.injEq] at h
      subst h
      have := tabGet_bytesSetEn_other d r (tabSet (fun _ => d) t k b) (k + 1) k (fun j _ _ => by omega)
      exact this.trans (tabGet_tabSet_same _ t k b)
    | succ j =>
      have hj : r[j]? = some (some b) := by simpa using h
      have e : k + (j + 1) = k + 1 + j := by omega
      cases c with
      | none => rw [e]; exact ih t (k + 1) j hj
      | some c => rw [e]; exact ih _ (k + 1) j hj

@[simp] theorem length_bytesGet (d : Byte) (t : Tab Byte) (k n : Nat) : (bytesGet d t k n).length = n := by simp [bytesGet]

theorem getElem?_bytesGet (d : Byte) (t : Tab Byte) (k n i : Nat) (h : i < n) :
    (bytesGet d t k n)[i]? = some (tabGet (fun _ => d) t (k + i)) := by simp [bytesGet, h]

/-- Bytes written whole read back whole. -/
theorem bytesGet_bytesSetEn (d : Byte) (bs : Bytes) (t : Tab Byte) (k : Nat) :
    bytesGet d (bytesSetEn d t k (bs.map some)) k bs.length = bs := by
  apply List.ext_getElem?
  intro i
  by_cases hi : i < bs.length
  · rw [getElem?_bytesGet _ _ _ _ _ hi, List.getElem?_eq_getElem hi,
      tabGet_bytesSetEn_same d _ t k i bs[i] (by simp [hi])]
  · rw [List.getElem?_eq_none (by simpa using hi), List.getElem?_eq_none (by omega)]

/-- Bytes apart from the written ones read as before. -/
theorem bytesGet_bytesSetEn_other (d : Byte) (bs : List (Option Byte)) (t : Tab Byte) (k i n : Nat)
    (h : i + n ≤ k ∨ k + bs.length ≤ i) : bytesGet d (bytesSetEn d t k bs) i n = bytesGet d t i n := by
  apply List.map_congr_left
  intro j hj
  refine tabGet_bytesSetEn_other d bs t k (i + j) fun l b hl => ?_
  have := (List.getElem?_eq_some_iff.mp hl).1
  have := List.mem_range.mp hj
  omega

end Sys2Proof.Machine
end

