-- ==== Sys2Proof/Laws/Reg.lean ====
section
/-! SUPPORT. Register reads after register writes, and what messages, status bits and raises leave alone. -/
namespace Sys2Proof.Machine

/-! ## Words -/

/-- The written bits of a register read as written, the others as before. -/
theorem Dev.reg_putBits_same (d : Dev) (a : Nat) (m w : Word) :
    (d.putBits a m w).reg a = (d.reg a &&& ~~~m) ||| (w &&& m) := by
  simp only [Dev.reg, Dev.raw, Dev.putBits, tabGet_tabSet_same]
  ext i
  simp only [BitVec.getElem_xor, BitVec.getElem_or, BitVec.getElem_and, BitVec.getElem_not]
  cases m[i] <;> simp

/-- Other registers read as before. -/
theorem Dev.reg_putBits_other (d : Dev) (a b : Nat) (m w : Word) (h : b ≠ a) : (d.putBits a m w).reg b = d.reg b := by
  simp only [Dev.reg, Dev.raw, Dev.putBits, tabGet_tabSet_other _ _ _ _ _ h]

/-! ## Fields -/

theorem Field.mask_getLsbD (f : Field) (i : Nat) (hi : i < 32) :
    f.mask.getLsbD i = (decide (f.lo ≤ i) && decide (i < f.lo + f.w)) := by
  simp only [Field.mask, BitVec.getLsbD_ofNat, hi, decide_true, Bool.true_and]
  rw [Nat.testBit_two_pow_mul]
  by_cases h : f.lo ≤ i
  · simp only [h, decide_true, Bool.true_and, Nat.testBit_two_pow_sub_one, decide_eq_decide]
    omega
  · simp [h]

/-- A field's value depends on its own bits only. -/
theorem Field.get_congr (f : Field) (v w : Word) (h : v &&& f.mask = w &&& f.mask) (hf : f.lo + f.w ≤ 32) :
    f.get v = f.get w := by
  simp only [Field.get]
  apply Nat.eq_of_testBit_eq
  intro i
  simp only [Nat.testBit_mod_two_pow, Nat.testBit_div_two_pow]
  by_cases hi : i < f.w
  · have e := congrArg (fun x : Word => x.getLsbD (i + f.lo)) h
    simp only [BitVec.getLsbD_and, f.mask_getLsbD (i + f.lo) (by omega)] at e
    have h1 : decide (f.lo ≤ i + f.lo) = true := by simp
    have h2 : decide (i + f.lo < f.lo + f.w) = true := by simp; omega
    simp only [h1, h2, Bool.and_true, BitVec.getLsbD] at e
    simp only [hi, decide_true, Bool.true_and, e]
  · simp [hi]

theorem Field.get_put_and (f : Field) (v : Nat) (hf : f.lo + f.w ≤ 32) : f.get (f.put 0 v &&& f.mask) = v % 2 ^ f.w := by
  simp only [Field.get]
  apply Nat.eq_of_testBit_eq
  intro i
  simp only [Nat.testBit_mod_two_pow, Nat.testBit_div_two_pow]
  by_cases hi : i < f.w
  · have hm := f.mask_getLsbD (i + f.lo) (by omega)
    simp only [BitVec.getLsbD] at hm
    have h2 : i + f.lo < f.lo + f.w := by omega
    simp only [hi, decide_true, Bool.true_and, BitVec.toNat_and, Nat.testBit_and, hm, Nat.le_add_left, h2, Bool.and_true,
      Field.put, BitVec.ofNat_eq_ofNat, BitVec.zero_and, BitVec.zero_or, BitVec.toNat_ofNat,
      Nat.testBit_mod_two_pow]
    rw [show decide (i + f.lo < 32) = true by simp; omega, Nat.testBit_two_pow_mul]
    simp [Nat.testBit_mod_two_pow, hi]
  · simp [hi]

/-- A field's value lies within its width. -/
theorem Dev.rd_lt (d : Dev) (p : Nat) (f : Field) : d.rd p f < 2 ^ f.w := Nat.mod_lt _ (Nat.two_pow_pos _)

/-- A field just set reads as set, modulo its width. -/
theorem Dev.rd_wr_same (d : Dev) (p : Nat) (f : Field) (v : Nat) (hf : f.lo + f.w ≤ 32) :
    (d.wr p f v).rd p f = v % 2 ^ f.w := by
  simp only [Dev.rd, Dev.wr, Dev.reg_putBits_same]
  rw [f.get_congr _ (f.put 0 v &&& f.mask) _ hf, f.get_put_and v hf]
  ext i
  simp only [BitVec.getElem_or, BitVec.getElem_and, BitVec.getElem_not]
  cases f.mask[i] <;> simp

/-- Setting a field leaves a register at another address. -/
theorem Dev.reg_wr_other (d : Dev) (p a : Nat) (f : Field) (v : Nat) (h : a ≠ addrOf p f.off) :
    (d.wr p f v).reg a = d.reg a := Dev.reg_putBits_other d _ a _ _ h

/-- Setting a field leaves a field of another register. -/
theorem Dev.rd_wr_other (d : Dev) (p q : Nat) (f g : Field) (v : Nat) (h : addrOf q g.off ≠ addrOf p f.off) :
    (d.wr p f v).rd q g = d.rd q g := by
  simp only [Dev.rd, Dev.reg_wr_other d p _ f v h]

/-- Setting a field leaves a field with other bits of the same register. -/
theorem Dev.rd_wr_disjoint (d : Dev) (p : Nat) (f g : Field) (v : Nat) (ho : g.off = f.off) (hm : g.mask &&& f.mask = 0)
    (hg : g.lo + g.w ≤ 32) : (d.wr p f v).rd p g = d.rd p g := by
  simp only [Dev.rd, Dev.wr, ho, Dev.reg_putBits_same]
  apply g.get_congr _ _ _ hg
  ext i
  have e := congrArg (fun x : Word => x[i]) hm
  simp only [BitVec.getElem_and, BitVec.ofNat_eq_ofNat, BitVec.getElem_zero] at e
  simp only [BitVec.getElem_or, BitVec.getElem_and, BitVec.getElem_not]
  cases hgm : g.mask[i] <;> cases hfm : f.mask[i] <;> simp_all

/-! ## Registers under what is no register write -/

/-- A member of a set just added or removed is as asked, the others as before. -/
theorem withBit_testBit (v i j : Nat) (b : Bool) : (withBit v i b).testBit j = if j = i then b else v.testBit j := by
  unfold withBit
  by_cases h : v.testBit i = b
  · rw [if_pos h]
    by_cases e : j = i
    · rw [if_pos e, e, h]
    · rw [if_neg e]
  · rw [if_neg h, Nat.testBit_xor, Nat.testBit_two_pow]
    by_cases e : j = i
    · rw [if_pos e, e]
      cases b <;> cases hb : v.testBit i <;> simp_all
    · rw [if_neg e, decide_eq_false (by omega), Bool.xor_false]

/-- A member of a bit-set field just set reads as set, the others as before. -/
theorem Dev.has_fbit (d : Dev) (p : Nat) (f : Field) (i j : Nat) (b : Bool) (hf : f.lo + f.w ≤ 32) (hj : j < f.w) :
    (d.fbit p f i b).has p f j = if j = i then b else d.has p f j := by
  simp only [Dev.has, Dev.fbit, d.rd_wr_same p f _ hf, Nat.testBit_mod_two_pow, hj, decide_true, Bool.true_and, withBit_testBit]

/-- A bit-set field keeps its other members, and a field elsewhere keeps its value. -/
theorem Dev.has_wr_other (d : Dev) (p q : Nat) (f g : Field) (v j : Nat) (h : addrOf q g.off ≠ addrOf p f.off) :
    (d.wr p f v).has q g j = d.has q g j := by
  simp only [Dev.has, d.rd_wr_other p q f g v h]

/-- A device whose registers and copies are those of another reads alike. -/
theorem Dev.reg_congr (d e : Dev) (a : Nat) (hr : e.regs = d.regs) (hu : e.upset = d.upset) : e.reg a = d.reg a := by
  simp only [Dev.reg, Dev.raw, hr, hu]

@[simp] theorem Dev.reg_emit (d : Dev) (m : Message) (a : Nat) : (d.emit m).reg a = d.reg a := by rfl
@[simp] theorem Dev.reg_raiseAs (d : Dev) (k : RaiseKind) (ch h a : Nat) : (d.raiseAs k ch h).reg a = d.reg a := by rfl
@[simp] theorem Dev.reg_raise (d : Dev) (src ch a : Nat) : (d.raise src ch).reg a = d.reg a := by rfl
@[simp] theorem Dev.reg_raiseSys (d : Dev) (ch a : Nat) : (d.raiseSys ch).reg a = d.reg a := by rfl
@[simp] theorem Dev.rd_emit (d : Dev) (m : Message) (p : Nat) (f : Field) : (d.emit m).rd p f = d.rd p f := by rfl
@[simp] theorem Dev.rd_raise (d : Dev) (src ch p : Nat) (f : Field) : (d.raise src ch).rd p f = d.rd p f := by rfl
@[simp] theorem Dev.rd_raiseSys (d : Dev) (ch p : Nat) (f : Field) : (d.raiseSys ch).rd p f = d.rd p f := by rfl

theorem Dev.reg_raiseIf (d : Dev) (p : Nat) (en ev : Field) (a : Nat) : (d.raiseIf p en ev).reg a = d.reg a := by
  unfold Dev.raiseIf
  split <;> rfl

/-- A message of a vector leaves every register. -/
theorem Dev.reg_sendMsix (d : Dev) (v a : Nat) : (d.sendMsix v).reg a = d.reg a := by
  unfold Dev.sendMsix
  split <;> rfl

/-- The addresses of the pending-bit words. -/
def isPba (a : Nat) : Prop := a = addrOf 0x17 F.MSIX_PBA_LO.off ∨ a = addrOf 0x17 F.MSIX_PBA_HI.off

/-- A message that leaves or waits changes only the pending-bit words. -/
theorem Dev.reg_request (d : Dev) (v a : Nat) (h : ¬isPba a) : (d.request v).reg a = d.reg a := by
  unfold Dev.request
  split
  · unfold Dev.fbit pbaField
    apply Dev.reg_wr_other
    intro e
    apply h
    unfold isPba
    split at e
    · exact .inl e
    · exact .inr e
  · exact Dev.reg_sendMsix d v a

/-- A request for a vector changes only the pending-bit words. -/
theorem Dev.reg_irq (d : Dev) (v a : Nat) (h : ¬isPba a) : (d.irq v).reg a = d.reg a := by
  unfold Dev.irq
  split
  · rfl
  · exact Dev.reg_request _ v a h

/-- Setting status bits writes PAGE_STAT, and may request a vector. -/
theorem Dev.statW_cases (d : Dev) (p : Nat) (b : Word) :
    d.statW p b = d.putBits (addrOf p 0x00C) b b ∨ ∃ v, d.statW p b = (d.putBits (addrOf p 0x00C) b b).irq v := by
  unfold Dev.statW
  simp only
  split
  · exact .inl rfl
  · exact .inr ⟨_, rfl⟩

/-- The end of a cycle leaves every register. -/
@[simp] theorem Dev.reg_cycle (d : Dev) (a : Nat) : d.cycle.reg a = d.reg a := by rfl
@[simp] theorem Dev.rd_cycle (d : Dev) (p : Nat) (f : Field) : d.cycle.rd p f = d.rd p f := by rfl

/-- Setting status bits changes only the page's PAGE_STAT and the pending-bit words. -/
theorem Dev.reg_statW (d : Dev) (p : Nat) (bits : Word) (a : Nat) (hs : a ≠ addrOf p 0x00C) (hp : ¬isPba a) :
    (d.statW p bits).reg a = d.reg a := by
  rcases Dev.statW_cases d p bits with h | ⟨v, h⟩
  · rw [h, Dev.reg_putBits_other d _ a _ _ hs]
  · rw [h, Dev.reg_irq _ _ a hp, Dev.reg_putBits_other d _ a _ _ hs]

theorem Dev.reg_stat (d : Dev) (p b : Nat) (a : Nat) (hs : a ≠ addrOf p 0x00C) (hp : ¬isPba a) :
    (d.stat p b).reg a = d.reg a := Dev.reg_statW d p _ a hs hp

/-- The page's PAGE_STAT takes the status bits. -/
theorem Dev.reg_statW_same (d : Dev) (p : Nat) (bits : Word) (hp : ¬isPba (addrOf p 0x00C)) :
    (d.statW p bits).reg (addrOf p 0x00C) = d.reg (addrOf p 0x00C) ||| bits := by
  have e : (d.putBits (addrOf p 0x00C) bits bits).reg (addrOf p 0x00C) = d.reg (addrOf p 0x00C) ||| bits := by
    rw [Dev.reg_putBits_same]
    ext i
    simp only [BitVec.getElem_or, BitVec.getElem_and, BitVec.getElem_not]
    cases bits[i] <;> simp
  rcases Dev.statW_cases d p bits with h | ⟨v, h⟩
  · rw [h, e]
  · rw [h, Dev.reg_irq _ _ _ hp, e]

/-- No PAGE_STAT is a pending-bit word. -/
theorem not_isPba_stat (p : Nat) : ¬isPba (addrOf p 0x00C) := by
  simp only [isPba, addrOf, F.MSIX_PBA_LO, F.MSIX_PBA_HI]
  omega

/-- The bit that `stat` sets is set. -/
theorem Dev.stat_bit (d : Dev) (p b : Nat) (hb : b < 32) : ((d.stat p b).reg (addrOf p 0x00C)).getLsbD b = true := by
  rw [Dev.stat, Dev.reg_statW_same d p _ (not_isPba_stat p)]
  simp [hb]

end Sys2Proof.Machine
end

