-- ==== Sys2Proof/Laws/State.lean ====
section
/-! SUPPORT. What each update of the state leaves alone, field by field: true by unfolding, so that no proof unfolds an update. -/
namespace Sys2Proof.Machine

/-! ## The machine -/

@[simp] theorem State.withDev_pending (s : State) (d : Dev) : (s.withDev d).pending = s.pending := rfl
@[simp] theorem State.withDev_mem (s : State) (d : Dev) : (s.withDev d).mem = s.mem := rfl
@[simp] theorem State.withDev_dev (s : State) (d : Dev) : (s.withDev d).dev = settle s.dev d := rfl
@[simp] theorem State.withBoth_pending (s : State) (x : Dev × Mem) : (s.withBoth x).pending = s.pending := rfl
@[simp] theorem State.withBoth_mem (s : State) (x : Dev × Mem) : (s.withBoth x).mem = x.2 := rfl
@[simp] theorem State.withBoth_dev (s : State) (x : Dev × Mem) : (s.withBoth x).dev = settle s.dev x.1 := rfl

/-! ## putBits -/

@[simp] theorem Dev.putBits_count (d : Dev) (a : Nat) (m w : Word) : (d.putBits a m w).count = d.count := by rfl
@[simp] theorem Dev.putBits_rtc (d : Dev) (a : Nat) (m w : Word) : (d.putBits a m w).rtc = d.rtc := by rfl
@[simp] theorem Dev.putBits_rtcFrac (d : Dev) (a : Nat) (m w : Word) : (d.putBits a m w).rtcFrac = d.rtcFrac := by rfl
@[simp] theorem Dev.putBits_free (d : Dev) (a : Nat) (m w : Word) : (d.putBits a m w).free = d.free := by rfl
@[simp] theorem Dev.putBits_answers (d : Dev) (a : Nat) (m w : Word) : (d.putBits a m w).answers = d.answers := by rfl
@[simp] theorem Dev.putBits_rbytes (d : Dev) (a : Nat) (m w : Word) : (d.putBits a m w).rbytes = d.rbytes := by rfl
@[simp] theorem Dev.putBits_sent (d : Dev) (a : Nat) (m w : Word) : (d.putBits a m w).sent = d.sent := by rfl
@[simp] theorem Dev.putBits_rose (d : Dev) (a : Nat) (m w : Word) : (d.putBits a m w).rose = d.rose := by rfl
@[simp] theorem Dev.putBits_prot (d : Dev) (a : Nat) (m w : Word) : (d.putBits a m w).prot = d.prot := by rfl
@[simp] theorem Dev.putBits_mw (d : Dev) (a : Nat) (m w : Word) : (d.putBits a m w).mw = d.mw := by rfl
@[simp] theorem Dev.putBits_prog (d : Dev) (a : Nat) (m w : Word) : (d.putBits a m w).prog = d.prog := by rfl
@[simp] theorem Dev.putBits_sqs (d : Dev) (a : Nat) (m w : Word) : (d.putBits a m w).sqs = d.sqs := by rfl
@[simp] theorem Dev.putBits_syns (d : Dev) (a : Nat) (m w : Word) : (d.putBits a m w).syns = d.syns := by rfl
@[simp] theorem Dev.putBits_refs (d : Dev) (a : Nat) (m w : Word) : (d.putBits a m w).refs = d.refs := by rfl
@[simp] theorem Dev.putBits_txs (d : Dev) (a : Nat) (m w : Word) : (d.putBits a m w).txs = d.txs := by rfl
@[simp] theorem Dev.putBits_rxs (d : Dev) (a : Nat) (m w : Word) : (d.putBits a m w).rxs = d.rxs := by rfl
@[simp] theorem Dev.putBits_bill (d : Dev) (a : Nat) (m w : Word) : (d.putBits a m w).bill = d.bill := by rfl
@[simp] theorem Dev.putBits_queues (d : Dev) (a : Nat) (m w : Word) : (d.putBits a m w).queues = d.queues := by rfl
@[simp] theorem Dev.putBits_banks (d : Dev) (a : Nat) (m w : Word) : (d.putBits a m w).banks = d.banks := by rfl
@[simp] theorem Dev.putBits_net (d : Dev) (a : Nat) (m w : Word) : (d.putBits a m w).net = d.net := by rfl
@[simp] theorem Dev.putBits_tiles (d : Dev) (a : Nat) (m w : Word) : (d.putBits a m w).tiles = d.tiles := by rfl
@[simp] theorem Dev.putBits_dm (d : Dev) (a : Nat) (m w : Word) : (d.putBits a m w).dm = d.dm := by rfl
@[simp] theorem Dev.putBits_caps (d : Dev) (a : Nat) (m w : Word) : (d.putBits a m w).caps = d.caps := by rfl
@[simp] theorem Dev.putBits_dmas (d : Dev) (a : Nat) (m w : Word) : (d.putBits a m w).dmas = d.dmas := by rfl
@[simp] theorem Dev.putBits_fbq (d : Dev) (a : Nat) (m w : Word) : (d.putBits a m w).fbq = d.fbq := by rfl
@[simp] theorem Dev.putBits_mail (d : Dev) (a : Nat) (m w : Word) : (d.putBits a m w).mail = d.mail := by rfl
@[simp] theorem Dev.putBits_ep (d : Dev) (a : Nat) (m w : Word) : (d.putBits a m w).ep = d.ep := by rfl
@[simp] theorem Dev.putBits_awgs (d : Dev) (a : Nat) (m w : Word) : (d.putBits a m w).awgs = d.awgs := by rfl
@[simp] theorem Dev.putBits_an (d : Dev) (a : Nat) (m w : Word) : (d.putBits a m w).an = d.an := by rfl
@[simp] theorem Dev.putBits_sec (d : Dev) (a : Nat) (m w : Word) : (d.putBits a m w).sec = d.sec := by rfl
@[simp] theorem Dev.putBits_ring (d : Dev) (a : Nat) (m w : Word) : (d.putBits a m w).ring = d.ring := by rfl

/-! ## wr -/

@[simp] theorem Dev.wr_count (d : Dev) (p : Nat) (f : Field) (v : Nat) : (d.wr p f v).count = d.count := Dev.putBits_count _ _ _ _
@[simp] theorem Dev.wr_rtc (d : Dev) (p : Nat) (f : Field) (v : Nat) : (d.wr p f v).rtc = d.rtc := Dev.putBits_rtc _ _ _ _
@[simp] theorem Dev.wr_rtcFrac (d : Dev) (p : Nat) (f : Field) (v : Nat) : (d.wr p f v).rtcFrac = d.rtcFrac := Dev.putBits_rtcFrac _ _ _ _
@[simp] theorem Dev.wr_free (d : Dev) (p : Nat) (f : Field) (v : Nat) : (d.wr p f v).free = d.free := Dev.putBits_free _ _ _ _
@[simp] theorem Dev.wr_answers (d : Dev) (p : Nat) (f : Field) (v : Nat) : (d.wr p f v).answers = d.answers := Dev.putBits_answers _ _ _ _
@[simp] theorem Dev.wr_rbytes (d : Dev) (p : Nat) (f : Field) (v : Nat) : (d.wr p f v).rbytes = d.rbytes := Dev.putBits_rbytes _ _ _ _
@[simp] theorem Dev.wr_sent (d : Dev) (p : Nat) (f : Field) (v : Nat) : (d.wr p f v).sent = d.sent := Dev.putBits_sent _ _ _ _
@[simp] theorem Dev.wr_rose (d : Dev) (p : Nat) (f : Field) (v : Nat) : (d.wr p f v).rose = d.rose := Dev.putBits_rose _ _ _ _
@[simp] theorem Dev.wr_prot (d : Dev) (p : Nat) (f : Field) (v : Nat) : (d.wr p f v).prot = d.prot := Dev.putBits_prot _ _ _ _
@[simp] theorem Dev.wr_mw (d : Dev) (p : Nat) (f : Field) (v : Nat) : (d.wr p f v).mw = d.mw := Dev.putBits_mw _ _ _ _
@[simp] theorem Dev.wr_prog (d : Dev) (p : Nat) (f : Field) (v : Nat) : (d.wr p f v).prog = d.prog := Dev.putBits_prog _ _ _ _
@[simp] theorem Dev.wr_sqs (d : Dev) (p : Nat) (f : Field) (v : Nat) : (d.wr p f v).sqs = d.sqs := Dev.putBits_sqs _ _ _ _
@[simp] theorem Dev.wr_syns (d : Dev) (p : Nat) (f : Field) (v : Nat) : (d.wr p f v).syns = d.syns := Dev.putBits_syns _ _ _ _
@[simp] theorem Dev.wr_refs (d : Dev) (p : Nat) (f : Field) (v : Nat) : (d.wr p f v).refs = d.refs := Dev.putBits_refs _ _ _ _
@[simp] theorem Dev.wr_txs (d : Dev) (p : Nat) (f : Field) (v : Nat) : (d.wr p f v).txs = d.txs := Dev.putBits_txs _ _ _ _
@[simp] theorem Dev.wr_rxs (d : Dev) (p : Nat) (f : Field) (v : Nat) : (d.wr p f v).rxs = d.rxs := Dev.putBits_rxs _ _ _ _
@[simp] theorem Dev.wr_bill (d : Dev) (p : Nat) (f : Field) (v : Nat) : (d.wr p f v).bill = d.bill := Dev.putBits_bill _ _ _ _
@[simp] theorem Dev.wr_queues (d : Dev) (p : Nat) (f : Field) (v : Nat) : (d.wr p f v).queues = d.queues := Dev.putBits_queues _ _ _ _
@[simp] theorem Dev.wr_banks (d : Dev) (p : Nat) (f : Field) (v : Nat) : (d.wr p f v).banks = d.banks := Dev.putBits_banks _ _ _ _
@[simp] theorem Dev.wr_net (d : Dev) (p : Nat) (f : Field) (v : Nat) : (d.wr p f v).net = d.net := Dev.putBits_net _ _ _ _
@[simp] theorem Dev.wr_tiles (d : Dev) (p : Nat) (f : Field) (v : Nat) : (d.wr p f v).tiles = d.tiles := Dev.putBits_tiles _ _ _ _
@[simp] theorem Dev.wr_dm (d : Dev) (p : Nat) (f : Field) (v : Nat) : (d.wr p f v).dm = d.dm := Dev.putBits_dm _ _ _ _
@[simp] theorem Dev.wr_caps (d : Dev) (p : Nat) (f : Field) (v : Nat) : (d.wr p f v).caps = d.caps := Dev.putBits_caps _ _ _ _
@[simp] theorem Dev.wr_dmas (d : Dev) (p : Nat) (f : Field) (v : Nat) : (d.wr p f v).dmas = d.dmas := Dev.putBits_dmas _ _ _ _
@[simp] theorem Dev.wr_fbq (d : Dev) (p : Nat) (f : Field) (v : Nat) : (d.wr p f v).fbq = d.fbq := Dev.putBits_fbq _ _ _ _
@[simp] theorem Dev.wr_mail (d : Dev) (p : Nat) (f : Field) (v : Nat) : (d.wr p f v).mail = d.mail := Dev.putBits_mail _ _ _ _
@[simp] theorem Dev.wr_ep (d : Dev) (p : Nat) (f : Field) (v : Nat) : (d.wr p f v).ep = d.ep := Dev.putBits_ep _ _ _ _
@[simp] theorem Dev.wr_awgs (d : Dev) (p : Nat) (f : Field) (v : Nat) : (d.wr p f v).awgs = d.awgs := Dev.putBits_awgs _ _ _ _
@[simp] theorem Dev.wr_an (d : Dev) (p : Nat) (f : Field) (v : Nat) : (d.wr p f v).an = d.an := Dev.putBits_an _ _ _ _
@[simp] theorem Dev.wr_sec (d : Dev) (p : Nat) (f : Field) (v : Nat) : (d.wr p f v).sec = d.sec := Dev.putBits_sec _ _ _ _
@[simp] theorem Dev.wr_ring (d : Dev) (p : Nat) (f : Field) (v : Nat) : (d.wr p f v).ring = d.ring := Dev.putBits_ring _ _ _ _

/-! ## bump -/

@[simp] theorem Dev.bump_count (d : Dev) (p : Nat) (f : Field) (n : Nat) : (d.bump p f n).count = d.count := Dev.wr_count _ _ _ _
@[simp] theorem Dev.bump_rtc (d : Dev) (p : Nat) (f : Field) (n : Nat) : (d.bump p f n).rtc = d.rtc := Dev.wr_rtc _ _ _ _
@[simp] theorem Dev.bump_rtcFrac (d : Dev) (p : Nat) (f : Field) (n : Nat) : (d.bump p f n).rtcFrac = d.rtcFrac := Dev.wr_rtcFrac _ _ _ _
@[simp] theorem Dev.bump_free (d : Dev) (p : Nat) (f : Field) (n : Nat) : (d.bump p f n).free = d.free := Dev.wr_free _ _ _ _
@[simp] theorem Dev.bump_answers (d : Dev) (p : Nat) (f : Field) (n : Nat) : (d.bump p f n).answers = d.answers := Dev.wr_answers _ _ _ _
@[simp] theorem Dev.bump_rbytes (d : Dev) (p : Nat) (f : Field) (n : Nat) : (d.bump p f n).rbytes = d.rbytes := Dev.wr_rbytes _ _ _ _
@[simp] theorem Dev.bump_sent (d : Dev) (p : Nat) (f : Field) (n : Nat) : (d.bump p f n).sent = d.sent := Dev.wr_sent _ _ _ _
@[simp] theorem Dev.bump_rose (d : Dev) (p : Nat) (f : Field) (n : Nat) : (d.bump p f n).rose = d.rose := Dev.wr_rose _ _ _ _
@[simp] theorem Dev.bump_prot (d : Dev) (p : Nat) (f : Field) (n : Nat) : (d.bump p f n).prot = d.prot := Dev.wr_prot _ _ _ _
@[simp] theorem Dev.bump_mw (d : Dev) (p : Nat) (f : Field) (n : Nat) : (d.bump p f n).mw = d.mw := Dev.wr_mw _ _ _ _
@[simp] theorem Dev.bump_prog (d : Dev) (p : Nat) (f : Field) (n : Nat) : (d.bump p f n).prog = d.prog := Dev.wr_prog _ _ _ _
@[simp] theorem Dev.bump_sqs (d : Dev) (p : Nat) (f : Field) (n : Nat) : (d.bump p f n).sqs = d.sqs := Dev.wr_sqs _ _ _ _
@[simp] theorem Dev.bump_syns (d : Dev) (p : Nat) (f : Field) (n : Nat) : (d.bump p f n).syns = d.syns := Dev.wr_syns _ _ _ _
@[simp] theorem Dev.bump_refs (d : Dev) (p : Nat) (f : Field) (n : Nat) : (d.bump p f n).refs = d.refs := Dev.wr_refs _ _ _ _
@[simp] theorem Dev.bump_txs (d : Dev) (p : Nat) (f : Field) (n : Nat) : (d.bump p f n).txs = d.txs := Dev.wr_txs _ _ _ _
@[simp] theorem Dev.bump_rxs (d : Dev) (p : Nat) (f : Field) (n : Nat) : (d.bump p f n).rxs = d.rxs := Dev.wr_rxs _ _ _ _
@[simp] theorem Dev.bump_bill (d : Dev) (p : Nat) (f : Field) (n : Nat) : (d.bump p f n).bill = d.bill := Dev.wr_bill _ _ _ _
@[simp] theorem Dev.bump_queues (d : Dev) (p : Nat) (f : Field) (n : Nat) : (d.bump p f n).queues = d.queues := Dev.wr_queues _ _ _ _
@[simp] theorem Dev.bump_banks (d : Dev) (p : Nat) (f : Field) (n : Nat) : (d.bump p f n).banks = d.banks := Dev.wr_banks _ _ _ _
@[simp] theorem Dev.bump_net (d : Dev) (p : Nat) (f : Field) (n : Nat) : (d.bump p f n).net = d.net := Dev.wr_net _ _ _ _
@[simp] theorem Dev.bump_tiles (d : Dev) (p : Nat) (f : Field) (n : Nat) : (d.bump p f n).tiles = d.tiles := Dev.wr_tiles _ _ _ _
@[simp] theorem Dev.bump_dm (d : Dev) (p : Nat) (f : Field) (n : Nat) : (d.bump p f n).dm = d.dm := Dev.wr_dm _ _ _ _
@[simp] theorem Dev.bump_caps (d : Dev) (p : Nat) (f : Field) (n : Nat) : (d.bump p f n).caps = d.caps := Dev.wr_caps _ _ _ _
@[simp] theorem Dev.bump_dmas (d : Dev) (p : Nat) (f : Field) (n : Nat) : (d.bump p f n).dmas = d.dmas := Dev.wr_dmas _ _ _ _
@[simp] theorem Dev.bump_fbq (d : Dev) (p : Nat) (f : Field) (n : Nat) : (d.bump p f n).fbq = d.fbq := Dev.wr_fbq _ _ _ _
@[simp] theorem Dev.bump_mail (d : Dev) (p : Nat) (f : Field) (n : Nat) : (d.bump p f n).mail = d.mail := Dev.wr_mail _ _ _ _
@[simp] theorem Dev.bump_ep (d : Dev) (p : Nat) (f : Field) (n : Nat) : (d.bump p f n).ep = d.ep := Dev.wr_ep _ _ _ _
@[simp] theorem Dev.bump_awgs (d : Dev) (p : Nat) (f : Field) (n : Nat) : (d.bump p f n).awgs = d.awgs := Dev.wr_awgs _ _ _ _
@[simp] theorem Dev.bump_an (d : Dev) (p : Nat) (f : Field) (n : Nat) : (d.bump p f n).an = d.an := Dev.wr_an _ _ _ _
@[simp] theorem Dev.bump_sec (d : Dev) (p : Nat) (f : Field) (n : Nat) : (d.bump p f n).sec = d.sec := Dev.wr_sec _ _ _ _
@[simp] theorem Dev.bump_ring (d : Dev) (p : Nat) (f : Field) (n : Nat) : (d.bump p f n).ring = d.ring := Dev.wr_ring _ _ _ _

/-! ## wrapUp -/

@[simp] theorem Dev.wrapUp_count (d : Dev) (p : Nat) (f : Field) (n : Nat) : (d.wrapUp p f n).count = d.count := Dev.wr_count _ _ _ _
@[simp] theorem Dev.wrapUp_rtc (d : Dev) (p : Nat) (f : Field) (n : Nat) : (d.wrapUp p f n).rtc = d.rtc := Dev.wr_rtc _ _ _ _
@[simp] theorem Dev.wrapUp_rtcFrac (d : Dev) (p : Nat) (f : Field) (n : Nat) : (d.wrapUp p f n).rtcFrac = d.rtcFrac := Dev.wr_rtcFrac _ _ _ _
@[simp] theorem Dev.wrapUp_free (d : Dev) (p : Nat) (f : Field) (n : Nat) : (d.wrapUp p f n).free = d.free := Dev.wr_free _ _ _ _
@[simp] theorem Dev.wrapUp_answers (d : Dev) (p : Nat) (f : Field) (n : Nat) : (d.wrapUp p f n).answers = d.answers := Dev.wr_answers _ _ _ _
@[simp] theorem Dev.wrapUp_rbytes (d : Dev) (p : Nat) (f : Field) (n : Nat) : (d.wrapUp p f n).rbytes = d.rbytes := Dev.wr_rbytes _ _ _ _
@[simp] theorem Dev.wrapUp_sent (d : Dev) (p : Nat) (f : Field) (n : Nat) : (d.wrapUp p f n).sent = d.sent := Dev.wr_sent _ _ _ _
@[simp] theorem Dev.wrapUp_rose (d : Dev) (p : Nat) (f : Field) (n : Nat) : (d.wrapUp p f n).rose = d.rose := Dev.wr_rose _ _ _ _
@[simp] theorem Dev.wrapUp_prot (d : Dev) (p : Nat) (f : Field) (n : Nat) : (d.wrapUp p f n).prot = d.prot := Dev.wr_prot _ _ _ _
@[simp] theorem Dev.wrapUp_mw (d : Dev) (p : Nat) (f : Field) (n : Nat) : (d.wrapUp p f n).mw = d.mw := Dev.wr_mw _ _ _ _
@[simp] theorem Dev.wrapUp_prog (d : Dev) (p : Nat) (f : Field) (n : Nat) : (d.wrapUp p f n).prog = d.prog := Dev.wr_prog _ _ _ _
@[simp] theorem Dev.wrapUp_sqs (d : Dev) (p : Nat) (f : Field) (n : Nat) : (d.wrapUp p f n).sqs = d.sqs := Dev.wr_sqs _ _ _ _
@[simp] theorem Dev.wrapUp_syns (d : Dev) (p : Nat) (f : Field) (n : Nat) : (d.wrapUp p f n).syns = d.syns := Dev.wr_syns _ _ _ _
@[simp] theorem Dev.wrapUp_refs (d : Dev) (p : Nat) (f : Field) (n : Nat) : (d.wrapUp p f n).refs = d.refs := Dev.wr_refs _ _ _ _
@[simp] theorem Dev.wrapUp_txs (d : Dev) (p : Nat) (f : Field) (n : Nat) : (d.wrapUp p f n).txs = d.txs := Dev.wr_txs _ _ _ _
@[simp] theorem Dev.wrapUp_rxs (d : Dev) (p : Nat) (f : Field) (n : Nat) : (d.wrapUp p f n).rxs = d.rxs := Dev.wr_rxs _ _ _ _
@[simp] theorem Dev.wrapUp_bill (d : Dev) (p : Nat) (f : Field) (n : Nat) : (d.wrapUp p f n).bill = d.bill := Dev.wr_bill _ _ _ _
@[simp] theorem Dev.wrapUp_queues (d : Dev) (p : Nat) (f : Field) (n : Nat) : (d.wrapUp p f n).queues = d.queues := Dev.wr_queues _ _ _ _
@[simp] theorem Dev.wrapUp_banks (d : Dev) (p : Nat) (f : Field) (n : Nat) : (d.wrapUp p f n).banks = d.banks := Dev.wr_banks _ _ _ _
@[simp] theorem Dev.wrapUp_net (d : Dev) (p : Nat) (f : Field) (n : Nat) : (d.wrapUp p f n).net = d.net := Dev.wr_net _ _ _ _
@[simp] theorem Dev.wrapUp_tiles (d : Dev) (p : Nat) (f : Field) (n : Nat) : (d.wrapUp p f n).tiles = d.tiles := Dev.wr_tiles _ _ _ _
@[simp] theorem Dev.wrapUp_dm (d : Dev) (p : Nat) (f : Field) (n : Nat) : (d.wrapUp p f n).dm = d.dm := Dev.wr_dm _ _ _ _
@[simp] theorem Dev.wrapUp_caps (d : Dev) (p : Nat) (f : Field) (n : Nat) : (d.wrapUp p f n).caps = d.caps := Dev.wr_caps _ _ _ _
@[simp] theorem Dev.wrapUp_dmas (d : Dev) (p : Nat) (f : Field) (n : Nat) : (d.wrapUp p f n).dmas = d.dmas := Dev.wr_dmas _ _ _ _
@[simp] theorem Dev.wrapUp_fbq (d : Dev) (p : Nat) (f : Field) (n : Nat) : (d.wrapUp p f n).fbq = d.fbq := Dev.wr_fbq _ _ _ _
@[simp] theorem Dev.wrapUp_mail (d : Dev) (p : Nat) (f : Field) (n : Nat) : (d.wrapUp p f n).mail = d.mail := Dev.wr_mail _ _ _ _
@[simp] theorem Dev.wrapUp_ep (d : Dev) (p : Nat) (f : Field) (n : Nat) : (d.wrapUp p f n).ep = d.ep := Dev.wr_ep _ _ _ _
@[simp] theorem Dev.wrapUp_awgs (d : Dev) (p : Nat) (f : Field) (n : Nat) : (d.wrapUp p f n).awgs = d.awgs := Dev.wr_awgs _ _ _ _
@[simp] theorem Dev.wrapUp_an (d : Dev) (p : Nat) (f : Field) (n : Nat) : (d.wrapUp p f n).an = d.an := Dev.wr_an _ _ _ _
@[simp] theorem Dev.wrapUp_sec (d : Dev) (p : Nat) (f : Field) (n : Nat) : (d.wrapUp p f n).sec = d.sec := Dev.wr_sec _ _ _ _
@[simp] theorem Dev.wrapUp_ring (d : Dev) (p : Nat) (f : Field) (n : Nat) : (d.wrapUp p f n).ring = d.ring := Dev.wr_ring _ _ _ _

/-! ## setBit -/

@[simp] theorem Dev.setBit_count (d : Dev) (p o i : Nat) (b : Bool) : (d.setBit p o i b).count = d.count := Dev.wr_count _ _ _ _
@[simp] theorem Dev.setBit_rtc (d : Dev) (p o i : Nat) (b : Bool) : (d.setBit p o i b).rtc = d.rtc := Dev.wr_rtc _ _ _ _
@[simp] theorem Dev.setBit_rtcFrac (d : Dev) (p o i : Nat) (b : Bool) : (d.setBit p o i b).rtcFrac = d.rtcFrac := Dev.wr_rtcFrac _ _ _ _
@[simp] theorem Dev.setBit_free (d : Dev) (p o i : Nat) (b : Bool) : (d.setBit p o i b).free = d.free := Dev.wr_free _ _ _ _
@[simp] theorem Dev.setBit_answers (d : Dev) (p o i : Nat) (b : Bool) : (d.setBit p o i b).answers = d.answers := Dev.wr_answers _ _ _ _
@[simp] theorem Dev.setBit_rbytes (d : Dev) (p o i : Nat) (b : Bool) : (d.setBit p o i b).rbytes = d.rbytes := Dev.wr_rbytes _ _ _ _
@[simp] theorem Dev.setBit_sent (d : Dev) (p o i : Nat) (b : Bool) : (d.setBit p o i b).sent = d.sent := Dev.wr_sent _ _ _ _
@[simp] theorem Dev.setBit_rose (d : Dev) (p o i : Nat) (b : Bool) : (d.setBit p o i b).rose = d.rose := Dev.wr_rose _ _ _ _
@[simp] theorem Dev.setBit_prot (d : Dev) (p o i : Nat) (b : Bool) : (d.setBit p o i b).prot = d.prot := Dev.wr_prot _ _ _ _
@[simp] theorem Dev.setBit_mw (d : Dev) (p o i : Nat) (b : Bool) : (d.setBit p o i b).mw = d.mw := Dev.wr_mw _ _ _ _
@[simp] theorem Dev.setBit_prog (d : Dev) (p o i : Nat) (b : Bool) : (d.setBit p o i b).prog = d.prog := Dev.wr_prog _ _ _ _
@[simp] theorem Dev.setBit_sqs (d : Dev) (p o i : Nat) (b : Bool) : (d.setBit p o i b).sqs = d.sqs := Dev.wr_sqs _ _ _ _
@[simp] theorem Dev.setBit_syns (d : Dev) (p o i : Nat) (b : Bool) : (d.setBit p o i b).syns = d.syns := Dev.wr_syns _ _ _ _
@[simp] theorem Dev.setBit_refs (d : Dev) (p o i : Nat) (b : Bool) : (d.setBit p o i b).refs = d.refs := Dev.wr_refs _ _ _ _
@[simp] theorem Dev.setBit_txs (d : Dev) (p o i : Nat) (b : Bool) : (d.setBit p o i b).txs = d.txs := Dev.wr_txs _ _ _ _
@[simp] theorem Dev.setBit_rxs (d : Dev) (p o i : Nat) (b : Bool) : (d.setBit p o i b).rxs = d.rxs := Dev.wr_rxs _ _ _ _
@[simp] theorem Dev.setBit_bill (d : Dev) (p o i : Nat) (b : Bool) : (d.setBit p o i b).bill = d.bill := Dev.wr_bill _ _ _ _
@[simp] theorem Dev.setBit_queues (d : Dev) (p o i : Nat) (b : Bool) : (d.setBit p o i b).queues = d.queues := Dev.wr_queues _ _ _ _
@[simp] theorem Dev.setBit_banks (d : Dev) (p o i : Nat) (b : Bool) : (d.setBit p o i b).banks = d.banks := Dev.wr_banks _ _ _ _
@[simp] theorem Dev.setBit_net (d : Dev) (p o i : Nat) (b : Bool) : (d.setBit p o i b).net = d.net := Dev.wr_net _ _ _ _
@[simp] theorem Dev.setBit_tiles (d : Dev) (p o i : Nat) (b : Bool) : (d.setBit p o i b).tiles = d.tiles := Dev.wr_tiles _ _ _ _
@[simp] theorem Dev.setBit_dm (d : Dev) (p o i : Nat) (b : Bool) : (d.setBit p o i b).dm = d.dm := Dev.wr_dm _ _ _ _
@[simp] theorem Dev.setBit_caps (d : Dev) (p o i : Nat) (b : Bool) : (d.setBit p o i b).caps = d.caps := Dev.wr_caps _ _ _ _
@[simp] theorem Dev.setBit_dmas (d : Dev) (p o i : Nat) (b : Bool) : (d.setBit p o i b).dmas = d.dmas := Dev.wr_dmas _ _ _ _
@[simp] theorem Dev.setBit_fbq (d : Dev) (p o i : Nat) (b : Bool) : (d.setBit p o i b).fbq = d.fbq := Dev.wr_fbq _ _ _ _
@[simp] theorem Dev.setBit_mail (d : Dev) (p o i : Nat) (b : Bool) : (d.setBit p o i b).mail = d.mail := Dev.wr_mail _ _ _ _
@[simp] theorem Dev.setBit_ep (d : Dev) (p o i : Nat) (b : Bool) : (d.setBit p o i b).ep = d.ep := Dev.wr_ep _ _ _ _
@[simp] theorem Dev.setBit_awgs (d : Dev) (p o i : Nat) (b : Bool) : (d.setBit p o i b).awgs = d.awgs := Dev.wr_awgs _ _ _ _
@[simp] theorem Dev.setBit_an (d : Dev) (p o i : Nat) (b : Bool) : (d.setBit p o i b).an = d.an := Dev.wr_an _ _ _ _
@[simp] theorem Dev.setBit_sec (d : Dev) (p o i : Nat) (b : Bool) : (d.setBit p o i b).sec = d.sec := Dev.wr_sec _ _ _ _
@[simp] theorem Dev.setBit_ring (d : Dev) (p o i : Nat) (b : Bool) : (d.setBit p o i b).ring = d.ring := Dev.wr_ring _ _ _ _

/-! ## fbit -/

@[simp] theorem Dev.fbit_count (d : Dev) (p : Nat) (f : Field) (i : Nat) (b : Bool) : (d.fbit p f i b).count = d.count := Dev.wr_count _ _ _ _
@[simp] theorem Dev.fbit_rtc (d : Dev) (p : Nat) (f : Field) (i : Nat) (b : Bool) : (d.fbit p f i b).rtc = d.rtc := Dev.wr_rtc _ _ _ _
@[simp] theorem Dev.fbit_rtcFrac (d : Dev) (p : Nat) (f : Field) (i : Nat) (b : Bool) : (d.fbit p f i b).rtcFrac = d.rtcFrac := Dev.wr_rtcFrac _ _ _ _
@[simp] theorem Dev.fbit_free (d : Dev) (p : Nat) (f : Field) (i : Nat) (b : Bool) : (d.fbit p f i b).free = d.free := Dev.wr_free _ _ _ _
@[simp] theorem Dev.fbit_answers (d : Dev) (p : Nat) (f : Field) (i : Nat) (b : Bool) : (d.fbit p f i b).answers = d.answers := Dev.wr_answers _ _ _ _
@[simp] theorem Dev.fbit_rbytes (d : Dev) (p : Nat) (f : Field) (i : Nat) (b : Bool) : (d.fbit p f i b).rbytes = d.rbytes := Dev.wr_rbytes _ _ _ _
@[simp] theorem Dev.fbit_sent (d : Dev) (p : Nat) (f : Field) (i : Nat) (b : Bool) : (d.fbit p f i b).sent = d.sent := Dev.wr_sent _ _ _ _
@[simp] theorem Dev.fbit_rose (d : Dev) (p : Nat) (f : Field) (i : Nat) (b : Bool) : (d.fbit p f i b).rose = d.rose := Dev.wr_rose _ _ _ _
@[simp] theorem Dev.fbit_prot (d : Dev) (p : Nat) (f : Field) (i : Nat) (b : Bool) : (d.fbit p f i b).prot = d.prot := Dev.wr_prot _ _ _ _
@[simp] theorem Dev.fbit_mw (d : Dev) (p : Nat) (f : Field) (i : Nat) (b : Bool) : (d.fbit p f i b).mw = d.mw := Dev.wr_mw _ _ _ _
@[simp] theorem Dev.fbit_prog (d : Dev) (p : Nat) (f : Field) (i : Nat) (b : Bool) : (d.fbit p f i b).prog = d.prog := Dev.wr_prog _ _ _ _
@[simp] theorem Dev.fbit_sqs (d : Dev) (p : Nat) (f : Field) (i : Nat) (b : Bool) : (d.fbit p f i b).sqs = d.sqs := Dev.wr_sqs _ _ _ _
@[simp] theorem Dev.fbit_syns (d : Dev) (p : Nat) (f : Field) (i : Nat) (b : Bool) : (d.fbit p f i b).syns = d.syns := Dev.wr_syns _ _ _ _
@[simp] theorem Dev.fbit_refs (d : Dev) (p : Nat) (f : Field) (i : Nat) (b : Bool) : (d.fbit p f i b).refs = d.refs := Dev.wr_refs _ _ _ _
@[simp] theorem Dev.fbit_txs (d : Dev) (p : Nat) (f : Field) (i : Nat) (b : Bool) : (d.fbit p f i b).txs = d.txs := Dev.wr_txs _ _ _ _
@[simp] theorem Dev.fbit_rxs (d : Dev) (p : Nat) (f : Field) (i : Nat) (b : Bool) : (d.fbit p f i b).rxs = d.rxs := Dev.wr_rxs _ _ _ _
@[simp] theorem Dev.fbit_bill (d : Dev) (p : Nat) (f : Field) (i : Nat) (b : Bool) : (d.fbit p f i b).bill = d.bill := Dev.wr_bill _ _ _ _
@[simp] theorem Dev.fbit_queues (d : Dev) (p : Nat) (f : Field) (i : Nat) (b : Bool) : (d.fbit p f i b).queues = d.queues := Dev.wr_queues _ _ _ _
@[simp] theorem Dev.fbit_banks (d : Dev) (p : Nat) (f : Field) (i : Nat) (b : Bool) : (d.fbit p f i b).banks = d.banks := Dev.wr_banks _ _ _ _
@[simp] theorem Dev.fbit_net (d : Dev) (p : Nat) (f : Field) (i : Nat) (b : Bool) : (d.fbit p f i b).net = d.net := Dev.wr_net _ _ _ _
@[simp] theorem Dev.fbit_tiles (d : Dev) (p : Nat) (f : Field) (i : Nat) (b : Bool) : (d.fbit p f i b).tiles = d.tiles := Dev.wr_tiles _ _ _ _
@[simp] theorem Dev.fbit_dm (d : Dev) (p : Nat) (f : Field) (i : Nat) (b : Bool) : (d.fbit p f i b).dm = d.dm := Dev.wr_dm _ _ _ _
@[simp] theorem Dev.fbit_caps (d : Dev) (p : Nat) (f : Field) (i : Nat) (b : Bool) : (d.fbit p f i b).caps = d.caps := Dev.wr_caps _ _ _ _
@[simp] theorem Dev.fbit_dmas (d : Dev) (p : Nat) (f : Field) (i : Nat) (b : Bool) : (d.fbit p f i b).dmas = d.dmas := Dev.wr_dmas _ _ _ _
@[simp] theorem Dev.fbit_fbq (d : Dev) (p : Nat) (f : Field) (i : Nat) (b : Bool) : (d.fbit p f i b).fbq = d.fbq := Dev.wr_fbq _ _ _ _
@[simp] theorem Dev.fbit_mail (d : Dev) (p : Nat) (f : Field) (i : Nat) (b : Bool) : (d.fbit p f i b).mail = d.mail := Dev.wr_mail _ _ _ _
@[simp] theorem Dev.fbit_ep (d : Dev) (p : Nat) (f : Field) (i : Nat) (b : Bool) : (d.fbit p f i b).ep = d.ep := Dev.wr_ep _ _ _ _
@[simp] theorem Dev.fbit_awgs (d : Dev) (p : Nat) (f : Field) (i : Nat) (b : Bool) : (d.fbit p f i b).awgs = d.awgs := Dev.wr_awgs _ _ _ _
@[simp] theorem Dev.fbit_an (d : Dev) (p : Nat) (f : Field) (i : Nat) (b : Bool) : (d.fbit p f i b).an = d.an := Dev.wr_an _ _ _ _
@[simp] theorem Dev.fbit_sec (d : Dev) (p : Nat) (f : Field) (i : Nat) (b : Bool) : (d.fbit p f i b).sec = d.sec := Dev.wr_sec _ _ _ _
@[simp] theorem Dev.fbit_ring (d : Dev) (p : Nat) (f : Field) (i : Nat) (b : Bool) : (d.fbit p f i b).ring = d.ring := Dev.wr_ring _ _ _ _

/-! ## wrPair -/

@[simp] theorem Dev.wrPair_count (d : Dev) (p : Nat) (f g : Field) (v : BitVec 64) : (d.wrPair p f g v).count = d.count := (Dev.wr_count _ _ _ _).trans (Dev.wr_count _ _ _ _)
@[simp] theorem Dev.wrPair_rtc (d : Dev) (p : Nat) (f g : Field) (v : BitVec 64) : (d.wrPair p f g v).rtc = d.rtc := (Dev.wr_rtc _ _ _ _).trans (Dev.wr_rtc _ _ _ _)
@[simp] theorem Dev.wrPair_rtcFrac (d : Dev) (p : Nat) (f g : Field) (v : BitVec 64) : (d.wrPair p f g v).rtcFrac = d.rtcFrac := (Dev.wr_rtcFrac _ _ _ _).trans (Dev.wr_rtcFrac _ _ _ _)
@[simp] theorem Dev.wrPair_free (d : Dev) (p : Nat) (f g : Field) (v : BitVec 64) : (d.wrPair p f g v).free = d.free := (Dev.wr_free _ _ _ _).trans (Dev.wr_free _ _ _ _)
@[simp] theorem Dev.wrPair_answers (d : Dev) (p : Nat) (f g : Field) (v : BitVec 64) : (d.wrPair p f g v).answers = d.answers := (Dev.wr_answers _ _ _ _).trans (Dev.wr_answers _ _ _ _)
@[simp] theorem Dev.wrPair_rbytes (d : Dev) (p : Nat) (f g : Field) (v : BitVec 64) : (d.wrPair p f g v).rbytes = d.rbytes := (Dev.wr_rbytes _ _ _ _).trans (Dev.wr_rbytes _ _ _ _)
@[simp] theorem Dev.wrPair_sent (d : Dev) (p : Nat) (f g : Field) (v : BitVec 64) : (d.wrPair p f g v).sent = d.sent := (Dev.wr_sent _ _ _ _).trans (Dev.wr_sent _ _ _ _)
@[simp] theorem Dev.wrPair_rose (d : Dev) (p : Nat) (f g : Field) (v : BitVec 64) : (d.wrPair p f g v).rose = d.rose := (Dev.wr_rose _ _ _ _).trans (Dev.wr_rose _ _ _ _)
@[simp] theorem Dev.wrPair_prot (d : Dev) (p : Nat) (f g : Field) (v : BitVec 64) : (d.wrPair p f g v).prot = d.prot := (Dev.wr_prot _ _ _ _).trans (Dev.wr_prot _ _ _ _)
@[simp] theorem Dev.wrPair_mw (d : Dev) (p : Nat) (f g : Field) (v : BitVec 64) : (d.wrPair p f g v).mw = d.mw := (Dev.wr_mw _ _ _ _).trans (Dev.wr_mw _ _ _ _)
@[simp] theorem Dev.wrPair_prog (d : Dev) (p : Nat) (f g : Field) (v : BitVec 64) : (d.wrPair p f g v).prog = d.prog := (Dev.wr_prog _ _ _ _).trans (Dev.wr_prog _ _ _ _)
@[simp] theorem Dev.wrPair_sqs (d : Dev) (p : Nat) (f g : Field) (v : BitVec 64) : (d.wrPair p f g v).sqs = d.sqs := (Dev.wr_sqs _ _ _ _).trans (Dev.wr_sqs _ _ _ _)
@[simp] theorem Dev.wrPair_syns (d : Dev) (p : Nat) (f g : Field) (v : BitVec 64) : (d.wrPair p f g v).syns = d.syns := (Dev.wr_syns _ _ _ _).trans (Dev.wr_syns _ _ _ _)
@[simp] theorem Dev.wrPair_refs (d : Dev) (p : Nat) (f g : Field) (v : BitVec 64) : (d.wrPair p f g v).refs = d.refs := (Dev.wr_refs _ _ _ _).trans (Dev.wr_refs _ _ _ _)
@[simp] theorem Dev.wrPair_txs (d : Dev) (p : Nat) (f g : Field) (v : BitVec 64) : (d.wrPair p f g v).txs = d.txs := (Dev.wr_txs _ _ _ _).trans (Dev.wr_txs _ _ _ _)
@[simp] theorem Dev.wrPair_rxs (d : Dev) (p : Nat) (f g : Field) (v : BitVec 64) : (d.wrPair p f g v).rxs = d.rxs := (Dev.wr_rxs _ _ _ _).trans (Dev.wr_rxs _ _ _ _)
@[simp] theorem Dev.wrPair_bill (d : Dev) (p : Nat) (f g : Field) (v : BitVec 64) : (d.wrPair p f g v).bill = d.bill := (Dev.wr_bill _ _ _ _).trans (Dev.wr_bill _ _ _ _)
@[simp] theorem Dev.wrPair_queues (d : Dev) (p : Nat) (f g : Field) (v : BitVec 64) : (d.wrPair p f g v).queues = d.queues := (Dev.wr_queues _ _ _ _).trans (Dev.wr_queues _ _ _ _)
@[simp] theorem Dev.wrPair_banks (d : Dev) (p : Nat) (f g : Field) (v : BitVec 64) : (d.wrPair p f g v).banks = d.banks := (Dev.wr_banks _ _ _ _).trans (Dev.wr_banks _ _ _ _)
@[simp] theorem Dev.wrPair_net (d : Dev) (p : Nat) (f g : Field) (v : BitVec 64) : (d.wrPair p f g v).net = d.net := (Dev.wr_net _ _ _ _).trans (Dev.wr_net _ _ _ _)
@[simp] theorem Dev.wrPair_tiles (d : Dev) (p : Nat) (f g : Field) (v : BitVec 64) : (d.wrPair p f g v).tiles = d.tiles := (Dev.wr_tiles _ _ _ _).trans (Dev.wr_tiles _ _ _ _)
@[simp] theorem Dev.wrPair_dm (d : Dev) (p : Nat) (f g : Field) (v : BitVec 64) : (d.wrPair p f g v).dm = d.dm := (Dev.wr_dm _ _ _ _).trans (Dev.wr_dm _ _ _ _)
@[simp] theorem Dev.wrPair_caps (d : Dev) (p : Nat) (f g : Field) (v : BitVec 64) : (d.wrPair p f g v).caps = d.caps := (Dev.wr_caps _ _ _ _).trans (Dev.wr_caps _ _ _ _)
@[simp] theorem Dev.wrPair_dmas (d : Dev) (p : Nat) (f g : Field) (v : BitVec 64) : (d.wrPair p f g v).dmas = d.dmas := (Dev.wr_dmas _ _ _ _).trans (Dev.wr_dmas _ _ _ _)
@[simp] theorem Dev.wrPair_fbq (d : Dev) (p : Nat) (f g : Field) (v : BitVec 64) : (d.wrPair p f g v).fbq = d.fbq := (Dev.wr_fbq _ _ _ _).trans (Dev.wr_fbq _ _ _ _)
@[simp] theorem Dev.wrPair_mail (d : Dev) (p : Nat) (f g : Field) (v : BitVec 64) : (d.wrPair p f g v).mail = d.mail := (Dev.wr_mail _ _ _ _).trans (Dev.wr_mail _ _ _ _)
@[simp] theorem Dev.wrPair_ep (d : Dev) (p : Nat) (f g : Field) (v : BitVec 64) : (d.wrPair p f g v).ep = d.ep := (Dev.wr_ep _ _ _ _).trans (Dev.wr_ep _ _ _ _)
@[simp] theorem Dev.wrPair_awgs (d : Dev) (p : Nat) (f g : Field) (v : BitVec 64) : (d.wrPair p f g v).awgs = d.awgs := (Dev.wr_awgs _ _ _ _).trans (Dev.wr_awgs _ _ _ _)
@[simp] theorem Dev.wrPair_an (d : Dev) (p : Nat) (f g : Field) (v : BitVec 64) : (d.wrPair p f g v).an = d.an := (Dev.wr_an _ _ _ _).trans (Dev.wr_an _ _ _ _)
@[simp] theorem Dev.wrPair_sec (d : Dev) (p : Nat) (f g : Field) (v : BitVec 64) : (d.wrPair p f g v).sec = d.sec := (Dev.wr_sec _ _ _ _).trans (Dev.wr_sec _ _ _ _)
@[simp] theorem Dev.wrPair_ring (d : Dev) (p : Nat) (f g : Field) (v : BitVec 64) : (d.wrPair p f g v).ring = d.ring := (Dev.wr_ring _ _ _ _).trans (Dev.wr_ring _ _ _ _)

/-! ## emit -/

@[simp] theorem Dev.emit_regs (d : Dev) (m : Message) : (d.emit m).regs = d.regs := by rfl
@[simp] theorem Dev.emit_upset (d : Dev) (m : Message) : (d.emit m).upset = d.upset := by rfl
@[simp] theorem Dev.emit_count (d : Dev) (m : Message) : (d.emit m).count = d.count := by rfl
@[simp] theorem Dev.emit_rtc (d : Dev) (m : Message) : (d.emit m).rtc = d.rtc := by rfl
@[simp] theorem Dev.emit_rtcFrac (d : Dev) (m : Message) : (d.emit m).rtcFrac = d.rtcFrac := by rfl
@[simp] theorem Dev.emit_free (d : Dev) (m : Message) : (d.emit m).free = d.free := by rfl
@[simp] theorem Dev.emit_answers (d : Dev) (m : Message) : (d.emit m).answers = d.answers := by rfl
@[simp] theorem Dev.emit_rbytes (d : Dev) (m : Message) : (d.emit m).rbytes = d.rbytes := by rfl
@[simp] theorem Dev.emit_rose (d : Dev) (m : Message) : (d.emit m).rose = d.rose := by rfl
@[simp] theorem Dev.emit_prot (d : Dev) (m : Message) : (d.emit m).prot = d.prot := by rfl
@[simp] theorem Dev.emit_mw (d : Dev) (m : Message) : (d.emit m).mw = d.mw := by rfl
@[simp] theorem Dev.emit_prog (d : Dev) (m : Message) : (d.emit m).prog = d.prog := by rfl
@[simp] theorem Dev.emit_sqs (d : Dev) (m : Message) : (d.emit m).sqs = d.sqs := by rfl
@[simp] theorem Dev.emit_syns (d : Dev) (m : Message) : (d.emit m).syns = d.syns := by rfl
@[simp] theorem Dev.emit_refs (d : Dev) (m : Message) : (d.emit m).refs = d.refs := by rfl
@[simp] theorem Dev.emit_txs (d : Dev) (m : Message) : (d.emit m).txs = d.txs := by rfl
@[simp] theorem Dev.emit_rxs (d : Dev) (m : Message) : (d.emit m).rxs = d.rxs := by rfl
@[simp] theorem Dev.emit_bill (d : Dev) (m : Message) : (d.emit m).bill = d.bill := by rfl
@[simp] theorem Dev.emit_queues (d : Dev) (m : Message) : (d.emit m).queues = d.queues := by rfl
@[simp] theorem Dev.emit_banks (d : Dev) (m : Message) : (d.emit m).banks = d.banks := by rfl
@[simp] theorem Dev.emit_net (d : Dev) (m : Message) : (d.emit m).net = d.net := by rfl
@[simp] theorem Dev.emit_tiles (d : Dev) (m : Message) : (d.emit m).tiles = d.tiles := by rfl
@[simp] theorem Dev.emit_dm (d : Dev) (m : Message) : (d.emit m).dm = d.dm := by rfl
@[simp] theorem Dev.emit_caps (d : Dev) (m : Message) : (d.emit m).caps = d.caps := by rfl
@[simp] theorem Dev.emit_dmas (d : Dev) (m : Message) : (d.emit m).dmas = d.dmas := by rfl
@[simp] theorem Dev.emit_fbq (d : Dev) (m : Message) : (d.emit m).fbq = d.fbq := by rfl
@[simp] theorem Dev.emit_mail (d : Dev) (m : Message) : (d.emit m).mail = d.mail := by rfl
@[simp] theorem Dev.emit_ep (d : Dev) (m : Message) : (d.emit m).ep = d.ep := by rfl
@[simp] theorem Dev.emit_awgs (d : Dev) (m : Message) : (d.emit m).awgs = d.awgs := by rfl
@[simp] theorem Dev.emit_an (d : Dev) (m : Message) : (d.emit m).an = d.an := by rfl
@[simp] theorem Dev.emit_sec (d : Dev) (m : Message) : (d.emit m).sec = d.sec := by rfl
@[simp] theorem Dev.emit_ring (d : Dev) (m : Message) : (d.emit m).ring = d.ring := by rfl

/-! ## raiseAs -/

@[simp] theorem Dev.raiseAs_regs (d : Dev) (k : RaiseKind) (c h : Nat) : (d.raiseAs k c h).regs = d.regs := by rfl
@[simp] theorem Dev.raiseAs_upset (d : Dev) (k : RaiseKind) (c h : Nat) : (d.raiseAs k c h).upset = d.upset := by rfl
@[simp] theorem Dev.raiseAs_count (d : Dev) (k : RaiseKind) (c h : Nat) : (d.raiseAs k c h).count = d.count := by rfl
@[simp] theorem Dev.raiseAs_rtc (d : Dev) (k : RaiseKind) (c h : Nat) : (d.raiseAs k c h).rtc = d.rtc := by rfl
@[simp] theorem Dev.raiseAs_rtcFrac (d : Dev) (k : RaiseKind) (c h : Nat) : (d.raiseAs k c h).rtcFrac = d.rtcFrac := by rfl
@[simp] theorem Dev.raiseAs_free (d : Dev) (k : RaiseKind) (c h : Nat) : (d.raiseAs k c h).free = d.free := by rfl
@[simp] theorem Dev.raiseAs_answers (d : Dev) (k : RaiseKind) (c h : Nat) : (d.raiseAs k c h).answers = d.answers := by rfl
@[simp] theorem Dev.raiseAs_rbytes (d : Dev) (k : RaiseKind) (c h : Nat) : (d.raiseAs k c h).rbytes = d.rbytes := by rfl
@[simp] theorem Dev.raiseAs_sent (d : Dev) (k : RaiseKind) (c h : Nat) : (d.raiseAs k c h).sent = d.sent := by rfl
@[simp] theorem Dev.raiseAs_rose (d : Dev) (k : RaiseKind) (c h : Nat) : (d.raiseAs k c h).rose = d.rose := by rfl
@[simp] theorem Dev.raiseAs_prot (d : Dev) (k : RaiseKind) (c h : Nat) : (d.raiseAs k c h).prot = d.prot := by rfl
@[simp] theorem Dev.raiseAs_prog (d : Dev) (k : RaiseKind) (c h : Nat) : (d.raiseAs k c h).prog = d.prog := by rfl
@[simp] theorem Dev.raiseAs_sqs (d : Dev) (k : RaiseKind) (c h : Nat) : (d.raiseAs k c h).sqs = d.sqs := by rfl
@[simp] theorem Dev.raiseAs_syns (d : Dev) (k : RaiseKind) (c h : Nat) : (d.raiseAs k c h).syns = d.syns := by rfl
@[simp] theorem Dev.raiseAs_refs (d : Dev) (k : RaiseKind) (c h : Nat) : (d.raiseAs k c h).refs = d.refs := by rfl
@[simp] theorem Dev.raiseAs_txs (d : Dev) (k : RaiseKind) (c h : Nat) : (d.raiseAs k c h).txs = d.txs := by rfl
@[simp] theorem Dev.raiseAs_rxs (d : Dev) (k : RaiseKind) (c h : Nat) : (d.raiseAs k c h).rxs = d.rxs := by rfl
@[simp] theorem Dev.raiseAs_bill (d : Dev) (k : RaiseKind) (c h : Nat) : (d.raiseAs k c h).bill = d.bill := by rfl
@[simp] theorem Dev.raiseAs_queues (d : Dev) (k : RaiseKind) (c h : Nat) : (d.raiseAs k c h).queues = d.queues := by rfl
@[simp] theorem Dev.raiseAs_banks (d : Dev) (k : RaiseKind) (c h : Nat) : (d.raiseAs k c h).banks = d.banks := by rfl
@[simp] theorem Dev.raiseAs_net (d : Dev) (k : RaiseKind) (c h : Nat) : (d.raiseAs k c h).net = d.net := by rfl
@[simp] theorem Dev.raiseAs_tiles (d : Dev) (k : RaiseKind) (c h : Nat) : (d.raiseAs k c h).tiles = d.tiles := by rfl
@[simp] theorem Dev.raiseAs_dm (d : Dev) (k : RaiseKind) (c h : Nat) : (d.raiseAs k c h).dm = d.dm := by rfl
@[simp] theorem Dev.raiseAs_caps (d : Dev) (k : RaiseKind) (c h : Nat) : (d.raiseAs k c h).caps = d.caps := by rfl
@[simp] theorem Dev.raiseAs_dmas (d : Dev) (k : RaiseKind) (c h : Nat) : (d.raiseAs k c h).dmas = d.dmas := by rfl
@[simp] theorem Dev.raiseAs_fbq (d : Dev) (k : RaiseKind) (c h : Nat) : (d.raiseAs k c h).fbq = d.fbq := by rfl
@[simp] theorem Dev.raiseAs_mail (d : Dev) (k : RaiseKind) (c h : Nat) : (d.raiseAs k c h).mail = d.mail := by rfl
@[simp] theorem Dev.raiseAs_ep (d : Dev) (k : RaiseKind) (c h : Nat) : (d.raiseAs k c h).ep = d.ep := by rfl
@[simp] theorem Dev.raiseAs_awgs (d : Dev) (k : RaiseKind) (c h : Nat) : (d.raiseAs k c h).awgs = d.awgs := by rfl
@[simp] theorem Dev.raiseAs_an (d : Dev) (k : RaiseKind) (c h : Nat) : (d.raiseAs k c h).an = d.an := by rfl
@[simp] theorem Dev.raiseAs_sec (d : Dev) (k : RaiseKind) (c h : Nat) : (d.raiseAs k c h).sec = d.sec := by rfl
@[simp] theorem Dev.raiseAs_ring (d : Dev) (k : RaiseKind) (c h : Nat) : (d.raiseAs k c h).ring = d.ring := by rfl

/-! ## raise -/

@[simp] theorem Dev.raise_regs (d : Dev) (src c : Nat) : (d.raise src c).regs = d.regs := Dev.raiseAs_regs _ _ _ _
@[simp] theorem Dev.raise_upset (d : Dev) (src c : Nat) : (d.raise src c).upset = d.upset := Dev.raiseAs_upset _ _ _ _
@[simp] theorem Dev.raise_count (d : Dev) (src c : Nat) : (d.raise src c).count = d.count := Dev.raiseAs_count _ _ _ _
@[simp] theorem Dev.raise_rtc (d : Dev) (src c : Nat) : (d.raise src c).rtc = d.rtc := Dev.raiseAs_rtc _ _ _ _
@[simp] theorem Dev.raise_rtcFrac (d : Dev) (src c : Nat) : (d.raise src c).rtcFrac = d.rtcFrac := Dev.raiseAs_rtcFrac _ _ _ _
@[simp] theorem Dev.raise_free (d : Dev) (src c : Nat) : (d.raise src c).free = d.free := Dev.raiseAs_free _ _ _ _
@[simp] theorem Dev.raise_answers (d : Dev) (src c : Nat) : (d.raise src c).answers = d.answers := Dev.raiseAs_answers _ _ _ _
@[simp] theorem Dev.raise_rbytes (d : Dev) (src c : Nat) : (d.raise src c).rbytes = d.rbytes := Dev.raiseAs_rbytes _ _ _ _
@[simp] theorem Dev.raise_sent (d : Dev) (src c : Nat) : (d.raise src c).sent = d.sent := Dev.raiseAs_sent _ _ _ _
@[simp] theorem Dev.raise_rose (d : Dev) (src c : Nat) : (d.raise src c).rose = d.rose := Dev.raiseAs_rose _ _ _ _
@[simp] theorem Dev.raise_prot (d : Dev) (src c : Nat) : (d.raise src c).prot = d.prot := Dev.raiseAs_prot _ _ _ _
@[simp] theorem Dev.raise_prog (d : Dev) (src c : Nat) : (d.raise src c).prog = d.prog := Dev.raiseAs_prog _ _ _ _
@[simp] theorem Dev.raise_sqs (d : Dev) (src c : Nat) : (d.raise src c).sqs = d.sqs := Dev.raiseAs_sqs _ _ _ _
@[simp] theorem Dev.raise_syns (d : Dev) (src c : Nat) : (d.raise src c).syns = d.syns := Dev.raiseAs_syns _ _ _ _
@[simp] theorem Dev.raise_refs (d : Dev) (src c : Nat) : (d.raise src c).refs = d.refs := Dev.raiseAs_refs _ _ _ _
@[simp] theorem Dev.raise_txs (d : Dev) (src c : Nat) : (d.raise src c).txs = d.txs := Dev.raiseAs_txs _ _ _ _
@[simp] theorem Dev.raise_rxs (d : Dev) (src c : Nat) : (d.raise src c).rxs = d.rxs := Dev.raiseAs_rxs _ _ _ _
@[simp] theorem Dev.raise_bill (d : Dev) (src c : Nat) : (d.raise src c).bill = d.bill := Dev.raiseAs_bill _ _ _ _
@[simp] theorem Dev.raise_queues (d : Dev) (src c : Nat) : (d.raise src c).queues = d.queues := Dev.raiseAs_queues _ _ _ _
@[simp] theorem Dev.raise_banks (d : Dev) (src c : Nat) : (d.raise src c).banks = d.banks := Dev.raiseAs_banks _ _ _ _
@[simp] theorem Dev.raise_net (d : Dev) (src c : Nat) : (d.raise src c).net = d.net := Dev.raiseAs_net _ _ _ _
@[simp] theorem Dev.raise_tiles (d : Dev) (src c : Nat) : (d.raise src c).tiles = d.tiles := Dev.raiseAs_tiles _ _ _ _
@[simp] theorem Dev.raise_dm (d : Dev) (src c : Nat) : (d.raise src c).dm = d.dm := Dev.raiseAs_dm _ _ _ _
@[simp] theorem Dev.raise_caps (d : Dev) (src c : Nat) : (d.raise src c).caps = d.caps := Dev.raiseAs_caps _ _ _ _
@[simp] theorem Dev.raise_dmas (d : Dev) (src c : Nat) : (d.raise src c).dmas = d.dmas := Dev.raiseAs_dmas _ _ _ _
@[simp] theorem Dev.raise_fbq (d : Dev) (src c : Nat) : (d.raise src c).fbq = d.fbq := Dev.raiseAs_fbq _ _ _ _
@[simp] theorem Dev.raise_mail (d : Dev) (src c : Nat) : (d.raise src c).mail = d.mail := Dev.raiseAs_mail _ _ _ _
@[simp] theorem Dev.raise_ep (d : Dev) (src c : Nat) : (d.raise src c).ep = d.ep := Dev.raiseAs_ep _ _ _ _
@[simp] theorem Dev.raise_awgs (d : Dev) (src c : Nat) : (d.raise src c).awgs = d.awgs := Dev.raiseAs_awgs _ _ _ _
@[simp] theorem Dev.raise_an (d : Dev) (src c : Nat) : (d.raise src c).an = d.an := Dev.raiseAs_an _ _ _ _
@[simp] theorem Dev.raise_sec (d : Dev) (src c : Nat) : (d.raise src c).sec = d.sec := Dev.raiseAs_sec _ _ _ _
@[simp] theorem Dev.raise_ring (d : Dev) (src c : Nat) : (d.raise src c).ring = d.ring := Dev.raiseAs_ring _ _ _ _

/-! ## raiseSys -/

@[simp] theorem Dev.raiseSys_regs (d : Dev) (c : Nat) : (d.raiseSys c).regs = d.regs := Dev.raiseAs_regs _ _ _ _
@[simp] theorem Dev.raiseSys_upset (d : Dev) (c : Nat) : (d.raiseSys c).upset = d.upset := Dev.raiseAs_upset _ _ _ _
@[simp] theorem Dev.raiseSys_count (d : Dev) (c : Nat) : (d.raiseSys c).count = d.count := Dev.raiseAs_count _ _ _ _
@[simp] theorem Dev.raiseSys_rtc (d : Dev) (c : Nat) : (d.raiseSys c).rtc = d.rtc := Dev.raiseAs_rtc _ _ _ _
@[simp] theorem Dev.raiseSys_rtcFrac (d : Dev) (c : Nat) : (d.raiseSys c).rtcFrac = d.rtcFrac := Dev.raiseAs_rtcFrac _ _ _ _
@[simp] theorem Dev.raiseSys_free (d : Dev) (c : Nat) : (d.raiseSys c).free = d.free := Dev.raiseAs_free _ _ _ _
@[simp] theorem Dev.raiseSys_answers (d : Dev) (c : Nat) : (d.raiseSys c).answers = d.answers := Dev.raiseAs_answers _ _ _ _
@[simp] theorem Dev.raiseSys_rbytes (d : Dev) (c : Nat) : (d.raiseSys c).rbytes = d.rbytes := Dev.raiseAs_rbytes _ _ _ _
@[simp] theorem Dev.raiseSys_sent (d : Dev) (c : Nat) : (d.raiseSys c).sent = d.sent := Dev.raiseAs_sent _ _ _ _
@[simp] theorem Dev.raiseSys_rose (d : Dev) (c : Nat) : (d.raiseSys c).rose = d.rose := Dev.raiseAs_rose _ _ _ _
@[simp] theorem Dev.raiseSys_prot (d : Dev) (c : Nat) : (d.raiseSys c).prot = d.prot := Dev.raiseAs_prot _ _ _ _
@[simp] theorem Dev.raiseSys_prog (d : Dev) (c : Nat) : (d.raiseSys c).prog = d.prog := Dev.raiseAs_prog _ _ _ _
@[simp] theorem Dev.raiseSys_sqs (d : Dev) (c : Nat) : (d.raiseSys c).sqs = d.sqs := Dev.raiseAs_sqs _ _ _ _
@[simp] theorem Dev.raiseSys_syns (d : Dev) (c : Nat) : (d.raiseSys c).syns = d.syns := Dev.raiseAs_syns _ _ _ _
@[simp] theorem Dev.raiseSys_refs (d : Dev) (c : Nat) : (d.raiseSys c).refs = d.refs := Dev.raiseAs_refs _ _ _ _
@[simp] theorem Dev.raiseSys_txs (d : Dev) (c : Nat) : (d.raiseSys c).txs = d.txs := Dev.raiseAs_txs _ _ _ _
@[simp] theorem Dev.raiseSys_rxs (d : Dev) (c : Nat) : (d.raiseSys c).rxs = d.rxs := Dev.raiseAs_rxs _ _ _ _
@[simp] theorem Dev.raiseSys_bill (d : Dev) (c : Nat) : (d.raiseSys c).bill = d.bill := Dev.raiseAs_bill _ _ _ _
@[simp] theorem Dev.raiseSys_queues (d : Dev) (c : Nat) : (d.raiseSys c).queues = d.queues := Dev.raiseAs_queues _ _ _ _
@[simp] theorem Dev.raiseSys_banks (d : Dev) (c : Nat) : (d.raiseSys c).banks = d.banks := Dev.raiseAs_banks _ _ _ _
@[simp] theorem Dev.raiseSys_net (d : Dev) (c : Nat) : (d.raiseSys c).net = d.net := Dev.raiseAs_net _ _ _ _
@[simp] theorem Dev.raiseSys_tiles (d : Dev) (c : Nat) : (d.raiseSys c).tiles = d.tiles := Dev.raiseAs_tiles _ _ _ _
@[simp] theorem Dev.raiseSys_dm (d : Dev) (c : Nat) : (d.raiseSys c).dm = d.dm := Dev.raiseAs_dm _ _ _ _
@[simp] theorem Dev.raiseSys_caps (d : Dev) (c : Nat) : (d.raiseSys c).caps = d.caps := Dev.raiseAs_caps _ _ _ _
@[simp] theorem Dev.raiseSys_dmas (d : Dev) (c : Nat) : (d.raiseSys c).dmas = d.dmas := Dev.raiseAs_dmas _ _ _ _
@[simp] theorem Dev.raiseSys_fbq (d : Dev) (c : Nat) : (d.raiseSys c).fbq = d.fbq := Dev.raiseAs_fbq _ _ _ _
@[simp] theorem Dev.raiseSys_mail (d : Dev) (c : Nat) : (d.raiseSys c).mail = d.mail := Dev.raiseAs_mail _ _ _ _
@[simp] theorem Dev.raiseSys_ep (d : Dev) (c : Nat) : (d.raiseSys c).ep = d.ep := Dev.raiseAs_ep _ _ _ _
@[simp] theorem Dev.raiseSys_awgs (d : Dev) (c : Nat) : (d.raiseSys c).awgs = d.awgs := Dev.raiseAs_awgs _ _ _ _
@[simp] theorem Dev.raiseSys_an (d : Dev) (c : Nat) : (d.raiseSys c).an = d.an := Dev.raiseAs_an _ _ _ _
@[simp] theorem Dev.raiseSys_sec (d : Dev) (c : Nat) : (d.raiseSys c).sec = d.sec := Dev.raiseAs_sec _ _ _ _
@[simp] theorem Dev.raiseSys_ring (d : Dev) (c : Nat) : (d.raiseSys c).ring = d.ring := Dev.raiseAs_ring _ _ _ _

/-! ## setSq -/

@[simp] theorem Dev.setSq_regs (d : Dev) (n : Nat) (x : Sq) : (d.setSq n x).regs = d.regs := by rfl
@[simp] theorem Dev.setSq_upset (d : Dev) (n : Nat) (x : Sq) : (d.setSq n x).upset = d.upset := by rfl
@[simp] theorem Dev.setSq_count (d : Dev) (n : Nat) (x : Sq) : (d.setSq n x).count = d.count := by rfl
@[simp] theorem Dev.setSq_rtc (d : Dev) (n : Nat) (x : Sq) : (d.setSq n x).rtc = d.rtc := by rfl
@[simp] theorem Dev.setSq_rtcFrac (d : Dev) (n : Nat) (x : Sq) : (d.setSq n x).rtcFrac = d.rtcFrac := by rfl
@[simp] theorem Dev.setSq_free (d : Dev) (n : Nat) (x : Sq) : (d.setSq n x).free = d.free := by rfl
@[simp] theorem Dev.setSq_answers (d : Dev) (n : Nat) (x : Sq) : (d.setSq n x).answers = d.answers := by rfl
@[simp] theorem Dev.setSq_rbytes (d : Dev) (n : Nat) (x : Sq) : (d.setSq n x).rbytes = d.rbytes := by rfl
@[simp] theorem Dev.setSq_sent (d : Dev) (n : Nat) (x : Sq) : (d.setSq n x).sent = d.sent := by rfl
@[simp] theorem Dev.setSq_rose (d : Dev) (n : Nat) (x : Sq) : (d.setSq n x).rose = d.rose := by rfl
@[simp] theorem Dev.setSq_prot (d : Dev) (n : Nat) (x : Sq) : (d.setSq n x).prot = d.prot := by rfl
@[simp] theorem Dev.setSq_mw (d : Dev) (n : Nat) (x : Sq) : (d.setSq n x).mw = d.mw := by rfl
@[simp] theorem Dev.setSq_prog (d : Dev) (n : Nat) (x : Sq) : (d.setSq n x).prog = d.prog := by rfl
@[simp] theorem Dev.setSq_syns (d : Dev) (n : Nat) (x : Sq) : (d.setSq n x).syns = d.syns := by rfl
@[simp] theorem Dev.setSq_refs (d : Dev) (n : Nat) (x : Sq) : (d.setSq n x).refs = d.refs := by rfl
@[simp] theorem Dev.setSq_txs (d : Dev) (n : Nat) (x : Sq) : (d.setSq n x).txs = d.txs := by rfl
@[simp] theorem Dev.setSq_rxs (d : Dev) (n : Nat) (x : Sq) : (d.setSq n x).rxs = d.rxs := by rfl
@[simp] theorem Dev.setSq_bill (d : Dev) (n : Nat) (x : Sq) : (d.setSq n x).bill = d.bill := by rfl
@[simp] theorem Dev.setSq_queues (d : Dev) (n : Nat) (x : Sq) : (d.setSq n x).queues = d.queues := by rfl
@[simp] theorem Dev.setSq_banks (d : Dev) (n : Nat) (x : Sq) : (d.setSq n x).banks = d.banks := by rfl
@[simp] theorem Dev.setSq_net (d : Dev) (n : Nat) (x : Sq) : (d.setSq n x).net = d.net := by rfl
@[simp] theorem Dev.setSq_tiles (d : Dev) (n : Nat) (x : Sq) : (d.setSq n x).tiles = d.tiles := by rfl
@[simp] theorem Dev.setSq_dm (d : Dev) (n : Nat) (x : Sq) : (d.setSq n x).dm = d.dm := by rfl
@[simp] theorem Dev.setSq_caps (d : Dev) (n : Nat) (x : Sq) : (d.setSq n x).caps = d.caps := by rfl
@[simp] theorem Dev.setSq_dmas (d : Dev) (n : Nat) (x : Sq) : (d.setSq n x).dmas = d.dmas := by rfl
@[simp] theorem Dev.setSq_fbq (d : Dev) (n : Nat) (x : Sq) : (d.setSq n x).fbq = d.fbq := by rfl
@[simp] theorem Dev.setSq_mail (d : Dev) (n : Nat) (x : Sq) : (d.setSq n x).mail = d.mail := by rfl
@[simp] theorem Dev.setSq_ep (d : Dev) (n : Nat) (x : Sq) : (d.setSq n x).ep = d.ep := by rfl
@[simp] theorem Dev.setSq_awgs (d : Dev) (n : Nat) (x : Sq) : (d.setSq n x).awgs = d.awgs := by rfl
@[simp] theorem Dev.setSq_an (d : Dev) (n : Nat) (x : Sq) : (d.setSq n x).an = d.an := by rfl
@[simp] theorem Dev.setSq_sec (d : Dev) (n : Nat) (x : Sq) : (d.setSq n x).sec = d.sec := by rfl
@[simp] theorem Dev.setSq_ring (d : Dev) (n : Nat) (x : Sq) : (d.setSq n x).ring = d.ring := by rfl

/-! ## setTx -/

@[simp] theorem Dev.setTx_regs (d : Dev) (n : Nat) (x : Tx) : (d.setTx n x).regs = d.regs := by rfl
@[simp] theorem Dev.setTx_upset (d : Dev) (n : Nat) (x : Tx) : (d.setTx n x).upset = d.upset := by rfl
@[simp] theorem Dev.setTx_count (d : Dev) (n : Nat) (x : Tx) : (d.setTx n x).count = d.count := by rfl
@[simp] theorem Dev.setTx_rtc (d : Dev) (n : Nat) (x : Tx) : (d.setTx n x).rtc = d.rtc := by rfl
@[simp] theorem Dev.setTx_rtcFrac (d : Dev) (n : Nat) (x : Tx) : (d.setTx n x).rtcFrac = d.rtcFrac := by rfl
@[simp] theorem Dev.setTx_free (d : Dev) (n : Nat) (x : Tx) : (d.setTx n x).free = d.free := by rfl
@[simp] theorem Dev.setTx_answers (d : Dev) (n : Nat) (x : Tx) : (d.setTx n x).answers = d.answers := by rfl
@[simp] theorem Dev.setTx_rbytes (d : Dev) (n : Nat) (x : Tx) : (d.setTx n x).rbytes = d.rbytes := by rfl
@[simp] theorem Dev.setTx_sent (d : Dev) (n : Nat) (x : Tx) : (d.setTx n x).sent = d.sent := by rfl
@[simp] theorem Dev.setTx_rose (d : Dev) (n : Nat) (x : Tx) : (d.setTx n x).rose = d.rose := by rfl
@[simp] theorem Dev.setTx_prot (d : Dev) (n : Nat) (x : Tx) : (d.setTx n x).prot = d.prot := by rfl
@[simp] theorem Dev.setTx_mw (d : Dev) (n : Nat) (x : Tx) : (d.setTx n x).mw = d.mw := by rfl
@[simp] theorem Dev.setTx_prog (d : Dev) (n : Nat) (x : Tx) : (d.setTx n x).prog = d.prog := by rfl
@[simp] theorem Dev.setTx_sqs (d : Dev) (n : Nat) (x : Tx) : (d.setTx n x).sqs = d.sqs := by rfl
@[simp] theorem Dev.setTx_syns (d : Dev) (n : Nat) (x : Tx) : (d.setTx n x).syns = d.syns := by rfl
@[simp] theorem Dev.setTx_refs (d : Dev) (n : Nat) (x : Tx) : (d.setTx n x).refs = d.refs := by rfl
@[simp] theorem Dev.setTx_rxs (d : Dev) (n : Nat) (x : Tx) : (d.setTx n x).rxs = d.rxs := by rfl
@[simp] theorem Dev.setTx_bill (d : Dev) (n : Nat) (x : Tx) : (d.setTx n x).bill = d.bill := by rfl
@[simp] theorem Dev.setTx_queues (d : Dev) (n : Nat) (x : Tx) : (d.setTx n x).queues = d.queues := by rfl
@[simp] theorem Dev.setTx_banks (d : Dev) (n : Nat) (x : Tx) : (d.setTx n x).banks = d.banks := by rfl
@[simp] theorem Dev.setTx_net (d : Dev) (n : Nat) (x : Tx) : (d.setTx n x).net = d.net := by rfl
@[simp] theorem Dev.setTx_tiles (d : Dev) (n : Nat) (x : Tx) : (d.setTx n x).tiles = d.tiles := by rfl
@[simp] theorem Dev.setTx_dm (d : Dev) (n : Nat) (x : Tx) : (d.setTx n x).dm = d.dm := by rfl
@[simp] theorem Dev.setTx_caps (d : Dev) (n : Nat) (x : Tx) : (d.setTx n x).caps = d.caps := by rfl
@[simp] theorem Dev.setTx_dmas (d : Dev) (n : Nat) (x : Tx) : (d.setTx n x).dmas = d.dmas := by rfl
@[simp] theorem Dev.setTx_fbq (d : Dev) (n : Nat) (x : Tx) : (d.setTx n x).fbq = d.fbq := by rfl
@[simp] theorem Dev.setTx_mail (d : Dev) (n : Nat) (x : Tx) : (d.setTx n x).mail = d.mail := by rfl
@[simp] theorem Dev.setTx_ep (d : Dev) (n : Nat) (x : Tx) : (d.setTx n x).ep = d.ep := by rfl
@[simp] theorem Dev.setTx_awgs (d : Dev) (n : Nat) (x : Tx) : (d.setTx n x).awgs = d.awgs := by rfl
@[simp] theorem Dev.setTx_an (d : Dev) (n : Nat) (x : Tx) : (d.setTx n x).an = d.an := by rfl
@[simp] theorem Dev.setTx_sec (d : Dev) (n : Nat) (x : Tx) : (d.setTx n x).sec = d.sec := by rfl
@[simp] theorem Dev.setTx_ring (d : Dev) (n : Nat) (x : Tx) : (d.setTx n x).ring = d.ring := by rfl

/-! ## setRx -/

@[simp] theorem Dev.setRx_regs (d : Dev) (n : Nat) (x : Rx) : (d.setRx n x).regs = d.regs := by rfl
@[simp] theorem Dev.setRx_upset (d : Dev) (n : Nat) (x : Rx) : (d.setRx n x).upset = d.upset := by rfl
@[simp] theorem Dev.setRx_count (d : Dev) (n : Nat) (x : Rx) : (d.setRx n x).count = d.count := by rfl
@[simp] theorem Dev.setRx_rtc (d : Dev) (n : Nat) (x : Rx) : (d.setRx n x).rtc = d.rtc := by rfl
@[simp] theorem Dev.setRx_rtcFrac (d : Dev) (n : Nat) (x : Rx) : (d.setRx n x).rtcFrac = d.rtcFrac := by rfl
@[simp] theorem Dev.setRx_free (d : Dev) (n : Nat) (x : Rx) : (d.setRx n x).free = d.free := by rfl
@[simp] theorem Dev.setRx_answers (d : Dev) (n : Nat) (x : Rx) : (d.setRx n x).answers = d.answers := by rfl
@[simp] theorem Dev.setRx_rbytes (d : Dev) (n : Nat) (x : Rx) : (d.setRx n x).rbytes = d.rbytes := by rfl
@[simp] theorem Dev.setRx_sent (d : Dev) (n : Nat) (x : Rx) : (d.setRx n x).sent = d.sent := by rfl
@[simp] theorem Dev.setRx_rose (d : Dev) (n : Nat) (x : Rx) : (d.setRx n x).rose = d.rose := by rfl
@[simp] theorem Dev.setRx_prot (d : Dev) (n : Nat) (x : Rx) : (d.setRx n x).prot = d.prot := by rfl
@[simp] theorem Dev.setRx_mw (d : Dev) (n : Nat) (x : Rx) : (d.setRx n x).mw = d.mw := by rfl
@[simp] theorem Dev.setRx_prog (d : Dev) (n : Nat) (x : Rx) : (d.setRx n x).prog = d.prog := by rfl
@[simp] theorem Dev.setRx_sqs (d : Dev) (n : Nat) (x : Rx) : (d.setRx n x).sqs = d.sqs := by rfl
@[simp] theorem Dev.setRx_syns (d : Dev) (n : Nat) (x : Rx) : (d.setRx n x).syns = d.syns := by rfl
@[simp] theorem Dev.setRx_refs (d : Dev) (n : Nat) (x : Rx) : (d.setRx n x).refs = d.refs := by rfl
@[simp] theorem Dev.setRx_txs (d : Dev) (n : Nat) (x : Rx) : (d.setRx n x).txs = d.txs := by rfl
@[simp] theorem Dev.setRx_bill (d : Dev) (n : Nat) (x : Rx) : (d.setRx n x).bill = d.bill := by rfl
@[simp] theorem Dev.setRx_queues (d : Dev) (n : Nat) (x : Rx) : (d.setRx n x).queues = d.queues := by rfl
@[simp] theorem Dev.setRx_banks (d : Dev) (n : Nat) (x : Rx) : (d.setRx n x).banks = d.banks := by rfl
@[simp] theorem Dev.setRx_net (d : Dev) (n : Nat) (x : Rx) : (d.setRx n x).net = d.net := by rfl
@[simp] theorem Dev.setRx_tiles (d : Dev) (n : Nat) (x : Rx) : (d.setRx n x).tiles = d.tiles := by rfl
@[simp] theorem Dev.setRx_dm (d : Dev) (n : Nat) (x : Rx) : (d.setRx n x).dm = d.dm := by rfl
@[simp] theorem Dev.setRx_caps (d : Dev) (n : Nat) (x : Rx) : (d.setRx n x).caps = d.caps := by rfl
@[simp] theorem Dev.setRx_dmas (d : Dev) (n : Nat) (x : Rx) : (d.setRx n x).dmas = d.dmas := by rfl
@[simp] theorem Dev.setRx_fbq (d : Dev) (n : Nat) (x : Rx) : (d.setRx n x).fbq = d.fbq := by rfl
@[simp] theorem Dev.setRx_mail (d : Dev) (n : Nat) (x : Rx) : (d.setRx n x).mail = d.mail := by rfl
@[simp] theorem Dev.setRx_ep (d : Dev) (n : Nat) (x : Rx) : (d.setRx n x).ep = d.ep := by rfl
@[simp] theorem Dev.setRx_awgs (d : Dev) (n : Nat) (x : Rx) : (d.setRx n x).awgs = d.awgs := by rfl
@[simp] theorem Dev.setRx_an (d : Dev) (n : Nat) (x : Rx) : (d.setRx n x).an = d.an := by rfl
@[simp] theorem Dev.setRx_sec (d : Dev) (n : Nat) (x : Rx) : (d.setRx n x).sec = d.sec := by rfl
@[simp] theorem Dev.setRx_ring (d : Dev) (n : Nat) (x : Rx) : (d.setRx n x).ring = d.ring := by rfl

/-! ## setSyn -/

@[simp] theorem Dev.setSyn_regs (d : Dev) (n : Nat) (x : Syn) : (d.setSyn n x).regs = d.regs := by rfl
@[simp] theorem Dev.setSyn_upset (d : Dev) (n : Nat) (x : Syn) : (d.setSyn n x).upset = d.upset := by rfl
@[simp] theorem Dev.setSyn_count (d : Dev) (n : Nat) (x : Syn) : (d.setSyn n x).count = d.count := by rfl
@[simp] theorem Dev.setSyn_rtc (d : Dev) (n : Nat) (x : Syn) : (d.setSyn n x).rtc = d.rtc := by rfl
@[simp] theorem Dev.setSyn_rtcFrac (d : Dev) (n : Nat) (x : Syn) : (d.setSyn n x).rtcFrac = d.rtcFrac := by rfl
@[simp] theorem Dev.setSyn_free (d : Dev) (n : Nat) (x : Syn) : (d.setSyn n x).free = d.free := by rfl
@[simp] theorem Dev.setSyn_answers (d : Dev) (n : Nat) (x : Syn) : (d.setSyn n x).answers = d.answers := by rfl
@[simp] theorem Dev.setSyn_rbytes (d : Dev) (n : Nat) (x : Syn) : (d.setSyn n x).rbytes = d.rbytes := by rfl
@[simp] theorem Dev.setSyn_sent (d : Dev) (n : Nat) (x : Syn) : (d.setSyn n x).sent = d.sent := by rfl
@[simp] theorem Dev.setSyn_rose (d : Dev) (n : Nat) (x : Syn) : (d.setSyn n x).rose = d.rose := by rfl
@[simp] theorem Dev.setSyn_prot (d : Dev) (n : Nat) (x : Syn) : (d.setSyn n x).prot = d.prot := by rfl
@[simp] theorem Dev.setSyn_mw (d : Dev) (n : Nat) (x : Syn) : (d.setSyn n x).mw = d.mw := by rfl
@[simp] theorem Dev.setSyn_prog (d : Dev) (n : Nat) (x : Syn) : (d.setSyn n x).prog = d.prog := by rfl
@[simp] theorem Dev.setSyn_sqs (d : Dev) (n : Nat) (x : Syn) : (d.setSyn n x).sqs = d.sqs := by rfl
@[simp] theorem Dev.setSyn_refs (d : Dev) (n : Nat) (x : Syn) : (d.setSyn n x).refs = d.refs := by rfl
@[simp] theorem Dev.setSyn_txs (d : Dev) (n : Nat) (x : Syn) : (d.setSyn n x).txs = d.txs := by rfl
@[simp] theorem Dev.setSyn_rxs (d : Dev) (n : Nat) (x : Syn) : (d.setSyn n x).rxs = d.rxs := by rfl
@[simp] theorem Dev.setSyn_bill (d : Dev) (n : Nat) (x : Syn) : (d.setSyn n x).bill = d.bill := by rfl
@[simp] theorem Dev.setSyn_queues (d : Dev) (n : Nat) (x : Syn) : (d.setSyn n x).queues = d.queues := by rfl
@[simp] theorem Dev.setSyn_banks (d : Dev) (n : Nat) (x : Syn) : (d.setSyn n x).banks = d.banks := by rfl
@[simp] theorem Dev.setSyn_net (d : Dev) (n : Nat) (x : Syn) : (d.setSyn n x).net = d.net := by rfl
@[simp] theorem Dev.setSyn_tiles (d : Dev) (n : Nat) (x : Syn) : (d.setSyn n x).tiles = d.tiles := by rfl
@[simp] theorem Dev.setSyn_dm (d : Dev) (n : Nat) (x : Syn) : (d.setSyn n x).dm = d.dm := by rfl
@[simp] theorem Dev.setSyn_caps (d : Dev) (n : Nat) (x : Syn) : (d.setSyn n x).caps = d.caps := by rfl
@[simp] theorem Dev.setSyn_dmas (d : Dev) (n : Nat) (x : Syn) : (d.setSyn n x).dmas = d.dmas := by rfl
@[simp] theorem Dev.setSyn_fbq (d : Dev) (n : Nat) (x : Syn) : (d.setSyn n x).fbq = d.fbq := by rfl
@[simp] theorem Dev.setSyn_mail (d : Dev) (n : Nat) (x : Syn) : (d.setSyn n x).mail = d.mail := by rfl
@[simp] theorem Dev.setSyn_ep (d : Dev) (n : Nat) (x : Syn) : (d.setSyn n x).ep = d.ep := by rfl
@[simp] theorem Dev.setSyn_awgs (d : Dev) (n : Nat) (x : Syn) : (d.setSyn n x).awgs = d.awgs := by rfl
@[simp] theorem Dev.setSyn_an (d : Dev) (n : Nat) (x : Syn) : (d.setSyn n x).an = d.an := by rfl
@[simp] theorem Dev.setSyn_sec (d : Dev) (n : Nat) (x : Syn) : (d.setSyn n x).sec = d.sec := by rfl
@[simp] theorem Dev.setSyn_ring (d : Dev) (n : Nat) (x : Syn) : (d.setSyn n x).ring = d.ring := by rfl

/-! ## setCell -/

@[simp] theorem Dev.setCell_regs (d : Dev) (n : Nat) (x : Cell) : (d.setCell n x).regs = d.regs := by rfl
@[simp] theorem Dev.setCell_upset (d : Dev) (n : Nat) (x : Cell) : (d.setCell n x).upset = d.upset := by rfl
@[simp] theorem Dev.setCell_count (d : Dev) (n : Nat) (x : Cell) : (d.setCell n x).count = d.count := by rfl
@[simp] theorem Dev.setCell_rtc (d : Dev) (n : Nat) (x : Cell) : (d.setCell n x).rtc = d.rtc := by rfl
@[simp] theorem Dev.setCell_rtcFrac (d : Dev) (n : Nat) (x : Cell) : (d.setCell n x).rtcFrac = d.rtcFrac := by rfl
@[simp] theorem Dev.setCell_free (d : Dev) (n : Nat) (x : Cell) : (d.setCell n x).free = d.free := by rfl
@[simp] theorem Dev.setCell_answers (d : Dev) (n : Nat) (x : Cell) : (d.setCell n x).answers = d.answers := by rfl
@[simp] theorem Dev.setCell_rbytes (d : Dev) (n : Nat) (x : Cell) : (d.setCell n x).rbytes = d.rbytes := by rfl
@[simp] theorem Dev.setCell_sent (d : Dev) (n : Nat) (x : Cell) : (d.setCell n x).sent = d.sent := by rfl
@[simp] theorem Dev.setCell_rose (d : Dev) (n : Nat) (x : Cell) : (d.setCell n x).rose = d.rose := by rfl
@[simp] theorem Dev.setCell_prot (d : Dev) (n : Nat) (x : Cell) : (d.setCell n x).prot = d.prot := by rfl
@[simp] theorem Dev.setCell_prog (d : Dev) (n : Nat) (x : Cell) : (d.setCell n x).prog = d.prog := by rfl
@[simp] theorem Dev.setCell_sqs (d : Dev) (n : Nat) (x : Cell) : (d.setCell n x).sqs = d.sqs := by rfl
@[simp] theorem Dev.setCell_syns (d : Dev) (n : Nat) (x : Cell) : (d.setCell n x).syns = d.syns := by rfl
@[simp] theorem Dev.setCell_refs (d : Dev) (n : Nat) (x : Cell) : (d.setCell n x).refs = d.refs := by rfl
@[simp] theorem Dev.setCell_txs (d : Dev) (n : Nat) (x : Cell) : (d.setCell n x).txs = d.txs := by rfl
@[simp] theorem Dev.setCell_rxs (d : Dev) (n : Nat) (x : Cell) : (d.setCell n x).rxs = d.rxs := by rfl
@[simp] theorem Dev.setCell_bill (d : Dev) (n : Nat) (x : Cell) : (d.setCell n x).bill = d.bill := by rfl
@[simp] theorem Dev.setCell_queues (d : Dev) (n : Nat) (x : Cell) : (d.setCell n x).queues = d.queues := by rfl
@[simp] theorem Dev.setCell_banks (d : Dev) (n : Nat) (x : Cell) : (d.setCell n x).banks = d.banks := by rfl
@[simp] theorem Dev.setCell_net (d : Dev) (n : Nat) (x : Cell) : (d.setCell n x).net = d.net := by rfl
@[simp] theorem Dev.setCell_tiles (d : Dev) (n : Nat) (x : Cell) : (d.setCell n x).tiles = d.tiles := by rfl
@[simp] theorem Dev.setCell_dm (d : Dev) (n : Nat) (x : Cell) : (d.setCell n x).dm = d.dm := by rfl
@[simp] theorem Dev.setCell_caps (d : Dev) (n : Nat) (x : Cell) : (d.setCell n x).caps = d.caps := by rfl
@[simp] theorem Dev.setCell_dmas (d : Dev) (n : Nat) (x : Cell) : (d.setCell n x).dmas = d.dmas := by rfl
@[simp] theorem Dev.setCell_fbq (d : Dev) (n : Nat) (x : Cell) : (d.setCell n x).fbq = d.fbq := by rfl
@[simp] theorem Dev.setCell_mail (d : Dev) (n : Nat) (x : Cell) : (d.setCell n x).mail = d.mail := by rfl
@[simp] theorem Dev.setCell_ep (d : Dev) (n : Nat) (x : Cell) : (d.setCell n x).ep = d.ep := by rfl
@[simp] theorem Dev.setCell_awgs (d : Dev) (n : Nat) (x : Cell) : (d.setCell n x).awgs = d.awgs := by rfl
@[simp] theorem Dev.setCell_an (d : Dev) (n : Nat) (x : Cell) : (d.setCell n x).an = d.an := by rfl
@[simp] theorem Dev.setCell_sec (d : Dev) (n : Nat) (x : Cell) : (d.setCell n x).sec = d.sec := by rfl
@[simp] theorem Dev.setCell_ring (d : Dev) (n : Nat) (x : Cell) : (d.setCell n x).ring = d.ring := by rfl

/-! ## setQueue -/

@[simp] theorem Dev.setQueue_regs (d : Dev) (n : Nat) (x : Queue) : (d.setQueue n x).regs = d.regs := by rfl
@[simp] theorem Dev.setQueue_upset (d : Dev) (n : Nat) (x : Queue) : (d.setQueue n x).upset = d.upset := by rfl
@[simp] theorem Dev.setQueue_count (d : Dev) (n : Nat) (x : Queue) : (d.setQueue n x).count = d.count := by rfl
@[simp] theorem Dev.setQueue_rtc (d : Dev) (n : Nat) (x : Queue) : (d.setQueue n x).rtc = d.rtc := by rfl
@[simp] theorem Dev.setQueue_rtcFrac (d : Dev) (n : Nat) (x : Queue) : (d.setQueue n x).rtcFrac = d.rtcFrac := by rfl
@[simp] theorem Dev.setQueue_free (d : Dev) (n : Nat) (x : Queue) : (d.setQueue n x).free = d.free := by rfl
@[simp] theorem Dev.setQueue_answers (d : Dev) (n : Nat) (x : Queue) : (d.setQueue n x).answers = d.answers := by rfl
@[simp] theorem Dev.setQueue_rbytes (d : Dev) (n : Nat) (x : Queue) : (d.setQueue n x).rbytes = d.rbytes := by rfl
@[simp] theorem Dev.setQueue_sent (d : Dev) (n : Nat) (x : Queue) : (d.setQueue n x).sent = d.sent := by rfl
@[simp] theorem Dev.setQueue_rose (d : Dev) (n : Nat) (x : Queue) : (d.setQueue n x).rose = d.rose := by rfl
@[simp] theorem Dev.setQueue_prot (d : Dev) (n : Nat) (x : Queue) : (d.setQueue n x).prot = d.prot := by rfl
@[simp] theorem Dev.setQueue_mw (d : Dev) (n : Nat) (x : Queue) : (d.setQueue n x).mw = d.mw := by rfl
@[simp] theorem Dev.setQueue_prog (d : Dev) (n : Nat) (x : Queue) : (d.setQueue n x).prog = d.prog := by rfl
@[simp] theorem Dev.setQueue_sqs (d : Dev) (n : Nat) (x : Queue) : (d.setQueue n x).sqs = d.sqs := by rfl
@[simp] theorem Dev.setQueue_syns (d : Dev) (n : Nat) (x : Queue) : (d.setQueue n x).syns = d.syns := by rfl
@[simp] theorem Dev.setQueue_refs (d : Dev) (n : Nat) (x : Queue) : (d.setQueue n x).refs = d.refs := by rfl
@[simp] theorem Dev.setQueue_txs (d : Dev) (n : Nat) (x : Queue) : (d.setQueue n x).txs = d.txs := by rfl
@[simp] theorem Dev.setQueue_rxs (d : Dev) (n : Nat) (x : Queue) : (d.setQueue n x).rxs = d.rxs := by rfl
@[simp] theorem Dev.setQueue_bill (d : Dev) (n : Nat) (x : Queue) : (d.setQueue n x).bill = d.bill := by rfl
@[simp] theorem Dev.setQueue_banks (d : Dev) (n : Nat) (x : Queue) : (d.setQueue n x).banks = d.banks := by rfl
@[simp] theorem Dev.setQueue_net (d : Dev) (n : Nat) (x : Queue) : (d.setQueue n x).net = d.net := by rfl
@[simp] theorem Dev.setQueue_tiles (d : Dev) (n : Nat) (x : Queue) : (d.setQueue n x).tiles = d.tiles := by rfl
@[simp] theorem Dev.setQueue_dm (d : Dev) (n : Nat) (x : Queue) : (d.setQueue n x).dm = d.dm := by rfl
@[simp] theorem Dev.setQueue_caps (d : Dev) (n : Nat) (x : Queue) : (d.setQueue n x).caps = d.caps := by rfl
@[simp] theorem Dev.setQueue_dmas (d : Dev) (n : Nat) (x : Queue) : (d.setQueue n x).dmas = d.dmas := by rfl
@[simp] theorem Dev.setQueue_fbq (d : Dev) (n : Nat) (x : Queue) : (d.setQueue n x).fbq = d.fbq := by rfl
@[simp] theorem Dev.setQueue_mail (d : Dev) (n : Nat) (x : Queue) : (d.setQueue n x).mail = d.mail := by rfl
@[simp] theorem Dev.setQueue_ep (d : Dev) (n : Nat) (x : Queue) : (d.setQueue n x).ep = d.ep := by rfl
@[simp] theorem Dev.setQueue_awgs (d : Dev) (n : Nat) (x : Queue) : (d.setQueue n x).awgs = d.awgs := by rfl
@[simp] theorem Dev.setQueue_an (d : Dev) (n : Nat) (x : Queue) : (d.setQueue n x).an = d.an := by rfl
@[simp] theorem Dev.setQueue_sec (d : Dev) (n : Nat) (x : Queue) : (d.setQueue n x).sec = d.sec := by rfl
@[simp] theorem Dev.setQueue_ring (d : Dev) (n : Nat) (x : Queue) : (d.setQueue n x).ring = d.ring := by rfl

/-! ## setBank -/

@[simp] theorem Dev.setBank_regs (d : Dev) (n : Nat) (x : Bank) : (d.setBank n x).regs = d.regs := by rfl
@[simp] theorem Dev.setBank_upset (d : Dev) (n : Nat) (x : Bank) : (d.setBank n x).upset = d.upset := by rfl
@[simp] theorem Dev.setBank_count (d : Dev) (n : Nat) (x : Bank) : (d.setBank n x).count = d.count := by rfl
@[simp] theorem Dev.setBank_rtc (d : Dev) (n : Nat) (x : Bank) : (d.setBank n x).rtc = d.rtc := by rfl
@[simp] theorem Dev.setBank_rtcFrac (d : Dev) (n : Nat) (x : Bank) : (d.setBank n x).rtcFrac = d.rtcFrac := by rfl
@[simp] theorem Dev.setBank_free (d : Dev) (n : Nat) (x : Bank) : (d.setBank n x).free = d.free := by rfl
@[simp] theorem Dev.setBank_answers (d : Dev) (n : Nat) (x : Bank) : (d.setBank n x).answers = d.answers := by rfl
@[simp] theorem Dev.setBank_rbytes (d : Dev) (n : Nat) (x : Bank) : (d.setBank n x).rbytes = d.rbytes := by rfl
@[simp] theorem Dev.setBank_sent (d : Dev) (n : Nat) (x : Bank) : (d.setBank n x).sent = d.sent := by rfl
@[simp] theorem Dev.setBank_rose (d : Dev) (n : Nat) (x : Bank) : (d.setBank n x).rose = d.rose := by rfl
@[simp] theorem Dev.setBank_prot (d : Dev) (n : Nat) (x : Bank) : (d.setBank n x).prot = d.prot := by rfl
@[simp] theorem Dev.setBank_mw (d : Dev) (n : Nat) (x : Bank) : (d.setBank n x).mw = d.mw := by rfl
@[simp] theorem Dev.setBank_prog (d : Dev) (n : Nat) (x : Bank) : (d.setBank n x).prog = d.prog := by rfl
@[simp] theorem Dev.setBank_sqs (d : Dev) (n : Nat) (x : Bank) : (d.setBank n x).sqs = d.sqs := by rfl
@[simp] theorem Dev.setBank_syns (d : Dev) (n : Nat) (x : Bank) : (d.setBank n x).syns = d.syns := by rfl
@[simp] theorem Dev.setBank_refs (d : Dev) (n : Nat) (x : Bank) : (d.setBank n x).refs = d.refs := by rfl
@[simp] theorem Dev.setBank_txs (d : Dev) (n : Nat) (x : Bank) : (d.setBank n x).txs = d.txs := by rfl
@[simp] theorem Dev.setBank_rxs (d : Dev) (n : Nat) (x : Bank) : (d.setBank n x).rxs = d.rxs := by rfl
@[simp] theorem Dev.setBank_bill (d : Dev) (n : Nat) (x : Bank) : (d.setBank n x).bill = d.bill := by rfl
@[simp] theorem Dev.setBank_queues (d : Dev) (n : Nat) (x : Bank) : (d.setBank n x).queues = d.queues := by rfl
@[simp] theorem Dev.setBank_net (d : Dev) (n : Nat) (x : Bank) : (d.setBank n x).net = d.net := by rfl
@[simp] theorem Dev.setBank_tiles (d : Dev) (n : Nat) (x : Bank) : (d.setBank n x).tiles = d.tiles := by rfl
@[simp] theorem Dev.setBank_dm (d : Dev) (n : Nat) (x : Bank) : (d.setBank n x).dm = d.dm := by rfl
@[simp] theorem Dev.setBank_caps (d : Dev) (n : Nat) (x : Bank) : (d.setBank n x).caps = d.caps := by rfl
@[simp] theorem Dev.setBank_dmas (d : Dev) (n : Nat) (x : Bank) : (d.setBank n x).dmas = d.dmas := by rfl
@[simp] theorem Dev.setBank_fbq (d : Dev) (n : Nat) (x : Bank) : (d.setBank n x).fbq = d.fbq := by rfl
@[simp] theorem Dev.setBank_mail (d : Dev) (n : Nat) (x : Bank) : (d.setBank n x).mail = d.mail := by rfl
@[simp] theorem Dev.setBank_ep (d : Dev) (n : Nat) (x : Bank) : (d.setBank n x).ep = d.ep := by rfl
@[simp] theorem Dev.setBank_awgs (d : Dev) (n : Nat) (x : Bank) : (d.setBank n x).awgs = d.awgs := by rfl
@[simp] theorem Dev.setBank_an (d : Dev) (n : Nat) (x : Bank) : (d.setBank n x).an = d.an := by rfl
@[simp] theorem Dev.setBank_sec (d : Dev) (n : Nat) (x : Bank) : (d.setBank n x).sec = d.sec := by rfl
@[simp] theorem Dev.setBank_ring (d : Dev) (n : Nat) (x : Bank) : (d.setBank n x).ring = d.ring := by rfl

/-! ## setCap -/

@[simp] theorem Dev.setCap_regs (d : Dev) (n : Nat) (x : Cap) : (d.setCap n x).regs = d.regs := by rfl
@[simp] theorem Dev.setCap_upset (d : Dev) (n : Nat) (x : Cap) : (d.setCap n x).upset = d.upset := by rfl
@[simp] theorem Dev.setCap_count (d : Dev) (n : Nat) (x : Cap) : (d.setCap n x).count = d.count := by rfl
@[simp] theorem Dev.setCap_rtc (d : Dev) (n : Nat) (x : Cap) : (d.setCap n x).rtc = d.rtc := by rfl
@[simp] theorem Dev.setCap_rtcFrac (d : Dev) (n : Nat) (x : Cap) : (d.setCap n x).rtcFrac = d.rtcFrac := by rfl
@[simp] theorem Dev.setCap_free (d : Dev) (n : Nat) (x : Cap) : (d.setCap n x).free = d.free := by rfl
@[simp] theorem Dev.setCap_answers (d : Dev) (n : Nat) (x : Cap) : (d.setCap n x).answers = d.answers := by rfl
@[simp] theorem Dev.setCap_rbytes (d : Dev) (n : Nat) (x : Cap) : (d.setCap n x).rbytes = d.rbytes := by rfl
@[simp] theorem Dev.setCap_sent (d : Dev) (n : Nat) (x : Cap) : (d.setCap n x).sent = d.sent := by rfl
@[simp] theorem Dev.setCap_rose (d : Dev) (n : Nat) (x : Cap) : (d.setCap n x).rose = d.rose := by rfl
@[simp] theorem Dev.setCap_prot (d : Dev) (n : Nat) (x : Cap) : (d.setCap n x).prot = d.prot := by rfl
@[simp] theorem Dev.setCap_mw (d : Dev) (n : Nat) (x : Cap) : (d.setCap n x).mw = d.mw := by rfl
@[simp] theorem Dev.setCap_prog (d : Dev) (n : Nat) (x : Cap) : (d.setCap n x).prog = d.prog := by rfl
@[simp] theorem Dev.setCap_sqs (d : Dev) (n : Nat) (x : Cap) : (d.setCap n x).sqs = d.sqs := by rfl
@[simp] theorem Dev.setCap_syns (d : Dev) (n : Nat) (x : Cap) : (d.setCap n x).syns = d.syns := by rfl
@[simp] theorem Dev.setCap_refs (d : Dev) (n : Nat) (x : Cap) : (d.setCap n x).refs = d.refs := by rfl
@[simp] theorem Dev.setCap_txs (d : Dev) (n : Nat) (x : Cap) : (d.setCap n x).txs = d.txs := by rfl
@[simp] theorem Dev.setCap_rxs (d : Dev) (n : Nat) (x : Cap) : (d.setCap n x).rxs = d.rxs := by rfl
@[simp] theorem Dev.setCap_bill (d : Dev) (n : Nat) (x : Cap) : (d.setCap n x).bill = d.bill := by rfl
@[simp] theorem Dev.setCap_queues (d : Dev) (n : Nat) (x : Cap) : (d.setCap n x).queues = d.queues := by rfl
@[simp] theorem Dev.setCap_banks (d : Dev) (n : Nat) (x : Cap) : (d.setCap n x).banks = d.banks := by rfl
@[simp] theorem Dev.setCap_net (d : Dev) (n : Nat) (x : Cap) : (d.setCap n x).net = d.net := by rfl
@[simp] theorem Dev.setCap_tiles (d : Dev) (n : Nat) (x : Cap) : (d.setCap n x).tiles = d.tiles := by rfl
@[simp] theorem Dev.setCap_dm (d : Dev) (n : Nat) (x : Cap) : (d.setCap n x).dm = d.dm := by rfl
@[simp] theorem Dev.setCap_dmas (d : Dev) (n : Nat) (x : Cap) : (d.setCap n x).dmas = d.dmas := by rfl
@[simp] theorem Dev.setCap_fbq (d : Dev) (n : Nat) (x : Cap) : (d.setCap n x).fbq = d.fbq := by rfl
@[simp] theorem Dev.setCap_mail (d : Dev) (n : Nat) (x : Cap) : (d.setCap n x).mail = d.mail := by rfl
@[simp] theorem Dev.setCap_ep (d : Dev) (n : Nat) (x : Cap) : (d.setCap n x).ep = d.ep := by rfl
@[simp] theorem Dev.setCap_awgs (d : Dev) (n : Nat) (x : Cap) : (d.setCap n x).awgs = d.awgs := by rfl
@[simp] theorem Dev.setCap_an (d : Dev) (n : Nat) (x : Cap) : (d.setCap n x).an = d.an := by rfl
@[simp] theorem Dev.setCap_sec (d : Dev) (n : Nat) (x : Cap) : (d.setCap n x).sec = d.sec := by rfl
@[simp] theorem Dev.setCap_ring (d : Dev) (n : Nat) (x : Cap) : (d.setCap n x).ring = d.ring := by rfl

/-! ## setDma -/

@[simp] theorem Dev.setDma_regs (d : Dev) (n : Nat) (x : Dma) : (d.setDma n x).regs = d.regs := by rfl
@[simp] theorem Dev.setDma_upset (d : Dev) (n : Nat) (x : Dma) : (d.setDma n x).upset = d.upset := by rfl
@[simp] theorem Dev.setDma_count (d : Dev) (n : Nat) (x : Dma) : (d.setDma n x).count = d.count := by rfl
@[simp] theorem Dev.setDma_rtc (d : Dev) (n : Nat) (x : Dma) : (d.setDma n x).rtc = d.rtc := by rfl
@[simp] theorem Dev.setDma_rtcFrac (d : Dev) (n : Nat) (x : Dma) : (d.setDma n x).rtcFrac = d.rtcFrac := by rfl
@[simp] theorem Dev.setDma_free (d : Dev) (n : Nat) (x : Dma) : (d.setDma n x).free = d.free := by rfl
@[simp] theorem Dev.setDma_answers (d : Dev) (n : Nat) (x : Dma) : (d.setDma n x).answers = d.answers := by rfl
@[simp] theorem Dev.setDma_rbytes (d : Dev) (n : Nat) (x : Dma) : (d.setDma n x).rbytes = d.rbytes := by rfl
@[simp] theorem Dev.setDma_sent (d : Dev) (n : Nat) (x : Dma) : (d.setDma n x).sent = d.sent := by rfl
@[simp] theorem Dev.setDma_rose (d : Dev) (n : Nat) (x : Dma) : (d.setDma n x).rose = d.rose := by rfl
@[simp] theorem Dev.setDma_prot (d : Dev) (n : Nat) (x : Dma) : (d.setDma n x).prot = d.prot := by rfl
@[simp] theorem Dev.setDma_mw (d : Dev) (n : Nat) (x : Dma) : (d.setDma n x).mw = d.mw := by rfl
@[simp] theorem Dev.setDma_prog (d : Dev) (n : Nat) (x : Dma) : (d.setDma n x).prog = d.prog := by rfl
@[simp] theorem Dev.setDma_sqs (d : Dev) (n : Nat) (x : Dma) : (d.setDma n x).sqs = d.sqs := by rfl
@[simp] theorem Dev.setDma_syns (d : Dev) (n : Nat) (x : Dma) : (d.setDma n x).syns = d.syns := by rfl
@[simp] theorem Dev.setDma_refs (d : Dev) (n : Nat) (x : Dma) : (d.setDma n x).refs = d.refs := by rfl
@[simp] theorem Dev.setDma_txs (d : Dev) (n : Nat) (x : Dma) : (d.setDma n x).txs = d.txs := by rfl
@[simp] theorem Dev.setDma_rxs (d : Dev) (n : Nat) (x : Dma) : (d.setDma n x).rxs = d.rxs := by rfl
@[simp] theorem Dev.setDma_bill (d : Dev) (n : Nat) (x : Dma) : (d.setDma n x).bill = d.bill := by rfl
@[simp] theorem Dev.setDma_queues (d : Dev) (n : Nat) (x : Dma) : (d.setDma n x).queues = d.queues := by rfl
@[simp] theorem Dev.setDma_banks (d : Dev) (n : Nat) (x : Dma) : (d.setDma n x).banks = d.banks := by rfl
@[simp] theorem Dev.setDma_net (d : Dev) (n : Nat) (x : Dma) : (d.setDma n x).net = d.net := by rfl
@[simp] theorem Dev.setDma_tiles (d : Dev) (n : Nat) (x : Dma) : (d.setDma n x).tiles = d.tiles := by rfl
@[simp] theorem Dev.setDma_dm (d : Dev) (n : Nat) (x : Dma) : (d.setDma n x).dm = d.dm := by rfl
@[simp] theorem Dev.setDma_caps (d : Dev) (n : Nat) (x : Dma) : (d.setDma n x).caps = d.caps := by rfl
@[simp] theorem Dev.setDma_fbq (d : Dev) (n : Nat) (x : Dma) : (d.setDma n x).fbq = d.fbq := by rfl
@[simp] theorem Dev.setDma_mail (d : Dev) (n : Nat) (x : Dma) : (d.setDma n x).mail = d.mail := by rfl
@[simp] theorem Dev.setDma_ep (d : Dev) (n : Nat) (x : Dma) : (d.setDma n x).ep = d.ep := by rfl
@[simp] theorem Dev.setDma_awgs (d : Dev) (n : Nat) (x : Dma) : (d.setDma n x).awgs = d.awgs := by rfl
@[simp] theorem Dev.setDma_an (d : Dev) (n : Nat) (x : Dma) : (d.setDma n x).an = d.an := by rfl
@[simp] theorem Dev.setDma_sec (d : Dev) (n : Nat) (x : Dma) : (d.setDma n x).sec = d.sec := by rfl
@[simp] theorem Dev.setDma_ring (d : Dev) (n : Nat) (x : Dma) : (d.setDma n x).ring = d.ring := by rfl

/-! ## setAwg -/

@[simp] theorem Dev.setAwg_regs (d : Dev) (n : Nat) (x : Awg) : (d.setAwg n x).regs = d.regs := by rfl
@[simp] theorem Dev.setAwg_upset (d : Dev) (n : Nat) (x : Awg) : (d.setAwg n x).upset = d.upset := by rfl
@[simp] theorem Dev.setAwg_count (d : Dev) (n : Nat) (x : Awg) : (d.setAwg n x).count = d.count := by rfl
@[simp] theorem Dev.setAwg_rtc (d : Dev) (n : Nat) (x : Awg) : (d.setAwg n x).rtc = d.rtc := by rfl
@[simp] theorem Dev.setAwg_rtcFrac (d : Dev) (n : Nat) (x : Awg) : (d.setAwg n x).rtcFrac = d.rtcFrac := by rfl
@[simp] theorem Dev.setAwg_free (d : Dev) (n : Nat) (x : Awg) : (d.setAwg n x).free = d.free := by rfl
@[simp] theorem Dev.setAwg_answers (d : Dev) (n : Nat) (x : Awg) : (d.setAwg n x).answers = d.answers := by rfl
@[simp] theorem Dev.setAwg_rbytes (d : Dev) (n : Nat) (x : Awg) : (d.setAwg n x).rbytes = d.rbytes := by rfl
@[simp] theorem Dev.setAwg_sent (d : Dev) (n : Nat) (x : Awg) : (d.setAwg n x).sent = d.sent := by rfl
@[simp] theorem Dev.setAwg_rose (d : Dev) (n : Nat) (x : Awg) : (d.setAwg n x).rose = d.rose := by rfl
@[simp] theorem Dev.setAwg_prot (d : Dev) (n : Nat) (x : Awg) : (d.setAwg n x).prot = d.prot := by rfl
@[simp] theorem Dev.setAwg_mw (d : Dev) (n : Nat) (x : Awg) : (d.setAwg n x).mw = d.mw := by rfl
@[simp] theorem Dev.setAwg_prog (d : Dev) (n : Nat) (x : Awg) : (d.setAwg n x).prog = d.prog := by rfl
@[simp] theorem Dev.setAwg_sqs (d : Dev) (n : Nat) (x : Awg) : (d.setAwg n x).sqs = d.sqs := by rfl
@[simp] theorem Dev.setAwg_syns (d : Dev) (n : Nat) (x : Awg) : (d.setAwg n x).syns = d.syns := by rfl
@[simp] theorem Dev.setAwg_refs (d : Dev) (n : Nat) (x : Awg) : (d.setAwg n x).refs = d.refs := by rfl
@[simp] theorem Dev.setAwg_txs (d : Dev) (n : Nat) (x : Awg) : (d.setAwg n x).txs = d.txs := by rfl
@[simp] theorem Dev.setAwg_rxs (d : Dev) (n : Nat) (x : Awg) : (d.setAwg n x).rxs = d.rxs := by rfl
@[simp] theorem Dev.setAwg_bill (d : Dev) (n : Nat) (x : Awg) : (d.setAwg n x).bill = d.bill := by rfl
@[simp] theorem Dev.setAwg_queues (d : Dev) (n : Nat) (x : Awg) : (d.setAwg n x).queues = d.queues := by rfl
@[simp] theorem Dev.setAwg_banks (d : Dev) (n : Nat) (x : Awg) : (d.setAwg n x).banks = d.banks := by rfl
@[simp] theorem Dev.setAwg_net (d : Dev) (n : Nat) (x : Awg) : (d.setAwg n x).net = d.net := by rfl
@[simp] theorem Dev.setAwg_tiles (d : Dev) (n : Nat) (x : Awg) : (d.setAwg n x).tiles = d.tiles := by rfl
@[simp] theorem Dev.setAwg_dm (d : Dev) (n : Nat) (x : Awg) : (d.setAwg n x).dm = d.dm := by rfl
@[simp] theorem Dev.setAwg_caps (d : Dev) (n : Nat) (x : Awg) : (d.setAwg n x).caps = d.caps := by rfl
@[simp] theorem Dev.setAwg_dmas (d : Dev) (n : Nat) (x : Awg) : (d.setAwg n x).dmas = d.dmas := by rfl
@[simp] theorem Dev.setAwg_fbq (d : Dev) (n : Nat) (x : Awg) : (d.setAwg n x).fbq = d.fbq := by rfl
@[simp] theorem Dev.setAwg_mail (d : Dev) (n : Nat) (x : Awg) : (d.setAwg n x).mail = d.mail := by rfl
@[simp] theorem Dev.setAwg_ep (d : Dev) (n : Nat) (x : Awg) : (d.setAwg n x).ep = d.ep := by rfl
@[simp] theorem Dev.setAwg_an (d : Dev) (n : Nat) (x : Awg) : (d.setAwg n x).an = d.an := by rfl
@[simp] theorem Dev.setAwg_sec (d : Dev) (n : Nat) (x : Awg) : (d.setAwg n x).sec = d.sec := by rfl
@[simp] theorem Dev.setAwg_ring (d : Dev) (n : Nat) (x : Awg) : (d.setAwg n x).ring = d.ring := by rfl

/-! ## setStack -/

@[simp] theorem Dev.setStack_regs (d : Dev) (n : Nat) (x : Stack) : (d.setStack n x).regs = d.regs := by rfl
@[simp] theorem Dev.setStack_upset (d : Dev) (n : Nat) (x : Stack) : (d.setStack n x).upset = d.upset := by rfl
@[simp] theorem Dev.setStack_count (d : Dev) (n : Nat) (x : Stack) : (d.setStack n x).count = d.count := by rfl
@[simp] theorem Dev.setStack_rtc (d : Dev) (n : Nat) (x : Stack) : (d.setStack n x).rtc = d.rtc := by rfl
@[simp] theorem Dev.setStack_rtcFrac (d : Dev) (n : Nat) (x : Stack) : (d.setStack n x).rtcFrac = d.rtcFrac := by rfl
@[simp] theorem Dev.setStack_free (d : Dev) (n : Nat) (x : Stack) : (d.setStack n x).free = d.free := by rfl
@[simp] theorem Dev.setStack_answers (d : Dev) (n : Nat) (x : Stack) : (d.setStack n x).answers = d.answers := by rfl
@[simp] theorem Dev.setStack_rbytes (d : Dev) (n : Nat) (x : Stack) : (d.setStack n x).rbytes = d.rbytes := by rfl
@[simp] theorem Dev.setStack_sent (d : Dev) (n : Nat) (x : Stack) : (d.setStack n x).sent = d.sent := by rfl
@[simp] theorem Dev.setStack_rose (d : Dev) (n : Nat) (x : Stack) : (d.setStack n x).rose = d.rose := by rfl
@[simp] theorem Dev.setStack_prot (d : Dev) (n : Nat) (x : Stack) : (d.setStack n x).prot = d.prot := by rfl
@[simp] theorem Dev.setStack_mw (d : Dev) (n : Nat) (x : Stack) : (d.setStack n x).mw = d.mw := by rfl
@[simp] theorem Dev.setStack_prog (d : Dev) (n : Nat) (x : Stack) : (d.setStack n x).prog = d.prog := by rfl
@[simp] theorem Dev.setStack_sqs (d : Dev) (n : Nat) (x : Stack) : (d.setStack n x).sqs = d.sqs := by rfl
@[simp] theorem Dev.setStack_syns (d : Dev) (n : Nat) (x : Stack) : (d.setStack n x).syns = d.syns := by rfl
@[simp] theorem Dev.setStack_refs (d : Dev) (n : Nat) (x : Stack) : (d.setStack n x).refs = d.refs := by rfl
@[simp] theorem Dev.setStack_txs (d : Dev) (n : Nat) (x : Stack) : (d.setStack n x).txs = d.txs := by rfl
@[simp] theorem Dev.setStack_rxs (d : Dev) (n : Nat) (x : Stack) : (d.setStack n x).rxs = d.rxs := by rfl
@[simp] theorem Dev.setStack_bill (d : Dev) (n : Nat) (x : Stack) : (d.setStack n x).bill = d.bill := by rfl
@[simp] theorem Dev.setStack_queues (d : Dev) (n : Nat) (x : Stack) : (d.setStack n x).queues = d.queues := by rfl
@[simp] theorem Dev.setStack_banks (d : Dev) (n : Nat) (x : Stack) : (d.setStack n x).banks = d.banks := by rfl
@[simp] theorem Dev.setStack_net (d : Dev) (n : Nat) (x : Stack) : (d.setStack n x).net = d.net := by rfl
@[simp] theorem Dev.setStack_tiles (d : Dev) (n : Nat) (x : Stack) : (d.setStack n x).tiles = d.tiles := by rfl
@[simp] theorem Dev.setStack_caps (d : Dev) (n : Nat) (x : Stack) : (d.setStack n x).caps = d.caps := by rfl
@[simp] theorem Dev.setStack_dmas (d : Dev) (n : Nat) (x : Stack) : (d.setStack n x).dmas = d.dmas := by rfl
@[simp] theorem Dev.setStack_fbq (d : Dev) (n : Nat) (x : Stack) : (d.setStack n x).fbq = d.fbq := by rfl
@[simp] theorem Dev.setStack_mail (d : Dev) (n : Nat) (x : Stack) : (d.setStack n x).mail = d.mail := by rfl
@[simp] theorem Dev.setStack_ep (d : Dev) (n : Nat) (x : Stack) : (d.setStack n x).ep = d.ep := by rfl
@[simp] theorem Dev.setStack_awgs (d : Dev) (n : Nat) (x : Stack) : (d.setStack n x).awgs = d.awgs := by rfl
@[simp] theorem Dev.setStack_an (d : Dev) (n : Nat) (x : Stack) : (d.setStack n x).an = d.an := by rfl
@[simp] theorem Dev.setStack_sec (d : Dev) (n : Nat) (x : Stack) : (d.setStack n x).sec = d.sec := by rfl
@[simp] theorem Dev.setStack_ring (d : Dev) (n : Nat) (x : Stack) : (d.setStack n x).ring = d.ring := by rfl

/-! ## Interrupts and status bits -/

@[simp] theorem Dev.sendMsix_count (d : Dev) (v : Nat) : (d.sendMsix v).count = d.count := by unfold Dev.sendMsix; split <;> simp only [Dev.emit_count]
@[simp] theorem Dev.sendMsix_rtc (d : Dev) (v : Nat) : (d.sendMsix v).rtc = d.rtc := by unfold Dev.sendMsix; split <;> simp only [Dev.emit_rtc]
@[simp] theorem Dev.sendMsix_rtcFrac (d : Dev) (v : Nat) : (d.sendMsix v).rtcFrac = d.rtcFrac := by unfold Dev.sendMsix; split <;> simp only [Dev.emit_rtcFrac]
@[simp] theorem Dev.sendMsix_free (d : Dev) (v : Nat) : (d.sendMsix v).free = d.free := by unfold Dev.sendMsix; split <;> simp only [Dev.emit_free]
@[simp] theorem Dev.sendMsix_answers (d : Dev) (v : Nat) : (d.sendMsix v).answers = d.answers := by unfold Dev.sendMsix; split <;> simp only [Dev.emit_answers]
@[simp] theorem Dev.sendMsix_rbytes (d : Dev) (v : Nat) : (d.sendMsix v).rbytes = d.rbytes := by unfold Dev.sendMsix; split <;> simp only [Dev.emit_rbytes]
@[simp] theorem Dev.sendMsix_rose (d : Dev) (v : Nat) : (d.sendMsix v).rose = d.rose := by unfold Dev.sendMsix; split <;> simp only [Dev.emit_rose]
@[simp] theorem Dev.sendMsix_prot (d : Dev) (v : Nat) : (d.sendMsix v).prot = d.prot := by unfold Dev.sendMsix; split <;> simp only [Dev.emit_prot]
@[simp] theorem Dev.sendMsix_mw (d : Dev) (v : Nat) : (d.sendMsix v).mw = d.mw := by unfold Dev.sendMsix; split <;> simp only [Dev.emit_mw]
@[simp] theorem Dev.sendMsix_prog (d : Dev) (v : Nat) : (d.sendMsix v).prog = d.prog := by unfold Dev.sendMsix; split <;> simp only [Dev.emit_prog]
@[simp] theorem Dev.sendMsix_sqs (d : Dev) (v : Nat) : (d.sendMsix v).sqs = d.sqs := by unfold Dev.sendMsix; split <;> simp only [Dev.emit_sqs]
@[simp] theorem Dev.sendMsix_syns (d : Dev) (v : Nat) : (d.sendMsix v).syns = d.syns := by unfold Dev.sendMsix; split <;> simp only [Dev.emit_syns]
@[simp] theorem Dev.sendMsix_refs (d : Dev) (v : Nat) : (d.sendMsix v).refs = d.refs := by unfold Dev.sendMsix; split <;> simp only [Dev.emit_refs]
@[simp] theorem Dev.sendMsix_txs (d : Dev) (v : Nat) : (d.sendMsix v).txs = d.txs := by unfold Dev.sendMsix; split <;> simp only [Dev.emit_txs]
@[simp] theorem Dev.sendMsix_rxs (d : Dev) (v : Nat) : (d.sendMsix v).rxs = d.rxs := by unfold Dev.sendMsix; split <;> simp only [Dev.emit_rxs]
@[simp] theorem Dev.sendMsix_bill (d : Dev) (v : Nat) : (d.sendMsix v).bill = d.bill := by unfold Dev.sendMsix; split <;> simp only [Dev.emit_bill]
@[simp] theorem Dev.sendMsix_queues (d : Dev) (v : Nat) : (d.sendMsix v).queues = d.queues := by unfold Dev.sendMsix; split <;> simp only [Dev.emit_queues]
@[simp] theorem Dev.sendMsix_banks (d : Dev) (v : Nat) : (d.sendMsix v).banks = d.banks := by unfold Dev.sendMsix; split <;> simp only [Dev.emit_banks]
@[simp] theorem Dev.sendMsix_net (d : Dev) (v : Nat) : (d.sendMsix v).net = d.net := by unfold Dev.sendMsix; split <;> simp only [Dev.emit_net]
@[simp] theorem Dev.sendMsix_tiles (d : Dev) (v : Nat) : (d.sendMsix v).tiles = d.tiles := by unfold Dev.sendMsix; split <;> simp only [Dev.emit_tiles]
@[simp] theorem Dev.sendMsix_dm (d : Dev) (v : Nat) : (d.sendMsix v).dm = d.dm := by unfold Dev.sendMsix; split <;> simp only [Dev.emit_dm]
@[simp] theorem Dev.sendMsix_caps (d : Dev) (v : Nat) : (d.sendMsix v).caps = d.caps := by unfold Dev.sendMsix; split <;> simp only [Dev.emit_caps]
@[simp] theorem Dev.sendMsix_dmas (d : Dev) (v : Nat) : (d.sendMsix v).dmas = d.dmas := by unfold Dev.sendMsix; split <;> simp only [Dev.emit_dmas]
@[simp] theorem Dev.sendMsix_fbq (d : Dev) (v : Nat) : (d.sendMsix v).fbq = d.fbq := by unfold Dev.sendMsix; split <;> simp only [Dev.emit_fbq]
@[simp] theorem Dev.sendMsix_mail (d : Dev) (v : Nat) : (d.sendMsix v).mail = d.mail := by unfold Dev.sendMsix; split <;> simp only [Dev.emit_mail]
@[simp] theorem Dev.sendMsix_ep (d : Dev) (v : Nat) : (d.sendMsix v).ep = d.ep := by unfold Dev.sendMsix; split <;> simp only [Dev.emit_ep]
@[simp] theorem Dev.sendMsix_awgs (d : Dev) (v : Nat) : (d.sendMsix v).awgs = d.awgs := by unfold Dev.sendMsix; split <;> simp only [Dev.emit_awgs]
@[simp] theorem Dev.sendMsix_an (d : Dev) (v : Nat) : (d.sendMsix v).an = d.an := by unfold Dev.sendMsix; split <;> simp only [Dev.emit_an]
@[simp] theorem Dev.sendMsix_sec (d : Dev) (v : Nat) : (d.sendMsix v).sec = d.sec := by unfold Dev.sendMsix; split <;> simp only [Dev.emit_sec]
@[simp] theorem Dev.sendMsix_ring (d : Dev) (v : Nat) : (d.sendMsix v).ring = d.ring := by unfold Dev.sendMsix; split <;> simp only [Dev.emit_ring]

@[simp] theorem Dev.request_count (d : Dev) (v : Nat) : (d.request v).count = d.count := by unfold Dev.request; split <;> simp only [Dev.fbit_count, Dev.sendMsix_count]
@[simp] theorem Dev.request_rtc (d : Dev) (v : Nat) : (d.request v).rtc = d.rtc := by unfold Dev.request; split <;> simp only [Dev.fbit_rtc, Dev.sendMsix_rtc]
@[simp] theorem Dev.request_rtcFrac (d : Dev) (v : Nat) : (d.request v).rtcFrac = d.rtcFrac := by unfold Dev.request; split <;> simp only [Dev.fbit_rtcFrac, Dev.sendMsix_rtcFrac]
@[simp] theorem Dev.request_free (d : Dev) (v : Nat) : (d.request v).free = d.free := by unfold Dev.request; split <;> simp only [Dev.fbit_free, Dev.sendMsix_free]
@[simp] theorem Dev.request_answers (d : Dev) (v : Nat) : (d.request v).answers = d.answers := by unfold Dev.request; split <;> simp only [Dev.fbit_answers, Dev.sendMsix_answers]
@[simp] theorem Dev.request_rbytes (d : Dev) (v : Nat) : (d.request v).rbytes = d.rbytes := by unfold Dev.request; split <;> simp only [Dev.fbit_rbytes, Dev.sendMsix_rbytes]
@[simp] theorem Dev.request_rose (d : Dev) (v : Nat) : (d.request v).rose = d.rose := by unfold Dev.request; split <;> simp only [Dev.fbit_rose, Dev.sendMsix_rose]
@[simp] theorem Dev.request_prot (d : Dev) (v : Nat) : (d.request v).prot = d.prot := by unfold Dev.request; split <;> simp only [Dev.fbit_prot, Dev.sendMsix_prot]
@[simp] theorem Dev.request_mw (d : Dev) (v : Nat) : (d.request v).mw = d.mw := by unfold Dev.request; split <;> simp only [Dev.fbit_mw, Dev.sendMsix_mw]
@[simp] theorem Dev.request_prog (d : Dev) (v : Nat) : (d.request v).prog = d.prog := by unfold Dev.request; split <;> simp only [Dev.fbit_prog, Dev.sendMsix_prog]
@[simp] theorem Dev.request_sqs (d : Dev) (v : Nat) : (d.request v).sqs = d.sqs := by unfold Dev.request; split <;> simp only [Dev.fbit_sqs, Dev.sendMsix_sqs]
@[simp] theorem Dev.request_syns (d : Dev) (v : Nat) : (d.request v).syns = d.syns := by unfold Dev.request; split <;> simp only [Dev.fbit_syns, Dev.sendMsix_syns]
@[simp] theorem Dev.request_refs (d : Dev) (v : Nat) : (d.request v).refs = d.refs := by unfold Dev.request; split <;> simp only [Dev.fbit_refs, Dev.sendMsix_refs]
@[simp] theorem Dev.request_txs (d : Dev) (v : Nat) : (d.request v).txs = d.txs := by unfold Dev.request; split <;> simp only [Dev.fbit_txs, Dev.sendMsix_txs]
@[simp] theorem Dev.request_rxs (d : Dev) (v : Nat) : (d.request v).rxs = d.rxs := by unfold Dev.request; split <;> simp only [Dev.fbit_rxs, Dev.sendMsix_rxs]
@[simp] theorem Dev.request_bill (d : Dev) (v : Nat) : (d.request v).bill = d.bill := by unfold Dev.request; split <;> simp only [Dev.fbit_bill, Dev.sendMsix_bill]
@[simp] theorem Dev.request_queues (d : Dev) (v : Nat) : (d.request v).queues = d.queues := by unfold Dev.request; split <;> simp only [Dev.fbit_queues, Dev.sendMsix_queues]
@[simp] theorem Dev.request_banks (d : Dev) (v : Nat) : (d.request v).banks = d.banks := by unfold Dev.request; split <;> simp only [Dev.fbit_banks, Dev.sendMsix_banks]
@[simp] theorem Dev.request_net (d : Dev) (v : Nat) : (d.request v).net = d.net := by unfold Dev.request; split <;> simp only [Dev.fbit_net, Dev.sendMsix_net]
@[simp] theorem Dev.request_tiles (d : Dev) (v : Nat) : (d.request v).tiles = d.tiles := by unfold Dev.request; split <;> simp only [Dev.fbit_tiles, Dev.sendMsix_tiles]
@[simp] theorem Dev.request_dm (d : Dev) (v : Nat) : (d.request v).dm = d.dm := by unfold Dev.request; split <;> simp only [Dev.fbit_dm, Dev.sendMsix_dm]
@[simp] theorem Dev.request_caps (d : Dev) (v : Nat) : (d.request v).caps = d.caps := by unfold Dev.request; split <;> simp only [Dev.fbit_caps, Dev.sendMsix_caps]
@[simp] theorem Dev.request_dmas (d : Dev) (v : Nat) : (d.request v).dmas = d.dmas := by unfold Dev.request; split <;> simp only [Dev.fbit_dmas, Dev.sendMsix_dmas]
@[simp] theorem Dev.request_fbq (d : Dev) (v : Nat) : (d.request v).fbq = d.fbq := by unfold Dev.request; split <;> simp only [Dev.fbit_fbq, Dev.sendMsix_fbq]
@[simp] theorem Dev.request_mail (d : Dev) (v : Nat) : (d.request v).mail = d.mail := by unfold Dev.request; split <;> simp only [Dev.fbit_mail, Dev.sendMsix_mail]
@[simp] theorem Dev.request_ep (d : Dev) (v : Nat) : (d.request v).ep = d.ep := by unfold Dev.request; split <;> simp only [Dev.fbit_ep, Dev.sendMsix_ep]
@[simp] theorem Dev.request_awgs (d : Dev) (v : Nat) : (d.request v).awgs = d.awgs := by unfold Dev.request; split <;> simp only [Dev.fbit_awgs, Dev.sendMsix_awgs]
@[simp] theorem Dev.request_an (d : Dev) (v : Nat) : (d.request v).an = d.an := by unfold Dev.request; split <;> simp only [Dev.fbit_an, Dev.sendMsix_an]
@[simp] theorem Dev.request_sec (d : Dev) (v : Nat) : (d.request v).sec = d.sec := by unfold Dev.request; split <;> simp only [Dev.fbit_sec, Dev.sendMsix_sec]
@[simp] theorem Dev.request_ring (d : Dev) (v : Nat) : (d.request v).ring = d.ring := by unfold Dev.request; split <;> simp only [Dev.fbit_ring, Dev.sendMsix_ring]

@[simp] theorem Dev.irq_count (d : Dev) (v : Nat) : (d.irq v).count = d.count := by unfold Dev.irq; split <;> simp only [Dev.request_count]
@[simp] theorem Dev.irq_rtc (d : Dev) (v : Nat) : (d.irq v).rtc = d.rtc := by unfold Dev.irq; split <;> simp only [Dev.request_rtc]
@[simp] theorem Dev.irq_rtcFrac (d : Dev) (v : Nat) : (d.irq v).rtcFrac = d.rtcFrac := by unfold Dev.irq; split <;> simp only [Dev.request_rtcFrac]
@[simp] theorem Dev.irq_free (d : Dev) (v : Nat) : (d.irq v).free = d.free := by unfold Dev.irq; split <;> simp only [Dev.request_free]
@[simp] theorem Dev.irq_answers (d : Dev) (v : Nat) : (d.irq v).answers = d.answers := by unfold Dev.irq; split <;> simp only [Dev.request_answers]
@[simp] theorem Dev.irq_rbytes (d : Dev) (v : Nat) : (d.irq v).rbytes = d.rbytes := by unfold Dev.irq; split <;> simp only [Dev.request_rbytes]
@[simp] theorem Dev.irq_prot (d : Dev) (v : Nat) : (d.irq v).prot = d.prot := by unfold Dev.irq; split <;> simp only [Dev.request_prot]
@[simp] theorem Dev.irq_mw (d : Dev) (v : Nat) : (d.irq v).mw = d.mw := by unfold Dev.irq; split <;> simp only [Dev.request_mw]
@[simp] theorem Dev.irq_prog (d : Dev) (v : Nat) : (d.irq v).prog = d.prog := by unfold Dev.irq; split <;> simp only [Dev.request_prog]
@[simp] theorem Dev.irq_sqs (d : Dev) (v : Nat) : (d.irq v).sqs = d.sqs := by unfold Dev.irq; split <;> simp only [Dev.request_sqs]
@[simp] theorem Dev.irq_syns (d : Dev) (v : Nat) : (d.irq v).syns = d.syns := by unfold Dev.irq; split <;> simp only [Dev.request_syns]
@[simp] theorem Dev.irq_refs (d : Dev) (v : Nat) : (d.irq v).refs = d.refs := by unfold Dev.irq; split <;> simp only [Dev.request_refs]
@[simp] theorem Dev.irq_txs (d : Dev) (v : Nat) : (d.irq v).txs = d.txs := by unfold Dev.irq; split <;> simp only [Dev.request_txs]
@[simp] theorem Dev.irq_rxs (d : Dev) (v : Nat) : (d.irq v).rxs = d.rxs := by unfold Dev.irq; split <;> simp only [Dev.request_rxs]
@[simp] theorem Dev.irq_bill (d : Dev) (v : Nat) : (d.irq v).bill = d.bill := by unfold Dev.irq; split <;> simp only [Dev.request_bill]
@[simp] theorem Dev.irq_queues (d : Dev) (v : Nat) : (d.irq v).queues = d.queues := by unfold Dev.irq; split <;> simp only [Dev.request_queues]
@[simp] theorem Dev.irq_banks (d : Dev) (v : Nat) : (d.irq v).banks = d.banks := by unfold Dev.irq; split <;> simp only [Dev.request_banks]
@[simp] theorem Dev.irq_net (d : Dev) (v : Nat) : (d.irq v).net = d.net := by unfold Dev.irq; split <;> simp only [Dev.request_net]
@[simp] theorem Dev.irq_tiles (d : Dev) (v : Nat) : (d.irq v).tiles = d.tiles := by unfold Dev.irq; split <;> simp only [Dev.request_tiles]
@[simp] theorem Dev.irq_dm (d : Dev) (v : Nat) : (d.irq v).dm = d.dm := by unfold Dev.irq; split <;> simp only [Dev.request_dm]
@[simp] theorem Dev.irq_caps (d : Dev) (v : Nat) : (d.irq v).caps = d.caps := by unfold Dev.irq; split <;> simp only [Dev.request_caps]
@[simp] theorem Dev.irq_dmas (d : Dev) (v : Nat) : (d.irq v).dmas = d.dmas := by unfold Dev.irq; split <;> simp only [Dev.request_dmas]
@[simp] theorem Dev.irq_fbq (d : Dev) (v : Nat) : (d.irq v).fbq = d.fbq := by unfold Dev.irq; split <;> simp only [Dev.request_fbq]
@[simp] theorem Dev.irq_mail (d : Dev) (v : Nat) : (d.irq v).mail = d.mail := by unfold Dev.irq; split <;> simp only [Dev.request_mail]
@[simp] theorem Dev.irq_ep (d : Dev) (v : Nat) : (d.irq v).ep = d.ep := by unfold Dev.irq; split <;> simp only [Dev.request_ep]
@[simp] theorem Dev.irq_awgs (d : Dev) (v : Nat) : (d.irq v).awgs = d.awgs := by unfold Dev.irq; split <;> simp only [Dev.request_awgs]
@[simp] theorem Dev.irq_an (d : Dev) (v : Nat) : (d.irq v).an = d.an := by unfold Dev.irq; split <;> simp only [Dev.request_an]
@[simp] theorem Dev.irq_sec (d : Dev) (v : Nat) : (d.irq v).sec = d.sec := by unfold Dev.irq; split <;> simp only [Dev.request_sec]
@[simp] theorem Dev.irq_ring (d : Dev) (v : Nat) : (d.irq v).ring = d.ring := by unfold Dev.irq; split <;> simp only [Dev.request_ring]

@[simp] theorem Dev.statW_count (d : Dev) (p : Nat) (b : Word) : (d.statW p b).count = d.count := by
  rcases Dev.statW_cases d p b with h | ⟨v, h⟩ <;> simp only [h, Dev.irq_count, Dev.putBits_count]
@[simp] theorem Dev.statW_rtc (d : Dev) (p : Nat) (b : Word) : (d.statW p b).rtc = d.rtc := by
  rcases Dev.statW_cases d p b with h | ⟨v, h⟩ <;> simp only [h, Dev.irq_rtc, Dev.putBits_rtc]
@[simp] theorem Dev.statW_rtcFrac (d : Dev) (p : Nat) (b : Word) : (d.statW p b).rtcFrac = d.rtcFrac := by
  rcases Dev.statW_cases d p b with h | ⟨v, h⟩ <;> simp only [h, Dev.irq_rtcFrac, Dev.putBits_rtcFrac]
@[simp] theorem Dev.statW_free (d : Dev) (p : Nat) (b : Word) : (d.statW p b).free = d.free := by
  rcases Dev.statW_cases d p b with h | ⟨v, h⟩ <;> simp only [h, Dev.irq_free, Dev.putBits_free]
@[simp] theorem Dev.statW_answers (d : Dev) (p : Nat) (b : Word) : (d.statW p b).answers = d.answers := by
  rcases Dev.statW_cases d p b with h | ⟨v, h⟩ <;> simp only [h, Dev.irq_answers, Dev.putBits_answers]
@[simp] theorem Dev.statW_rbytes (d : Dev) (p : Nat) (b : Word) : (d.statW p b).rbytes = d.rbytes := by
  rcases Dev.statW_cases d p b with h | ⟨v, h⟩ <;> simp only [h, Dev.irq_rbytes, Dev.putBits_rbytes]
@[simp] theorem Dev.statW_prot (d : Dev) (p : Nat) (b : Word) : (d.statW p b).prot = d.prot := by
  rcases Dev.statW_cases d p b with h | ⟨v, h⟩ <;> simp only [h, Dev.irq_prot, Dev.putBits_prot]
@[simp] theorem Dev.statW_mw (d : Dev) (p : Nat) (b : Word) : (d.statW p b).mw = d.mw := by
  rcases Dev.statW_cases d p b with h | ⟨v, h⟩ <;> simp only [h, Dev.irq_mw, Dev.putBits_mw]
@[simp] theorem Dev.statW_prog (d : Dev) (p : Nat) (b : Word) : (d.statW p b).prog = d.prog := by
  rcases Dev.statW_cases d p b with h | ⟨v, h⟩ <;> simp only [h, Dev.irq_prog, Dev.putBits_prog]
@[simp] theorem Dev.statW_sqs (d : Dev) (p : Nat) (b : Word) : (d.statW p b).sqs = d.sqs := by
  rcases Dev.statW_cases d p b with h | ⟨v, h⟩ <;> simp only [h, Dev.irq_sqs, Dev.putBits_sqs]
@[simp] theorem Dev.statW_syns (d : Dev) (p : Nat) (b : Word) : (d.statW p b).syns = d.syns := by
  rcases Dev.statW_cases d p b with h | ⟨v, h⟩ <;> simp only [h, Dev.irq_syns, Dev.putBits_syns]
@[simp] theorem Dev.statW_refs (d : Dev) (p : Nat) (b : Word) : (d.statW p b).refs = d.refs := by
  rcases Dev.statW_cases d p b with h | ⟨v, h⟩ <;> simp only [h, Dev.irq_refs, Dev.putBits_refs]
@[simp] theorem Dev.statW_txs (d : Dev) (p : Nat) (b : Word) : (d.statW p b).txs = d.txs := by
  rcases Dev.statW_cases d p b with h | ⟨v, h⟩ <;> simp only [h, Dev.irq_txs, Dev.putBits_txs]
@[simp] theorem Dev.statW_rxs (d : Dev) (p : Nat) (b : Word) : (d.statW p b).rxs = d.rxs := by
  rcases Dev.statW_cases d p b with h | ⟨v, h⟩ <;> simp only [h, Dev.irq_rxs, Dev.putBits_rxs]
@[simp] theorem Dev.statW_bill (d : Dev) (p : Nat) (b : Word) : (d.statW p b).bill = d.bill := by
  rcases Dev.statW_cases d p b with h | ⟨v, h⟩ <;> simp only [h, Dev.irq_bill, Dev.putBits_bill]
@[simp] theorem Dev.statW_queues (d : Dev) (p : Nat) (b : Word) : (d.statW p b).queues = d.queues := by
  rcases Dev.statW_cases d p b with h | ⟨v, h⟩ <;> simp only [h, Dev.irq_queues, Dev.putBits_queues]
@[simp] theorem Dev.statW_banks (d : Dev) (p : Nat) (b : Word) : (d.statW p b).banks = d.banks := by
  rcases Dev.statW_cases d p b with h | ⟨v, h⟩ <;> simp only [h, Dev.irq_banks, Dev.putBits_banks]
@[simp] theorem Dev.statW_net (d : Dev) (p : Nat) (b : Word) : (d.statW p b).net = d.net := by
  rcases Dev.statW_cases d p b with h | ⟨v, h⟩ <;> simp only [h, Dev.irq_net, Dev.putBits_net]
@[simp] theorem Dev.statW_tiles (d : Dev) (p : Nat) (b : Word) : (d.statW p b).tiles = d.tiles := by
  rcases Dev.statW_cases d p b with h | ⟨v, h⟩ <;> simp only [h, Dev.irq_tiles, Dev.putBits_tiles]
@[simp] theorem Dev.statW_dm (d : Dev) (p : Nat) (b : Word) : (d.statW p b).dm = d.dm := by
  rcases Dev.statW_cases d p b with h | ⟨v, h⟩ <;> simp only [h, Dev.irq_dm, Dev.putBits_dm]
@[simp] theorem Dev.statW_caps (d : Dev) (p : Nat) (b : Word) : (d.statW p b).caps = d.caps := by
  rcases Dev.statW_cases d p b with h | ⟨v, h⟩ <;> simp only [h, Dev.irq_caps, Dev.putBits_caps]
@[simp] theorem Dev.statW_dmas (d : Dev) (p : Nat) (b : Word) : (d.statW p b).dmas = d.dmas := by
  rcases Dev.statW_cases d p b with h | ⟨v, h⟩ <;> simp only [h, Dev.irq_dmas, Dev.putBits_dmas]
@[simp] theorem Dev.statW_fbq (d : Dev) (p : Nat) (b : Word) : (d.statW p b).fbq = d.fbq := by
  rcases Dev.statW_cases d p b with h | ⟨v, h⟩ <;> simp only [h, Dev.irq_fbq, Dev.putBits_fbq]
@[simp] theorem Dev.statW_mail (d : Dev) (p : Nat) (b : Word) : (d.statW p b).mail = d.mail := by
  rcases Dev.statW_cases d p b with h | ⟨v, h⟩ <;> simp only [h, Dev.irq_mail, Dev.putBits_mail]
@[simp] theorem Dev.statW_ep (d : Dev) (p : Nat) (b : Word) : (d.statW p b).ep = d.ep := by
  rcases Dev.statW_cases d p b with h | ⟨v, h⟩ <;> simp only [h, Dev.irq_ep, Dev.putBits_ep]
@[simp] theorem Dev.statW_awgs (d : Dev) (p : Nat) (b : Word) : (d.statW p b).awgs = d.awgs := by
  rcases Dev.statW_cases d p b with h | ⟨v, h⟩ <;> simp only [h, Dev.irq_awgs, Dev.putBits_awgs]
@[simp] theorem Dev.statW_an (d : Dev) (p : Nat) (b : Word) : (d.statW p b).an = d.an := by
  rcases Dev.statW_cases d p b with h | ⟨v, h⟩ <;> simp only [h, Dev.irq_an, Dev.putBits_an]
@[simp] theorem Dev.statW_sec (d : Dev) (p : Nat) (b : Word) : (d.statW p b).sec = d.sec := by
  rcases Dev.statW_cases d p b with h | ⟨v, h⟩ <;> simp only [h, Dev.irq_sec, Dev.putBits_sec]
@[simp] theorem Dev.statW_ring (d : Dev) (p : Nat) (b : Word) : (d.statW p b).ring = d.ring := by
  rcases Dev.statW_cases d p b with h | ⟨v, h⟩ <;> simp only [h, Dev.irq_ring, Dev.putBits_ring]

@[simp] theorem Dev.stat_count (d : Dev) (p b : Nat) : (d.stat p b).count = d.count := Dev.statW_count _ _ _
@[simp] theorem Dev.stat_rtc (d : Dev) (p b : Nat) : (d.stat p b).rtc = d.rtc := Dev.statW_rtc _ _ _
@[simp] theorem Dev.stat_rtcFrac (d : Dev) (p b : Nat) : (d.stat p b).rtcFrac = d.rtcFrac := Dev.statW_rtcFrac _ _ _
@[simp] theorem Dev.stat_free (d : Dev) (p b : Nat) : (d.stat p b).free = d.free := Dev.statW_free _ _ _
@[simp] theorem Dev.stat_answers (d : Dev) (p b : Nat) : (d.stat p b).answers = d.answers := Dev.statW_answers _ _ _
@[simp] theorem Dev.stat_rbytes (d : Dev) (p b : Nat) : (d.stat p b).rbytes = d.rbytes := Dev.statW_rbytes _ _ _
@[simp] theorem Dev.stat_prot (d : Dev) (p b : Nat) : (d.stat p b).prot = d.prot := Dev.statW_prot _ _ _
@[simp] theorem Dev.stat_mw (d : Dev) (p b : Nat) : (d.stat p b).mw = d.mw := Dev.statW_mw _ _ _
@[simp] theorem Dev.stat_prog (d : Dev) (p b : Nat) : (d.stat p b).prog = d.prog := Dev.statW_prog _ _ _
@[simp] theorem Dev.stat_sqs (d : Dev) (p b : Nat) : (d.stat p b).sqs = d.sqs := Dev.statW_sqs _ _ _
@[simp] theorem Dev.stat_syns (d : Dev) (p b : Nat) : (d.stat p b).syns = d.syns := Dev.statW_syns _ _ _
@[simp] theorem Dev.stat_refs (d : Dev) (p b : Nat) : (d.stat p b).refs = d.refs := Dev.statW_refs _ _ _
@[simp] theorem Dev.stat_txs (d : Dev) (p b : Nat) : (d.stat p b).txs = d.txs := Dev.statW_txs _ _ _
@[simp] theorem Dev.stat_rxs (d : Dev) (p b : Nat) : (d.stat p b).rxs = d.rxs := Dev.statW_rxs _ _ _
@[simp] theorem Dev.stat_bill (d : Dev) (p b : Nat) : (d.stat p b).bill = d.bill := Dev.statW_bill _ _ _
@[simp] theorem Dev.stat_queues (d : Dev) (p b : Nat) : (d.stat p b).queues = d.queues := Dev.statW_queues _ _ _
@[simp] theorem Dev.stat_banks (d : Dev) (p b : Nat) : (d.stat p b).banks = d.banks := Dev.statW_banks _ _ _
@[simp] theorem Dev.stat_net (d : Dev) (p b : Nat) : (d.stat p b).net = d.net := Dev.statW_net _ _ _
@[simp] theorem Dev.stat_tiles (d : Dev) (p b : Nat) : (d.stat p b).tiles = d.tiles := Dev.statW_tiles _ _ _
@[simp] theorem Dev.stat_dm (d : Dev) (p b : Nat) : (d.stat p b).dm = d.dm := Dev.statW_dm _ _ _
@[simp] theorem Dev.stat_caps (d : Dev) (p b : Nat) : (d.stat p b).caps = d.caps := Dev.statW_caps _ _ _
@[simp] theorem Dev.stat_dmas (d : Dev) (p b : Nat) : (d.stat p b).dmas = d.dmas := Dev.statW_dmas _ _ _
@[simp] theorem Dev.stat_fbq (d : Dev) (p b : Nat) : (d.stat p b).fbq = d.fbq := Dev.statW_fbq _ _ _
@[simp] theorem Dev.stat_mail (d : Dev) (p b : Nat) : (d.stat p b).mail = d.mail := Dev.statW_mail _ _ _
@[simp] theorem Dev.stat_ep (d : Dev) (p b : Nat) : (d.stat p b).ep = d.ep := Dev.statW_ep _ _ _
@[simp] theorem Dev.stat_awgs (d : Dev) (p b : Nat) : (d.stat p b).awgs = d.awgs := Dev.statW_awgs _ _ _
@[simp] theorem Dev.stat_an (d : Dev) (p b : Nat) : (d.stat p b).an = d.an := Dev.statW_an _ _ _
@[simp] theorem Dev.stat_sec (d : Dev) (p b : Nat) : (d.stat p b).sec = d.sec := Dev.statW_sec _ _ _
@[simp] theorem Dev.stat_ring (d : Dev) (p b : Nat) : (d.stat p b).ring = d.ring := Dev.statW_ring _ _ _

@[simp] theorem Dev.stateReject_count (d : Dev) (p : Nat) : (d.stateReject p).count = d.count := Dev.stat_count _ _ _
@[simp] theorem Dev.stateReject_rtc (d : Dev) (p : Nat) : (d.stateReject p).rtc = d.rtc := Dev.stat_rtc _ _ _
@[simp] theorem Dev.stateReject_rtcFrac (d : Dev) (p : Nat) : (d.stateReject p).rtcFrac = d.rtcFrac := Dev.stat_rtcFrac _ _ _
@[simp] theorem Dev.stateReject_free (d : Dev) (p : Nat) : (d.stateReject p).free = d.free := Dev.stat_free _ _ _
@[simp] theorem Dev.stateReject_answers (d : Dev) (p : Nat) : (d.stateReject p).answers = d.answers := Dev.stat_answers _ _ _
@[simp] theorem Dev.stateReject_rbytes (d : Dev) (p : Nat) : (d.stateReject p).rbytes = d.rbytes := Dev.stat_rbytes _ _ _
@[simp] theorem Dev.stateReject_prot (d : Dev) (p : Nat) : (d.stateReject p).prot = d.prot := Dev.stat_prot _ _ _
@[simp] theorem Dev.stateReject_mw (d : Dev) (p : Nat) : (d.stateReject p).mw = d.mw := Dev.stat_mw _ _ _
@[simp] theorem Dev.stateReject_prog (d : Dev) (p : Nat) : (d.stateReject p).prog = d.prog := Dev.stat_prog _ _ _
@[simp] theorem Dev.stateReject_sqs (d : Dev) (p : Nat) : (d.stateReject p).sqs = d.sqs := Dev.stat_sqs _ _ _
@[simp] theorem Dev.stateReject_syns (d : Dev) (p : Nat) : (d.stateReject p).syns = d.syns := Dev.stat_syns _ _ _
@[simp] theorem Dev.stateReject_refs (d : Dev) (p : Nat) : (d.stateReject p).refs = d.refs := Dev.stat_refs _ _ _
@[simp] theorem Dev.stateReject_txs (d : Dev) (p : Nat) : (d.stateReject p).txs = d.txs := Dev.stat_txs _ _ _
@[simp] theorem Dev.stateReject_rxs (d : Dev) (p : Nat) : (d.stateReject p).rxs = d.rxs := Dev.stat_rxs _ _ _
@[simp] theorem Dev.stateReject_bill (d : Dev) (p : Nat) : (d.stateReject p).bill = d.bill := Dev.stat_bill _ _ _
@[simp] theorem Dev.stateReject_queues (d : Dev) (p : Nat) : (d.stateReject p).queues = d.queues := Dev.stat_queues _ _ _
@[simp] theorem Dev.stateReject_banks (d : Dev) (p : Nat) : (d.stateReject p).banks = d.banks := Dev.stat_banks _ _ _
@[simp] theorem Dev.stateReject_net (d : Dev) (p : Nat) : (d.stateReject p).net = d.net := Dev.stat_net _ _ _
@[simp] theorem Dev.stateReject_tiles (d : Dev) (p : Nat) : (d.stateReject p).tiles = d.tiles := Dev.stat_tiles _ _ _
@[simp] theorem Dev.stateReject_dm (d : Dev) (p : Nat) : (d.stateReject p).dm = d.dm := Dev.stat_dm _ _ _
@[simp] theorem Dev.stateReject_caps (d : Dev) (p : Nat) : (d.stateReject p).caps = d.caps := Dev.stat_caps _ _ _
@[simp] theorem Dev.stateReject_dmas (d : Dev) (p : Nat) : (d.stateReject p).dmas = d.dmas := Dev.stat_dmas _ _ _
@[simp] theorem Dev.stateReject_fbq (d : Dev) (p : Nat) : (d.stateReject p).fbq = d.fbq := Dev.stat_fbq _ _ _
@[simp] theorem Dev.stateReject_mail (d : Dev) (p : Nat) : (d.stateReject p).mail = d.mail := Dev.stat_mail _ _ _
@[simp] theorem Dev.stateReject_ep (d : Dev) (p : Nat) : (d.stateReject p).ep = d.ep := Dev.stat_ep _ _ _
@[simp] theorem Dev.stateReject_awgs (d : Dev) (p : Nat) : (d.stateReject p).awgs = d.awgs := Dev.stat_awgs _ _ _
@[simp] theorem Dev.stateReject_an (d : Dev) (p : Nat) : (d.stateReject p).an = d.an := Dev.stat_an _ _ _
@[simp] theorem Dev.stateReject_sec (d : Dev) (p : Nat) : (d.stateReject p).sec = d.sec := Dev.stat_sec _ _ _
@[simp] theorem Dev.stateReject_ring (d : Dev) (p : Nat) : (d.stateReject p).ring = d.ring := Dev.stat_ring _ _ _

@[simp] theorem Dev.rangeReject_count (d : Dev) (p : Nat) : (d.rangeReject p).count = d.count := by unfold Dev.rangeReject; split <;> simp only [Dev.stat_count]
@[simp] theorem Dev.rangeReject_rtc (d : Dev) (p : Nat) : (d.rangeReject p).rtc = d.rtc := by unfold Dev.rangeReject; split <;> simp only [Dev.stat_rtc]
@[simp] theorem Dev.rangeReject_rtcFrac (d : Dev) (p : Nat) : (d.rangeReject p).rtcFrac = d.rtcFrac := by unfold Dev.rangeReject; split <;> simp only [Dev.stat_rtcFrac]
@[simp] theorem Dev.rangeReject_free (d : Dev) (p : Nat) : (d.rangeReject p).free = d.free := by unfold Dev.rangeReject; split <;> simp only [Dev.stat_free]
@[simp] theorem Dev.rangeReject_answers (d : Dev) (p : Nat) : (d.rangeReject p).answers = d.answers := by unfold Dev.rangeReject; split <;> simp only [Dev.stat_answers]
@[simp] theorem Dev.rangeReject_rbytes (d : Dev) (p : Nat) : (d.rangeReject p).rbytes = d.rbytes := by unfold Dev.rangeReject; split <;> simp only [Dev.stat_rbytes]
@[simp] theorem Dev.rangeReject_prot (d : Dev) (p : Nat) : (d.rangeReject p).prot = d.prot := by unfold Dev.rangeReject; split <;> simp only [Dev.stat_prot]
@[simp] theorem Dev.rangeReject_mw (d : Dev) (p : Nat) : (d.rangeReject p).mw = d.mw := by unfold Dev.rangeReject; split <;> simp only [Dev.stat_mw]
@[simp] theorem Dev.rangeReject_prog (d : Dev) (p : Nat) : (d.rangeReject p).prog = d.prog := by unfold Dev.rangeReject; split <;> simp only [Dev.stat_prog]
@[simp] theorem Dev.rangeReject_sqs (d : Dev) (p : Nat) : (d.rangeReject p).sqs = d.sqs := by unfold Dev.rangeReject; split <;> simp only [Dev.stat_sqs]
@[simp] theorem Dev.rangeReject_syns (d : Dev) (p : Nat) : (d.rangeReject p).syns = d.syns := by unfold Dev.rangeReject; split <;> simp only [Dev.stat_syns]
@[simp] theorem Dev.rangeReject_refs (d : Dev) (p : Nat) : (d.rangeReject p).refs = d.refs := by unfold Dev.rangeReject; split <;> simp only [Dev.stat_refs]
@[simp] theorem Dev.rangeReject_txs (d : Dev) (p : Nat) : (d.rangeReject p).txs = d.txs := by unfold Dev.rangeReject; split <;> simp only [Dev.stat_txs]
@[simp] theorem Dev.rangeReject_rxs (d : Dev) (p : Nat) : (d.rangeReject p).rxs = d.rxs := by unfold Dev.rangeReject; split <;> simp only [Dev.stat_rxs]
@[simp] theorem Dev.rangeReject_bill (d : Dev) (p : Nat) : (d.rangeReject p).bill = d.bill := by unfold Dev.rangeReject; split <;> simp only [Dev.stat_bill]
@[simp] theorem Dev.rangeReject_queues (d : Dev) (p : Nat) : (d.rangeReject p).queues = d.queues := by unfold Dev.rangeReject; split <;> simp only [Dev.stat_queues]
@[simp] theorem Dev.rangeReject_banks (d : Dev) (p : Nat) : (d.rangeReject p).banks = d.banks := by unfold Dev.rangeReject; split <;> simp only [Dev.stat_banks]
@[simp] theorem Dev.rangeReject_net (d : Dev) (p : Nat) : (d.rangeReject p).net = d.net := by unfold Dev.rangeReject; split <;> simp only [Dev.stat_net]
@[simp] theorem Dev.rangeReject_tiles (d : Dev) (p : Nat) : (d.rangeReject p).tiles = d.tiles := by unfold Dev.rangeReject; split <;> simp only [Dev.stat_tiles]
@[simp] theorem Dev.rangeReject_dm (d : Dev) (p : Nat) : (d.rangeReject p).dm = d.dm := by unfold Dev.rangeReject; split <;> simp only [Dev.stat_dm]
@[simp] theorem Dev.rangeReject_caps (d : Dev) (p : Nat) : (d.rangeReject p).caps = d.caps := by unfold Dev.rangeReject; split <;> simp only [Dev.stat_caps]
@[simp] theorem Dev.rangeReject_dmas (d : Dev) (p : Nat) : (d.rangeReject p).dmas = d.dmas := by unfold Dev.rangeReject; split <;> simp only [Dev.stat_dmas]
@[simp] theorem Dev.rangeReject_fbq (d : Dev) (p : Nat) : (d.rangeReject p).fbq = d.fbq := by unfold Dev.rangeReject; split <;> simp only [Dev.stat_fbq]
@[simp] theorem Dev.rangeReject_mail (d : Dev) (p : Nat) : (d.rangeReject p).mail = d.mail := by unfold Dev.rangeReject; split <;> simp only [Dev.stat_mail]
@[simp] theorem Dev.rangeReject_ep (d : Dev) (p : Nat) : (d.rangeReject p).ep = d.ep := by unfold Dev.rangeReject; split <;> simp only [Dev.stat_ep]
@[simp] theorem Dev.rangeReject_awgs (d : Dev) (p : Nat) : (d.rangeReject p).awgs = d.awgs := by unfold Dev.rangeReject; split <;> simp only [Dev.stat_awgs]
@[simp] theorem Dev.rangeReject_an (d : Dev) (p : Nat) : (d.rangeReject p).an = d.an := by unfold Dev.rangeReject; split <;> simp only [Dev.stat_an]
@[simp] theorem Dev.rangeReject_sec (d : Dev) (p : Nat) : (d.rangeReject p).sec = d.sec := by unfold Dev.rangeReject; split <;> simp only [Dev.stat_sec]
@[simp] theorem Dev.rangeReject_ring (d : Dev) (p : Nat) : (d.rangeReject p).ring = d.ring := by unfold Dev.rangeReject; split <;> simp only [Dev.stat_ring]

/-! ## Records just set -/

@[simp] theorem Dev.setSq_sq (d : Dev) (n : Nat) (x : Sq) : (d.setSq n x).sq n = x := tabGet_tabSet_same _ _ _ _
theorem Dev.setSq_sq_other (d : Dev) (n k : Nat) (x : Sq) (h : k ≠ n) : (d.setSq n x).sq k = d.sq k :=
  tabGet_tabSet_other _ _ _ _ _ h
@[simp] theorem Dev.setTx_tx (d : Dev) (n : Nat) (x : Tx) : (d.setTx n x).tx n = x := tabGet_tabSet_same _ _ _ _
theorem Dev.setTx_tx_other (d : Dev) (n k : Nat) (x : Tx) (h : k ≠ n) : (d.setTx n x).tx k = d.tx k :=
  tabGet_tabSet_other _ _ _ _ _ h
@[simp] theorem Dev.setRx_rx (d : Dev) (n : Nat) (x : Rx) : (d.setRx n x).rx n = x := tabGet_tabSet_same _ _ _ _
theorem Dev.setRx_rx_other (d : Dev) (n k : Nat) (x : Rx) (h : k ≠ n) : (d.setRx n x).rx k = d.rx k :=
  tabGet_tabSet_other _ _ _ _ _ h
@[simp] theorem Dev.setSyn_syn (d : Dev) (n : Nat) (x : Syn) : (d.setSyn n x).syn n = x := tabGet_tabSet_same _ _ _ _
theorem Dev.setSyn_syn_other (d : Dev) (n k : Nat) (x : Syn) (h : k ≠ n) : (d.setSyn n x).syn k = d.syn k :=
  tabGet_tabSet_other _ _ _ _ _ h
@[simp] theorem Dev.setCell_cell (d : Dev) (n : Nat) (x : Cell) : (d.setCell n x).cell n = x := tabGet_tabSet_same _ _ _ _
theorem Dev.setCell_cell_other (d : Dev) (n k : Nat) (x : Cell) (h : k ≠ n) : (d.setCell n x).cell k = d.cell k :=
  tabGet_tabSet_other _ _ _ _ _ h
@[simp] theorem Dev.setQueue_queue (d : Dev) (n : Nat) (x : Queue) : (d.setQueue n x).queue n = x := tabGet_tabSet_same _ _ _ _
theorem Dev.setQueue_queue_other (d : Dev) (n k : Nat) (x : Queue) (h : k ≠ n) : (d.setQueue n x).queue k = d.queue k :=
  tabGet_tabSet_other _ _ _ _ _ h
@[simp] theorem Dev.setBank_bank (d : Dev) (n : Nat) (x : Bank) : (d.setBank n x).bank n = x := tabGet_tabSet_same _ _ _ _
theorem Dev.setBank_bank_other (d : Dev) (n k : Nat) (x : Bank) (h : k ≠ n) : (d.setBank n x).bank k = d.bank k :=
  tabGet_tabSet_other _ _ _ _ _ h
@[simp] theorem Dev.setCap_cap (d : Dev) (n : Nat) (x : Cap) : (d.setCap n x).cap n = x := tabGet_tabSet_same _ _ _ _
theorem Dev.setCap_cap_other (d : Dev) (n k : Nat) (x : Cap) (h : k ≠ n) : (d.setCap n x).cap k = d.cap k :=
  tabGet_tabSet_other _ _ _ _ _ h
@[simp] theorem Dev.setDma_dma (d : Dev) (n : Nat) (x : Dma) : (d.setDma n x).dma n = x := tabGet_tabSet_same _ _ _ _
theorem Dev.setDma_dma_other (d : Dev) (n k : Nat) (x : Dma) (h : k ≠ n) : (d.setDma n x).dma k = d.dma k :=
  tabGet_tabSet_other _ _ _ _ _ h
@[simp] theorem Dev.setAwg_awg (d : Dev) (n : Nat) (x : Awg) : (d.setAwg n x).awg n = x := tabGet_tabSet_same _ _ _ _
theorem Dev.setAwg_awg_other (d : Dev) (n k : Nat) (x : Awg) (h : k ≠ n) : (d.setAwg n x).awg k = d.awg k :=
  tabGet_tabSet_other _ _ _ _ _ h
@[simp] theorem Dev.setStack_stack (d : Dev) (n : Nat) (x : Stack) : (d.setStack n x).stack n = x := tabGet_tabSet_same _ _ _ _
theorem Dev.setStack_stack_other (d : Dev) (n k : Nat) (x : Stack) (h : k ≠ n) : (d.setStack n x).stack k = d.stack k :=
  tabGet_tabSet_other _ _ _ _ _ h

/-! ## Registers under updates of records -/

@[simp] theorem Dev.reg_setSq (d : Dev) (n : Nat) (x : Sq) (a : Nat) : (d.setSq n x).reg a = d.reg a := by rfl
@[simp] theorem Dev.rd_setSq (d : Dev) (n : Nat) (x : Sq) (p : Nat) (f : Field) : (d.setSq n x).rd p f = d.rd p f := by rfl
@[simp] theorem Dev.reg_setTx (d : Dev) (n : Nat) (x : Tx) (a : Nat) : (d.setTx n x).reg a = d.reg a := by rfl
@[simp] theorem Dev.rd_setTx (d : Dev) (n : Nat) (x : Tx) (p : Nat) (f : Field) : (d.setTx n x).rd p f = d.rd p f := by rfl
@[simp] theorem Dev.reg_setRx (d : Dev) (n : Nat) (x : Rx) (a : Nat) : (d.setRx n x).reg a = d.reg a := by rfl
@[simp] theorem Dev.rd_setRx (d : Dev) (n : Nat) (x : Rx) (p : Nat) (f : Field) : (d.setRx n x).rd p f = d.rd p f := by rfl
@[simp] theorem Dev.reg_setSyn (d : Dev) (n : Nat) (x : Syn) (a : Nat) : (d.setSyn n x).reg a = d.reg a := by rfl
@[simp] theorem Dev.rd_setSyn (d : Dev) (n : Nat) (x : Syn) (p : Nat) (f : Field) : (d.setSyn n x).rd p f = d.rd p f := by rfl
@[simp] theorem Dev.reg_setCell (d : Dev) (n : Nat) (x : Cell) (a : Nat) : (d.setCell n x).reg a = d.reg a := by rfl
@[simp] theorem Dev.rd_setCell (d : Dev) (n : Nat) (x : Cell) (p : Nat) (f : Field) : (d.setCell n x).rd p f = d.rd p f := by rfl
@[simp] theorem Dev.reg_setQueue (d : Dev) (n : Nat) (x : Queue) (a : Nat) : (d.setQueue n x).reg a = d.reg a := by rfl
@[simp] theorem Dev.rd_setQueue (d : Dev) (n : Nat) (x : Queue) (p : Nat) (f : Field) : (d.setQueue n x).rd p f = d.rd p f := by rfl
@[simp] theorem Dev.reg_setBank (d : Dev) (n : Nat) (x : Bank) (a : Nat) : (d.setBank n x).reg a = d.reg a := by rfl
@[simp] theorem Dev.rd_setBank (d : Dev) (n : Nat) (x : Bank) (p : Nat) (f : Field) : (d.setBank n x).rd p f = d.rd p f := by rfl
@[simp] theorem Dev.reg_setCap (d : Dev) (n : Nat) (x : Cap) (a : Nat) : (d.setCap n x).reg a = d.reg a := by rfl
@[simp] theorem Dev.rd_setCap (d : Dev) (n : Nat) (x : Cap) (p : Nat) (f : Field) : (d.setCap n x).rd p f = d.rd p f := by rfl
@[simp] theorem Dev.reg_setDma (d : Dev) (n : Nat) (x : Dma) (a : Nat) : (d.setDma n x).reg a = d.reg a := by rfl
@[simp] theorem Dev.rd_setDma (d : Dev) (n : Nat) (x : Dma) (p : Nat) (f : Field) : (d.setDma n x).rd p f = d.rd p f := by rfl
@[simp] theorem Dev.reg_setAwg (d : Dev) (n : Nat) (x : Awg) (a : Nat) : (d.setAwg n x).reg a = d.reg a := by rfl
@[simp] theorem Dev.rd_setAwg (d : Dev) (n : Nat) (x : Awg) (p : Nat) (f : Field) : (d.setAwg n x).rd p f = d.rd p f := by rfl
@[simp] theorem Dev.reg_setStack (d : Dev) (n : Nat) (x : Stack) (a : Nat) : (d.setStack n x).reg a = d.reg a := by rfl
@[simp] theorem Dev.rd_setStack (d : Dev) (n : Nat) (x : Stack) (p : Nat) (f : Field) : (d.setStack n x).rd p f = d.rd p f := by rfl

end Sys2Proof.Machine
end

