-- ==== Sys2Proof/Laws/Bus.lean ====
section
/-! SUPPORT. What a write that every rule lets through does: the block stores it and acts on it. -/
namespace Sys2Proof.Machine

open Sys2Proof.Safety

theorem addrOf_page (p off : Nat) (h : off < 65536) : addrOf p off / 65536 = p := by
  unfold addrOf
  omega

theorem addrOf_off (p off : Nat) (h : off < 65536) : addrOf p off % 65536 = off := by
  unfold addrOf
  omega

theorem addrOf_inj (p q o r : Nat) (ho : o < 65536) (hr : r < 65536) : addrOf p o = addrOf q r ↔ p = q ∧ o = r := by
  unfold addrOf
  omega

/-- What `acceptedAs` says, rule by rule. -/
theorem acceptedAs_iff (d : Dev) (p off : Nat) (w : BusWrite) (narrow : Bool) :
    acceptedAs d p off w narrow = true ↔
      d.heard w.m = true ∧ d.stalls w.m = false ∧ d.barred w.m p = false ∧ (fieldsAt p off).isNone = false ∧ w.be ≠ 0 ∧
        d.accessCause (seen d p off w) w.data narrow = none ∧ d.staged w.m p off = false ∧
        (seen d p off w).reaches (d.canWrite w.m p off) = true ∧ d.levelIgnores p off = false ∧ ¬(p = 0 ∧ off = 0x040) ∧
        d.stateBad (seen d p off w) = false ∧ d.rangeBad (seen d p off w) = false ∧
        ¬(off = 0x008 ∧ p < 0x18 ∧ (seen d p off w).val F.PAGE_CTRL_enable = 0) := by
  have hf : (fieldsAt p off).isSome = true ↔ (fieldsAt p off).isNone = false := by cases fieldsAt p off <;> simp
  simp only [acceptedAs, Bool.and_eq_true, Bool.not_eq_true', bne_iff_ne, ne_eq, Option.isNone_iff_eq_none, hf,
    beq_eq_false_iff_ne, Bool.and_eq_false_iff, decide_eq_false_iff_not, and_assoc, not_and, BitVec.ofNat_eq_ofNat]
  tauto

/-- A write that passes is judged and performed. -/
theorem Dev.judge_accepted (d : Dev) (p off : Nat) (w : BusWrite) (narrow : Bool) (h : acceptedAs d p off w narrow = true) :
    d.judge (seen d p off w) = d.apply (seen d p off w) := by
  obtain ⟨-, -, -, -, -, -, -, hr, hl, hm, hbad, hrg, hen⟩ := (acceptedAs_iff d p off w narrow).mp h
  have hp : (seen d p off w).p = p := rfl
  have ho : (seen d p off w).off = off := rfl
  have hm2 : (seen d p off w).m = w.m := rfl
  unfold Dev.judge
  simp only [hp, ho, hm2, hr, Bool.not_true, Bool.false_eq_true, if_false, hl, hbad, hrg]
  rw [if_neg (by tauto), if_neg hen]

/-- An accepted write is performed by its block. -/
theorem Dev.writeWord_accepted (d : Dev) (p off : Nat) (w : BusWrite) (h : accepted d p off w = true) :
    d.writeWord w.m p off w.be w.data none = d.apply (seen d p off w) := by
  obtain ⟨-, -, -, hf, hbe, ha, hsg, -⟩ := (acceptedAs_iff d p off w _).mp h
  unfold Dev.writeWord
  simp only [hf, hbe, beq_iff_eq, Bool.false_or, if_false, Option.isSome_none, Bool.false_eq_true]
  change (match d.accessCause (seen d p off w) w.data (w.be != 15) with
    | some c => _
    | none => _) = _
  rw [ha]
  simp only [hsg, Bool.false_eq_true, if_false]
  exact d.judge_accepted p off w _ h

/-- An accepted write at a register's place. -/
theorem Dev.writeAt_accepted (d : Dev) (p off : Nat) (w : BusWrite) (ho : off < 0x1000) (h4 : off % 4 = 0)
    (h : accepted d p off w = true) : d.writeAt p off w = d.apply (seen d p off w) := by
  have hw := d.writeWord_accepted p off w h
  obtain ⟨hs, hst, hb, -⟩ := (acceptedAs_iff d p off w _).mp h
  unfold Dev.writeAt Dev.busWrite Dev.writeNow
  have e1 : addrOf p off / 65536 = p := addrOf_page p off (by omega)
  have e2 : addrOf p off % 65536 / 4 * 4 = off := by rw [addrOf_off p off (by omega)]; omega
  simp only [hs, hst, e1, e2, hb, Bool.not_true, Bool.false_eq_true, if_false]
  rw [if_pos (by omega)]
  exact hw

/-! ## What a stored write leaves -/

/-- The bits of a register that hold nothing (WO). -/
def woBits (p off : Nat) : Word := bitsWhere p off fun f => f.acc == .wo

/-- A field that is not WO reads as the write left it, changed or not. -/
theorem Dev.rd_store (d : Dev) (p off : Nat) (w : BusWrite) (f : Field) (ho : f.off = off) (hw : f.lo + f.w ≤ 32)
    (ht : tsOf p off = none) (hf : f.mask &&& woBits p off = 0) :
    (d.store (seen d p off w)).rd p f = (seen d p off w).val f := by
  have hp : (seen d p off w).p = p := rfl
  have hof : (seen d p off w).off = off := rfl
  have hm : (seen d p off w).m = w.m := rfl
  have hb : (seen d p off w).be = w.be := rfl
  have hn : (seen d p off w).new = (d.reg (addrOf p off) &&& ~~~(d.writeMask w.m p off &&& beMask w.be)) |||
      (w.data &&& (d.writeMask w.m p off &&& beMask w.be)) := rfl
  unfold Dev.store Dev.rd Wr.val
  simp only [hp, hof, hm, hb, ht, Option.isSome_none, Bool.false_eq_true, if_false, ho, Dev.reg_putBits_same]
  apply f.get_congr _ _ _ hw
  rw [hn]
  ext i
  have e := congrArg (fun x : Word => x[i]) hf
  simp only [woBits, BitVec.getElem_and, BitVec.ofNat_eq_ofNat, BitVec.getElem_zero] at e
  simp only [BitVec.getElem_or, BitVec.getElem_and, BitVec.getElem_not]
  generalize (bitsWhere p off fun f => f.acc == FieldKind.wo)[i] = b1 at e ⊢
  generalize (d.writeMask w.m p off)[i] = b2
  generalize (beMask w.be)[i] = b3
  generalize (d.reg (addrOf p off))[i] = b4
  generalize w.data[i] = b5
  generalize f.mask[i] = b6 at e ⊢
  cases b1 <;> cases b2 <;> cases b3 <;> cases b4 <;> cases b5 <;> cases b6 <;> simp_all

/-- Other registers stay under a store. -/
theorem Dev.reg_store_other (d : Dev) (x : Wr) (a : Nat) (h : a ≠ addrOf x.p x.off) : (d.store x).reg a = d.reg a := by
  unfold Dev.store
  split
  · rfl
  · exact Dev.reg_putBits_other d _ a _ _ h

/-- The stored word of a register without WO fields is the word that the write leaves. -/
theorem Dev.reg_store_same (d : Dev) (p off : Nat) (w : BusWrite) (ht : tsOf p off = none) (hf : woBits p off = 0) :
    (d.store (seen d p off w)).reg (addrOf p off) = (seen d p off w).new := by
  have hn : (seen d p off w).new = (d.reg (addrOf p off) &&& ~~~(d.writeMask w.m p off &&& beMask w.be)) |||
      (w.data &&& (d.writeMask w.m p off &&& beMask w.be)) := rfl
  have hp : (seen d p off w).p = p := rfl
  have hof : (seen d p off w).off = off := rfl
  have hm : (seen d p off w).m = w.m := rfl
  have hb : (seen d p off w).be = w.be := rfl
  rw [hn]
  unfold woBits at hf
  unfold Dev.store
  simp only [hp, hof, hm, hb, ht, Option.isSome_none, Bool.false_eq_true, if_false, Dev.reg_putBits_same, hf, hn]
  ext i
  simp only [BitVec.getElem_or, BitVec.getElem_and, BitVec.getElem_not, BitVec.ofNat_eq_ofNat, BitVec.getElem_zero]
  generalize (d.writeMask w.m p off)[i] = b2
  generalize (beMask w.be)[i] = b3
  generalize (d.reg (addrOf p off))[i] = b4
  generalize w.data[i] = b5
  cases b2 <;> cases b3 <;> cases b4 <;> cases b5 <;> rfl

/-- A performed write is its stored word and its effect; a covered one may unsettle a fingerprint (R456). -/
theorem Dev.apply_cases (d : Dev) (x : Wr) :
    d.apply x = Dev.effect d (d.store x) x ∨
      d.apply x = (Dev.effect d (d.store x) x).modRing fun r => { r with touched := true } := by
  simp only [Dev.apply]
  split
  · exact .inr rfl
  · exact .inl rfl

theorem Dev.reg_apply (d : Dev) (x : Wr) (a : Nat) : (d.apply x).reg a = (Dev.effect d (d.store x) x).reg a := by
  rcases d.apply_cases x with h | h
  · rw [h]
  · rw [h]
    rfl

theorem Dev.rd_apply (d : Dev) (x : Wr) (p : Nat) (f : Field) : (d.apply x).rd p f = (Dev.effect d (d.store x) x).rd p f := by
  simp only [Dev.rd, Dev.reg_apply]

/-- A write of a block's own register that holds no KY field acts as its block says. -/
theorem Dev.effect_block (old d : Dev) (x : Wr) (ho : 0x040 ≤ x.off) (hk : bitsWhere x.p x.off Field.ky = 0) :
    Dev.effect old d x = Dev.blockEffect old d x := by
  have hr : x.reaches Field.ky = false := by simp [Wr.reaches, hk]
  unfold Dev.effect
  simp only [hr, Bool.false_eq_true, if_false]
  rw [if_neg (by omega), if_neg (by omega), if_neg (by omega)]

/-- The enables of the four lanes of a word. -/
theorem be_sum (be : BitVec 4) : BitVec.ofNat 4 ((List.range 4).foldl (fun v k => v + 2 ^ k * (be.getLsbD k).toNat) 0) = be := by
  revert be; decide

/-- The four bytes of a word. -/
theorem data_sum (w : Word) : BitVec.ofNat 32 ((List.range 4).foldl (fun v k => v + 2 ^ (8 * k) * ((w >>> (8*k)).setWidth 8 : Byte).toNat) 0) = w := by
  apply BitVec.eq_of_toNat_eq
  simp [List.range, List.range.loop, Nat.shiftRight_eq_div_pow]
  have := w.isLt
  omega

/-- The four lanes of an aligned word are one access (R30). -/
theorem split_lanes (a : Nat) (w : BusWrite) (h : a % 4 = 0) : splitBytes a (lanes w) = [(a, w.be, w.data)] := by
  unfold splitBytes
  have hl : (lanes w).length = 4 := rfl
  have e : (a + (lanes w).length + 3) / 4 - a / 4 = 1 := by rw [hl]; omega
  simp only [e]
  have e2 : (a / 4 + 0) * 4 = a := by omega
  simp only [List.range_one, List.map_cons, List.map_nil, e2, List.cons.injEq, Prod.mk.injEq, true_and, and_true]
  have lane : ∀ k, k < 4 → (if a + k < a then (false, (0:Byte)) else (lanes w).getD (a + k - a) (false, 0)) = (w.be.getLsbD k, (w.data >>> (8 * k)).setWidth 8) := by
    intro k hk
    rw [if_neg (by omega), Nat.add_sub_cancel_left]
    unfold lanes
    interval_cases k <;> rfl
  constructor
  · conv_rhs => rw [← be_sum w.be]
    simp [List.range, List.range.loop, lanes]
  · conv_rhs => rw [← data_sum w.data]
    simp [List.range, List.range.loop, lanes]

/-- PAGE_IRQ_EN and PAGE_IRQ_MAP act on nothing. -/
theorem effect_hdr (old d : Dev) (x : Wr) (p) (hp : x.p = p) (ho : x.off = 0x010 ∨ x.off = 0x014) : Dev.effect old d x = d := by
  have hk : bitsWhere x.p x.off Field.ky = 0 := by
    rcases ho with ho | ho <;> rw [ho] <;> unfold bitsWhere fieldsAt <;> cases blkOf x.p <;> rfl
  have hr : x.reaches Field.ky = false := by simp [Wr.reaches, hk]
  unfold Dev.effect
  simp only [hr, Bool.false_eq_true, if_false]
  rw [if_neg (by omega), if_neg (by omega), if_pos (by omega)]

/-- No header word is a Turnstile. -/
theorem tsOf_hdr (p off) (h : off < 0x200) : tsOf p off = none := by unfold tsOf; rw [if_neg (by omega)]

/-- PAGE_IRQ_EN and PAGE_IRQ_MAP have no WO field. -/
theorem wo_hdr (p off) (ho : off = 0x010 ∨ off = 0x014) : woBits p off = 0 := by
    rcases ho with ho | ho <;> rw [ho] <;> unfold woBits bitsWhere fieldsAt <;> cases blkOf p <;> rfl

/-! ## Commands that write a register -/

/-- A command that writes a register at a fixed place performs an accepted write. -/
theorem performs_write {c : Instr} {s : State} {e : Dev} {p off : Nat} {w : BusWrite}
    (h : exec c s = onDev s fun d => d.writeAt p off w) (ho : off < 0x1000) (h4 : off % 4 = 0)
    (ha : accepted s.dev p off w = true)
    (he : Dev.effect s.dev (s.dev.store (seen s.dev p off w)) (seen s.dev p off w) = e) : Performs c s e := by
  have hw := s.dev.writeAt_accepted p off w ho h4 ha
  unfold Performs Gives
  rw [h]
  unfold onDev
  change _ = Host.Outcome.next (s.withDev e) ∨ _
  simp only [hw]
  rcases s.dev.apply_cases (seen s.dev p off w) with h | h
  · left; rw [h, he]
  · right; rw [h, he]

/-- The same where the block's own rule says what the write does. -/
theorem performs_block {c : Instr} {s : State} {e : Dev} {p off : Nat} {w : BusWrite}
    (h : exec c s = onDev s fun d => d.writeAt p off w) (ho : off < 0x1000) (h4 : off % 4 = 0)
    (ha : accepted s.dev p off w = true) (h0 : 0x040 ≤ off) (hk : bitsWhere p off Field.ky = 0)
    (he : Dev.blockEffect s.dev (s.dev.store (seen s.dev p off w)) (seen s.dev p off w) = e) : Performs c s e :=
  performs_write h ho h4 ha (by rw [Dev.effect_block _ _ (seen s.dev p off w) h0 hk]; exact he)

/-! ## Performed writes, field by field -/

theorem Dev.apply_count (d : Dev) (x : Wr) : (d.apply x).count = (Dev.effect d (d.store x) x).count := by
  rcases d.apply_cases x with h | h
  · rw [h]
  · rw [h]
    rfl
theorem Dev.apply_rtc (d : Dev) (x : Wr) : (d.apply x).rtc = (Dev.effect d (d.store x) x).rtc := by
  rcases d.apply_cases x with h | h
  · rw [h]
  · rw [h]
    rfl
theorem Dev.apply_rtcFrac (d : Dev) (x : Wr) : (d.apply x).rtcFrac = (Dev.effect d (d.store x) x).rtcFrac := by
  rcases d.apply_cases x with h | h
  · rw [h]
  · rw [h]
    rfl
theorem Dev.apply_free (d : Dev) (x : Wr) : (d.apply x).free = (Dev.effect d (d.store x) x).free := by
  rcases d.apply_cases x with h | h
  · rw [h]
  · rw [h]
    rfl
theorem Dev.apply_answers (d : Dev) (x : Wr) : (d.apply x).answers = (Dev.effect d (d.store x) x).answers := by
  rcases d.apply_cases x with h | h
  · rw [h]
  · rw [h]
    rfl
theorem Dev.apply_rbytes (d : Dev) (x : Wr) : (d.apply x).rbytes = (Dev.effect d (d.store x) x).rbytes := by
  rcases d.apply_cases x with h | h
  · rw [h]
  · rw [h]
    rfl
theorem Dev.apply_sent (d : Dev) (x : Wr) : (d.apply x).sent = (Dev.effect d (d.store x) x).sent := by
  rcases d.apply_cases x with h | h
  · rw [h]
  · rw [h]
    rfl
theorem Dev.apply_prot (d : Dev) (x : Wr) : (d.apply x).prot = (Dev.effect d (d.store x) x).prot := by
  rcases d.apply_cases x with h | h
  · rw [h]
  · rw [h]
    rfl
theorem Dev.apply_mw (d : Dev) (x : Wr) : (d.apply x).mw = (Dev.effect d (d.store x) x).mw := by
  rcases d.apply_cases x with h | h
  · rw [h]
  · rw [h]
    rfl
theorem Dev.apply_prog (d : Dev) (x : Wr) : (d.apply x).prog = (Dev.effect d (d.store x) x).prog := by
  rcases d.apply_cases x with h | h
  · rw [h]
  · rw [h]
    rfl
theorem Dev.apply_sqs (d : Dev) (x : Wr) : (d.apply x).sqs = (Dev.effect d (d.store x) x).sqs := by
  rcases d.apply_cases x with h | h
  · rw [h]
  · rw [h]
    rfl
theorem Dev.apply_syns (d : Dev) (x : Wr) : (d.apply x).syns = (Dev.effect d (d.store x) x).syns := by
  rcases d.apply_cases x with h | h
  · rw [h]
  · rw [h]
    rfl
theorem Dev.apply_refs (d : Dev) (x : Wr) : (d.apply x).refs = (Dev.effect d (d.store x) x).refs := by
  rcases d.apply_cases x with h | h
  · rw [h]
  · rw [h]
    rfl
theorem Dev.apply_txs (d : Dev) (x : Wr) : (d.apply x).txs = (Dev.effect d (d.store x) x).txs := by
  rcases d.apply_cases x with h | h
  · rw [h]
  · rw [h]
    rfl
theorem Dev.apply_rxs (d : Dev) (x : Wr) : (d.apply x).rxs = (Dev.effect d (d.store x) x).rxs := by
  rcases d.apply_cases x with h | h
  · rw [h]
  · rw [h]
    rfl
theorem Dev.apply_bill (d : Dev) (x : Wr) : (d.apply x).bill = (Dev.effect d (d.store x) x).bill := by
  rcases d.apply_cases x with h | h
  · rw [h]
  · rw [h]
    rfl
theorem Dev.apply_queues (d : Dev) (x : Wr) : (d.apply x).queues = (Dev.effect d (d.store x) x).queues := by
  rcases d.apply_cases x with h | h
  · rw [h]
  · rw [h]
    rfl
theorem Dev.apply_banks (d : Dev) (x : Wr) : (d.apply x).banks = (Dev.effect d (d.store x) x).banks := by
  rcases d.apply_cases x with h | h
  · rw [h]
  · rw [h]
    rfl
theorem Dev.apply_net (d : Dev) (x : Wr) : (d.apply x).net = (Dev.effect d (d.store x) x).net := by
  rcases d.apply_cases x with h | h
  · rw [h]
  · rw [h]
    rfl
theorem Dev.apply_tiles (d : Dev) (x : Wr) : (d.apply x).tiles = (Dev.effect d (d.store x) x).tiles := by
  rcases d.apply_cases x with h | h
  · rw [h]
  · rw [h]
    rfl
theorem Dev.apply_dm (d : Dev) (x : Wr) : (d.apply x).dm = (Dev.effect d (d.store x) x).dm := by
  rcases d.apply_cases x with h | h
  · rw [h]
  · rw [h]
    rfl
theorem Dev.apply_caps (d : Dev) (x : Wr) : (d.apply x).caps = (Dev.effect d (d.store x) x).caps := by
  rcases d.apply_cases x with h | h
  · rw [h]
  · rw [h]
    rfl
theorem Dev.apply_dmas (d : Dev) (x : Wr) : (d.apply x).dmas = (Dev.effect d (d.store x) x).dmas := by
  rcases d.apply_cases x with h | h
  · rw [h]
  · rw [h]
    rfl
theorem Dev.apply_rose (d : Dev) (x : Wr) : (d.apply x).rose = (Dev.effect d (d.store x) x).rose := by
  rcases d.apply_cases x with h | h
  · rw [h]
  · rw [h]
    rfl
theorem Dev.apply_fbq (d : Dev) (x : Wr) : (d.apply x).fbq = (Dev.effect d (d.store x) x).fbq := by
  rcases d.apply_cases x with h | h
  · rw [h]
  · rw [h]
    rfl
theorem Dev.apply_mail (d : Dev) (x : Wr) : (d.apply x).mail = (Dev.effect d (d.store x) x).mail := by
  rcases d.apply_cases x with h | h
  · rw [h]
  · rw [h]
    rfl
theorem Dev.apply_awgs (d : Dev) (x : Wr) : (d.apply x).awgs = (Dev.effect d (d.store x) x).awgs := by
  rcases d.apply_cases x with h | h
  · rw [h]
  · rw [h]
    rfl
theorem Dev.apply_an (d : Dev) (x : Wr) : (d.apply x).an = (Dev.effect d (d.store x) x).an := by
  rcases d.apply_cases x with h | h
  · rw [h]
  · rw [h]
    rfl
theorem Dev.apply_sec (d : Dev) (x : Wr) : (d.apply x).sec = (Dev.effect d (d.store x) x).sec := by
  rcases d.apply_cases x with h | h
  · rw [h]
  · rw [h]
    rfl

@[simp] theorem Dev.store_count (d : Dev) (x : Wr) : (d.store x).count = d.count := by
  unfold Dev.store
  split
  · rfl
  · exact Dev.putBits_count _ _ _ _
@[simp] theorem Dev.store_rtc (d : Dev) (x : Wr) : (d.store x).rtc = d.rtc := by
  unfold Dev.store
  split
  · rfl
  · exact Dev.putBits_rtc _ _ _ _
@[simp] theorem Dev.store_rtcFrac (d : Dev) (x : Wr) : (d.store x).rtcFrac = d.rtcFrac := by
  unfold Dev.store
  split
  · rfl
  · exact Dev.putBits_rtcFrac _ _ _ _
@[simp] theorem Dev.store_free (d : Dev) (x : Wr) : (d.store x).free = d.free := by
  unfold Dev.store
  split
  · rfl
  · exact Dev.putBits_free _ _ _ _
@[simp] theorem Dev.store_answers (d : Dev) (x : Wr) : (d.store x).answers = d.answers := by
  unfold Dev.store
  split
  · rfl
  · exact Dev.putBits_answers _ _ _ _
@[simp] theorem Dev.store_rbytes (d : Dev) (x : Wr) : (d.store x).rbytes = d.rbytes := by
  unfold Dev.store
  split
  · rfl
  · exact Dev.putBits_rbytes _ _ _ _
@[simp] theorem Dev.store_sent (d : Dev) (x : Wr) : (d.store x).sent = d.sent := by
  unfold Dev.store
  split
  · rfl
  · exact Dev.putBits_sent _ _ _ _
@[simp] theorem Dev.store_prot (d : Dev) (x : Wr) : (d.store x).prot = d.prot := by
  unfold Dev.store
  split
  · rfl
  · exact Dev.putBits_prot _ _ _ _
@[simp] theorem Dev.store_mw (d : Dev) (x : Wr) : (d.store x).mw = d.mw := by
  unfold Dev.store
  split
  · rfl
  · exact Dev.putBits_mw _ _ _ _
@[simp] theorem Dev.store_prog (d : Dev) (x : Wr) : (d.store x).prog = d.prog := by
  unfold Dev.store
  split
  · rfl
  · exact Dev.putBits_prog _ _ _ _
@[simp] theorem Dev.store_sqs (d : Dev) (x : Wr) : (d.store x).sqs = d.sqs := by
  unfold Dev.store
  split
  · rfl
  · exact Dev.putBits_sqs _ _ _ _
@[simp] theorem Dev.store_syns (d : Dev) (x : Wr) : (d.store x).syns = d.syns := by
  unfold Dev.store
  split
  · rfl
  · exact Dev.putBits_syns _ _ _ _
@[simp] theorem Dev.store_refs (d : Dev) (x : Wr) : (d.store x).refs = d.refs := by
  unfold Dev.store
  split
  · rfl
  · exact Dev.putBits_refs _ _ _ _
@[simp] theorem Dev.store_txs (d : Dev) (x : Wr) : (d.store x).txs = d.txs := by
  unfold Dev.store
  split
  · rfl
  · exact Dev.putBits_txs _ _ _ _
@[simp] theorem Dev.store_rxs (d : Dev) (x : Wr) : (d.store x).rxs = d.rxs := by
  unfold Dev.store
  split
  · rfl
  · exact Dev.putBits_rxs _ _ _ _
@[simp] theorem Dev.store_bill (d : Dev) (x : Wr) : (d.store x).bill = d.bill := by
  unfold Dev.store
  split
  · rfl
  · exact Dev.putBits_bill _ _ _ _
@[simp] theorem Dev.store_queues (d : Dev) (x : Wr) : (d.store x).queues = d.queues := by
  unfold Dev.store
  split
  · rfl
  · exact Dev.putBits_queues _ _ _ _
@[simp] theorem Dev.store_banks (d : Dev) (x : Wr) : (d.store x).banks = d.banks := by
  unfold Dev.store
  split
  · rfl
  · exact Dev.putBits_banks _ _ _ _
@[simp] theorem Dev.store_net (d : Dev) (x : Wr) : (d.store x).net = d.net := by
  unfold Dev.store
  split
  · rfl
  · exact Dev.putBits_net _ _ _ _
@[simp] theorem Dev.store_tiles (d : Dev) (x : Wr) : (d.store x).tiles = d.tiles := by
  unfold Dev.store
  split
  · rfl
  · exact Dev.putBits_tiles _ _ _ _
@[simp] theorem Dev.store_dm (d : Dev) (x : Wr) : (d.store x).dm = d.dm := by
  unfold Dev.store
  split
  · rfl
  · exact Dev.putBits_dm _ _ _ _
@[simp] theorem Dev.store_caps (d : Dev) (x : Wr) : (d.store x).caps = d.caps := by
  unfold Dev.store
  split
  · rfl
  · exact Dev.putBits_caps _ _ _ _
@[simp] theorem Dev.store_dmas (d : Dev) (x : Wr) : (d.store x).dmas = d.dmas := by
  unfold Dev.store
  split
  · rfl
  · exact Dev.putBits_dmas _ _ _ _
@[simp] theorem Dev.store_rose (d : Dev) (x : Wr) : (d.store x).rose = d.rose := by
  unfold Dev.store
  split
  · rfl
  · exact Dev.putBits_rose _ _ _ _
@[simp] theorem Dev.store_fbq (d : Dev) (x : Wr) : (d.store x).fbq = d.fbq := by
  unfold Dev.store
  split
  · rfl
  · exact Dev.putBits_fbq _ _ _ _
@[simp] theorem Dev.store_mail (d : Dev) (x : Wr) : (d.store x).mail = d.mail := by
  unfold Dev.store
  split
  · rfl
  · exact Dev.putBits_mail _ _ _ _
@[simp] theorem Dev.store_awgs (d : Dev) (x : Wr) : (d.store x).awgs = d.awgs := by
  unfold Dev.store
  split
  · rfl
  · exact Dev.putBits_awgs _ _ _ _
@[simp] theorem Dev.store_an (d : Dev) (x : Wr) : (d.store x).an = d.an := by
  unfold Dev.store
  split
  · rfl
  · exact Dev.putBits_an _ _ _ _
@[simp] theorem Dev.store_sec (d : Dev) (x : Wr) : (d.store x).sec = d.sec := by
  unfold Dev.store
  split
  · rfl
  · exact Dev.putBits_sec _ _ _ _
@[simp] theorem Dev.store_ring (d : Dev) (x : Wr) : (d.store x).ring = d.ring := by
  unfold Dev.store
  split
  · rfl
  · exact Dev.putBits_ring _ _ _ _

end Sys2Proof.Machine
end

