-- ==== Sys2Proof/Laws/Mem.lean ====
section
/-! SUPPORT. Every operation that writes a memory keeps its canonical form. -/
namespace Sys2Proof.Machine

/-! ## The two memories -/

theorem Mem.wf_iff (m : Mem) :
    m.wf = true ↔ tabWf (fun _ => (0 : Byte)) m.tiles = true ∧ tabWf (fun _ => (0 : Byte)) m.pad = true := by
  simp [Mem.wf]

theorem Mem.wf_reset : Mem.reset.wf = true := by decide

/-- A tile that is written whole reads back. -/
theorem Mem.tile_putTileBytes (m : Mem) (t : Nat) (bs : Bytes) (h : bs.length = 4096) :
    (m.putTileBytes (4096 * t) (bs.map some)).tile t = bs := by
  have := bytesGet_bytesSetEn 0 bs m.tiles (4096 * t)
  rw [h] at this
  exact this

/-- Every other tile reads as before. -/
theorem Mem.tile_putTileBytes_other (m : Mem) (t u : Nat) (bs : Bytes) (h : bs.length = 4096) (hu : u ≠ t) :
    (m.putTileBytes (4096 * t) (bs.map some)).tile u = m.tile u :=
  bytesGet_bytesSetEn_other _ _ _ _ _ _ (by rw [List.length_map, h]; omega)

theorem Mem.wf_tiles (m : Mem) (a : Nat) (bs : List (Option Byte)) (h : m.wf = true) :
    ({ m with tiles := bytesSetEn 0 m.tiles a bs } : Mem).wf = true := by
  rw [Mem.wf_iff] at h ⊢
  exact ⟨tabWf_bytesSetEn 0 bs _ a h.1, h.2⟩

theorem Mem.wf_pad (m : Mem) (a : Nat) (bs : List (Option Byte)) (h : m.wf = true) :
    ({ m with pad := bytesSetEn 0 m.pad a bs } : Mem).wf = true := by
  rw [Mem.wf_iff] at h ⊢
  exact ⟨h.1, tabWf_bytesSetEn 0 bs _ a h.2⟩

theorem Mem.wf_padClear (m : Mem) (lo hi : Nat) (h : m.wf = true) :
    ({ m with pad := bytesClear m.pad lo hi } : Mem).wf = true := by
  rw [Mem.wf_iff] at h ⊢
  exact ⟨h.1, tabWf_bytesClear 0 _ lo hi h.2⟩

theorem Mem.wf_putTileBytes (m : Mem) (a : Nat) (bs : List (Option Byte)) (h : m.wf = true) :
    (m.putTileBytes a bs).wf = true := m.wf_tiles a bs h

theorem Mem.wf_asleep (m : Mem) (d : Dev) (retain : Nat) (h : m.wf = true) : (m.asleep d retain).wf = true := by
  rw [Mem.wf_iff] at h ⊢
  exact ⟨tabWf_filter _ _ _ h.1, by rfl⟩

/-- A fold of steps that keep the canonical form keeps it. -/
theorem foldMem_wf {α : Type} (g : Dev × Mem → α → Dev × Mem) (hg : ∀ x a, x.2.wf = true → (g x a).2.wf = true) (l : List α)
    (x : Dev × Mem) (h : x.2.wf = true) : (l.foldl g x).2.wf = true := by
  induction l generalizing x with
  | nil => exact h
  | cons a r ih => exact ih _ (hg x a h)

/-! ## Tiles -/

theorem writeWhole_wf (d : Dev) (m : Mem) (t : Nat) (bs : Bytes) (h : m.wf = true) : (writeWhole d m t bs).2.wf = true :=
  m.wf_putTileBytes _ _ h

theorem writePart_wf (d : Dev) (m : Mem) (t off : Nat) (bs : List (Option Byte)) (who : Nat) (h : m.wf = true) :
    (writePart d m t off bs who).2.wf = true := m.wf_putTileBytes _ _ h

theorem putTiles_wf (d : Dev) (m : Mem) (a : Nat) (bs : Bytes) (h : m.wf = true) : (putTiles d m a bs).2.wf = true := by
  unfold putTiles
  refine foldMem_wf _ (fun x q hx => ?_) _ _ h
  simp only
  split
  · exact writeWhole_wf _ _ _ _ hx
  · exact writePart_wf _ _ _ _ _ _ hx

theorem bar4Write_wf (d : Dev) (m : Mem) (who off : Nat) (bs : List (Option Byte)) (h : m.wf = true) :
    (bar4Write d m who off bs).2.wf = true := by
  unfold bar4Write
  refine foldMem_wf _ (fun x q hx => ?_) _ _ h
  simp only
  split
  · exact hx
  · exact writePart_wf _ _ _ _ _ _ hx

theorem copySlot_wf (d : Dev) (m : Mem) (k : Nat) (h : m.wf = true) : (copySlot d m k).2.wf = true := m.wf_putTileBytes _ _ h

theorem copySlots_wf (n : Nat) (d : Dev) (m : Mem) (k : Nat) (h : m.wf = true) : (copySlots d m k n).2.wf = true := by
  induction n generalizing d m with
  | zero => exact h
  | succ n ih =>
    unfold copySlots
    split
    · exact ih _ _ (copySlot_wf d m k h)
    · exact h

theorem migrateEnd_wf (d : Dev) (m : Mem) (k : Nat) (h : m.wf = true) : (migrateEnd d m k).2.wf = true := by
  unfold migrateEnd
  split
  · exact copySlots_wf _ d m k h
  · exact h

/-! ## Requests of tile space -/

theorem serveAsk_wf (d : Dev) (m : Mem) (a : Ask) (h : m.wf = true) : (serveAsk d m a).2.wf = true := by
  unfold serveAsk
  split
  · split
    · exact h
    · exact writeWhole_wf d m _ _ h
    · exact writePart_wf d m _ _ _ _ h
  · exact h
  · exact bar4Write_wf d m _ _ _ h
  · exact h

/-- A request that reads leaves the memories. -/
theorem serveAsk_reads (d : Dev) (m : Mem) (who : Master) (off len : Nat) :
    (serveAsk d m (.aperture who off len none)).2 = m := by rfl

theorem askNow_wf (d : Dev) (m : Mem) (a : Ask) (h : m.wf = true) : (askNow d m a).2.wf = true := by
  unfold askNow
  split
  · exact h
  · split
    · exact h
    · exact serveAsk_wf d m a h

theorem ask_wf (d : Dev) (m : Mem) (a : Ask) (h : m.wf = true) : (ask d m a).2.wf = true := by
  unfold ask
  split
  · exact h
  · split
    · exact h
    · exact askNow_wf d m a h

theorem askOne_wf (d : Dev) (m : Mem) (a : Ask) (h : m.wf = true) : (askOne d m a).2.wf = true := ask_wf _ m a h

/-- A read through BAR4 leaves the memories. -/
theorem askOne_reads (d : Dev) (m : Mem) (who : Master) (off len : Nat) : (askOne d m (.aperture who off len none)).2 = m := by
  unfold askOne ask
  split
  · rfl
  · split
    · rfl
    · unfold askNow
      split
      · rfl
      · split
        · rfl
        · exact serveAsk_reads _ m who off len

theorem askAll_wf (d : Dev) (m : Mem) (as_ : List Ask) (h : m.wf = true) : (askAll d m as_).2.wf = true :=
  foldMem_wf _ (fun x a hx => ask_wf x.1 x.2 a hx) _ _ h

theorem drainWaiting_wf (d : Dev) (m : Mem) (h : m.wf = true) : (drainWaiting d m).2.wf = true := by
  unfold drainWaiting
  generalize ({ d with rbytes := [], dm := { d.dm with waiting := [] } } : Dev) = e
  exact foldMem_wf (fun x a => serveAsk x.1.cycle x.2 a) (fun x a hx => serveAsk_wf x.1.cycle x.2 a hx) _ (e, m) h

/-! ## Capture -/

theorem tileFull_wf (d : Dev) (m : Mem) (c : Nat) (h : m.wf = true) : (tileFull d m c).2.wf = true := by
  unfold tileFull
  extract_lets p t b bs
  generalize hx : writeWhole d m t bs = x
  have hw : x.2.wf = true := by
    rw [← hx]
    exact writeWhole_wf d m t bs h
  clear hx
  obtain ⟨e, q⟩ := x
  simp only
  split <;> exact hw

theorem placeBytes_wf (d : Dev) (m : Mem) (c : Nat) (bs : Bytes) (h : m.wf = true) : (placeBytes d m c bs).2.wf = true := by
  unfold placeBytes
  simp only
  split
  · exact tileFull_wf _ m c h
  · exact h

theorem fullUnless_wf (q : Bool) (d : Dev) (m : Mem) (c : Nat) (h : m.wf = true) :
    (if q = true then (d, m) else tileFull d m c).2.wf = true := by
  split
  · exact h
  · exact tileFull_wf d m c h

theorem placeRecord_wf (d : Dev) (m : Mem) (c typ : Nat) (bs : Bytes) (h : m.wf = true) :
    (placeRecord d m c typ bs).2.wf = true := by
  unfold placeRecord
  split
  · split
    · exact placeBytes_wf _ m c _ h
    · exact placeBytes_wf _ m c _ h
  · split
    · exact placeBytes_wf _ _ c _ (tileFull_wf d m c h)
    · exact h

theorem cdmaTake_wf (d : Dev) (m : Mem) (c : Nat) (h : m.wf = true) : (cdmaTake d m c).2.wf = true := by
  unfold cdmaTake
  split
  · exact h
  · exact placeRecord_wf _ _ c _ _ (fullUnless_wf _ _ m c h)

theorem capDone_wf (d : Dev) (m : Mem) (c : Nat) (h : m.wf = true) : (capDone d m c).2.wf = true := by
  unfold capDone
  split
  · simp only
    split
    · exact h
    · exact tileFull_wf d m c h
  · exact h

/-! ## Scratchpad -/

theorem fillDone_wf (d : Dev) (m : Mem) (b : Nat) (h : m.wf = true) : (fillDone d m b).2.wf = true := by
  unfold fillDone
  split
  · exact m.wf_padClear _ _ h
  · exact h

theorem spWrite_wf (d : Dev) (m : Mem) (b word : Nat) (data : List (Option Byte)) (h : m.wf = true) :
    (spWrite d m b word data).2.wf = true := by
  unfold spWrite
  split
  · exact h
  · exact m.wf_pad _ _ h

theorem spOne_wf (d : Dev) (m : Mem) (b : Nat) (a : SpAccess) (e : EccResult) (h : m.wf = true) :
    (spOne d m b a e).2.wf = true := by
  unfold spOne
  split
  · simp only
    split
    · exact spWrite_wf _ m b _ _ h
    · exact h
  · exact h

theorem spMeet_wf (d : Dev) (m : Mem) (b : Nat) (p q : SpAccess) (same again : Bool) (e : EccResult) (f : Bool)
    (h : m.wf = true) : (spMeet d m b p q same again e f).2.wf = true := by
  unfold spMeet
  split
  · split
    · simp only
      split
      · exact spOne_wf d m b p e h
      · exact spOne_wf _ _ b q e (spOne_wf d m b p e h)
    · split
      · simp only
        split
        · exact spOne_wf d m b p e h
        · exact spOne_wf _ _ b q e (spOne_wf d m b p e h)
      · exact spOne_wf d m b q e h
  · exact spOne_wf d m b _ e h

theorem spAccess_wf (d : Dev) (m : Mem) (b : Nat) (a : SpAccess) (hit : Option SpCollision) (e : EccResult)
    (h : m.wf = true) : (spAccess d m b a hit e).2.wf = true := by
  unfold spAccess
  have hf := fillDone_wf d m b h
  simp only
  split
  · exact spOne_wf _ _ b a e hf
  · split
    · exact spMeet_wf _ _ b _ _ _ _ e _ hf
    · exact spOne_wf _ _ b _ _ (spOne_wf _ _ b a e hf)

theorem spNow_wf (d : Dev) (m : Mem) (b : Nat) (a : SpAccess) (hit : Option SpCollision) (e : EccResult)
    (h : m.wf = true) : (spNow d m b a hit e).2.wf = true := by
  unfold spNow
  split
  · exact h
  · split
    · split <;> exact spAccess_wf d m b a _ e h
    · exact spAccess_wf d m b a _ e h

theorem spTake_wf (d : Dev) (m : Mem) (b : Nat) (a : SpAccess) (hit : Option SpCollision) (e : EccResult)
    (h : m.wf = true) : (spTake d m b a hit e).2.wf = true := by
  unfold spTake
  split
  · exact h
  · split
    · exact h
    · exact spNow_wf d m b a _ e h

theorem bankFailed_wf (d : Dev) (m : Mem) (b : Nat) (h : m.wf = true) : (bankFailed d m b).2.wf = true :=
  m.wf_padClear _ _ h

theorem testRow_wf (d : Dev) (m : Mem) (b row : Nat) (pass : Bool) (h : m.wf = true) :
    (testRow d m b row pass).2.wf = true := by
  unfold testRow
  split
  · simp only
    split
    · exact bankFailed_wf _ m b h
    · repeat (first | exact h | split)
  · exact h

theorem testStep_wf (d : Dev) (m : Mem) (b row : Nat) (pass : Bool) (h : m.wf = true) :
    (testStep d m b row pass).2.wf = true := by
  unfold testStep
  split
  · exact testRow_wf d m b row pass h
  · exact h

/-! ## Transfers -/

theorem padReach_wf (d : Dev) (m : Mem) (b : Nat) (h : m.wf = true) : (padReach d m b).2.wf = true := fillDone_wf d m b h

theorem padReachAll_wf (d : Dev) (m : Mem) (a n : Nat) (h : m.wf = true) : (padReachAll d m a n).2.wf = true := by
  unfold padReachAll
  split
  · exact h
  · generalize List.range ((a + n - 1) / 1048576 - a / 1048576 + 1) = l
    induction l generalizing d m with
    | nil => exact h
    | cons i r ih =>
      simp only [List.foldl]
      exact ih _ _ (padReach_wf d m _ h)

theorem moveIn_wf (d : Dev) (m : Mem) (a len n : Nat) (bs : Bytes) (h : m.wf = true) : (moveIn d m a len n bs).m.wf = true := by
  unfold moveIn
  exact putTiles_wf d m _ _ h

/-- A transfer out of tile space leaves the memories. -/
theorem moveOut_mem (d : Dev) (m : Mem) (a n : Nat) : (moveOut d m a n).m = m := by
  unfold moveOut
  generalize hr : (⟨0, [], [], d, m⟩ : Moved) = r
  have e : r.m = m := by rw [← hr]
  clear hr
  generalize tileParts a n = l
  induction l generalizing r with
  | nil => exact e
  | cons q l ih => exact ih _ e

theorem moveOut_wf (d : Dev) (m : Mem) (a n : Nat) (h : m.wf = true) : (moveOut d m a n).m.wf = true := by
  rw [moveOut_mem]
  exact h

theorem movePad_wf (d : Dev) (m : Mem) (a n : Nat) (bs : Option Bytes) (h : m.wf = true) : (movePad d m a n bs).m.wf = true := by
  unfold movePad
  have hp := padReachAll_wf d m a n h
  simp only
  split
  · exact Mem.wf_pad _ _ _ hp
  · exact hp

theorem dmaMove_wf (d : Dev) (m : Mem) (dir a len n : Nat) (bs : Bytes) (h : m.wf = true) :
    (dmaMove d m dir a len n bs).m.wf = true := by
  unfold dmaMove
  split
  · exact moveIn_wf _ m a len n bs h
  · exact moveOut_wf d m a n h
  · exact movePad_wf d m a n _ h
  · exact movePad_wf d m a n _ h

theorem dmaComplete_wf (d : Dev) (m : Mem) (ch : Nat) (bs : Bytes) (moved : Nat) (why : DmaEnd) (ok : Bool)
    (h : m.wf = true) : (dmaComplete d m ch bs moved why ok).2.wf = true := by
  unfold dmaComplete
  simp only
  split
  · exact h
  · split
    · exact h
    · exact dmaMove_wf _ m _ _ _ _ _ h

/-! ## The fallback transport -/

theorem fbReadWord_wf (d : Dev) (m : Mem) (space a : Nat) (h : m.wf = true) : (fbReadWord d m space a).2.2.wf = true := by
  unfold fbReadWord
  split
  · exact h
  · exact spNow_wf d m _ _ _ _ h
  · exact h

theorem fbWriteWord_wf (d : Dev) (m : Mem) (space a : Nat) (w : Word) (h : m.wf = true) :
    (fbWriteWord d m space a w).2.wf = true := by
  unfold fbWriteWord
  simp only
  split
  · exact h
  · exact spNow_wf d m _ _ _ _ h
  · exact bar4Write_wf d m _ _ _ h

theorem fbReadAll_wf (n : Nat) (d : Dev) (m : Mem) (space a : Nat) (h : m.wf = true) :
    (fbReadAll d m space a n).2.2.wf = true := by
  induction n generalizing d m a with
  | zero => exact h
  | succ n ih =>
    simp only [fbReadAll]
    exact ih _ _ _ (fbReadWord_wf d m space a h)

theorem fbWriteAll_wf (ws : List Word) (d : Dev) (m : Mem) (space a : Nat) (h : m.wf = true) :
    (fbWriteAll d m space a ws).2.wf = true := by
  induction ws generalizing d m a with
  | nil => exact h
  | cons w r ih =>
    simp only [fbWriteAll]
    exact ih _ _ _ (fbWriteWord_wf d m space a w h)

theorem fbRead_wf (d : Dev) (m : Mem) (tag : BitVec 16) (space len addr : Nat) (h : m.wf = true) :
    (fbRead d m tag space len addr).2.wf = true := by
  unfold fbRead
  split
  · exact h
  · split
    · exact h
    · exact fbReadAll_wf _ d m space addr h

theorem fbWrite_wf (d : Dev) (m : Mem) (tag : BitVec 16) (space addr : Nat) (bs : Bytes) (h : m.wf = true) :
    (fbWrite d m tag space addr bs).2.wf = true := by
  unfold fbWrite
  simp only
  split
  · exact h
  · split
    · exact h
    · exact fbWriteAll_wf _ d m space addr h

theorem fbTile_wf (d : Dev) (m : Mem) (op dir : Nat) (tag : BitVec 16) (len addr : Nat) (bs : Bytes) (why : DmaEnd)
    (h : m.wf = true) : (fbTile d m op dir tag len addr bs why).2.wf = true := by
  unfold fbTile
  split
  · exact h
  · exact dmaMove_wf _ m _ _ _ _ _ h

theorem fbServe_wf (d : Dev) (m : Mem) (r : FbReq) (h : m.wf = true) : (fbServe d m r).2.wf = true := by
  unfold fbServe
  split
  · exact fbRead_wf d m _ _ _ _ h
  · exact fbWrite_wf d m _ _ _ _ h
  · exact h
  · exact fbTile_wf d m _ _ _ _ _ _ _ h

theorem fbTake_wf (d : Dev) (m : Mem) (r : FbReq) (h : m.wf = true) : (fbTake d m r).2.wf = true := by
  unfold fbTake
  split
  · exact h
  · split
    · exact h
    · exact fbServe_wf d m r h

/-! ## What a cycle with no command does -/

theorem perform_wf (d : Dev) (m : Mem) (x : Held) (h : m.wf = true) : (perform d m x).2.wf = true := by
  unfold perform
  split
  · exact h
  · exact spNow_wf d m _ _ _ _ h
  · exact askNow_wf _ m _ h

theorem maintain_wf (d : Dev) (m : Mem) (h : m.wf = true) : (maintain d m).2.wf = true := by
  unfold maintain
  split
  · exact h
  · split
    · exact drainWaiting_wf d m h
    · exact foldMem_wf _ (fun x k hx => copySlots_wf 1 x.1 x.2 k hx) _ _ h

theorem tickAll_wf (d : Dev) (m : Mem) (h : m.wf = true) : (tickAll d m).2.wf = true := by
  unfold tickAll
  split
  · exact perform_wf _ m _ h
  · split
    · exact fbServe_wf _ m _ h
    · exact maintain_wf d m h

/-! ## Commands of the firmwares -/

/-- A command's body keeps the canonical form. -/
def Keeps (body : Dev → Mem → Nat → Reply × Dev × Mem) : Prop :=
  ∀ d m ch, m.wf = true → (body d m ch).2.2.wf = true

theorem serve_wf (op : Nat) (body : Dev → Mem → Nat → Reply × Dev × Mem) (hb : Keeps body) (d : Dev) (m : Mem) (ch : Nat)
    (h : m.wf = true) : (serve op body d m ch).2.wf = true := by
  unfold serve
  simp only
  split
  · split
    · exact h
    · exact hb _ m ch h
  · exact h

theorem keeps_simple (f : Dev → Nat → Reply × Dev) : Keeps (simple f) := fun _ _ _ h => h

theorem keeps_phased (f : Dev → Mem → Nat → Bool → Reply × Dev) (first : Bool) :
    Keeps fun d m ch => phased (fun d ch b => f d m ch b) d m ch first := fun _ _ _ h => h

theorem withOutput_wf (d : Dev) (m : Mem) (off len : Nat) (bs : Bytes) (ws : List Word) (h : m.wf = true) :
    (withOutput d m off len bs ws).2.2.wf = true := by
  unfold withOutput
  split
  · exact h
  · exact movePad_wf d m off _ _ h

theorem keeps_input (body : Dev → Nat → Bytes → Reply × Dev) : Keeps (input body) := by
  intro d m ch h
  unfold input withInput
  split
  · exact h
  · exact movePad_wf d m _ _ _ h

theorem keeps_inputOf (need : Nat) (body : Dev → Nat → Bytes → Reply × Dev) : Keeps (inputOf need body) := by
  intro d m ch h
  unfold inputOf
  split
  · exact keeps_input body d m ch h
  · exact h

theorem keeps_fwUpdate : Keeps fwUpdate := by
  intro d m ch h
  unfold fwUpdate
  split
  · exact h
  · exact keeps_input _ d m ch h

theorem keeps_attest : Keeps cmdAttest := fun _ _ _ h => withOutput_wf _ _ _ _ _ _ h

theorem keeps_cert : Keeps cmdCert := by
  intro d m ch h
  unfold cmdCert
  split
  · exact withOutput_wf _ _ _ _ _ _ h
  · exact h

theorem keeps_export : Keeps cmdExport := fun _ _ _ h => withOutput_wf _ _ _ _ _ _ h

theorem keeps_unlock : Keeps fun d m ch =>
    match inputOf 5408 Dev.cmdUnlock d m ch with
    | (r, d, m) => (r, { d with sec := { d.sec with challenge := none } }, m) :=
  fun d m ch h => keeps_inputOf 5408 Dev.cmdUnlock d m ch h

/-! ## Start-up and DORMANT -/

theorem resetPin_wf (d : Dev) (m : Mem) (n : Nat) (post : BitVec 4) (h : m.wf = true) : (resetPin d m n post).2.wf = true := by
  unfold resetPin
  split
  · exact h
  · exact Mem.wf_reset

theorem sleepNow_wf (d : Dev) (m : Mem) (retain : Nat) (h : m.wf = true) : (sleepNow d m retain).2.wf = true :=
  m.wf_asleep d retain h

theorem dormant_wf (d : Dev) (m : Mem) (h : m.wf = true) : (dormant d m).2.wf = true := by
  unfold dormant
  split
  · exact sleepNow_wf _ m _ h
  · exact h

theorem trip_wf (d : Dev) (m : Mem) (h : m.wf = true) : (trip d m).2.wf = true := by
  unfold trip
  split
  · exact h
  · exact sleepNow_wf _ m _ h

end Sys2Proof.Machine
end

