-- ==== Sys2Proof/Laws/Exec.lean ====
section
/-! SUPPORT. What a command can do, said once: it answers a next state with the queue kept, and with the memories kept or changed
in their canonical form. -/
namespace Sys2Proof.Machine

open Sys2Proof.Safety

/-- An outcome of command `c` at `s`: a next state with the queue of `s`, whose memories are those of `s` where `c` does not reach
them and keep the canonical form in any case; or `s` itself. -/
def Shape (c : Instr) (s : State) (o : Host.Outcome State Fault Refusal) : Prop :=
  (∃ x, o = .next (s.withBoth x) ∧ (reachesMemory c = false → x.2 = s.mem) ∧ (s.mem.wf = true → x.2.wf = true)) ∨
    o = .next s

theorem shape_dev (c : Instr) (s : State) (f : Dev → Dev) : Shape c s (onDev s f) :=
  .inl ⟨(f s.dev, s.mem), rfl, fun _ => rfl, id⟩

theorem shape_live (c : Instr) (s : State) (f : Dev → Dev) : Shape c s (onLive s f) := by
  unfold onLive
  split
  · exact .inl ⟨(f s.dev, s.mem), rfl, fun _ => rfl, id⟩
  · exact .inr rfl

theorem shape_both (c : Instr) (s : State) (f : Dev → Mem → Dev × Mem) (hc : reachesMemory c = true)
    (hf : ∀ d, s.mem.wf = true → (f d s.mem).2.wf = true) : Shape c s (onBoth s f) :=
  .inl ⟨f s.dev s.mem, rfl, fun h => absurd (h.symm.trans hc) (by simp), hf _⟩

theorem shape_liveBoth (c : Instr) (s : State) (f : Dev → Mem → Dev × Mem) (hc : reachesMemory c = true)
    (hf : ∀ d, s.mem.wf = true → (f d s.mem).2.wf = true) : Shape c s (onLiveBoth s f) := by
  unfold onLiveBoth
  split
  · exact shape_both c s f hc hf
  · exact .inr rfl

theorem shape_kept (c : Instr) (s : State) (f : Dev → Mem → Dev × Mem) (hf : ∀ d, (f d s.mem).2 = s.mem) :
    Shape c s (onLiveBoth s f) := by
  unfold onLiveBoth
  split
  · exact .inl ⟨f s.dev s.mem, rfl, fun _ => hf _, fun h => by rw [hf]; exact h⟩
  · exact .inr rfl

theorem shape_bothKept (c : Instr) (s : State) (f : Dev → Mem → Dev × Mem) (hf : ∀ d, (f d s.mem).2 = s.mem) :
    Shape c s (onBoth s f) := .inl ⟨f s.dev s.mem, rfl, fun _ => hf _, fun h => by rw [hf]; exact h⟩

theorem serve_mem (op : Nat) (body : Dev → Mem → Nat → Reply × Dev × Mem) (hb : ∀ d m ch, (body d m ch).2.2 = m)
    (d : Dev) (m : Mem) (ch : Nat) : (serve op body d m ch).2 = m := by
  unfold serve
  simp only
  split
  · split
    · rfl
    · exact hb _ _ _
  · rfl

theorem load_mem (d : Dev) (m : Mem) (ch : Nat) : (if d.dmWaits then (d, m) else mailLoad d m ch).2 = m := by
  split
  · rfl
  · exact serve_mem _ _ (fun _ _ _ => rfl) _ _ _

theorem cdmaTakes_wf (d : Dev) (m : Mem) (c : Nat) (h : m.wf = true) :
    (if d.dmTakes .cdma then cdmaTake d m c else (d, m)).2.wf = true := by
  split
  · exact cdmaTake_wf d m c h
  · exact h

theorem capDones_wf (d : Dev) (m : Mem) (c : Nat) (h : m.wf = true) :
    (if d.dmTakes .cdma then capDone d m c else (d, m)).2.wf = true := by
  split
  · exact capDone_wf d m c h
  · exact h

theorem rateDones_wf (d : Dev) (m : Mem) (h : m.wf = true) :
    (if d.rateRuns then pinRateEnd d.rateDone m else (d, m)).2.wf = true := by
  split
  · unfold pinRateEnd
    split
    · exact h
    · exact drainWaiting_wf _ m h
  · exact h

theorem dmaCompletes_wf (d : Dev) (m : Mem) (ch : Nat) (bs : Bytes) (n : Nat) (why : DmaEnd) (ok : Bool)
    (h : m.wf = true) : (if d.frozen .xdma then (d, m) else dmaComplete d m ch bs n why ok).2.wf = true := by
  split
  · exact h
  · exact dmaComplete_wf d m ch bs n why ok h

theorem shape_powerUp (a0 : BitVec 4) (s : State) :
    Shape (.powerUp a0) s (execPowerUp a0 s) := by
  unfold execPowerUp
  exact shape_both _ s _ rfl (fun _ _ => Mem.wf_reset)

theorem shape_deviceReady (a0 : Word) (a1 : Bool) (a2 : Bool) (s : State) :
    Shape (.deviceReady a0 a1 a2) s (execDeviceReady a0 a1 a2 s) := by
  unfold execDeviceReady
  exact shape_dev _ s _

theorem shape_resetN (a0 : Nat) (a1 : BitVec 4) (s : State) :
    Shape (.resetN a0 a1) s (execResetN a0 a1 s) := by
  unfold execResetN
  exact shape_both _ s _ rfl (fun _ h => resetPin_wf _ _ _ _ h)

theorem shape_supplyReset (a0 : Fin 13) (s : State) :
    Shape (.supplyReset a0) s (execSupplyReset a0 s) := by
  unfold execSupplyReset
  exact shape_both _ s _ rfl (fun _ _ => Mem.wf_reset)

theorem shape_supplyWindowExit (a0 : Fin 13) (s : State) :
    Shape (.supplyWindowExit a0) s (execSupplyWindowExit a0 s) := by
  unfold execSupplyWindowExit
  exact shape_dev _ s _

theorem shape_xtalValid (s : State) :
    Shape (.xtalValid) s (execXtalValid s) := by
  unfold execXtalValid
  exact shape_dev _ s _

theorem shape_registerWrite (a0 : Master) (a1 : BitVec 24) (a2 : List (Bool × Byte)) (s : State) :
    Shape (.registerWrite a0 a1 a2) s (execRegisterWrite a0 a1 a2 s) := by
  unfold execRegisterWrite
  exact shape_dev _ s _

theorem shape_aliasWrite (a0 : BitVec 24) (a1 : BusWrite) (s : State) :
    Shape (.aliasWrite a0 a1) s (execAliasWrite a0 a1 s) := by
  unfold execAliasWrite
  exact shape_dev _ s _

theorem shape_rcRead (a0 : BitVec 24) (a1 : SpanRead) (s : State) :
    Shape (.rcRead a0 a1) s (execRcRead a0 a1 s) := by
  unfold execRcRead
  exact shape_dev _ s _

theorem shape_pageEnable (a0 : Master) (a1 : BitVec 8) (a2 : Bool) (s : State) :
    Shape (.pageEnable a0 a1 a2) s (execPageEnable a0 a1 a2 s) := by
  unfold execPageEnable
  exact shape_dev _ s _

theorem shape_blockReset (a0 : Master) (a1 : BitVec 8) (s : State) :
    Shape (.blockReset a0 a1) s (execBlockReset a0 a1 s) := by
  unfold execBlockReset
  exact shape_dev _ s _

theorem shape_blockResetDone (a0 : BitVec 8) (s : State) :
    Shape (.blockResetDone a0) s (execBlockResetDone a0 s) := by
  unfold execBlockResetDone
  exact shape_live _ s _

theorem shape_levelChange (a0 : Master) (a1 : BitVec 8) (a2 : Bool) (s : State) :
    Shape (.levelChange a0 a1 a2) s (execLevelChange a0 a1 a2 s) := by
  unfold execLevelChange
  exact shape_dev _ s _

theorem shape_pageLock (a0 : Master) (a1 : BitVec 8) (s : State) :
    Shape (.pageLock a0 a1) s (execPageLock a0 a1 s) := by
  unfold execPageLock
  exact shape_dev _ s _

theorem shape_checkEnable (a0 : Master) (a1 : BitVec 8) (a2 : Bool) (s : State) :
    Shape (.checkEnable a0 a1 a2) s (execCheckEnable a0 a1 a2 s) := by
  unfold execCheckEnable
  exact shape_dev _ s _

theorem shape_pageCommit (a0 : Master) (a1 : BitVec 8) (s : State) :
    Shape (.pageCommit a0 a1) s (execPageCommit a0 a1 s) := by
  unfold execPageCommit
  exact shape_dev _ s _

theorem shape_commitDone (a0 : BitVec 8) (s : State) :
    Shape (.commitDone a0) s (execCommitDone a0 s) := by
  unfold execCommitDone
  exact shape_live _ s _

theorem shape_keyArm (a0 : BitVec 8) (a1 : BusWrite) (s : State) :
    Shape (.keyArm a0 a1) s (execKeyArm a0 a1 s) := by
  unfold execKeyArm
  exact shape_dev _ s _

theorem shape_keyExpire (a0 : BitVec 8) (s : State) :
    Shape (.keyExpire a0) s (execKeyExpire a0 s) := by
  unfold execKeyExpire
  exact shape_live _ s _

theorem shape_pageClaim (a0 : BitVec 8) (a1 : List BusWrite) (s : State) :
    Shape (.pageClaim a0 a1) s (execPageClaim a0 a1 s) := by
  unfold execPageClaim
  exact shape_dev _ s _

theorem shape_t3Sweep (a0 : List (Nat × Word × Word)) (s : State) :
    Shape (.t3Sweep a0) s (execT3Sweep a0 s) := by
  unfold execT3Sweep
  exact shape_live _ s _

theorem shape_checkRecompute (a0 : BitVec 8) (s : State) :
    Shape (.checkRecompute a0) s (execCheckRecompute a0 s) := by
  unfold execCheckRecompute
  exact shape_live _ s _

theorem shape_protThaw (a0 : BusWrite) (s : State) :
    Shape (.protThaw a0) s (execProtThaw a0 s) := by
  unfold execProtThaw
  exact shape_dev _ s _

theorem shape_autothaw (a0 : Master) (s : State) :
    Shape (.autothaw a0) s (execAutothaw a0 s) := by
  unfold execAutothaw
  exact shape_dev _ s _

theorem shape_thawReq (a0 : BusWrite) (s : State) :
    Shape (.thawReq a0) s (execThawReq a0 s) := by
  unfold execThawReq
  exact shape_dev _ s _

theorem shape_mcThaw (a0 : Master) (s : State) :
    Shape (.mcThaw a0) s (execMcThaw a0 s) := by
  unfold execMcThaw
  exact shape_dev _ s _

theorem shape_mcWatchdogReset (s : State) :
    Shape (.mcWatchdogReset) s (execMcWatchdogReset s) := by
  unfold execMcWatchdogReset
  exact shape_dev _ s _

theorem shape_vlogPop (a0 : BusWrite) (s : State) :
    Shape (.vlogPop a0) s (execVlogPop a0 s) := by
  unfold execVlogPop
  exact shape_dev _ s _

theorem shape_turnstileAcquire (a0 : Fin 64) (a1 : List BusRead) (s : State) :
    Shape (.turnstileAcquire a0 a1) s (execTurnstileAcquire a0 a1 s) := by
  unfold execTurnstileAcquire
  exact shape_dev _ s _

theorem shape_turnstileRelease (a0 : Fin 64) (a1 : BusWrite) (s : State) :
    Shape (.turnstileRelease a0 a1) s (execTurnstileRelease a0 a1 s) := by
  unfold execTurnstileRelease
  exact shape_dev _ s _

theorem shape_modeWrite (a0 : BusWrite) (s : State) :
    Shape (.modeWrite a0) s (execModeWrite a0 s) := by
  unfold execModeWrite
  exact shape_dev _ s _

theorem shape_modeChangeDone (s : State) :
    Shape (.modeChangeDone) s (execModeChangeDone s) := by
  unfold execModeChangeDone
  exact shape_live _ s _

theorem shape_reqDormant (a0 : Master) (s : State) :
    Shape (.reqDormant a0) s (execReqDormant a0 s) := by
  unfold execReqDormant
  exact shape_dev _ s _

theorem shape_reqStandby (a0 : Master) (s : State) :
    Shape (.reqStandby a0) s (execReqStandby a0 s) := by
  unfold execReqStandby
  exact shape_dev _ s _

theorem shape_reqArmed (a0 : Master) (s : State) :
    Shape (.reqArmed a0) s (execReqArmed a0 s) := by
  unfold execReqArmed
  exact shape_dev _ s _

theorem shape_dormantEntered (s : State) :
    Shape (.dormantEntered) s (execDormantEntered s) := by
  unfold execDormantEntered
  exact shape_both _ s _ rfl (fun _ h => dormant_wf _ _ h)

theorem shape_standbyEntered (s : State) :
    Shape (.standbyEntered) s (execStandbyEntered s) := by
  unfold execStandbyEntered
  exact shape_dev _ s _

theorem shape_armedEntered (s : State) :
    Shape (.armedEntered) s (execArmedEntered s) := by
  unfold execArmedEntered
  exact shape_dev _ s _

theorem shape_wake (a0 : BitVec 8) (s : State) :
    Shape (.wake a0) s (execWake a0 s) := by
  unfold execWake
  exact shape_dev _ s _

theorem shape_wakeDone (a0 : Word) (a1 : BitVec 4) (a2 : Bool) (a3 : Bool) (s : State) :
    Shape (.wakeDone a0 a1 a2 a3) s (execWakeDone a0 a1 a2 a3 s) := by
  unfold execWakeDone
  exact shape_dev _ s _

theorem shape_armIdleExpiry (s : State) :
    Shape (.armIdleExpiry) s (execArmIdleExpiry s) := by
  unfold execArmIdleExpiry
  exact shape_dev _ s _

theorem shape_armSynthWrite (a0 : BusWrite) (s : State) :
    Shape (.armSynthWrite a0) s (execArmSynthWrite a0 s) := by
  unfold execArmSynthWrite
  exact shape_dev _ s _

theorem shape_sbSubmit (a0 : BusWrite) (s : State) :
    Shape (.sbSubmit a0) s (execSbSubmit a0 s) := by
  unfold execSbSubmit
  exact shape_dev _ s _

theorem shape_actEvaluate (a0 : Fin 16) (s : State) :
    Shape (.actEvaluate a0) s (execActEvaluate a0 s) := by
  unfold execActEvaluate
  exact shape_live _ s _

theorem shape_actStart (a0 : Fin 16) (s : State) :
    Shape (.actStart a0) s (execActStart a0 s) := by
  unfold execActStart
  exact shape_live _ s _

theorem shape_actDurationExpiry (a0 : Fin 16) (s : State) :
    Shape (.actDurationExpiry a0) s (execActDurationExpiry a0 s) := by
  unfold execActDurationExpiry
  exact shape_live _ s _

theorem shape_sbAbort (a0 : BusWrite) (s : State) :
    Shape (.sbAbort a0) s (execSbAbort a0 s) := by
  unfold execSbAbort
  exact shape_dev _ s _

theorem shape_sensorSample (a0 : BitVec 16) (a1 : BitVec 16) (a2 : BitVec 8) (a3 : BitVec 12) (s : State) :
    Shape (.sensorSample a0 a1 a2 a3) s (execSensorSample a0 a1 a2 a3 s) := by
  unfold execSensorSample
  exact shape_dev _ s _

theorem shape_emergClear (a0 : BusWrite) (s : State) :
    Shape (.emergClear a0) s (execEmergClear a0 s) := by
  unfold execEmergClear
  exact shape_dev _ s _

theorem shape_thermalTrip (s : State) :
    Shape (.thermalTrip) s (execThermalTrip s) := by
  unfold execThermalTrip
  exact shape_both _ s _ rfl (fun _ h => trip_wf _ _ h)

theorem shape_hkOverdue (a0 : Fin 5) (a1 : Fin 64) (s : State) :
    Shape (.hkOverdue a0 a1) s (execHkOverdue a0 a1 s) := by
  unfold execHkOverdue
  exact shape_live _ s _

theorem shape_synthRecal (a0 : Fin 9) (s : State) :
    Shape (.synthRecal a0) s (execSynthRecal a0 s) := by
  unfold execSynthRecal
  exact shape_dev _ s _

theorem shape_thermalOffsetCheck (s : State) :
    Shape (.thermalOffsetCheck) s (execThermalOffsetCheck s) := by
  unfold execThermalOffsetCheck
  exact shape_dev _ s _

theorem shape_sqPrepare (a0 : Fin 20) (a1 : BusWrite) (s : State) :
    Shape (.sqPrepare a0 a1) s (execSqPrepare a0 a1 s) := by
  unfold execSqPrepare
  exact shape_dev _ s _

theorem shape_prepareDone (a0 : Fin 20) (s : State) :
    Shape (.prepareDone a0) s (execPrepareDone a0 s) := by
  unfold execPrepareDone
  exact shape_live _ s _

theorem shape_haltReq (a0 : Fin 20) (a1 : BusWrite) (s : State) :
    Shape (.haltReq a0 a1) s (execHaltReq a0 a1 s) := by
  unfold execHaltReq
  exact shape_dev _ s _

theorem shape_programEntryWrite (a0 : Fin 20) (a1 : BusWrite) (s : State) :
    Shape (.programEntryWrite a0 a1) s (execProgramEntryWrite a0 a1 s) := by
  unfold execProgramEntryWrite
  exact shape_dev _ s _

theorem shape_pdata3Read (a0 : Fin 20) (a1 : BusRead) (s : State) :
    Shape (.pdata3Read a0 a1) s (execPdata3Read a0 a1 s) := by
  unfold execPdata3Read
  exact shape_dev _ s _

theorem shape_seg (a0 : Fin 20) (a1 : Nat) (s : State) :
    Shape (.seg a0 a1) s (execSeg a0 a1 s) := by
  unfold execSeg
  exact shape_live _ s _

theorem shape_loop (a0 : Fin 20) (s : State) :
    Shape (.loop a0) s (execLoop a0 s) := by
  unfold execLoop
  exact shape_live _ s _

theorem shape_endloop (a0 : Fin 20) (s : State) :
    Shape (.endloop a0) s (execEndloop a0 s) := by
  unfold execEndloop
  exact shape_live _ s _

theorem shape_jumpTest (a0 : Fin 20) (s : State) :
    Shape (.jumpTest a0) s (execJumpTest a0 s) := by
  unfold execJumpTest
  exact shape_live _ s _

theorem shape_jumpArm (a0 : Fin 20) (s : State) :
    Shape (.jumpArm a0) s (execJumpArm a0 s) := by
  unfold execJumpArm
  exact shape_live _ s _

theorem shape_jumpDisarm (a0 : Fin 20) (s : State) :
    Shape (.jumpDisarm a0) s (execJumpDisarm a0 s) := by
  unfold execJumpDisarm
  exact shape_live _ s _

theorem shape_watchFire (a0 : Fin 20) (a1 : Fin 4) (a2 : Bool) (s : State) :
    Shape (.watchFire a0 a1 a2) s (execWatchFire a0 a1 a2 s) := by
  unfold execWatchFire
  exact shape_live _ s _

theorem shape_watchLand (a0 : Fin 20) (a1 : Landing) (s : State) :
    Shape (.watchLand a0 a1) s (execWatchLand a0 a1 s) := by
  unfold execWatchLand
  exact shape_live _ s _

theorem shape_latchSet (a0 : Fin 20) (a1 : Fin 4) (s : State) :
    Shape (.latchSet a0 a1) s (execLatchSet a0 a1 s) := by
  unfold execLatchSet
  exact shape_live _ s _

theorem shape_wait (a0 : Fin 20) (s : State) :
    Shape (.wait a0) s (execWait a0 s) := by
  unfold execWait
  exact shape_live _ s _

theorem shape_waitEnd (a0 : Fin 20) (s : State) :
    Shape (.waitEnd a0) s (execWaitEnd a0 s) := by
  unfold execWaitEnd
  exact shape_live _ s _

theorem shape_waitTimeout (a0 : Fin 20) (s : State) :
    Shape (.waitTimeout a0) s (execWaitTimeout a0 s) := by
  unfold execWaitTimeout
  exact shape_live _ s _

theorem shape_mark (a0 : Fin 20) (s : State) :
    Shape (.mark a0) s (execMark a0 s) := by
  unfold execMark
  exact shape_live _ s _

theorem shape_markEmit (a0 : Fin 20) (a1 : Fin 4) (a2 : Stamp) (s : State) :
    Shape (.markEmit a0 a1 a2) s (execMarkEmit a0 a1 a2 s) := by
  unfold execMarkEmit
  exact shape_live _ s _

theorem shape_rateAbs (a0 : Fin 20) (s : State) :
    Shape (.rateAbs a0) s (execRateAbs a0 s) := by
  unfold execRateAbs
  exact shape_live _ s _

theorem shape_ratePpm (a0 : Fin 20) (s : State) :
    Shape (.ratePpm a0) s (execRatePpm a0 s) := by
  unfold execRatePpm
  exact shape_live _ s _

theorem shape_handoffReady (a0 : Fin 16) (s : State) :
    Shape (.handoffReady a0) s (execHandoffReady a0 s) := by
  unfold execHandoffReady
  exact shape_live _ s _

theorem shape_handoffSwitch (a0 : Fin 16) (a1 : Nat) (s : State) :
    Shape (.handoffSwitch a0 a1) s (execHandoffSwitch a0 a1 s) := by
  unfold execHandoffSwitch
  exact shape_live _ s _

theorem shape_spliceBegin (a0 : Fin 20) (s : State) :
    Shape (.spliceBegin a0) s (execSpliceBegin a0 s) := by
  unfold execSpliceBegin
  exact shape_live _ s _

theorem shape_spliceStart (a0 : Fin 20) (s : State) :
    Shape (.spliceStart a0) s (execSpliceStart a0 s) := by
  unfold execSpliceStart
  exact shape_live _ s _

theorem shape_spliceEnd (a0 : Fin 20) (s : State) :
    Shape (.spliceEnd a0) s (execSpliceEnd a0 s) := by
  unfold execSpliceEnd
  exact shape_live _ s _

theorem shape_spliceDrainDone (a0 : Fin 16) (s : State) :
    Shape (.spliceDrainDone a0) s (execSpliceDrainDone a0 s) := by
  unfold execSpliceDrainDone
  exact shape_live _ s _

theorem shape_halt (a0 : Fin 20) (s : State) :
    Shape (.halt a0) s (execHalt a0 s) := by
  unfold execHalt
  exact shape_live _ s _

theorem shape_tileWriteWhole (a0 : Master) (a1 : Nat) (a2 : Bytes) (s : State) :
    Shape (.tileWriteWhole a0 a1 a2) s (execTileWriteWhole a0 a1 a2 s) := by
  unfold execTileWriteWhole
  exact shape_both _ s _ rfl (fun _ h => askOne_wf _ _ _ h)

theorem shape_tileWritePartial (a0 : Master) (a1 : Nat) (a2 : Nat) (a3 : List (Option Byte)) (a4 : Flips) (s : State) :
    Shape (.tileWritePartial a0 a1 a2 a3 a4) s (execTileWritePartial a0 a1 a2 a3 a4 s) := by
  unfold execTileWritePartial
  exact shape_both _ s _ rfl (fun _ h => askOne_wf _ _ _ h)

theorem shape_bar4Read (a0 : Master) (a1 : Nat) (a2 : Nat) (s : State) :
    Shape (.bar4Read a0 a1 a2) s (execBar4Read a0 a1 a2 s) := by
  unfold execBar4Read
  exact shape_bothKept _ s _ (fun d => askOne_reads d _ _ _ _)

theorem shape_bar4Write (a0 : Master) (a1 : Nat) (a2 : List (Option Byte)) (s : State) :
    Shape (.bar4Write a0 a1 a2) s (execBar4Write a0 a1 a2 s) := by
  unfold execBar4Write
  exact shape_both _ s _ rfl (fun _ h => askOne_wf _ _ _ h)

theorem shape_tileFetchDone (a0 : Fin 20) (a1 : Nat) (a2 : FetchEnd) (s : State) :
    Shape (.tileFetchDone a0 a1 a2) s (execTileFetchDone a0 a1 a2 s) := by
  unfold execTileFetchDone
  exact shape_dev _ s _

theorem shape_refSelect (a0 : Bool) (a1 : BusWrite) (s : State) :
    Shape (.refSelect a0 a1) s (execRefSelect a0 a1 s) := by
  unfold execRefSelect
  exact shape_dev _ s _

theorem shape_refLost (s : State) :
    Shape (.refLost) s (execRefLost s) := by
  unfold execRefLost
  exact shape_live _ s _

theorem shape_refReturn (a0 : BitVec 2) (a1 : Option Word) (s : State) :
    Shape (.refReturn a0 a1) s (execRefReturn a0 a1 s) := by
  unfold execRefReturn
  exact shape_live _ s _

theorem shape_refFailover (a0 : Word) (s : State) :
    Shape (.refFailover a0) s (execRefFailover a0 s) := by
  unfold execRefFailover
  exact shape_live _ s _

theorem shape_guardPulse (a0 : Fin 2) (s : State) :
    Shape (.guardPulse a0) s (execGuardPulse a0 s) := by
  unfold execGuardPulse
  exact shape_live _ s _

theorem shape_csLockFault (a0 : Fin 2) (s : State) :
    Shape (.csLockFault a0) s (execCsLockFault a0 s) := by
  unfold execCsLockFault
  exact shape_live _ s _

theorem shape_synthLocked (a0 : Fin 15) (a1 : BitVec 6) (s : State) :
    Shape (.synthLocked a0 a1) s (execSynthLocked a0 a1 s) := by
  unfold execSynthLocked
  exact shape_live _ s _

theorem shape_synthLockFail (a0 : Fin 9) (s : State) :
    Shape (.synthLockFail a0) s (execSynthLockFail a0 s) := by
  unfold execSynthLockFail
  exact shape_live _ s _

theorem shape_synthLockLoss (a0 : Fin 15) (s : State) :
    Shape (.synthLockLoss a0) s (execSynthLockLoss a0 s) := by
  unfold execSynthLockLoss
  exact shape_live _ s _

theorem shape_laneRateWrite (a0 : Fin 8) (a1 : BusWrite) (s : State) :
    Shape (.laneRateWrite a0 a1) s (execLaneRateWrite a0 a1 s) := by
  unfold execLaneRateWrite
  exact shape_dev _ s _

theorem shape_synApply (a0 : Fin 9) (a1 : BusWrite) (s : State) :
    Shape (.synApply a0 a1) s (execSynApply a0 a1 s) := by
  unfold execSynApply
  exact shape_dev _ s _

theorem shape_synPstep (a0 : Fin 15) (a1 : BusWrite) (s : State) :
    Shape (.synPstep a0 a1) s (execSynPstep a0 a1 s) := by
  unfold execSynPstep
  exact shape_dev _ s _

theorem shape_refoutPstep (a0 : Fin 4) (a1 : BusWrite) (s : State) :
    Shape (.refoutPstep a0 a1) s (execRefoutPstep a0 a1 s) := by
  unfold execRefoutPstep
  exact shape_dev _ s _

theorem shape_refoutConfig (a0 : Fin 4) (a1 : BusWrite) (s : State) :
    Shape (.refoutConfig a0 a1) s (execRefoutConfig a0 a1 s) := by
  unfold execRefoutConfig
  exact shape_dev _ s _

theorem shape_lanePhaseMove (a0 : Fin 16) (a1 : BusWrite) (s : State) :
    Shape (.lanePhaseMove a0 a1) s (execLanePhaseMove a0 a1 s) := by
  unfold execLanePhaseMove
  exact shape_dev _ s _

theorem shape_errInjectGo (a0 : Fin 16) (a1 : BusWrite) (s : State) :
    Shape (.errInjectGo a0 a1) s (execErrInjectGo a0 a1 s) := by
  unfold execErrInjectGo
  exact shape_dev _ s _

theorem shape_errInjectEvent (a0 : Fin 16) (s : State) :
    Shape (.errInjectEvent a0) s (execErrInjectEvent a0 s) := by
  unfold execErrInjectEvent
  exact shape_live _ s _

theorem shape_errInject (a0 : Fin 16) (a1 : Stamp) (s : State) :
    Shape (.errInject a0 a1) s (execErrInject a0 a1 s) := by
  unfold execErrInject
  exact shape_live _ s _

theorem shape_signalDetect (a0 : Fin 16) (s : State) :
    Shape (.signalDetect a0) s (execSignalDetect a0 s) := by
  unfold execSignalDetect
  exact shape_live _ s _

theorem shape_cdrLock (a0 : Fin 16) (a1 : BitVec 16) (s : State) :
    Shape (.cdrLock a0 a1) s (execCdrLock a0 a1 s) := by
  unfold execCdrLock
  exact shape_live _ s _

theorem shape_adaptConverged (a0 : Fin 16) (s : State) :
    Shape (.adaptConverged a0) s (execAdaptConverged a0 s) := by
  unfold execAdaptConverged
  exact shape_live _ s _

theorem shape_cdrLockLoss (a0 : Fin 16) (s : State) :
    Shape (.cdrLockLoss a0) s (execCdrLockLoss a0 s) := by
  unfold execCdrLockLoss
  exact shape_live _ s _

theorem shape_signalLoss (a0 : Fin 16) (s : State) :
    Shape (.signalLoss a0) s (execSignalLoss a0 s) := by
  unfold execSignalLoss
  exact shape_live _ s _

theorem shape_signalReturn (a0 : Fin 16) (a1 : Nat) (s : State) :
    Shape (.signalReturn a0 a1) s (execSignalReturn a0 a1 s) := by
  unfold execSignalReturn
  exact shape_live _ s _

theorem shape_adaptBurst (a0 : Fin 16) (a1 : Bool) (a2 : List (BitVec 10)) (s : State) :
    Shape (.adaptBurst a0 a1 a2) s (execAdaptBurst a0 a1 a2 s) := by
  unfold execAdaptBurst
  exact shape_live _ s _

theorem shape_adaptRestart (a0 : Fin 16) (a1 : BusWrite) (s : State) :
    Shape (.adaptRestart a0 a1) s (execAdaptRestart a0 a1 s) := by
  unfold execAdaptRestart
  exact shape_dev _ s _

theorem shape_profileSwitchGo (a0 : Fin 16) (a1 : BusWrite) (s : State) :
    Shape (.profileSwitchGo a0 a1) s (execProfileSwitchGo a0 a1 s) := by
  unfold execProfileSwitchGo
  exact shape_dev _ s _

theorem shape_profileSwitchEvent (a0 : Fin 16) (s : State) :
    Shape (.profileSwitchEvent a0) s (execProfileSwitchEvent a0 s) := by
  unfold execProfileSwitchEvent
  exact shape_live _ s _

theorem shape_switchApply (a0 : Fin 16) (s : State) :
    Shape (.switchApply a0) s (execSwitchApply a0 s) := by
  unfold execSwitchApply
  exact shape_live _ s _

theorem shape_rxBlock (a0 : Fin 16) (a1 : RxCycle) (s : State) :
    Shape (.rxBlock a0 a1) s (execRxBlock a0 a1 s) := by
  unfold execRxBlock
  exact shape_live _ s _

theorem shape_trgTimerExpiry (a0 : Fin 2) (s : State) :
    Shape (.trgTimerExpiry a0) s (execTrgTimerExpiry a0 s) := by
  unfold execTrgTimerExpiry
  exact shape_live _ s _

theorem shape_trgEvent (a0 : Fin 2) (a1 : BitVec 8) (s : State) :
    Shape (.trgEvent a0 a1) s (execTrgEvent a0 a1 s) := by
  unfold execTrgEvent
  exact shape_live _ s _

theorem shape_recordClose (a0 : Fin 16) (s : State) :
    Shape (.recordClose a0) s (execRecordClose a0 s) := by
  unfold execRecordClose
  exact shape_live _ s _

theorem shape_recordAgeExpiry (a0 : Fin 16) (s : State) :
    Shape (.recordAgeExpiry a0) s (execRecordAgeExpiry a0 s) := by
  unfold execRecordAgeExpiry
  exact shape_live _ s _

theorem shape_cdmaTileWrite (a0 : Fin 2) (s : State) :
    Shape (.cdmaTileWrite a0) s (execCdmaTileWrite a0 s) := by
  unfold execCdmaTileWrite
  exact shape_both _ s _ rfl (fun d h => cdmaTakes_wf d _ _ h)

theorem shape_captureDone (a0 : Fin 2) (s : State) :
    Shape (.captureDone a0) s (execCaptureDone a0 s) := by
  unfold execCaptureDone
  exact shape_both _ s _ rfl (fun d h => capDones_wf d _ _ h)

theorem shape_dmRequest (a0 : DmCycle) (s : State) :
    Shape (.dmRequest a0) s (execDmRequest a0 s) := by
  unfold execDmRequest
  exact shape_both _ s _ rfl (fun _ h => askAll_wf _ _ _ h)

theorem shape_selfRefreshEnter (a0 : Fin 4) (s : State) :
    Shape (.selfRefreshEnter a0) s (execSelfRefreshEnter a0 s) := by
  unfold execSelfRefreshEnter
  exact shape_live _ s _

theorem shape_stackTempSample (a0 : Fin 4) (a1 : BitVec 8) (a2 : BitVec 10) (s : State) :
    Shape (.stackTempSample a0 a1 a2) s (execStackTempSample a0 a1 a2 s) := by
  unfold execStackTempSample
  exact shape_live _ s _

theorem shape_retrainBurst (a0 : Fin 4) (a1 : Fin 8) (a2 : Bool) (a3 : Bool) (s : State) :
    Shape (.retrainBurst a0 a1 a2 a3) s (execRetrainBurst a0 a1 a2 a3 s) := by
  unfold execRetrainBurst
  exact shape_live _ s _

theorem shape_clearSweepDone (s : State) :
    Shape (.clearSweepDone) s (execClearSweepDone s) := by
  unfold execClearSweepDone
  exact shape_live _ s _

theorem shape_pinRateWrite (a0 : BusWrite) (s : State) :
    Shape (.pinRateWrite a0) s (execPinRateWrite a0 s) := by
  unfold execPinRateWrite
  exact shape_dev _ s _

theorem shape_pinRateChangeStart (s : State) :
    Shape (.pinRateChangeStart) s (execPinRateChangeStart s) := by
  unfold execPinRateChangeStart
  exact shape_live _ s _

theorem shape_pinRateChangeDone (s : State) :
    Shape (.pinRateChangeDone) s (execPinRateChangeDone s) := by
  unfold execPinRateChangeDone
  exact shape_liveBoth _ s _ rfl (fun d h => rateDones_wf d _ h)

theorem shape_hazardWrite (a0 : BusWrite) (s : State) :
    Shape (.hazardWrite a0) s (execHazardWrite a0 s) := by
  unfold execHazardWrite
  exact shape_dev _ s _

theorem shape_migrationStart (a0 : Fin 4) (s : State) :
    Shape (.migrationStart a0) s (execMigrationStart a0 s) := by
  unfold execMigrationStart
  exact shape_live _ s _

theorem shape_migrationDone (a0 : Fin 4) (s : State) :
    Shape (.migrationDone a0) s (execMigrationDone a0 s) := by
  unfold execMigrationDone
  exact shape_liveBoth _ s _ rfl (fun _ h => migrateEnd_wf _ _ _ h)

theorem shape_scrubRead (a0 : Nat) (a1 : Flips) (s : State) :
    Shape (.scrubRead a0 a1) s (execScrubRead a0 a1 s) := by
  unfold execScrubRead
  exact shape_live _ s _

theorem shape_dmTlogPop (a0 : BusWrite) (s : State) :
    Shape (.dmTlogPop a0) s (execDmTlogPop a0 s) := by
  unfold execDmTlogPop
  exact shape_dev _ s _

theorem shape_tileQuery (a0 : BusWrite) (s : State) :
    Shape (.tileQuery a0) s (execTileQuery a0 s) := by
  unfold execTileQuery
  exact shape_dev _ s _

theorem shape_tileQueryDone (s : State) :
    Shape (.tileQueryDone) s (execTileQueryDone s) := by
  unfold execTileQueryDone
  exact shape_live _ s _

theorem shape_bankHandover (a0 : Fin 64) (a1 : BusWrite) (s : State) :
    Shape (.bankHandover a0 a1) s (execBankHandover a0 a1 s) := by
  unfold execBankHandover
  exact shape_dev _ s _

theorem shape_zeroFillDone (a0 : Fin 64) (s : State) :
    Shape (.zeroFillDone a0) s (execZeroFillDone a0 s) := by
  unfold execZeroFillDone
  exact shape_liveBoth _ s _ rfl (fun _ h => fillDone_wf _ _ _ h)

theorem shape_bankPowerMode (a0 : Fin 64) (a1 : BusWrite) (s : State) :
    Shape (.bankPowerMode a0 a1) s (execBankPowerMode a0 a1 s) := by
  unfold execBankPowerMode
  exact shape_dev _ s _

theorem shape_bankRetention (a0 : Fin 64) (s : State) :
    Shape (.bankRetention a0) s (execBankRetention a0 s) := by
  unfold execBankRetention
  exact shape_live _ s _

theorem shape_scratchpadAccess (a0 : Fin 64) (a1 : SpAccess) (a2 : Option SpCollision) (a3 : EccResult) (s : State) :
    Shape (.scratchpadAccess a0 a1 a2 a3) s (execScratchpadAccess a0 a1 a2 a3 s) := by
  unfold execScratchpadAccess
  exact shape_both _ s _ rfl (fun _ h => spTake_wf _ _ _ _ _ _ h)

theorem shape_scratchpadSaveTestRestore (a0 : Fin 64) (a1 : BitVec 8) (a2 : Bool) (s : State) :
    Shape (.scratchpadSaveTestRestore a0 a1 a2) s (execScratchpadSaveTestRestore a0 a1 a2 s) := by
  unfold execScratchpadSaveTestRestore
  exact shape_liveBoth _ s _ rfl (fun _ h => testStep_wf _ _ _ _ _ h)

theorem shape_queueCommit (a0 : Fin 8) (a1 : List (BitVec 512)) (s : State) :
    Shape (.queueCommit a0 a1) s (execQueueCommit a0 a1 s) := by
  unfold execQueueCommit
  exact shape_live _ s _

theorem shape_queueRewind (a0 : Fin 8) (a1 : List (BitVec 512)) (s : State) :
    Shape (.queueRewind a0 a1) s (execQueueRewind a0 a1 s) := by
  unfold execQueueRewind
  exact shape_live _ s _

theorem shape_queuePop (a0 : Fin 8) (a1 : BusRead) (s : State) :
    Shape (.queuePop a0 a1) s (execQueuePop a0 a1 s) := by
  unfold execQueuePop
  exact shape_dev _ s _

theorem shape_queuePush (a0 : BusWrite) (s : State) :
    Shape (.queuePush a0) s (execQueuePush a0 s) := by
  unfold execQueuePush
  exact shape_dev _ s _

theorem shape_queueDrop (a0 : Fin 8) (a1 : BusWrite) (s : State) :
    Shape (.queueDrop a0 a1) s (execQueueDrop a0 a1 s) := by
  unfold execQueueDrop
  exact shape_dev _ s _

theorem shape_queueFlush (a0 : BusWrite) (s : State) :
    Shape (.queueFlush a0) s (execQueueFlush a0 s) := by
  unfold execQueueFlush
  exact shape_dev _ s _

theorem shape_queueMismatch (a0 : Fin 8) (s : State) :
    Shape (.queueMismatch a0) s (execQueueMismatch a0 s) := by
  unfold execQueueMismatch
  exact shape_live _ s _

theorem shape_eventRaise (a0 : List Raise) (s : State) :
    Shape (.eventRaise a0) s (execEventRaise a0 s) := by
  unfold execEventRaise
  exact shape_live _ s _

theorem shape_lutDelayExpiry (a0 : Fin 64) (s : State) :
    Shape (.lutDelayExpiry a0) s (execLutDelayExpiry a0 s) := by
  unfold execLutDelayExpiry
  exact shape_live _ s _

theorem shape_lutCfgWrite (a0 : Fin 64) (a1 : BusWrite) (s : State) :
    Shape (.lutCfgWrite a0 a1) s (execLutCfgWrite a0 a1 s) := by
  unfold execLutCfgWrite
  exact shape_dev _ s _

theorem shape_trigInEdge (a0 : Fin 4) (a1 : Bool) (a2 : TrigEdge) (s : State) :
    Shape (.trigInEdge a0 a1 a2) s (execTrigInEdge a0 a1 a2 s) := by
  unfold execTrigInEdge
  exact shape_dev _ s _

theorem shape_mwFire (a0 : BusWrite) (s : State) :
    Shape (.mwFire a0) s (execMwFire a0 s) := by
  unfold execMwFire
  exact shape_dev _ s _

theorem shape_mwFireMask (a0 : Fin 8) (a1 : BusWrite) (s : State) :
    Shape (.mwFireMask a0 a1) s (execMwFireMask a0 a1 s) := by
  unfold execMwFireMask
  exact shape_dev _ s _

theorem shape_ringEventFrame (a0 : Frame) (s : State) :
    Shape (.ringEventFrame a0) s (execRingEventFrame a0 s) := by
  unfold execRingEventFrame
  exact shape_dev _ s _

theorem shape_awgClockFault (s : State) :
    Shape (.awgClockFault) s (execAwgClockFault s) := by
  unfold execAwgClockFault
  exact shape_live _ s _

theorem shape_ftwApply (a0 : Fin 4) (a1 : BusWrite) (s : State) :
    Shape (.ftwApply a0 a1) s (execFtwApply a0 a1 s) := by
  unfold execFtwApply
  exact shape_dev _ s _

theorem shape_calAmpWrite (a0 : Fin 4) (a1 : BusWrite) (s : State) :
    Shape (.calAmpWrite a0 a1) s (execCalAmpWrite a0 a1 s) := by
  unfold execCalAmpWrite
  exact shape_dev _ s _

theorem shape_calSyncNow (a0 : Fin 4) (a1 : BusWrite) (s : State) :
    Shape (.calSyncNow a0 a1) s (execCalSyncNow a0 a1 s) := by
  unfold execCalSyncNow
  exact shape_dev _ s _

theorem shape_calSyncEvent (a0 : Fin 4) (s : State) :
    Shape (.calSyncEvent a0) s (execCalSyncEvent a0 s) := by
  unfold execCalSyncEvent
  exact shape_live _ s _

theorem shape_injectionSwitchMove (a0 : Fin 16) (s : State) :
    Shape (.injectionSwitchMove a0) s (execInjectionSwitchMove a0 s) := by
  unfold execInjectionSwitchMove
  exact shape_live _ s _

theorem shape_sdTick (s : State) :
    Shape (.sdTick) s (execSdTick s) := by
  unfold execSdTick
  exact shape_live _ s _

theorem shape_sdRangeChange (a0 : Fin 8) (a1 : BusWrite) (s : State) :
    Shape (.sdRangeChange a0 a1) s (execSdRangeChange a0 a1 s) := by
  unfold execSdRangeChange
  exact shape_dev _ s _

theorem shape_sdClampRelease (a0 : Fin 8) (s : State) :
    Shape (.sdClampRelease a0) s (execSdClampRelease a0 s) := by
  unfold execSdClampRelease
  exact shape_live _ s _

theorem shape_sdFault (a0 : Fin 8) (a1 : SdCause) (s : State) :
    Shape (.sdFault a0 a1) s (execSdFault a0 a1 s) := by
  unfold execSdFault
  exact shape_live _ s _

theorem shape_sdFaultClear (a0 : BusWrite) (s : State) :
    Shape (.sdFaultClear a0) s (execSdFaultClear a0 s) := by
  unfold execSdFaultClear
  exact shape_dev _ s _

theorem shape_monConversion (a0 : Fin 32) (a1 : BitVec 12) (a2 : Fin 21) (a3 : BitVec 40) (s : State) :
    Shape (.monConversion a0 a1 a2 a3) s (execMonConversion a0 a1 a2 a3 s) := by
  unfold execMonConversion
  exact shape_live _ s _

theorem shape_linkUp (a0 : BitVec 3) (s : State) :
    Shape (.linkUp a0) s (execLinkUp a0 s) := by
  unfold execLinkUp
  exact shape_dev _ s _

theorem shape_linkDown (s : State) :
    Shape (.linkDown) s (execLinkDown s) := by
  unfold execLinkDown
  exact shape_dev _ s _

theorem shape_fallbackEnumerate (s : State) :
    Shape (.fallbackEnumerate) s (execFallbackEnumerate s) := by
  unfold execFallbackEnumerate
  exact shape_dev _ s _

theorem shape_dmaHeadWrite (a0 : Fin 8) (a1 : BusWrite) (s : State) :
    Shape (.dmaHeadWrite a0 a1) s (execDmaHeadWrite a0 a1 s) := by
  unfold execDmaHeadWrite
  exact shape_dev _ s _

theorem shape_dmaEnable (a0 : Fin 8) (a1 : BusWrite) (s : State) :
    Shape (.dmaEnable a0 a1) s (execDmaEnable a0 a1 s) := by
  unfold execDmaEnable
  exact shape_dev _ s _

theorem shape_dmaDescriptor (a0 : Fin 8) (a1 : List Word) (a2 : Bool) (s : State) :
    Shape (.dmaDescriptor a0 a1 a2) s (execDmaDescriptor a0 a1 a2 s) := by
  unfold execDmaDescriptor
  exact shape_dev _ s _

theorem shape_dmaCompletion (a0 : Fin 8) (a1 : Bytes) (a2 : Nat) (a3 : DmaEnd) (a4 : Bool) (s : State) :
    Shape (.dmaCompletion a0 a1 a2 a3 a4) s (execDmaCompletion a0 a1 a2 a3 a4 s) := by
  unfold execDmaCompletion
  exact shape_liveBoth _ s _ rfl (fun d h => dmaCompletes_wf d _ _ _ _ _ _ h)

theorem shape_dmaAbort (a0 : Fin 8) (a1 : BusWrite) (s : State) :
    Shape (.dmaAbort a0 a1) s (execDmaAbort a0 a1 s) := by
  unfold execDmaAbort
  exact shape_dev _ s _

theorem shape_fallbackRead (a0 : BitVec 16) (a1 : FbOp) (a2 : Word) (a3 : BitVec 64) (s : State) :
    Shape (.fallbackRead a0 a1 a2 a3) s (execFallbackRead a0 a1 a2 a3 s) := by
  unfold execFallbackRead
  exact shape_both _ s _ rfl (fun _ h => fbTake_wf _ _ _ h)

theorem shape_fallbackWrite (a0 : BitVec 16) (a1 : BitVec 2) (a2 : BitVec 64) (a3 : Bytes) (s : State) :
    Shape (.fallbackWrite a0 a1 a2 a3) s (execFallbackWrite a0 a1 a2 a3 s) := by
  unfold execFallbackWrite
  exact shape_both _ s _ rfl (fun _ h => fbTake_wf _ _ _ h)

theorem shape_fallbackTileRead (a0 : BitVec 16) (a1 : Word) (a2 : BitVec 64) (a3 : DmaEnd) (s : State) :
    Shape (.fallbackTileRead a0 a1 a2 a3) s (execFallbackTileRead a0 a1 a2 a3 s) := by
  unfold execFallbackTileRead
  exact shape_both _ s _ rfl (fun _ h => fbTake_wf _ _ _ h)

theorem shape_fallbackTileWrite (a0 : BitVec 16) (a1 : BitVec 64) (a2 : Bytes) (a3 : DmaEnd) (s : State) :
    Shape (.fallbackTileWrite a0 a1 a2 a3) s (execFallbackTileWrite a0 a1 a2 a3 s) := by
  unfold execFallbackTileWrite
  exact shape_both _ s _ rfl (fun _ h => fbTake_wf _ _ _ h)

theorem shape_mbDoorbell (a0 : Fin 64) (a1 : BusWrite) (s : State) :
    Shape (.mbDoorbell a0 a1) s (execMbDoorbell a0 a1 s) := by
  unfold execMbDoorbell
  exact shape_dev _ s _

theorem shape_mbTake (a0 : Fin 64) (a1 : BusWrite) (s : State) :
    Shape (.mbTake a0 a1) s (execMbTake a0 a1 s) := by
  unfold execMbTake
  exact shape_dev _ s _

theorem shape_mbAckw (a0 : Fin 64) (a1 : BusWrite) (s : State) :
    Shape (.mbAckw a0 a1) s (execMbAckw a0 a1 s) := by
  unfold execMbAckw
  exact shape_dev _ s _

theorem shape_mbFlush (a0 : Fin 64) (a1 : BusWrite) (s : State) :
    Shape (.mbFlush a0 a1) s (execMbFlush a0 a1 s) := by
  unfold execMbFlush
  exact shape_dev _ s _

theorem shape_hello (a0 : Fin 64) (s : State) :
    Shape (.hello a0) s (execHello a0 s) := by
  unfold execHello
  exact shape_kept _ s _ (fun d => serve_mem _ _ (fun _ _ _ => rfl) _ _ _)

theorem shape_info (a0 : Fin 64) (s : State) :
    Shape (.info a0) s (execInfo a0 s) := by
  unfold execInfo
  exact shape_kept _ s _ (fun d => serve_mem _ _ (fun _ _ _ => rfl) _ _ _)

theorem shape_echo (a0 : Fin 64) (s : State) :
    Shape (.echo a0) s (execEcho a0 s) := by
  unfold execEcho
  exact shape_kept _ s _ (fun d => serve_mem _ _ (fun _ _ _ => rfl) _ _ _)

theorem shape_load (a0 : Fin 64) (s : State) :
    Shape (.load a0) s (execLoad a0 s) := by
  unfold execLoad
  exact shape_kept _ s _ (fun d => load_mem d _ _)

theorem shape_actSubmit (a0 : Fin 64) (s : State) :
    Shape (.actSubmit a0) s (execActSubmit a0 s) := by
  unfold execActSubmit
  exact shape_kept _ s _ (fun d => serve_mem _ _ (fun _ _ _ => rfl) _ _ _)

theorem shape_actAbort (a0 : Fin 64) (s : State) :
    Shape (.actAbort a0) s (execActAbort a0 s) := by
  unfold execActAbort
  exact shape_kept _ s _ (fun d => serve_mem _ _ (fun _ _ _ => rfl) _ _ _)

theorem shape_power (a0 : Fin 64) (s : State) :
    Shape (.power a0) s (execPower a0 s) := by
  unfold execPower
  exact shape_kept _ s _ (fun d => serve_mem _ _ (fun _ _ _ => rfl) _ _ _)

theorem shape_notifyEmergency (s : State) :
    Shape (.notifyEmergency) s (execNotifyEmergency s) := by
  unfold execNotifyEmergency
  exact shape_live _ s _

theorem shape_notifyMcRestart (s : State) :
    Shape (.notifyMcRestart) s (execNotifyMcRestart s) := by
  unfold execNotifyMcRestart
  exact shape_live _ s _

theorem shape_fwUpdate (a0 : Fin 64) (s : State) :
    Shape (.fwUpdate a0) s (execFwUpdate a0 s) := by
  unfold execFwUpdate
  exact shape_liveBoth _ s _ rfl (fun _ h => serve_wf _ _ keeps_fwUpdate _ _ _ h)

theorem shape_fwActivate (a0 : Fin 64) (a1 : Bool × Bool) (s : State) :
    Shape (.fwActivate a0 a1) s (execFwActivate a0 a1 s) := by
  unfold execFwActivate
  exact shape_kept _ s _ (fun d => serve_mem _ _ (fun _ _ _ => rfl) _ _ _)

theorem shape_fwCommit (a0 : Fin 64) (s : State) :
    Shape (.fwCommit a0) s (execFwCommit a0 s) := by
  unfold execFwCommit
  exact shape_kept _ s _ (fun d => serve_mem _ _ (fun _ _ _ => rfl) _ _ _)

theorem shape_certGet (a0 : Fin 64) (s : State) :
    Shape (.certGet a0) s (execCertGet a0 s) := by
  unfold execCertGet
  exact shape_liveBoth _ s _ rfl (fun _ h => serve_wf _ _ keeps_cert _ _ _ h)

theorem shape_attest (a0 : Fin 64) (s : State) :
    Shape (.attest a0) s (execAttest a0 s) := by
  unfold execAttest
  exact shape_liveBoth _ s _ rfl (fun _ h => serve_wf _ _ keeps_attest _ _ _ h)

theorem shape_dbgChallenge (a0 : Fin 64) (s : State) :
    Shape (.dbgChallenge a0) s (execDbgChallenge a0 s) := by
  unfold execDbgChallenge
  exact shape_kept _ s _ (fun d => serve_mem _ _ (fun _ _ _ => rfl) _ _ _)

theorem shape_dbgUnlock (a0 : Fin 64) (s : State) :
    Shape (.dbgUnlock a0) s (execDbgUnlock a0 s) := by
  unfold execDbgUnlock
  exact shape_liveBoth _ s _ rfl (fun _ h => serve_wf _ _ keeps_unlock _ _ _ h)

theorem shape_dbgLock (a0 : Fin 64) (s : State) :
    Shape (.dbgLock a0) s (execDbgLock a0 s) := by
  unfold execDbgLock
  exact shape_kept _ s _ (fun d => serve_mem _ _ (fun _ _ _ => rfl) _ _ _)

theorem shape_ownerKeySet (a0 : Fin 64) (s : State) :
    Shape (.ownerKeySet a0) s (execOwnerKeySet a0 s) := by
  unfold execOwnerKeySet
  exact shape_liveBoth _ s _ rfl (fun _ h => serve_wf _ _ (keeps_inputOf _ _) _ _ _ h)

theorem shape_calExport (a0 : Fin 64) (s : State) :
    Shape (.calExport a0) s (execCalExport a0 s) := by
  unfold execCalExport
  exact shape_liveBoth _ s _ rfl (fun _ h => serve_wf _ _ keeps_export _ _ _ h)

theorem shape_calStage (a0 : Fin 64) (s : State) :
    Shape (.calStage a0) s (execCalStage a0 s) := by
  unfold execCalStage
  exact shape_liveBoth _ s _ rfl (fun _ h => serve_wf _ _ (keeps_input _) _ _ _ h)

theorem shape_calCommit (a0 : Fin 64) (s : State) :
    Shape (.calCommit a0) s (execCalCommit a0 s) := by
  unfold execCalCommit
  exact shape_kept _ s _ (fun d => serve_mem _ _ (fun _ _ _ => rfl) _ _ _)

theorem shape_measurementSelect (a0 : BusWrite) (s : State) :
    Shape (.measurementSelect a0) s (execMeasurementSelect a0 s) := by
  unfold execMeasurementSelect
  exact shape_dev _ s _

theorem shape_pathMoveDone (a0 : Fin 16) (s : State) :
    Shape (.pathMoveDone a0) s (execPathMoveDone a0 s) := by
  unfold execPathMoveDone
  exact shape_live _ s _

theorem shape_pathFault (a0 : Fin 16) (s : State) :
    Shape (.pathFault a0) s (execPathFault a0 s) := by
  unfold execPathFault
  exact shape_live _ s _

theorem shape_snFaultRead (a0 : BusRead) (s : State) :
    Shape (.snFaultRead a0) s (execSnFaultRead a0 s) := by
  unfold execSnFaultRead
  exact shape_dev _ s _

theorem shape_forwardPathMove (a0 : Fin 16) (s : State) :
    Shape (.forwardPathMove a0) s (execForwardPathMove a0 s) := by
  unfold execForwardPathMove
  exact shape_live _ s _

theorem shape_cartPresent (s : State) :
    Shape (.cartPresent) s (execCartPresent s) := by
  unfold execCartPresent
  exact shape_dev _ s _

theorem shape_cartRemoved (s : State) :
    Shape (.cartRemoved) s (execCartRemoved s) := by
  unfold execCartRemoved
  exact shape_dev _ s _

theorem shape_cartVerify (a0 : CartAnswer) (s : State) :
    Shape (.cartVerify a0) s (execCartVerify a0 s) := by
  unfold execCartVerify
  exact shape_dev _ s _

theorem shape_cartChallenge (a0 : CartAnswer) (s : State) :
    Shape (.cartChallenge a0) s (execCartChallenge a0 s) := by
  unfold execCartChallenge
  exact shape_dev _ s _

theorem shape_cartChallengeRetry (a0 : CartAnswer) (s : State) :
    Shape (.cartChallengeRetry a0) s (execCartChallengeRetry a0 s) := by
  unfold execCartChallengeRetry
  exact shape_dev _ s _

theorem shape_cartChalGo (a0 : BusWrite) (a1 : CartAnswer) (s : State) :
    Shape (.cartChalGo a0 a1) s (execCartChalGo a0 a1 s) := by
  unfold execCartChalGo
  exact shape_dev _ s _

theorem shape_cartOverride (a0 : BusWrite) (s : State) :
    Shape (.cartOverride a0) s (execCartOverride a0 s) := by
  unfold execCartOverride
  exact shape_dev _ s _

theorem shape_ringConfig (a0 : BusWrite) (s : State) :
    Shape (.ringConfig a0) s (execRingConfig a0 s) := by
  unfold execRingConfig
  exact shape_dev _ s _

theorem shape_ringDiscoveryFrame (a0 : Frame) (s : State) :
    Shape (.ringDiscoveryFrame a0) s (execRingDiscoveryFrame a0 s) := by
  unfold execRingDiscoveryFrame
  exact shape_dev _ s _

theorem shape_ringTimeSend (a0 : Option Nat) (s : State) :
    Shape (.ringTimeSend a0) s (execRingTimeSend a0 s) := by
  unfold execRingTimeSend
  exact shape_dev _ s _

theorem shape_ringTimeFrame (a0 : Frame) (a1 : Nat) (s : State) :
    Shape (.ringTimeFrame a0 a1) s (execRingTimeFrame a0 a1 s) := by
  unfold execRingTimeFrame
  exact shape_dev _ s _

theorem shape_ringNomaster (s : State) :
    Shape (.ringNomaster) s (execRingNomaster s) := by
  unfold execRingNomaster
  exact shape_dev _ s _

theorem shape_ringWakeSend (a0 : BusWrite) (s : State) :
    Shape (.ringWakeSend a0) s (execRingWakeSend a0 s) := by
  unfold execRingWakeSend
  exact shape_dev _ s _

theorem shape_ringFingerprintFrame (a0 : Frame) (s : State) :
    Shape (.ringFingerprintFrame a0) s (execRingFingerprintFrame a0 s) := by
  unfold execRingFingerprintFrame
  exact shape_dev _ s _

theorem shape_ringEpochFrame (a0 : Frame) (s : State) :
    Shape (.ringEpochFrame a0) s (execRingEpochFrame a0 s) := by
  unfold execRingEpochFrame
  exact shape_dev _ s _

theorem shape_fingerprintCompute (s : State) :
    Shape (.fingerprintCompute) s (execFingerprintCompute s) := by
  unfold execFingerprintCompute
  exact shape_dev _ s _

theorem shape_fingerprintDone (s : State) :
    Shape (.fingerprintDone) s (execFingerprintDone s) := by
  unfold execFingerprintDone
  exact shape_dev _ s _

theorem shape_epochStage (a0 : BusWrite) (s : State) :
    Shape (.epochStage a0) s (execEpochStage a0 s) := by
  unfold execEpochStage
  exact shape_dev _ s _

theorem shape_stagedWrite (a0 : BitVec 24) (a1 : BusWrite) (s : State) :
    Shape (.stagedWrite a0 a1) s (execStagedWrite a0 a1 s) := by
  unfold execStagedWrite
  exact shape_dev _ s _

theorem shape_epochArm (a0 : BusWrite) (s : State) :
    Shape (.epochArm a0) s (execEpochArm a0 s) := by
  unfold execEpochArm
  exact shape_dev _ s _

theorem shape_epochBroadcast (a0 : BusWrite) (s : State) :
    Shape (.epochBroadcast a0) s (execEpochBroadcast a0 s) := by
  unfold execEpochBroadcast
  exact shape_dev _ s _

theorem shape_epochCancel (a0 : BusWrite) (s : State) :
    Shape (.epochCancel a0) s (execEpochCancel a0 s) := by
  unfold execEpochCancel
  exact shape_dev _ s _

theorem shape_epochApply (s : State) :
    Shape (.epochApply) s (execEpochApply s) := by
  unfold execEpochApply
  exact shape_dev _ s _

theorem shape_ringIdleFrame (s : State) :
    Shape (.ringIdleFrame) s (execRingIdleFrame s) := by
  unfold execRingIdleFrame
  exact shape_dev _ s _

theorem shape_ringInputLocked (s : State) :
    Shape (.ringInputLocked) s (execRingInputLocked s) := by
  unfold execRingInputLocked
  exact shape_dev _ s _

theorem shape_ringInputLockLost (s : State) :
    Shape (.ringInputLockLost) s (execRingInputLockLost s) := by
  unfold execRingInputLockLost
  exact shape_dev _ s _

theorem shape_refreshWindowStart (a0 : Fin 4) (s : State) :
    Shape (.refreshWindowStart a0) s (execRefreshWindowStart a0 s) := by
  unfold execRefreshWindowStart
  exact shape_live _ s _

theorem shape_supplyWindowReturn (a0 : Fin 13) (s : State) :
    Shape (.supplyWindowReturn a0) s (execSupplyWindowReturn a0 s) := by
  unfold execSupplyWindowReturn
  exact shape_dev _ s _

theorem shape_linkClStateChange (a0 : LinkState) (s : State) :
    Shape (.linkClStateChange a0) s (execLinkClStateChange a0 s) := by
  unfold execLinkClStateChange
  exact shape_dev _ s _

/-- What any command can do. -/
theorem exec_shape (c : Instr) (s : State) : Shape c s (exec c s) :=
  match c with
  | .powerUp a0 => shape_powerUp a0 s
  | .deviceReady a0 a1 a2 => shape_deviceReady a0 a1 a2 s
  | .resetN a0 a1 => shape_resetN a0 a1 s
  | .supplyReset a0 => shape_supplyReset a0 s
  | .supplyWindowExit a0 => shape_supplyWindowExit a0 s
  | .xtalValid => shape_xtalValid s
  | .registerWrite a0 a1 a2 => shape_registerWrite a0 a1 a2 s
  | .aliasWrite a0 a1 => shape_aliasWrite a0 a1 s
  | .rcRead a0 a1 => shape_rcRead a0 a1 s
  | .pageEnable a0 a1 a2 => shape_pageEnable a0 a1 a2 s
  | .blockReset a0 a1 => shape_blockReset a0 a1 s
  | .blockResetDone a0 => shape_blockResetDone a0 s
  | .levelChange a0 a1 a2 => shape_levelChange a0 a1 a2 s
  | .pageLock a0 a1 => shape_pageLock a0 a1 s
  | .checkEnable a0 a1 a2 => shape_checkEnable a0 a1 a2 s
  | .pageCommit a0 a1 => shape_pageCommit a0 a1 s
  | .commitDone a0 => shape_commitDone a0 s
  | .keyArm a0 a1 => shape_keyArm a0 a1 s
  | .keyExpire a0 => shape_keyExpire a0 s
  | .pageClaim a0 a1 => shape_pageClaim a0 a1 s
  | .t3Sweep a0 => shape_t3Sweep a0 s
  | .checkRecompute a0 => shape_checkRecompute a0 s
  | .protThaw a0 => shape_protThaw a0 s
  | .autothaw a0 => shape_autothaw a0 s
  | .thawReq a0 => shape_thawReq a0 s
  | .mcThaw a0 => shape_mcThaw a0 s
  | .mcWatchdogReset => shape_mcWatchdogReset s
  | .vlogPop a0 => shape_vlogPop a0 s
  | .turnstileAcquire a0 a1 => shape_turnstileAcquire a0 a1 s
  | .turnstileRelease a0 a1 => shape_turnstileRelease a0 a1 s
  | .modeWrite a0 => shape_modeWrite a0 s
  | .modeChangeDone => shape_modeChangeDone s
  | .reqDormant a0 => shape_reqDormant a0 s
  | .reqStandby a0 => shape_reqStandby a0 s
  | .reqArmed a0 => shape_reqArmed a0 s
  | .dormantEntered => shape_dormantEntered s
  | .standbyEntered => shape_standbyEntered s
  | .armedEntered => shape_armedEntered s
  | .wake a0 => shape_wake a0 s
  | .wakeDone a0 a1 a2 a3 => shape_wakeDone a0 a1 a2 a3 s
  | .armIdleExpiry => shape_armIdleExpiry s
  | .armSynthWrite a0 => shape_armSynthWrite a0 s
  | .sbSubmit a0 => shape_sbSubmit a0 s
  | .actEvaluate a0 => shape_actEvaluate a0 s
  | .actStart a0 => shape_actStart a0 s
  | .actDurationExpiry a0 => shape_actDurationExpiry a0 s
  | .sbAbort a0 => shape_sbAbort a0 s
  | .sensorSample a0 a1 a2 a3 => shape_sensorSample a0 a1 a2 a3 s
  | .emergClear a0 => shape_emergClear a0 s
  | .thermalTrip => shape_thermalTrip s
  | .hkOverdue a0 a1 => shape_hkOverdue a0 a1 s
  | .synthRecal a0 => shape_synthRecal a0 s
  | .thermalOffsetCheck => shape_thermalOffsetCheck s
  | .sqPrepare a0 a1 => shape_sqPrepare a0 a1 s
  | .prepareDone a0 => shape_prepareDone a0 s
  | .haltReq a0 a1 => shape_haltReq a0 a1 s
  | .programEntryWrite a0 a1 => shape_programEntryWrite a0 a1 s
  | .pdata3Read a0 a1 => shape_pdata3Read a0 a1 s
  | .seg a0 a1 => shape_seg a0 a1 s
  | .loop a0 => shape_loop a0 s
  | .endloop a0 => shape_endloop a0 s
  | .jumpTest a0 => shape_jumpTest a0 s
  | .jumpArm a0 => shape_jumpArm a0 s
  | .jumpDisarm a0 => shape_jumpDisarm a0 s
  | .watchFire a0 a1 a2 => shape_watchFire a0 a1 a2 s
  | .watchLand a0 a1 => shape_watchLand a0 a1 s
  | .latchSet a0 a1 => shape_latchSet a0 a1 s
  | .wait a0 => shape_wait a0 s
  | .waitEnd a0 => shape_waitEnd a0 s
  | .waitTimeout a0 => shape_waitTimeout a0 s
  | .mark a0 => shape_mark a0 s
  | .markEmit a0 a1 a2 => shape_markEmit a0 a1 a2 s
  | .rateAbs a0 => shape_rateAbs a0 s
  | .ratePpm a0 => shape_ratePpm a0 s
  | .handoffReady a0 => shape_handoffReady a0 s
  | .handoffSwitch a0 a1 => shape_handoffSwitch a0 a1 s
  | .spliceBegin a0 => shape_spliceBegin a0 s
  | .spliceStart a0 => shape_spliceStart a0 s
  | .spliceEnd a0 => shape_spliceEnd a0 s
  | .spliceDrainDone a0 => shape_spliceDrainDone a0 s
  | .halt a0 => shape_halt a0 s
  | .tileWriteWhole a0 a1 a2 => shape_tileWriteWhole a0 a1 a2 s
  | .tileWritePartial a0 a1 a2 a3 a4 => shape_tileWritePartial a0 a1 a2 a3 a4 s
  | .bar4Read a0 a1 a2 => shape_bar4Read a0 a1 a2 s
  | .bar4Write a0 a1 a2 => shape_bar4Write a0 a1 a2 s
  | .tileFetchDone a0 a1 a2 => shape_tileFetchDone a0 a1 a2 s
  | .refSelect a0 a1 => shape_refSelect a0 a1 s
  | .refLost => shape_refLost s
  | .refReturn a0 a1 => shape_refReturn a0 a1 s
  | .refFailover a0 => shape_refFailover a0 s
  | .guardPulse a0 => shape_guardPulse a0 s
  | .csLockFault a0 => shape_csLockFault a0 s
  | .synthLocked a0 a1 => shape_synthLocked a0 a1 s
  | .synthLockFail a0 => shape_synthLockFail a0 s
  | .synthLockLoss a0 => shape_synthLockLoss a0 s
  | .laneRateWrite a0 a1 => shape_laneRateWrite a0 a1 s
  | .synApply a0 a1 => shape_synApply a0 a1 s
  | .synPstep a0 a1 => shape_synPstep a0 a1 s
  | .refoutPstep a0 a1 => shape_refoutPstep a0 a1 s
  | .refoutConfig a0 a1 => shape_refoutConfig a0 a1 s
  | .lanePhaseMove a0 a1 => shape_lanePhaseMove a0 a1 s
  | .errInjectGo a0 a1 => shape_errInjectGo a0 a1 s
  | .errInjectEvent a0 => shape_errInjectEvent a0 s
  | .errInject a0 a1 => shape_errInject a0 a1 s
  | .signalDetect a0 => shape_signalDetect a0 s
  | .cdrLock a0 a1 => shape_cdrLock a0 a1 s
  | .adaptConverged a0 => shape_adaptConverged a0 s
  | .cdrLockLoss a0 => shape_cdrLockLoss a0 s
  | .signalLoss a0 => shape_signalLoss a0 s
  | .signalReturn a0 a1 => shape_signalReturn a0 a1 s
  | .adaptBurst a0 a1 a2 => shape_adaptBurst a0 a1 a2 s
  | .adaptRestart a0 a1 => shape_adaptRestart a0 a1 s
  | .profileSwitchGo a0 a1 => shape_profileSwitchGo a0 a1 s
  | .profileSwitchEvent a0 => shape_profileSwitchEvent a0 s
  | .switchApply a0 => shape_switchApply a0 s
  | .rxBlock a0 a1 => shape_rxBlock a0 a1 s
  | .trgTimerExpiry a0 => shape_trgTimerExpiry a0 s
  | .trgEvent a0 a1 => shape_trgEvent a0 a1 s
  | .recordClose a0 => shape_recordClose a0 s
  | .recordAgeExpiry a0 => shape_recordAgeExpiry a0 s
  | .cdmaTileWrite a0 => shape_cdmaTileWrite a0 s
  | .captureDone a0 => shape_captureDone a0 s
  | .dmRequest a0 => shape_dmRequest a0 s
  | .selfRefreshEnter a0 => shape_selfRefreshEnter a0 s
  | .stackTempSample a0 a1 a2 => shape_stackTempSample a0 a1 a2 s
  | .retrainBurst a0 a1 a2 a3 => shape_retrainBurst a0 a1 a2 a3 s
  | .clearSweepDone => shape_clearSweepDone s
  | .pinRateWrite a0 => shape_pinRateWrite a0 s
  | .pinRateChangeStart => shape_pinRateChangeStart s
  | .pinRateChangeDone => shape_pinRateChangeDone s
  | .hazardWrite a0 => shape_hazardWrite a0 s
  | .migrationStart a0 => shape_migrationStart a0 s
  | .migrationDone a0 => shape_migrationDone a0 s
  | .scrubRead a0 a1 => shape_scrubRead a0 a1 s
  | .dmTlogPop a0 => shape_dmTlogPop a0 s
  | .tileQuery a0 => shape_tileQuery a0 s
  | .tileQueryDone => shape_tileQueryDone s
  | .bankHandover a0 a1 => shape_bankHandover a0 a1 s
  | .zeroFillDone a0 => shape_zeroFillDone a0 s
  | .bankPowerMode a0 a1 => shape_bankPowerMode a0 a1 s
  | .bankRetention a0 => shape_bankRetention a0 s
  | .scratchpadAccess a0 a1 a2 a3 => shape_scratchpadAccess a0 a1 a2 a3 s
  | .scratchpadSaveTestRestore a0 a1 a2 => shape_scratchpadSaveTestRestore a0 a1 a2 s
  | .queueCommit a0 a1 => shape_queueCommit a0 a1 s
  | .queueRewind a0 a1 => shape_queueRewind a0 a1 s
  | .queuePop a0 a1 => shape_queuePop a0 a1 s
  | .queuePush a0 => shape_queuePush a0 s
  | .queueDrop a0 a1 => shape_queueDrop a0 a1 s
  | .queueFlush a0 => shape_queueFlush a0 s
  | .queueMismatch a0 => shape_queueMismatch a0 s
  | .eventRaise a0 => shape_eventRaise a0 s
  | .lutDelayExpiry a0 => shape_lutDelayExpiry a0 s
  | .lutCfgWrite a0 a1 => shape_lutCfgWrite a0 a1 s
  | .trigInEdge a0 a1 a2 => shape_trigInEdge a0 a1 a2 s
  | .mwFire a0 => shape_mwFire a0 s
  | .mwFireMask a0 a1 => shape_mwFireMask a0 a1 s
  | .ringEventFrame a0 => shape_ringEventFrame a0 s
  | .awgClockFault => shape_awgClockFault s
  | .ftwApply a0 a1 => shape_ftwApply a0 a1 s
  | .calAmpWrite a0 a1 => shape_calAmpWrite a0 a1 s
  | .calSyncNow a0 a1 => shape_calSyncNow a0 a1 s
  | .calSyncEvent a0 => shape_calSyncEvent a0 s
  | .injectionSwitchMove a0 => shape_injectionSwitchMove a0 s
  | .sdTick => shape_sdTick s
  | .sdRangeChange a0 a1 => shape_sdRangeChange a0 a1 s
  | .sdClampRelease a0 => shape_sdClampRelease a0 s
  | .sdFault a0 a1 => shape_sdFault a0 a1 s
  | .sdFaultClear a0 => shape_sdFaultClear a0 s
  | .monConversion a0 a1 a2 a3 => shape_monConversion a0 a1 a2 a3 s
  | .linkUp a0 => shape_linkUp a0 s
  | .linkDown => shape_linkDown s
  | .fallbackEnumerate => shape_fallbackEnumerate s
  | .dmaHeadWrite a0 a1 => shape_dmaHeadWrite a0 a1 s
  | .dmaEnable a0 a1 => shape_dmaEnable a0 a1 s
  | .dmaDescriptor a0 a1 a2 => shape_dmaDescriptor a0 a1 a2 s
  | .dmaCompletion a0 a1 a2 a3 a4 => shape_dmaCompletion a0 a1 a2 a3 a4 s
  | .dmaAbort a0 a1 => shape_dmaAbort a0 a1 s
  | .fallbackRead a0 a1 a2 a3 => shape_fallbackRead a0 a1 a2 a3 s
  | .fallbackWrite a0 a1 a2 a3 => shape_fallbackWrite a0 a1 a2 a3 s
  | .fallbackTileRead a0 a1 a2 a3 => shape_fallbackTileRead a0 a1 a2 a3 s
  | .fallbackTileWrite a0 a1 a2 a3 => shape_fallbackTileWrite a0 a1 a2 a3 s
  | .mbDoorbell a0 a1 => shape_mbDoorbell a0 a1 s
  | .mbTake a0 a1 => shape_mbTake a0 a1 s
  | .mbAckw a0 a1 => shape_mbAckw a0 a1 s
  | .mbFlush a0 a1 => shape_mbFlush a0 a1 s
  | .hello a0 => shape_hello a0 s
  | .info a0 => shape_info a0 s
  | .echo a0 => shape_echo a0 s
  | .load a0 => shape_load a0 s
  | .actSubmit a0 => shape_actSubmit a0 s
  | .actAbort a0 => shape_actAbort a0 s
  | .power a0 => shape_power a0 s
  | .notifyEmergency => shape_notifyEmergency s
  | .notifyMcRestart => shape_notifyMcRestart s
  | .fwUpdate a0 => shape_fwUpdate a0 s
  | .fwActivate a0 a1 => shape_fwActivate a0 a1 s
  | .fwCommit a0 => shape_fwCommit a0 s
  | .certGet a0 => shape_certGet a0 s
  | .attest a0 => shape_attest a0 s
  | .dbgChallenge a0 => shape_dbgChallenge a0 s
  | .dbgUnlock a0 => shape_dbgUnlock a0 s
  | .dbgLock a0 => shape_dbgLock a0 s
  | .ownerKeySet a0 => shape_ownerKeySet a0 s
  | .calExport a0 => shape_calExport a0 s
  | .calStage a0 => shape_calStage a0 s
  | .calCommit a0 => shape_calCommit a0 s
  | .measurementSelect a0 => shape_measurementSelect a0 s
  | .pathMoveDone a0 => shape_pathMoveDone a0 s
  | .pathFault a0 => shape_pathFault a0 s
  | .snFaultRead a0 => shape_snFaultRead a0 s
  | .forwardPathMove a0 => shape_forwardPathMove a0 s
  | .cartPresent => shape_cartPresent s
  | .cartRemoved => shape_cartRemoved s
  | .cartVerify a0 => shape_cartVerify a0 s
  | .cartChallenge a0 => shape_cartChallenge a0 s
  | .cartChallengeRetry a0 => shape_cartChallengeRetry a0 s
  | .cartChalGo a0 a1 => shape_cartChalGo a0 a1 s
  | .cartOverride a0 => shape_cartOverride a0 s
  | .ringConfig a0 => shape_ringConfig a0 s
  | .ringDiscoveryFrame a0 => shape_ringDiscoveryFrame a0 s
  | .ringTimeSend a0 => shape_ringTimeSend a0 s
  | .ringTimeFrame a0 a1 => shape_ringTimeFrame a0 a1 s
  | .ringNomaster => shape_ringNomaster s
  | .ringWakeSend a0 => shape_ringWakeSend a0 s
  | .ringFingerprintFrame a0 => shape_ringFingerprintFrame a0 s
  | .ringEpochFrame a0 => shape_ringEpochFrame a0 s
  | .fingerprintCompute => shape_fingerprintCompute s
  | .fingerprintDone => shape_fingerprintDone s
  | .epochStage a0 => shape_epochStage a0 s
  | .stagedWrite a0 a1 => shape_stagedWrite a0 a1 s
  | .epochArm a0 => shape_epochArm a0 s
  | .epochBroadcast a0 => shape_epochBroadcast a0 s
  | .epochCancel a0 => shape_epochCancel a0 s
  | .epochApply => shape_epochApply s
  | .ringIdleFrame => shape_ringIdleFrame s
  | .ringInputLocked => shape_ringInputLocked s
  | .ringInputLockLost => shape_ringInputLockLost s
  | .refreshWindowStart a0 => shape_refreshWindowStart a0 s
  | .supplyWindowReturn a0 => shape_supplyWindowReturn a0 s
  | .linkClStateChange a0 => shape_linkClStateChange a0 s

end Sys2Proof.Machine
end

