-- ==== Sys2Proof/Laws/Same.lean ====
section
/-! SUPPORT. Which registers an operation leaves as they were: one lemma per operation, composed step by step. -/
namespace Sys2Proof.Safety

open Sys2Proof.Machine

theorem SameRegs.refl (l : List Nat) (d : Dev) : SameRegs l d d := fun _ _ => rfl

/-- One more step that changes only listed registers. -/
theorem SameRegs.step {l k : List Nat} {d e f : Dev} (h : SameRegs l d e) (h2 : SameRegs k e f) (hk : ∀ a ∈ k, a ∈ l) :
    SameRegs l d f := fun a ha => (h2 a fun hc => ha (hk a hc)).trans (h a ha)

theorem SameRegs.mono {l k : List Nat} {d e : Dev} (h : SameRegs k d e) (hk : ∀ a ∈ k, a ∈ l) : SameRegs l d e :=
  fun a ha => h a fun hc => ha (hk a hc)

theorem SameRegs.rd {l : List Nat} {d e : Dev} (h : SameRegs l d e) (p : Nat) (f : Field) (ha : addrOf p f.off ∉ l) :
    e.rd p f = d.rd p f := by simp only [Dev.rd, h _ ha]

theorem SameRegs.on {l : List Nat} {d e : Dev} (h : SameRegs l d e) (p : Nat) (f : Field) (ha : addrOf p f.off ∉ l) :
    e.on p f = d.on p f := by simp only [Dev.on, h.rd p f ha]

theorem SameRegs.has {l : List Nat} {d e : Dev} (h : SameRegs l d e) (p i : Nat) (f : Field) (ha : addrOf p f.off ∉ l) :
    e.has p f i = d.has p f i := by simp only [Dev.has, h.rd p f ha]

theorem SameRegs.bit {l : List Nat} {d e : Dev} (h : SameRegs l d e) (p off i : Nat) (ha : addrOf p off ∉ l) :
    e.bit p off i = d.bit p off i := by simp only [Dev.bit, h _ ha]

/-- A fold of steps each of which changes only listed registers. -/
theorem SameRegs.fold {α : Type} (l : List Nat) (g : Dev → α → Dev) (xs : List α)
    (h : ∀ d, ∀ x ∈ xs, SameRegs l d (g d x)) (d : Dev) : SameRegs l d (xs.foldl g d) := by
  induction xs generalizing d with
  | nil => exact SameRegs.refl l d
  | cons x xs ih =>
    exact ((h d x (List.mem_cons_self ..)).step (SameRegs.refl l _) (fun a ha => ha)).step
      (ih (fun d y hy => h d y (List.mem_cons_of_mem _ hy)) (g d x)) fun a ha => ha

end Sys2Proof.Safety

namespace Sys2Proof.Machine

open Sys2Proof.Safety

/-! ## The operations -/

theorem Dev.same_putBits (d : Dev) (a : Nat) (m w : Word) : SameRegs [a] d (d.putBits a m w) :=
  fun b hb => d.reg_putBits_other a b m w (by simpa using hb)

theorem Dev.same_wr (d : Dev) (p v : Nat) (f : Field) : SameRegs [addrOf p f.off] d (d.wr p f v) := d.same_putBits _ _ _

theorem Dev.same_fbit (d : Dev) (p i : Nat) (f : Field) (b : Bool) : SameRegs [addrOf p f.off] d (d.fbit p f i b) :=
  d.same_wr _ _ _

theorem Dev.same_bump (d : Dev) (p n : Nat) (f : Field) : SameRegs [addrOf p f.off] d (d.bump p f n) := d.same_wr _ _ _

theorem Dev.same_setBit (d : Dev) (p off i : Nat) (b : Bool) : SameRegs [addrOf p off] d (d.setBit p off i b) :=
  d.same_putBits _ _ _

theorem Dev.same_stat (d : Dev) (p b : Nat) : SameRegs (statAddrs p) d (d.stat p b) := by
  intro a ha
  simp only [statAddrs, List.mem_cons, List.not_mem_nil, or_false, not_or] at ha
  refine d.reg_stat p b a ha.1 ?_
  rintro (h | h)
  · exact ha.2.1 h
  · exact ha.2.2 h

theorem Dev.same_of_eq (d e : Dev) (hr : e.regs = d.regs) (hu : e.upset = d.upset) : SameRegs [] d e :=
  fun a _ => d.reg_congr e a hr hu

theorem Dev.same_raiseAs (d : Dev) (k : RaiseKind) (ch h : Nat) : SameRegs [] d (d.raiseAs k ch h) := fun _ _ => rfl
theorem Dev.same_raiseSys (d : Dev) (ch : Nat) : SameRegs [] d (d.raiseSys ch) := fun _ _ => rfl
theorem Dev.same_raiseIf (d : Dev) (p : Nat) (en ev : Field) : SameRegs [] d (d.raiseIf p en ev) :=
  fun a _ => d.reg_raiseIf p en ev a
theorem Dev.same_emit (d : Dev) (m : Message) : SameRegs [] d (d.emit m) := fun _ _ => rfl

theorem Dev.same_vlogAdd (d : Dev) (e : VEntry) : SameRegs [addrOf 0x08 0x058] d (d.vlogAdd e) := by
  unfold Dev.vlogAdd
  split
  · exact fun _ _ => rfl
  · exact d.same_bump 0x08 _ F.VLOG_STAT_lost

end Sys2Proof.Machine
end

