-- ==== Sys2Proof/Laws/Gives.lean ====
section
/-! SUPPORT. From a command's meaning to the device that it gives: one lemma per way of acting on the state; what a stored write
leaves alone; thaws. -/
namespace Sys2Proof.Safety

open Sys2Proof.Machine

variable {c : Instr} {s : State} {e : Dev}

theorem gives_onDev {f : Dev → Dev} (h : exec c s = onDev s f) (he : f s.dev = e) : Gives c s e := by
  unfold Gives; rw [h, ← he]; rfl

theorem gives_onLive {f : Dev → Dev} (h : exec c s = onLive s f) (hs : s.dev.serving = true) (he : f s.dev = e) :
    Gives c s e := by
  unfold Gives; rw [h, ← he]; unfold onLive; rw [if_pos hs]

theorem gives_onBoth {f : Dev → Mem → Dev × Mem} {m : Mem} (h : exec c s = onBoth s f) (he : f s.dev s.mem = (e, m)) :
    GivesMem c s e m := by
  unfold GivesMem; rw [h, ← he]; rfl

theorem gives_onLiveBoth {f : Dev → Mem → Dev × Mem} {m : Mem} (h : exec c s = onLiveBoth s f) (hs : s.dev.serving = true)
    (he : f s.dev s.mem = (e, m)) : GivesMem c s e m := by
  unfold GivesMem; rw [h, ← he]; unfold onLiveBoth; rw [if_pos hs]

theorem Gives.performs (h : Gives c s e) : Performs c s e := .inl h

end Sys2Proof.Safety

namespace Sys2Proof.Machine

open Sys2Proof.Safety

/-- A stored write changes its own register at most. -/
theorem Dev.same_store (d : Dev) (x : Wr) : SameRegs [addrOf x.p x.off] d (d.store x) := by
  unfold Dev.store
  split
  · exact SameRegs.refl _ _
  · exact Dev.same_putBits _ _ _ _

/-- A write of a register whose fields all are WO stores nothing. -/
theorem Dev.same_store_wo (d : Dev) (p off : Nat) (w : BusWrite)
    (h : bitsWhere p off (d.canWrite w.m p off) &&& ~~~(bitsWhere p off fun f => f.acc == .wo) = 0) :
    SameRegs [] d (d.store (seen d p off w)) := by
  intro a _
  unfold Dev.store
  split
  · rfl
  · by_cases ha : a = addrOf p off
    · subst ha
      change (d.putBits (addrOf p off) _ _).reg _ = _
      rw [Dev.reg_putBits_same]
      have hk : d.writeMask w.m p off &&& beMask w.be &&& ~~~(bitsWhere p off fun f => f.acc == .wo) = 0 := by
        unfold Dev.writeMask
        generalize (if p = 0x08 ∧ off = 0x048 then (0xFFFFFFF9 : Word) else 0xFFFFFFFF) = k
        ext i
        have e := congrArg (fun x : Word => x[i]) h
        simp only [BitVec.getElem_and, BitVec.getElem_not, BitVec.ofNat_eq_ofNat, BitVec.getElem_zero] at e ⊢
        revert e
        cases (bitsWhere p off (d.canWrite w.m p off))[i] <;> cases (bitsWhere p off fun f => f.acc == .wo)[i] <;> simp
      change d.reg _ &&& ~~~(d.writeMask w.m p off &&& beMask w.be &&& ~~~(bitsWhere p off fun f => f.acc == .wo)) |||
        _ &&& (d.writeMask w.m p off &&& beMask w.be &&& ~~~(bitsWhere p off fun f => f.acc == .wo)) = _
      rw [hk, show ~~~(0 : Word) = BitVec.allOnes 32 from rfl, BitVec.and_allOnes]
      simp
    · exact d.reg_putBits_other _ _ _ _ ha

theorem Dev.master_lt (m : Master) : m.id < 8 := by cases m <;> decide
theorem Dev.master_inj (m n : Master) (h : m.id = n.id) : m = n := by
  revert h
  cases m <;> cases n <;> decide

theorem Dev.frozen_thaw (d : Dev) (m k : Master) : (d.thaw m).frozen k = (d.frozen k && !(k == m)) := by
  change (d.fbit 0x08 F.PROT_FROZEN_mask m.id false).has 0x08 F.PROT_FROZEN_mask k.id = _
  rw [Dev.has_fbit _ _ _ _ _ _ (by decide) (Dev.master_lt k)]
  by_cases h : k = m
  · subst h
    simp
  · rw [if_neg (fun e => h (Dev.master_inj _ _ e))]
    simp [h, Dev.frozen]

theorem Dev.same_thaw (d : Dev) (m : Master) : SameRegs [addrOf 0x08 0x040] d (d.thaw m) :=
  d.same_fbit 0x08 _ F.PROT_FROZEN_mask _

theorem Dev.thawPending_thaw (d : Dev) (m : Master) : (d.thaw m).thawPending m = false := by
  unfold Dev.thaw Dev.thawPending
  exact tabGet_tabSet_same (fun _ => false) d.prot.thawPend m.id false

end Sys2Proof.Machine
end

