-- ==== Sys2Proof/Tests/Slice0.lean ====
section
/-! SUPPORT. Tests: for each statement, states and operands that meet its hypotheses, clause by clause (wit_...); what single
commands do, from the worked examples and tables of the spec (test_...); ill-formed commands (ill_...). -/
namespace Sys2Proof.Tests

open Sys2Proof.Machine Sys2Proof.Safety

set_option Elab.async false

/-! ## What the witnesses start from -/

def w4 (m : Master) (x : Word) : BusWrite := ⟨m, 15, x⟩

/-- A device in STANDBY with the host's link up, in ARMED, in DORMANT. -/
def up : Dev :=
  (((Dev.reset.wr 0x01 F.RST_STAT_ready 1).wr 0x02 F.SB_STATE_cur 2).wr 0x60 F.DM_STAT_clearing 0).wr 0x14 F.HL_STAT_gen 2
def arm : Dev := up.wr 0x02 F.SB_STATE_cur 3
def sleepy : Dev := up.wr 0x02 F.SB_STATE_cur 1

def trans (d : Dev) (t : Trans) : Dev := { d with bill := { d.bill with trans := t } }
def on (d : Dev) : State := ⟨[], d, Mem.reset⟩

/-! ## The fabric -/

theorem wit_EveryCommandCompletes :
    ∃ t, exec (.registerWrite .dbg (BitVec.ofNat 24 (addrOf 0xF1 0x040)) (lanes (w4 .dbg 1)))
      (on ((up.wr 0x10 F.SEC_DEBUG_unlocked 1).wr 0x10 F.SEC_DEBUG_by 1)) = .next t := ⟨_, rfl⟩

theorem wit_QueueAndMemoryFrame : (∃ t, exec .xtalValid State.reset = .next t) ∧ reachesMemory .xtalValid = false :=
  ⟨⟨_, rfl⟩, rfl⟩

theorem wit_MemoryInvariant : MemOk State.reset ∧ ∃ t, step State.reset = .next t := ⟨by unfold MemOk; decide, ⟨_, rfl⟩⟩

theorem wit_AcceptedWriteStores :
    accepted up 0x02 0x010 (w4 .host 7) = true ∧ accepted up 0x94 0x014 (w4 .mc 63) = true ∧
      accepted up 0x02 0x014 ⟨.mc, 1, 63⟩ = true := by decide +kernel

theorem wit_AliasWritesAndStatusReads :
    acceptedAlias up .host 0x02 0x010 31 true = true ∧ acceptedAlias up .host 0x20 0x040 0 false = true ∧
      readable up 0x02 0x00C ⟨.host, 1⟩ = true := by decide +kernel

theorem wit_PageControlWrites :
    accepted up 0x20 0x008 (ctrlWr up .host 0x20 0 false) = true ∧ accepted up 0x20 0x008 (ctrlWr up .host 0x20 1 true) = true ∧
      accepted up 0x20 0x008 (ctrlWr up .host 0x20 2 true) = true ∧ hasBasic 0x20 = true ∧
      up.privileged .mc = true ∧ accepted up 0x08 0x008 (ctrlWr up .mc 0x08 4 true) = true ∧
      accepted up 0x08 0x008 (ctrlWr up .mc 0x08 5 true) = true ∧ accepted up 0x08 0x008 (ctrlWr up .mc 0x08 6 true) = true := by decide +kernel

theorem wit_StoredFields :
    F.SB_STATE_cur.lo + F.SB_STATE_cur.w ≤ 32 ∧ F.SB_STATE_changing.off = F.SB_STATE_cur.off ∧
      F.SB_STATE_changing.mask &&& F.SB_STATE_cur.mask = 0 ∧ tsOf 0x02 0x040 = none ∧
      F.SB_STATE_cur.mask &&& bitsWhere 0x02 0x040 (fun g => g.acc == .wo) = 0 := by decide +kernel

def asks : Dev := ((up.putBits (addrOf 0x02 0x010) 1 1).wr 0x14 F.HL_STAT_gen 2).wr 0x17 (F.MSIX_VCTRL_mask.at 0) 0

theorem wit_StatusBitRequests :
    asks.bit 0x02 0x00C 0 = false ∧ asks.bit 0x02 0x010 0 = true ∧ 2 ≤ asks.rd 0x14 F.HL_STAT_gen ∧
      asks.on 0x17 (F.MSIX_VCTRL_mask.at (asks.rd 0x02 F.PAGE_IRQ_MAP_vector)) = false ∧ up.bit 0x02 0x010 31 = false := by decide +kernel

theorem wit_ViolationFreezes :
    (fieldsAt 0x08 0x048).isSome = true ∧ up.stalls .host = false ∧ up.barred .host 0x08 = false ∧
      up.accessCause (seen up 0x08 0x048 (w4 .host 1)) 1 false = some 1 ∧ up.armedBy 0x08 .host = false := by decide +kernel

def icy (m : Master) : Dev := up.fbit 0x08 F.PROT_FROZEN_mask m.id true

theorem wit_FrozenWritesStop :
    (icy .host).serving = true ∧ (icy .host).frozen .host = true ∧ (icy .xdma).frozen .xdma = true ∧
      (fieldsAt 0x09 0x200).isSome = true := by decide +kernel

def checked : Dev := up.wr 0x08 F.PAGE_CTRL_check_en 1

theorem wit_PageEvents :
    (up.wr 0x20 F.PAGE_CTRL_reset_busy 1).on 0x20 F.PAGE_CTRL_reset_busy = true ∧
      (up.wr 0x08 F.PAGE_CTRL_key_armed 1).on 0x08 F.PAGE_CTRL_key_armed = true ∧
      (up.wr 0x08 F.PAGE_CTRL_check_busy 1).on 0x08 F.PAGE_CTRL_check_busy = true ∧ isPriv 0x08 = true ∧
      up.on 0x08 F.PAGE_CTRL_check_en = false ∧ checked.on 0x08 F.PAGE_CTRL_check_en = true ∧
      checked.pageCheck 0x08 ≠ checked.reg (addrOf 0x08 0x020) ∧
      tabGet (fun _ => none) checked.prot.lastDiff 0x08 ≠ some (checked.pageCheck 0x08) := by decide +kernel

theorem wit_KeysAndThaws :
    isKeyed 0x90 = true ∧ accepted up 0x90 0x018 (w4 .mc (pageKey 0x90)) = true ∧
      accepted up 0x08 0x044 (w4 .mc 0xFF) = true ∧
      up.mcRuns = true ∧ ((icy .host).wr 0x08 F.PROT_AUTOTHAW_mask 1).has 0x08 F.PROT_AUTOTHAW_mask 0 = true ∧
      accepted (icy .host) 0x0A 0x044 (w4 .host 1) = true ∧
      (seen (icy .host) 0x0A 0x044 (w4 .host 1)).cmd F.THAW_REQ_req = 1 ∧
      ((icy .host).thawAsk .host).thawPending .host = true ∧
      accepted up 0x08 0x05C (w4 .mc 1) = true ∧ (seen up 0x08 0x05C (w4 .mc 1)).cmd F.VLOG_POP_pop = 1 := by decide +kernel

theorem wit_WatchdogRestartsMc :
    (icy .mc).serving = true ∧ (icy .mc).rd 0x01 F.RST_STAT_boot ≠ 2 ∧ (icy .mc).frozen .mc = true := by decide +kernel

def held : Dev := (up.acquire 63 .host).2

theorem wit_TurnstilesLock :
    readable up 0x09 0x2FC ⟨.host, 15⟩ = true ∧ readable up 0x09 0x2FC ⟨.host, 14⟩ = true ∧ up.taken 63 = false ∧ held.taken 63 = true ∧
      readable held 0x09 0x2FC ⟨.mc, 1⟩ = true ∧ readable up 0x09 0x2FC ⟨.mc, 1⟩ = true ∧
      accepted held 0x09 0x2FC (w4 .host 0) = true := by decide +kernel

theorem wit_PageClaims :
    accepted up 0x20 0x024 (w4 .host 0x80) = true ∧ isOwned 0x20 = true ∧ up.on 0x20 F.PAGE_OWNER_valid = false ∧
      F.PAGE_OWNER_valid.get 0x81 = 1 ∧ F.PAGE_OWNER_owner.get 0x81 = Master.mc.id ∧ F.PAGE_OWNER_valid.get 0x80 = 1 ∧
      up.frozen .mc = false := by decide +kernel

theorem wit_SweepCorrects :
    up.upset = [] ∧ t3Fields 0x70 0x040 = [{ F.SPC_CFG_rot_en with off := 0x040 }] ∧
      (1 : Word) &&& F.SPC_CFG_rot_en.mask ≠ 0 := by decide +kernel

/-! ## Start, power and modes -/

theorem wit_WholeResets : ∀ k ∈ up.kept, k.1 ≠ addrOf 0x02 0x040 := by decide +kernel

def starting : Dev := Dev.reset.wiped.begin 0 0

theorem wit_ComesReady :
    starting.ready = false ∧ starting.power ≠ 1 ∧ (starting.syn 0).on = true ∧
      (trans sleepy .waking).power = 1 ∧ (trans sleepy .waking).bill.trans = .waking := by decide +kernel

theorem wit_PowerRequests :
    accepted up 0x02 0x044 (w4 .host 1) = true ∧ accepted up 0x02 0x044 (w4 .host 2) = true ∧
      accepted arm 0x02 0x044 (w4 .mc 1) = true ∧ accepted arm 0x02 0x044 (w4 .mc 2) = true ∧
      accepted up 0x02 0x044 (w4 .host 3) = true ∧ accepted arm 0x02 0x044 (w4 .host 3) = true ∧
      (seen up 0x02 0x044 (w4 .host 3)).val F.SB_STATE_REQ_req = 3 := by decide +kernel

theorem wit_PowerEntries :
    (trans up .toDormant).bill.wakeHeld = 0 ∧
      ((((trans up .toDormant).asleep ((trans up .toDormant).rd 0x04 F.AON_RETAIN)).setPower 1).setTrans .none).alarm = false ∧
      (trans arm (.toStandby true false)).bill.trans = .toStandby true false ∧ (trans up .toArmed).bill.trans = .toArmed ∧
      sleepy.wakeEnabled 1 ≠ 0 ∧ sleepy.bill.trans = .none ∧ sleepy.power = 1 ∧ (trans up .toDormant).wakeEnabled 1 ≠ 0 ∧
      (arm.wr 0x02 F.SB_ARM_IDLE_ms 1).on 0x02 F.SB_ARM_IDLE_ms = true ∧ arm.anyLive = false ∧ arm.power = 3 := by decide +kernel

theorem wit_ModeWrites :
    up.accessCause (seen up 0x00 0x040 (w4 .host 2)) 2 false = none ∧ up.staged .host 0x00 0x040 = false ∧
      up.modeBad = none ∧ F.GLB_MODE_mode.get 2 ≠ up.mode ∧ F.GLB_MODE_mode.get 3 = 3 ∧
      (up.startMode 2).modeBad = some 3 ∧ (up.wr 0x02 F.SB_STATE_cur 4).modeBad = some 1 ∧
      (up.wr 0x00 F.GLB_MODE_STAT_changing 1).pathsSettled = true ∧ up.net.check ≠ 1 ∧
      accepted up 0x02 0x048 (w4 .mc 0x1FF) = true ∧ accepted arm 0x02 0x048 (w4 .mc 0x1FF) = true := by decide +kernel

def forwards : Dev :=
  ((((arm.wr 0x03 (F.ACT_STAT_state.at 0) 2).wr 0x03 (F.ACT_AUX_fwd_ab.at 0) 1).wr 0x03 (F.ACT_LANES_rx.at 0) 1).wr 0x03
    (F.ACT_LANES_tx.at 0) 0x100).wr 0x00 F.GLB_MODE_STAT_active 2

theorem wit_PathsMove :
    (up.command 15 true).net.moving.testBit 15 = true ∧ (up.command 15 true).net.check ≠ 1 ∧
      readable (up.fbit 0x92 F.SN_FAULT_paths 15 true) 0x92 0x048 ⟨.host, 15⟩ = true ∧
      (up.fbit 0x92 F.SN_FAULT_paths 15 true).has 0x92 F.SN_FAULT_paths 15 = true ∧
      forwards.actState 0 = 2 ∧ forwards.forwards 0 = true ∧ forwards.bill.pathWait.testBit 0 = false ∧
      forwards.rd 0x03 (F.ACT_W0_start.at 0) = 0 := by decide +kernel

/-! ## Showbill -/

def due : Dev := arm.submit 0

theorem wit_ActWrites :
    accepted up 0x02 0x068 (w4 .host 15) = true ∧ accepted up 0x02 0x06C (w4 .mc 0xFFFF) = true ∧
      accepted (up.wr 0x02 F.SB_EMERG_latched 1) 0x02 0x060 (w4 .mc (F.SB_EMERG_clear.put 0 1)) = true ∧
      (seen up 0x02 0x060 (w4 .mc (F.SB_EMERG_clear.put 0 1))).cmd F.SB_EMERG_clear = 1 := by decide +kernel

/-- Bounds on a prediction of a device and slot. -/
def warm (d : Dev) (k : Nat) : Int := wholeUp (d.predict (d.committed + d.actPower k) (d.rd 0x03 (F.ACT_DUR.at k)))
def answered (d : Dev) (k : Nat) : Option Nat :=
  (d.wr 0x03 (F.ACT_STAT_peak.at k) (unsigned 8 (warm d k))).refusal k (d.committed + d.actPower k)
    (d.predict (d.committed + d.actPower k) (d.rd 0x03 (F.ACT_DUR.at k)))

theorem wit_ActIsEvaluated :
    due.evalNext 0 = true ∧ -128 ≤ warm due 0 ∧ warm due 0 ≤ 127 ∧ answered due 0 = none ∧
      (up.submit 15).evalNext 15 = true ∧ warm (up.submit 15) 15 ≤ 127 ∧ (answered (up.submit 15) 15).isSome = true := by decide +kernel

theorem wit_AdmissionIsSafe :
    (due.wr 0x03 (F.ACT_STAT_peak.at 0) 0).refusal 0 (due.committed + due.actPower 0) 0 = none := by decide +kernel

def slot (d : Dev) (st start dur : Nat) : Dev :=
  ((d.wr 0x03 (F.ACT_STAT_state.at 0) st).wr 0x03 (F.ACT_W0_start.at 0) start).wr 0x03 (F.ACT_DUR.at 0) dur

def inbox (d : Dev) (t : Task) : Dev := { d with mw := { d.mw with inbox := [t] } }

theorem wit_ActsStartAndEnd :
    (slot arm 2 0 0).actState 0 = 2 ∧ (slot arm 2 0 0).forwards 0 = false ∧ (slot arm 2 1 0).rd 0x03 (F.ACT_W0_start.at 0) = 1 ∧
      ((inbox (slot arm 2 2 0) (.actStart 0)).startEvent 0).isSome = true ∧
      (slot arm 3 0 1).actState 0 = 3 ∧ (slot arm 3 0 1).on 0x03 (F.ACT_DUR.at 0) = true := by decide +kernel

def sampled (tc : BitVec 16) : Dev := (up.sampleRegs tc.toNat 0 0 240).modelCheck

theorem wit_HeatAndHousekeeping :
    (sampled 0).heatCause = none ∧ (sampled 0x0800).heatCause = some 1 ∧ (sampled 0x07FF).heatCause = none ∧
      up.on 0x02 F.SB_EMERG_latched = false ∧ (up.wr 0x02 F.SB_EMERG_latched 1).on 0x02 F.SB_EMERG_latched = true ∧
      (let t := roundAway (((sampled 0).caseTemp + ((sampled 0).rise (sampled 0).committed : Nat)) * 16) 10000
       t ≤ 32767 ∧ -32768 ≤ t) ∧ arm.power = 3 ∧
      (up.wr 0x02 F.SB_HK_CTRL_en 0).has 0x02 F.SB_HK_CTRL_en 2 = false ∧ (up.wr 0x02 F.SB_HK_CTRL_en 0).has 0x02 F.SB_HK_CTRL_en 4 = false ∧
      up.has 0x02 F.SB_HK_CTRL_en 2 = true ∧ up.playsOn 6 = false ∧
      up.synOn 6 F.SYN_STAT_recal = false ∧ (up.recal 0).synOn 6 F.SYN_STAT_recal = true ∧
      up.has 0x02 F.SB_HK_CTRL_en 4 = true := by decide +kernel

/-! ## Sequencers -/

/-- An entry: opcode `op`, and values at their lowest bits. -/
def ent (op : Nat) (fs : List (Nat × Nat)) : BitVec 128 :=
  BitVec.ofNat 128 (fs.foldl (fun a f => a + 2 ^ f.1 * f.2) (2 ^ 124 * op))

/-- Sequencer `n` of a device holds a record in a state, with an entry at its index. -/
def puts (d : Dev) (n st : Nat) (q : Sq) (e : BitVec 128) : Dev :=
  { (d.setSqState n st).setSq n q with prog := [(2048 * n + q.pc, e)] }

/-- Sequencer `n` runs its entry at index `pc`. -/
def runs (d : Dev) (n pc : Nat) (e : BitVec 128) : Dev := puts d n 3 { Sq.init with pc := pc } e

def framed (k : Nat) (f : LoopFrame) : Sq := { Sq.init with pc := 2046, frames := List.replicate k f }
def frame0 : LoopFrame := ⟨1, 2047, 1#256 <<< 255, false⟩


/-- A preparation in progress on sequencer 0. -/
def prepping (x : Prep) : Dev := puts up 0 1 { Sq.init with prep := some x } 0

theorem wit_ExecutionGoesOn :
    (runs up 19 0 0).sq 19 = { Sq.init with pc := 0 } ∧ ((runs up 19 0 0).sq 19).play = none ∧
      ((puts up 0 3 { Sq.init with play := some ⟨segOf 0, 0, 0, false⟩ } 0).sq 0).play ≠ none := by decide +kernel

theorem wit_ProgramsLoad :
    accepted up 0x53 0x090 (w4 .host 1) = true ∧ readable up 0x53 0x090 ⟨.host, 1⟩ = true ∧
      accepted arm 0x53 0x040 (w4 .mc 1) = true ∧ (seen arm 0x53 0x040 (w4 .mc 1)).cmd F.SQ_CTRL_prepare = 1 ∧
      arm.on 0x53 F.PAGE_CTRL_enable = true ∧
      (seen arm 0x53 0x040 (w4 .mc 1)).cmd F.SQ_CTRL_halt_req = 0 ∧
      accepted (runs up 19 0 0) 0x53 0x040 (w4 .mc F.SQ_CTRL_halt_req.mask) = true ∧
      (seen (runs up 19 0 0) 0x53 0x040 (w4 .mc F.SQ_CTRL_halt_req.mask)).cmd F.SQ_CTRL_halt_req = 1 ∧
      (seen (runs up 19 0 0) 0x53 0x040 (w4 .mc F.SQ_CTRL_halt_req.mask)).cmd F.SQ_CTRL_prepare = 0 ∧
      (prepping ⟨none, [], 64⟩).sqState 0 = 1 ∧ ((prepping ⟨none, [], 64⟩).sq 0).prep = some ⟨none, [], 64⟩ ∧
      ((prepping ⟨some (15, some 2047), [], 0⟩).sq 0).prep = some ⟨some (15, some 2047), [], 0⟩ ∧
      ((prepping ⟨some (13, none), [], 0⟩).sq 0).prep = some ⟨some (13, none), [], 0⟩ := by decide +kernel

/-- The sequencer of a device has no play to end, runs, and stands short of the last entry. -/
def ready (d : Dev) (n : Nat) : Bool :=
  ((d.playOn n).sq n).play.isNone && (d.playOn n).sqState n == 3 && decide ((((d.playOn n).sqEnter n).sq n).pc < 2047)

/-- The frames of sequencer `n` once its entry has begun. -/
def stack (d : Dev) (n : Nat) : List LoopFrame := (((d.playOn n).sqEnter n).sq n).frames

theorem wit_LoopsAndJumps :
    (let e := ent 2 [(0, 3)]
     let d := runs up 19 2046 e
     ready d 19 = true ∧ d.sqAt 19 2 = some e ∧ (stack d 19).length < 8) ∧
    (let e := ent 2 []
     let d := puts up 0 3 (framed 8 frame0) e
     ready d 0 = true ∧ d.sqAt 0 2 = some e ∧ (stack d 0).length = 8) ∧
    (let e := ent 3 []
     ready (runs up 0 2046 e) 0 = true ∧ (runs up 0 2046 e).sqAt 0 3 = some e ∧ stack (runs up 0 2046 e) 0 = [] ∧
       ready (puts up 0 3 (framed 1 frame0) e) 0 = true ∧ (puts up 0 3 (framed 1 frame0) e).sqAt 0 3 = some e ∧
       stack (puts up 0 3 (framed 1 frame0) e) 0 = [frame0] ∧ frame0.start < 2048 ∧ eb e 123 122 ≠ 1) ∧
    (let e := ent 3 [(122, 1), (112, 255)]
     let d := puts up 0 3 (framed 1 frame0) e
     ready d 0 = true ∧ d.sqAt 0 3 = some e ∧ stack d 0 = [frame0] ∧ eb e 123 122 = 1 ∧ condLatch (eb e 120 112) = false ∧
       frame0.seen.getLsbD (eb e 120 112) = true) ∧
    (let e := ent 4 [(91, 8)]
     let d := puts up 0 3 (framed 8 frame0) e
     ready d 0 = true ∧ d.sqAt 0 4 = some e ∧ eb e 123 122 = 0 ∧ eb e 116 115 = 0 ∧ eb e 94 91 = 8 ∧ (stack d 0).length = 8) ∧
    (let e := ent 4 [(115, 1), (106, 259)]
     let d := runs up 0 2046 e
     let f := d.setLatch 0 3 true
     ready f 0 = true ∧ f.sqAt 0 4 = some e ∧ ((f.playOn 0).sqEnter 0).latchCond 0 (eb e 114 106) = true ∧ eb e 116 115 = 1 ∧
       ready d 0 = true ∧ d.sqAt 0 4 = some e ∧ ((d.playOn 0).sqEnter 0).latchCond 0 (eb e 114 106) = false) := by decide +kernel

def keepWatch : Watch := ⟨0, true, 255, 2047, 8⟩

theorem wit_WatchesFire :
    (let e := ent 4 [(122, 1), (120, 3)]
     let d := runs up 19 2046 e
     ready d 19 = true ∧ d.sqAt 19 4 = some e ∧ eb e 123 122 = 1) ∧
    (let e := ent 4 [(122, 2), (120, 3)]
     let d := runs up 0 2046 e
     ready d 0 = true ∧ d.sqAt 0 4 = some e ∧ eb e 123 122 = 2) ∧
    (let d := puts (inbox up (.watch 0 3)) 0 3 { Sq.init with watches := [(3, keepWatch)] } 0
     (d.sq 0).watches.find? (fun y => y.1 == 3) = some (3, keepWatch) ∧ (d.sq 0).landing = none ∧
       d.mw.inbox.contains (.watch 0 3) = true) ∧
    (let d := puts up 0 3 { framed 8 frame0 with landing := some (3, keepWatch) } 0
     let g := d.landCut 0 keepWatch.at_ 1
     (d.sq 0).landing = some (3, keepWatch) ∧ g.sqState 0 ≠ 6 ∧ keepWatch.at_ ≠ 2 ∧ keepWatch.target < 2048 ∧
       keepWatch.sdepth ≤ 8 ∧ keepWatch.sdepth ≤ (g.sq 0).frames.length) ∧
    (inbox up (.latch 19 3)).mw.inbox.contains (.latch 19 3) = true := by decide +kernel

def mark0 : MarkRec := ⟨true, 7, false, 0, true, 255, 0, none, false⟩

/-- Sequencer 0 waits at an entry. -/
def waits (e : BitVec 128) (arrived : Bool) : Dev := puts up 0 4 { Sq.init with pc := 2046, wait := some ⟨e, arrived, 0⟩ } e

theorem wit_WaitsMarksHalts :
    (let e := ent 5 []
     let d := runs up 19 2046 e
     ready d 19 = true ∧ (d.sq 19).pc < 2047 ∧ d.sqAt 19 5 = some e ∧ eb e 123 122 = 0 ∧
       ((waits e true).sq 0).wait = some ⟨e, true, 0⟩ ∧ ((waits e true).sq 0).landing = none ∧
       ((waits e true).repeatEnd 0).repeatOver 0 = true) ∧
    (let e := ent 5 [(122, 1)]
     ((waits e false).sq 0).wait = some ⟨e, false, 0⟩ ∧ eb e 123 122 = 1 ∧ eb e 95 48 ≤ (waits e false).count.toNat ∧
       ((waits e false).repeatEnd 0).repeatOver 0 = true) ∧
    (let e := ent 5 [(122, 2), (48, 1)]
     let y := (waits e false).waitWords 0 (eb e 79 48)
     ((waits e false).sq 0).wait = some ⟨e, false, 0⟩ ∧ eb e 123 122 = 2 ∧ (y.repeatEnd 0).repeatOver 0 = true) ∧
    (let e := ent 5 [(119, 1), (99, 2047)]
     let y := (waits e false).waitWords 0 (eb e 79 48)
     ((waits e false).sq 0).wait = some ⟨e, false, 0⟩ ∧ eb e 123 122 = 0 ∧ eb e 119 119 = 1 ∧
       (waits e false).latchCond 0 (eb e 118 110) = false ∧ (y.repeatEnd 0).repeatOver 0 = true) ∧
    (let e := ent 6 []
     let d (k : Nat) : Dev := puts up 0 3 { Sq.init with pc := 2046, marks := List.replicate k mark0 } e
     ready (d 3) 0 = true ∧ (d 3).sqAt 0 6 = some e ∧ ((((d 3).playOn 0).sqEnter 0).sq 0).marks.length = 3 ∧
       ready (d 4) 0 = true ∧ (d 4).sqAt 0 6 = some e ∧ ((((d 4).playOn 0).sqEnter 0).sq 0).marks.length = 4) ∧
    ((puts up 0 3 { Sq.init with marks := List.replicate 4 { mark0 with left := some 0, out := true } } 0).sq 0).marks[3]? =
      some { mark0 with left := some 0, out := true } ∧
    ready (runs up 0 2046 0) 0 = true ∧ (runs up 0 2046 0).sqAt 0 0 = some 0 := by decide +kernel

/-- A RUNNING act in slot 0 with lane 0 at up to 10 GBd, whose synthesizer 6 serves it. -/
def laned : Dev :=
  (((up.wr 0x03 (F.ACT_STAT_state.at 0) 3).wr 0x03 (F.ACT_ENG_sq.at 0) 1).wr 0x03 (F.ACT_LANES_tx.at 0) 3).wr 0x03
    (F.ACT_RATE_rate_mbd.at 0) 65535

def nearRate (k : Nat) : BitVec 128 := ent 7 [(93, k)]

def inl (d : Dev) : Dev :=
  ((((((d.wr 0x03 (F.ACT_STAT_state.at 0) 3).wr 0x03 (F.ACT_AUX_fwd_ab.at 0) 1).wr 0x03 (F.ACT_AUX_fwd_ba.at 0) 1).wr 0x03
    (F.ACT_LANES_rx.at 0) 0xFFFF).wr 0x03 (F.ACT_LANES_tx.at 0) 0xFFFF).wr 0x00 F.GLB_MODE_STAT_active 2)

def brack : Bracket := ⟨true, none, false, false⟩
def handed (h : Handoff) (d : Dev) : Dev := d.setTx 0 { Tx.init with handoff := some h }
def hand0 : Handoff := ⟨7, 25000000000, true, 0, false⟩

/-- The synthesizer that serves sequencer 0's lane gives a rate within reach of its offset. -/
def reaches (d : Dev) (e : BitVec 128) : Bool :=
  let c := (d.playOn 0).sqEnter 0
  offsetOk (c.synRate (c.servingSynth 0)).1 (c.synRate (c.servingSynth 0)).2 (1000 * eb e 118 93)

theorem wit_PlaysRatesSplices_seg :
    (let e := ent 1 [(54, 3), (38, 2)]
     let d := runs up 0 2046 e
     ready d 0 = true ∧ d.sqAt 0 1 = some e ∧ ((d.playOn 0).sq 0).haltReq = false ∧ ((d.playOn 0).tx 0).handoff = none ∧
       (d.playOn 0).sqInline 0 = false ∧ (((d.playOn 0).sqEnter 0).sq 0).bracket = none ∧
       (segOf e).word < wordsPerTile 0 ((d.playOn 0).sqPam 0) ∧ (segOf e).beyond (wordsPerTile 0 ((d.playOn 0).sqPam 0)) = false) ∧
    (let e := ent 1 [(54, 3), (38, 2)]
     let b : Bracket := ⟨true, none, false, true⟩
     let d := puts (inl up) 0 3 { Sq.init with pc := 2046, bracket := some b } e
     ready d 0 = true ∧ d.sqAt 0 1 = some e ∧ (((d.playOn 0).sqEnter 0).sq 0).bracket = some b ∧ b.started = true ∧
       (segOf e).len * (segOf e).reps * wordBits 0 ((d.playOn 0).sqPam 0) % (d.playOn 0).rxBlockBits (fwdTx 0) = 0) ∧
    (let e := ent 1 [(54, 1), (38, 1)]
     let d := runs up 19 2046 e
     ready d 19 = true ∧ d.sqAt 19 1 = some e ∧ ((d.playOn 19).sq 19).haltReq = false ∧
       (((d.playOn 19).sqEnter 19).sq 19).bracket = none) ∧
    (let e := ent 1 [(54, 1), (38, 1)]
     let d := puts up 0 3 { Sq.init with pc := 2046, haltReq := true } e
     ready d 0 = true ∧ d.sqAt 0 1 = some e ∧ ((d.playOn 0).sq 0).haltReq = true) := by decide +kernel

theorem wit_PlaysRatesSplices_rate :
    (let e := nearRate 10000000
     let d := runs laned 0 2046 e
     let c := (d.playOn 0).sqEnter 0
     ready d 0 = true ∧ d.sqAt 0 7 = some e ∧ eb e 123 122 = 0 ∧ (d.playOn 0).sqInline 0 = false ∧
       ((d.playOn 0).tx 0).handoff = none ∧ 1000 * eb e 118 93 ≤ c.rateLimit 0 ∧ eb e 121 120 = 0 ∧ reaches d e = true ∧
       c.laneSlew 0 = 0) ∧
    (let e := nearRate 10000010
     let d := runs (laned.wr 0x1B F.LG_SLEW_slew0 1) 0 2046 e
     let c := (d.playOn 0).sqEnter 0
     ready d 0 = true ∧ d.sqAt 0 7 = some e ∧ reaches d e = true ∧ c.laneSlew 0 ≠ 0 ∧
       offsetTo (c.synRate (c.servingSynth 0)).1 (c.synRate (c.servingSynth 0)).2 (1000 * eb e 118 93) ≠ c.laneOff 0) ∧
    (let e := nearRate 2500000
     let d := (runs laned 0 2046 e).fbit 0x1B F.LG_STAT_serve 1 true
     let c := (d.playOn 0).sqEnter 0
     ready d 0 = true ∧ d.sqAt 0 7 = some e ∧ 1000 * eb e 118 93 ≤ c.rateLimit 0 ∧ reaches d e = false ∧
       c.synthFree 0 (1000 * eb e 118 93) (c.sqPam 0) = false) ∧
    (let e := ent 7 [(122, 1), (69, 2 ^ 24 - 1)]
     let d := runs laned 0 2046 e
     let c := (d.playOn 0).sqEnter 0
     let rate := c.txPageRate 0 * (1000000000 + signed 24 (eb e 92 69)).toNat
     ready d 0 = true ∧ d.sqAt 0 7 = some e ∧ eb e 123 122 = 1 ∧ (c.sq 0).absRate = none ∧
       rate ≤ 1000000000 * c.rateLimit 0 ∧
       offsetOk (1000000000 * (c.synRate (c.servingSynth 0)).1) (c.synRate (c.servingSynth 0)).2 rate = true) := by decide +kernel

theorem wit_PlaysRatesSplices :
    (let d := ((handed hand0 up).setSyn 7 { Syn.init with on := true }).synWr 7 F.SYN_STAT_locked 1
     (d.tx 0).handoff = some hand0 ∧ d.synLocked 7 = true ∧ (d.syn 7).job = .idle) ∧
    (let d := (handed hand0 (runs up 0 2046 (ent 1 []))).fbit 0x1B F.LG_STAT_ready 0 true
     d.sqForwards 0 = false ∧ ((d.playOn 0).tx 0).handoff = some hand0 ∧
       (d.playOn 0).has (groupPage 0) F.LG_STAT_ready (0 % 4) = true ∧ (d.playOn 0).switchDue 0 hand0 = true) ∧
    (let e := ent 8 [(122, 2), (121, 1), (112, 255)]
     let d := runs (inl up) 15 2046 e
     let c := (d.playOn 15).sqEnter 15
     ready d 15 = true ∧ d.sqAt 15 8 = some e ∧ eb e 123 122 ≠ 0 ∧ c.sqInline 15 = true ∧ c.sqForwards 15 = true ∧
       (c.sq 15).bracket = none) ∧
    (let d := ((puts (inl up) 0 3 { Sq.init with bracket := some brack } 0).wr (rxPage 8) F.RXL_STAT_align 2).wr (rxPage 8)
       F.RXL_FWD_STAT_fwd 1
     (d.sq 0).bracket = some brack ∧ brack.started = false ∧ brack.cond = none ∧ d.aligned (fwdTx 0) = true ∧
       d.on (rxPage (fwdTx 0)) F.RXL_FWD_STAT_fwd = true) ∧
    (let d := puts (inl up) 0 3 { Sq.init with pc := 2046, bracket := some brack } (ent 8 [])
     let c := (d.playOn 0).sqEnter 0
     ready d 0 = true ∧ d.sqAt 0 8 = some (ent 8 []) ∧ c.sqInline 0 = true ∧ c.sqForwards 0 = true ∧
       (c.sq 0).bracket = some brack) ∧
    (up.wr (rxPage 15) F.RXL_FWD_STAT_draining 1).on (rxPage 15) F.RXL_FWD_STAT_draining = true ∧
    up.splicing 15 = false ∧ (up.rx 15).part = [] := by decide +kernel

/-! ## Tiles and deep memory -/

theorem wit_TileWrites : up.dmTakes .xdma = true ∧ up.stalls .xdma = false ∧ 24379391 < tileCount := by decide +kernel

/-- A tile that is VALID with the tag of some bytes. -/
def validTile (d : Dev) (t : Nat) (bs : Bytes) : Dev := d.setTile t ⟨.valid, crc32c bs⟩

theorem tile_setTile (d : Dev) (t : Nat) (i : TileInfo) : (d.setTile t i).tile t = i := tabGet_tabSet_same _ _ _ _

theorem passes_validTile (d : Dev) (t : Nat) (bs : Bytes) : tilePasses (validTile d t bs) t bs = true := by
  simp [tilePasses, validTile, tile_setTile]

/-- An array without errors delivers what is stored. -/
theorem arrayRead_clean (d : Dev) (m : Mem) (a n : Nat) (h : d.dm.flips = []) : d.arrayRead m a n = bytesGet 0 m.tiles a n := by
  simp [Dev.arrayRead, Dev.flipsIn, h]

/-- A tile that sequencer 19 has asked for. -/
def asked19 : Dev := validTile (puts up 19 3 { Sq.init with wanted := [24379391] } 0) 24379391 (Mem.reset.tile 24379391)

theorem wit_TileAccesses :
    up.dmTakes .host = true ∧ up.stalls .host = false ∧ up.dm.flips = [] ∧ asked19.dmTakes .pdma = true ∧
      (asked19.sq 19).wanted.contains 24379391 = true ∧ (asked19.sq 19).dropped.contains 24379391 = false ∧ asked19.sqState 19 ≠ 1 ∧
      (asked19.strike []).unitsWith (4096 * 24379391) 4096 2 = [] := by decide +kernel

theorem wit_TileAccesses_passes :
    tilePasses (asked19.strike []) 24379391 ((asked19.strike []).arrayRead Mem.reset (4096 * 24379391) 4096) = true := by
  have h : asked19.strike [] = asked19 := rfl
  have f : asked19.dm.flips = [] := by decide +kernel
  rw [h, arrayRead_clean _ _ _ _ f]
  exact passes_validTile _ _ _

def training (x : Training) : Dev := (up.wr 0x64 F.DMS_STAT_train 1).setStack 0 { up.stack 0 with train := some x }
def scrubbed (t : Nat) (bs : Bytes) : Dev := validTile up t bs

theorem wit_StacksAreKept :
    up.dmDeclared = 0 ∧ up.dmWaits = false ∧ up.on 0x60 F.DM_STAT_clearing = false ∧ up.on 0x64 F.DMS_STAT_train = false ∧
      up.on 0x64 F.DMS_STAT_sr = false ∧ up.on 0x60 F.DM_STAT_changing = false ∧ up.has 0x02 F.SB_HK_CTRL_en 0 = true ∧
      (up.stack 0).train = none ∧ (({ up with count := 2000000000 } : Dev)).trainDue 0 7 = true ∧
      ((up.setStack 0 { up.stack 0 with train := some ⟨7, 3, 0⟩ }).stack 0).train = some ⟨7, 3, 0⟩ ∧
      refreshBand (up.rd 0x64 F.DMS_STAT_band) 127 > up.rd 0x64 F.DMS_STAT_band ∧
      (training ⟨7, 16, 0⟩).on 0x64 F.DMS_STAT_train = true ∧ ((training ⟨7, 16, 0⟩).stack 0).train = some ⟨7, 16, 0⟩ ∧
      up.on 0x60 F.DM_STAT_latched = false ∧
      (up.wr 0x60 F.DM_STAT_clearing 1).on 0x60 F.DM_STAT_clearing = true ∧
      (up.setTile 24379391 ⟨.valid, 5⟩).scrubNext = some (24379391, false) ∧
      ((up.setTile 24379391 ⟨.valid, 5⟩).tile 24379391).st = .valid ∧
      up.dm.tlog.length < 16 ∧ up.dm.logged = [] ∧
      (let x := ((up.setTile 3 ⟨.valid, 5⟩).strike [(12288, 1), (12289, 128)]).writeBack
       x.unitsWith (4096 * 3) 4096 2 ≠ []) ∧
      accepted up 0x60 0x06C (w4 .host 1) = true ∧
      (seen up 0x60 0x06C (w4 .host 1)).cmd F.DM_TLOG_POP_pop = 1 ∧ accepted up 0x60 0x05C (w4 .host 24379391) = true ∧
      ({ up with dm := { up.dm with query := some TileInfo.init } } : Dev).dm.query = some TileInfo.init := by decide +kernel

/-- A tile whose tag is that of its bytes, and one whose tag is not. -/
theorem wit_StacksAreKept_passes :
    tilePasses (scrubbed 5 (Mem.reset.tile 5)) 5 (((scrubbed 5 (Mem.reset.tile 5)).strike []).writeBack.arrayRead Mem.reset (4096 * 5) 4096)
      = true := by
  have h : ((scrubbed 5 (Mem.reset.tile 5)).strike []).writeBack = scrubbed 5 (Mem.reset.tile 5) := rfl
  rw [h, arrayRead_clean _ _ _ _ (by decide +kernel)]
  exact passes_validTile _ _ _

theorem wit_StacksAreKept_fails (bs : Bytes) : tilePasses (up.setTile 5 ⟨.valid, ~~~(crc32c bs)⟩) 5 bs = false := by
  have g : ∀ x : Word, x ≠ ~~~x := fun x hx => by
    have := congrArg (fun y => y.getLsbD 0) hx
    simp at this
  simp [tilePasses, tile_setTile, g]

def changing (r : Nat) : Dev := { (up.wr 0x60 F.DM_STAT_changing 1) with dm := { up.dm with rate := r } }

theorem wit_RatesAndRetirement :
    accepted up 0x60 0x040 (w4 .mc 0) = true ∧ (seen up 0x60 0x040 (w4 .mc 0)).reach F.DM_CFG_pin_rate = true ∧
      (seen up 0x60 0x040 (w4 .mc 0)).val F.DM_CFG_pin_rate ≠ up.rd 0x60 F.DM_STAT_rate ∧
      accepted up 0x60 0x040 (w4 .mc ((up.reg (addrOf 0x60 0x040)) ||| F.DM_CFG_hazard.mask)) = true ∧
      (seen up 0x60 0x040 (w4 .mc ((up.reg (addrOf 0x60 0x040)) ||| F.DM_CFG_hazard.mask))).val F.DM_CFG_pin_rate =
        up.rd 0x60 F.DM_STAT_rate ∧ up.on 0x60 F.DM_STAT_latched = false ∧
      (changing 2).on 0x60 F.DM_STAT_changing = true ∧ (changing 2).on 0x60 F.DM_STAT_training = false ∧
      (changing 2).dmWaits = true ∧ (changing 2).dm.waiting = [] ∧
      (changing 2).rateRuns = true ∧ (changing 2).on 0x60 F.PAGE_CTRL_enable = true ∧
      ((up.setStack 3 { Stack.init with retire := some 30 }).stack 3).retire = some 30 ∧
      up.on 0x64 F.DMS_STAT_migrating = false ∧ (up.wr 0x64 F.DMS_STAT_migrating 1).on 0x64 F.DMS_STAT_migrating = true ∧
      (up.wr 0x64 F.DMS_MIG_lpc 30).rd 0x64 F.DMS_MIG_lpc = 30 := by decide +kernel

/-! ## Clocks -/

def coasts : Dev := up.wr 0x18 F.REF_STAT_coast 1

theorem wit_ReferenceFollows :
    accepted up 0x18 0x040 (w4 .mc 2) = true ∧ accepted (up.wr 0x18 F.REF_SEL_src 1) 0x18 0x044 (w4 .mc 25000) = true ∧
      (up.wr 0x18 F.REF_SEL_src 1).rd 0x18 F.REF_SEL_src = 1 ∧ up.on 0x18 F.REF_STAT_coast = false ∧
      up.on 0x18 F.REF_STAT_failover = false ∧ (coasts.wr 0x18 F.REF_SEL_src 2).rd 0x18 F.REF_SEL_src = (2 : BitVec 2).toNat ∧
      coasts.on 0x18 F.REF_STAT_coast = true ∧ (coasts.wr 0x18 F.REF_CFG_failover 1).on 0x18 F.REF_CFG_failover = true ∧
      arm.power = 3 := by decide +kernel

def search (i : Nat) (d : Dev) : Dev := d.setSyn i { Syn.init with on := true, job := .search }
def lockd (i : Nat) (d : Dev) : Dev := (d.setSyn i { Syn.init with on := true }).synWr i F.SYN_STAT_locked 1

def forcedOn (i : Nat) (d : Dev) : Dev := d.setSyn i { Syn.init with on := true, job := .search, band := some 63 }

theorem wit_LoopsLock :
    ((search 14 up).syn 14).on = true ∧ ((search 14 up).syn 14).job = .search ∧ ((search 14 up).syn 14).restore = false ∧
      ((search 14 up).syn 14).band = none ∧ (forcedOn 14 up).forced 14 = true ∧ (forcedOn 6 up).forced 6 = true ∧
      ((forcedOn 6 up).syn 6).job = .search ∧ ((forcedOn 6 up).syn 6).restore = false ∧ ((forcedOn 14 up).syn 14).restore = false ∧
      ((lockd 13 up).syn 13).restore = false ∧ ((lockd 1 arm).syn 1).restore = false ∧ ((lockd 14 up).syn 14).restore = false ∧
      (lockd 13 up).synLocked 13 = true ∧ (lockd 2 up).synLocked 2 = true ∧ (lockd 1 arm).synLocked 1 = true ∧
      (lockd 1 arm).power = 3 ∧ (lockd 14 up).synLocked 14 = true ∧
      (List.range 4).any (((lockd 14 arm).wr 0x03 (F.ACT_STAT_state.at 15) 3).wr 0x03 (F.ACT_ENG_aw.at 15) 8 |>.running F.ACT_ENG_aw) =
        true := by decide +kernel

def expertOn (p : Nat) (d : Dev) : Dev := d.wr p F.PAGE_CTRL_level 1

theorem wit_ClockWrites :
    accepted up 0x1E 0x044 (w4 .mc 25000000) = true ∧
      accepted (expertOn (synPage 14) up) (synPage 14) (synOff 14 0x0C) (w4 .mc 0xFFFFFFFF) = true ∧
      (seen (expertOn (synPage 14) up) (synPage 14) (synOff 14 0x0C) (w4 .mc 0xFFFFFFFF)).cmd (F.SYN_APPLY_go.at (synIndex 14)) = 1 ∧
      accepted (expertOn (synPage 13) up) (synPage 13) (synOff 13 0x10) (w4 .mc 0xFFFF) = true ∧
      up.accessCause (seen up 0x19 (synOff 5 0x10) (w4 .mc 1)) 1 false = none ∧ up.staged .mc 0x19 (synOff 5 0x10) = false ∧
      accepted (up.wr 0x18 (F.REFOUT_src.at 3) 3) 0x18 0x07C (w4 .mc 0xFFFF) = true ∧
      (up.wr 0x18 (F.REFOUT_src.at 3) 3).rd 0x18 (F.REFOUT_src.at 3) = 3 ∧
      accepted up 0x18 0x06C (w4 .mc 0x10000) = true ∧
      accepted up (groupPage 15) 0x05C (w4 .mc 0xFFFF) = true := by decide +kernel

/-! ## Transmit and receive lanes -/

def goMode (m : Nat) : Word := F.TXL_ERR_CTRL_go.put (F.TXL_ERR_CTRL_mode.put 0 m) 1
def shotIn (d : Dev) : Dev := d.setTx 15 { Tx.init with shot := some ⟨0, 1, false, 1, 63, 1⟩ }
def drives : Dev := shotIn (up.wr 0x2F F.TXL_STAT_idle 0)

theorem wit_ErrorsAreInjected :
    accepted up 0x2F 0x420 (w4 .host (goMode 1)) = true ∧ (seen up 0x2F 0x420 (w4 .host (goMode 1))).cmd F.TXL_ERR_CTRL_go = 1 ∧
      (seen up 0x2F 0x420 (w4 .host (goMode 1))).val F.TXL_ERR_CTRL_mode = 1 ∧ ((up.tx 15).shot.isNone && (up.tx 15).next.isEmpty) = true ∧
      accepted (shotIn up) 0x2F 0x420 (w4 .host (goMode 1)) = true ∧
      (((shotIn up).tx 15).shot.isNone && ((shotIn up).tx 15).next.isEmpty) = false ∧
      (inbox (up.wr 0x2F F.TXL_ERR_CTRL_mode 4) (.errInject 15)).mw.inbox.contains (.errInject 15) = true ∧
      (up.wr 0x2F F.TXL_ERR_CTRL_mode 4).rd 0x2F F.TXL_ERR_CTRL_mode = 4 ∧
      (drives.tx 15).due = 0 ∧ (drives.tx 15).shot = some ⟨0, 1, false, 1, 63, 1⟩ ∧ (drives.tx 15).next = [] ∧ drives.txDriving 15 = true ∧
      posFits (drives.txBlockBits 15) 0 63 1 false = true ∧ up.txDriving 15 = false ∧ (up.tx 15).due = 0 ∧
      ((up.setTx 15 { Tx.init with due := 1 }).tx 15).due = 0 + 1 := by decide +kernel

def rxAt (n st : Nat) : Dev := up.setRxState n st

theorem wit_ReceiverStates :
    (rxAt 15 1).rxState 15 = 1 ∧ (rxAt 15 6).rxState 15 = 6 ∧ (rxAt 0 3).rxState 0 = 3 ∧ ((rxAt 0 4).rx 0).latched = false ∧
      ppmOk 5000 = true ∧ ppmOk (-5000) = true ∧ ppmOk 5001 = false ∧ ppmOk (-5001) = false ∧
      (((rxAt 0 3).setRx 0 { Rx.init with burst := true, latched := true }).rx 0).burst = true ∧
      (((rxAt 0 3).setRx 0 { Rx.init with burst := true }).rx 0).latched = false ∧
      ((rxAt 0 3).setRx 0 { Rx.init with burst := true }).on 0x30 F.PAGE_CTRL_level = false ∧
      ((((rxAt 0 6).setRx 0 { Rx.init with back := 5 }).rx 0).back = 5) ∧
      ((((rxAt 0 2).setRx 0 { Rx.init with stored0 := some [] }).rxStored 0).isSome = true) ∧ (rxAt 0 2).rxStored 0 = none ∧
      (let d := ((rxAt 0 5).wr 0x30 F.RXL_FWD_STAT_fwd 1).setRx 0 { Rx.init with part := [true] }
       d.rxState 0 = 5 ∧ (d.rx 0).part ≠ [] ∧ d.on 0x30 F.RXL_FWD_STAT_fwd = true ∧ d.splicing 0 = false) := by decide +kernel

/-- A lane in TRACK whose stream is 64b/66b, with its aligner in a state; a block for it, of offset `o`, by its header's bits. -/
def framed66 (al : Nat) : Dev := ((rxAt 15 4).wr 0x3F F.RXL_FRAME_framing 2).wr 0x3F F.RXL_STAT_align al
def rxb (h0 h1 : Bool) (o : Nat) : RxBlock := ⟨h0 :: h1 :: List.replicate 64 false, 0, 0, 0, o, false, some 5000⟩
def line66 (d : Dev) (b : RxBlock) : List Bool :=
  d.lineBits 15 (d.blockOdd 15 b) (b.next != d.on 0x3F F.RXL_POL_invert) (d.rxPolarity 15 b.bits)

theorem wit_ReceiverSwitches :
    accepted (rxAt 15 5) 0x3F 0x410 (w4 .host (F.RXL_ADAPT_restart.put 0 1)) = true ∧
      (seen (rxAt 15 5) 0x3F 0x410 (w4 .host (F.RXL_ADAPT_restart.put 0 1))).cmd F.RXL_ADAPT_restart = 1 ∧
      accepted up 0x3F 0x418 (w4 .host (F.RXL_SWITCH_go.put 0 1)) = true ∧
      (seen up 0x3F 0x418 (w4 .host (F.RXL_SWITCH_go.put 0 1))).cmd F.RXL_SWITCH_go = 1 ∧
      (inbox up (.rxSwitch 0)).mw.inbox.contains (.rxSwitch 0) = true ∧ (up.wr 0x30 F.RXL_SWITCH_en 1).on 0x30 F.RXL_SWITCH_en = true ∧
      (((rxAt 0 5).setRx 0 { Rx.init with latched := true, toggle := true }).rx 0).latched = true ∧
      (((rxAt 0 5).setRx 0 { Rx.init with latched := true, toggle := true }).rx 0).burst = false ∧
      ((forwards.wr 0x03 (F.ACT_STAT_state.at 0) 3).setRx 0 { Rx.init with latched := true }).forwarding 0 = true ∧
      (rxb true false 65).bits.length = (framed66 0).rxBlockBits 15 ∧ (framed66 0).alignOff 15 65 = true ∧
      (framed66 0).rd 0x3F F.RXL_STAT_align = 0 ∧ blockMark 2 (line66 (framed66 0) (rxb true false 65)) = true ∧
      (framed66 1).alignOff 15 0 = true ∧ (framed66 1).rd 0x3F F.RXL_STAT_align = 1 ∧ (framed66 1).rxState 15 = 4 ∧
      (framed66 1).rd 0x3F F.RXL_FRAME_framing = 2 ∧
      blockValid 2 (line66 (framed66 1) (rxb true true 0)) = false ∧ blockValid 2 (line66 (framed66 1) (rxb false true 0)) = true ∧
      (((framed66 1).setRx 15 { Rx.init with good := 63 }).rx 15).good + 1 = 64 ∧ up.rxState 0 < 3 := by decide +kernel

/-! ## Capture, scratchpad, queues -/

/-- The trigger sequencer of engine 1 runs in its state 7 on a condition. -/
def trig (op : Nat) : Dev :=
  (((up.wr 0x5F F.TRG_STAT_running 1).wr 0x5F F.TRG_STAT_state 7).wr 0x5F (F.TRG_COND_a_op.at 7) op).wr 0x5F (F.TRG_EV_a_ev.at 7) 255

def blk0 : CapBlk := ⟨List.replicate 64 true, 0, 0, false, false, false, false, 0⟩
def laned9 (d : Dev) : Dev := d.setLane 1 7 { LaneCap.init with data := [blk0] }

theorem wit_CaptureCollects :
    trgPage 1 = 0x5F ∧ (trig 4).trgRuns 1 = true ∧ (trig 3).trgRuns 1 = true ∧ (trig 4).rd 0x5F (F.TRG_COND_a_op.at 7) = 4 ∧
      max 1 ((trig 4).rd 0x5F (F.TRG_COND_a_cnt.at 7)) ≤ (trig 4).rd 0x5F F.TRG_ACNT_count + 1 ∧
      ((trig 4).cap 1).timed = false ∧ (trig 4).rd 0x5F F.TRG_ELAPSED ≤ (trig 4).rd 0x5F (F.TRG_TIME.at 7) ∧
      (trig 3).rd 0x5F (F.TRG_EV_a_ev.at 7) = 255 ∧ (inbox (trig 3) (.trg 1 255)).mw.inbox.contains (.trg 1 255) = true ∧
      (((laned9 up).lane 1 7).data.reverse ≠ []) ∧ ((laned9 up).lane 1 7).gap = none ∧ ((laned9 up).cap 1).trig = none ∧
      (((laned9 up).lane 1 7).data.reverse.flatMap (·.bits)).length ≤ 7936 ∧ 48 ≤ (laned9 up).queueFree 1 ∧
      (laned9 ([60, 61, 62, 63].foldl (fun d b => d.wr (bankPage b) (bf b F.SPB_OWN_owner) 0) up)).queueFree 1 < 33 := by decide +kernel

/-- An entry whose packet is one record without payload, of type 1; and the engine's region. -/
def rec0 : QEntry := ⟨true, true, 1⟩
def filled (n : Nat) (d : Dev) : Dev :=
  ((d.setQueue 1 ⟨[rec0], 0⟩).setCap 1 { Cap.init with buf := List.replicate n 0 }).wr (cePage 1) F.CE_REGION_LEN_tiles 8

theorem wit_CapturePlaces :
    up.dmTakes .cdma = true ∧ ((filled 0 up).takePacket 1).isSome = true ∧ (filled 0 up).roomEnd 1 = 4096 ∧
      (∀ x ∈ (filled 0 up).takePacket 1, bytesNat ((x.1.take (recordLen x.1)).take 1) ≠ 4 ∧
        bytesNat ((x.1.take (recordLen x.1)).take 1) ≠ 6 ∧
        (List.replicate 4063 (0 : Byte)).length + (x.1.take (recordLen x.1)).length < 4096 ∧
        (List.replicate 4064 (0 : Byte)).length + (x.1.take (recordLen x.1)).length = 4096) ∧
      ((up.wr (cePage 1) F.CE_STAT_state 3).ceState 1 = 3) ∧ up.queueEmpty 1 = true ∧ ((up.cap 1).buf = []) ∧
      (List.replicate 4064 (0 : Byte)).length % 32 = 0 := by decide +kernel

def acc (m : Master) (port : Fin 2) (word : Nat) (write : Bool) : SpAccess := ⟨m, port, word, write, List.replicate 64 (some 1)⟩
def bank63 (o : Nat) : Dev := up.wr (bankPage 63) (bf 63 F.SPB_OWN_owner) o

theorem wit_BanksAreUsed :
    accepted up 0x77 0x1E0 (w4 .mc 0x23) = true ∧ (seen up 0x77 0x1E0 (w4 .mc 0x23)).alters (bf 63 F.SPB_OWN_owner) = true ∧
      (up.wr 0x77 (bf 63 F.SPB_OWN_busy) 1).filling 63 = true ∧ accepted (bank63 0) 0x77 0x1E4 (w4 .mc (F.SPB_PWR_mode.put ((bank63 0).reg (addrOf 0x77 0x1E4)) 2)) = true ∧
      (seen (bank63 0) 0x77 0x1E4 (w4 .mc (F.SPB_PWR_mode.put ((bank63 0).reg (addrOf 0x77 0x1E4)) 2))).reach (bf 63 F.SPB_PWR_mode) = true ∧ up.rd 0x77 (bf 63 F.SPB_PWR_mode) = 0 ∧
      up.bankState 63 = 0 ∧ up.filling 63 = false ∧ up.keptOn 63 = false ∧ up.owner 63 ≠ 0x3F ∧ up.frozen .mc = false ∧ up.stalls .host = false ∧
      up.heard .host = true ∧ up.heard .mc = true ∧
      (bank63 0).spServed 63 (acc .mc 0 16383 true) = true ∧ (bank63 0).spServed 63 (acc .host 1 16383 false) = true ∧
      ownerQueue ((bank63 0).owner 63) = none ∧ (bank63 20).spServed 63 (acc .pdma 0 16383 false) = true ∧
      ownerSq ((bank63 20).owner 63) = some 19 ∧ ((bank63 20).bank 63).placed = false ∧
      (bank63 0x23).spServed 63 (acc .host 1 16383 false) = true ∧ ownerQueue ((bank63 0x23).owner 63) = some 3 ∧
      (bank63 0).spServed 63 (acc .mc 0 16383 false) = true ∧ (bank63 0).spServed 63 (acc .host 1 16383 true) = true ∧
      up.spServed 63 (acc .mc 0 16384 false) = false ∧ up.has 0x02 F.SB_HK_CTRL_en 1 = true ∧ up.testable 63 = true ∧
      (let d := (up.wr 0x77 (bf 63 F.SPB_REP_factory) 0).wr 0x77 (bf 63 F.SPB_REP_runtime) 15
       d.testable 63 = true ∧ d.rd 0x77 (bf 63 F.SPB_REP_factory) + d.rd 0x77 (bf 63 F.SPB_REP_runtime) = 15) ∧
      (let d := (up.wr 0x77 (bf 63 F.SPB_REP_factory) 0).wr 0x77 (bf 63 F.SPB_REP_runtime) 16
       d.testable 63 = true ∧ d.rd 0x77 (bf 63 F.SPB_REP_factory) + d.rd 0x77 (bf 63 F.SPB_REP_runtime) = 16) := by decide +kernel

def one : QEntry := ⟨true, true, 7⟩

theorem wit_QueuesMove :
    up.queueFree 7 = 1024 ∧ (List.replicate 1024 (0 : BitVec 512)).length ≤ up.queueFree 7 ∧
      up.queueFree 7 < (List.replicate 1025 (0 : BitVec 512)).length ∧
      readable up 0x7B 0x158 ⟨.host, 15⟩ = true ∧ readable up 0x78 0x118 ⟨.host, 15⟩ = true ∧
      ((up.setQueue 7 ⟨[one], 0⟩).queue 7).ready = [one] ∧ queuePage 7 = 0x7B ∧ accepted up 0x7A 0x128 (w4 .host 1) = true ∧
      (up.queue 4).ready.length < 1024 ∧ ((up.setQueue 4 ⟨List.replicate 1024 one, 0⟩).queue 4).ready.length = 1024 ∧
      accepted (up.setQueue 7 ⟨[one], 0⟩) 0x7B 0x16C (w4 .host 1) = true ∧
      (seen (up.setQueue 7 ⟨[one], 0⟩) 0x7B 0x16C (w4 .host 1)).cmd (qf 7 F.Q_DROP_drop) = 1 ∧
      accepted up 0x78 0x040 (w4 .mc 0xFFFFFFFF) = true := by decide +kernel

/-! ## Midway and the analog section -/

theorem wit_EventsMeet :
    ((([⟨240, 0, .fired, 0⟩, ⟨0, 0, .fired, 0⟩] : List Raise).any fun r => r.ch != 0 && !up.admits r) = true) ∧
      (([⟨239, 0, .source, sourceOf 0x80 (F.MW_TRIG_ev.at 0)⟩, ⟨239, 1, .ring, 0⟩].filter up.admits).filter fun r => decide (r.ch.toNat = 239)).length = 2 ∧
      (up.wr (cellPage 63) (F.LUT_STAT_pend.at 15) 1).on (cellPage 63) (F.LUT_STAT_pend.at 15) = true ∧
      accepted up (cellPage 63) 0x2E8 (w4 .host (up.reg (addrOf (cellPage 63) 0x2E8))) = true ∧ up.power ≠ 3 ∧ up.power ≠ 4 ∧ (up.wr 0x80 (F.MW_TRIG_log.at 3) 1).on 0x80 (F.MW_TRIG_log.at 3) = true ∧
      (up.queue 6).ready.length < 256 ∧ up.on 0x80 (F.MW_TRIG_log.at 3) = false ∧
      up.on 0x80 F.PAGE_CTRL_enable = true ∧ (up.setSyn 0 { Syn.init with on := true, job := .search }).timeRuns = false ∧
      (up.setSyn 0 { Syn.init with on := true }).timeRuns = true ∧ up.trigPasses 3 true 0 = true ∧
      up.trigPasses 3 false 0 = false ∧ ({ up with mw := { up.mw with pins := 8 } } : Dev).trigPasses 3 false 0 = true ∧ accepted up 0x80 0x040 (w4 .host 255) = true ∧
      (seen up 0x80 0x040 (w4 .host 255)).reach F.MW_FIRE_ch = true ∧ accepted up 0x80 0x09C (w4 .host 0xFFFFFFFF) = true := by decide +kernel

/-- Sideband channel 7 takes its codes from Q4 in a RUNNING act. -/
def queued (d : Dev) : Dev :=
  ((d.wr 0x03 (F.ACT_STAT_state.at 0) 3).wr 0x03 (F.ACT_AUX_sd.at 0) 0x80).wr 0x8C (F.SD_CTRL_src.at 7) 1

def monOn : Dev := up.wr 0x8D F.MON_CTRL_en 1

theorem wit_AnalogOutputs :
    accepted up 0x8B 0x064 (w4 .host 0x3FFF) = true ∧ accepted up 0x8B 0x068 (w4 .host 1) = true ∧
      accepted up 0x8B 0x06C (w4 .host (F.CAL_SYNC_now.put 0 1)) = true ∧
      (seen up 0x8B 0x06C (w4 .host (F.CAL_SYNC_now.put 0 1))).cmd F.CAL_SYNC_now = 1 ∧
      (inbox up (.calSync 3)).mw.inbox.contains (.calSync 3) = true ∧ (up.wr 0x8B F.CAL_SYNC_en 1).on 0x8B F.CAL_SYNC_en = true ∧
      up.toTick.sdQueued = [] ∧ (queued arm).toTick.sdQueued = [7] ∧
      groupLen [⟨true, true, BitVec.ofNat 512 (2 ^ 20)⟩] = some 1 ∧ groupLen (List.replicate 16 one) = some 16 ∧
      groupLen (List.replicate 15 one) = none ∧ up.an.last = false ∧ up.an.spell = false ∧ up.an.hold ≤ 1 ∧
      accepted up 0x8C 0x170 (w4 .host (F.SD_CTRL_range.put (up.reg (addrOf 0x8C 0x170)) 1)) = true ∧
      (seen up 0x8C 0x170 (w4 .host (F.SD_CTRL_range.put (up.reg (addrOf 0x8C 0x170)) 1))).alters (F.SD_CTRL_range.at 7) = true ∧
      (up.wr 0x8C (F.SD_STAT_clamp.at 7) 1).sdClamp 7 = true ∧ up.sdClamp 7 = false ∧ up.sdFaulted 7 = false ∧
      up.sdMeets 7 .overcurrent = true ∧ up.sdMeets 7 .compliance = false ∧ up.sdMeets 7 .thermal = true ∧
      accepted up 0x8C 0x048 (w4 .host 255) = true ∧ monOn.monRuns = true ∧
      monOn.monNext.map Prod.fst = some 0 := by decide +kernel

/-! ## The host link -/

def linked (g : Nat) (d : Dev) : Dev := d.wr 0x14 F.HL_STAT_gen g

theorem wit_LinkServes :
    (linked 0 up).linkGen = 0 ∧ (3 : BitVec 3).toNat ≤ up.rd 0x14 F.HL_CFG_max_gen ∧
      ((linked 0 up).wr 0x14 F.HL_CFG_fallback_en 1).on 0x14 F.HL_CFG_fallback_en = true ∧ (linked 1 up).linkGen ≠ 0 ∧
      2 ≤ (linked 2 up).linkGen ∧ (up.wr 0x14 F.HL_CFG_lp_en 1).on 0x14 F.HL_CFG_lp_en = true ∧ (linked 1 up).fbServes = true ∧ (linked 1 up).fbq = [] ∧
      (linked 1 up).dmWaits = false ∧ (linked 1 up).dm.flips = [] ∧
      fbRange 0 4 0xFFFFFC = false ∧ fbRange 1 0x100000 0 = false ∧ fbRange 2 4 0xFFFFFFFC = false ∧ fbRange 3 4 0 = true ∧
      fbRange 0 0x100004 0 = true ∧ (linked 1 up).fbFrozen 0 4 0xFFFFFC = false ∧ (icy .host).fbFrozen 0 4 0xA0000 = false ∧
      (icy .host).fbFrozen 0 8 0xAFFFC = true ∧ up.frozen .host = false ∧ up.frozen .xdma = false ∧
      (linked 1 (icy .host)).fbServes = true ∧ (linked 1 (icy .host)).fbq = [] ∧ (icy .host).frozen .host = true ∧
      descRange (fbDesc 1 0x10000000 0) = false ∧ descRange (fbDesc 0 1 (tileSpace - 1)) = false ∧ up.queueBanks 3 ≠ [] ∧
      up.queueBanks 2 ≠ [] := by decide +kernel

/-- DMA channel 7 is enabled, with one descriptor waiting. -/
def dmaUp (d : Dev) : Dev := ((linked 4 d).wr (dmaPage 7) (df 7 F.DMA_STAT_busy) 1).wr (dmaPage 7) (df 7 F.DMA_CTRL_en) 1
def desc (dir n a : Nat) : List Word := fbDesc dir n a
def doing (ws : List Word) : Dev := (dmaUp (bank63 0)).setDma 7 ⟨some ws, none, none⟩

theorem wit_DmaRuns :
    accepted up (dmaPage 7) 0x1CC (w4 .host 1) = true ∧ accepted up (dmaPage 7) 0x1D4 (w4 .host 1) = true ∧
      (seen up (dmaPage 7) 0x1D4 (w4 .host 1)).val (df 7 F.DMA_CTRL_en) = 1 ∧
      (seen up (dmaPage 7) 0x1D4 (w4 .host 1)).cmd (df 7 F.DMA_CTRL_abort) = 0 ∧
      accepted (dmaUp up) (dmaPage 7) 0x1D4 (w4 .host ((df 7 F.DMA_CTRL_abort).put 0 1)) = true ∧
      (seen (dmaUp up) (dmaPage 7) 0x1D4 (w4 .host ((df 7 F.DMA_CTRL_abort).put 0 1))).cmd (df 7 F.DMA_CTRL_abort) = 1 ∧
      (dmaUp up).dmaOn 7 F.DMA_STAT_busy = true ∧ 2 ≤ (dmaUp up).linkGen ∧ ((dmaUp up).dma 7).active = none ∧
      ((dmaUp up).dma 7).abortTo = none ∧ (dmaUp up).dmaOn 7 F.DMA_CTRL_en = true ∧
      (doing (desc 0 1 (tileSpace - 1))).dma 7 = ⟨some (desc 0 1 (tileSpace - 1)), none, none⟩ ∧
      descDir (desc 0 1 (tileSpace - 1)) = 0 ∧ descLen (desc 0 1 (tileSpace - 1)) ≤ [(5 : Byte)].length ∧
      descDir (desc 1 1 0) = 1 ∧ descDir (desc 2 64 (63 * 1048576)) = 2 ∧ descDir (desc 3 64 (63 * 1048576)) = 3 ∧
      (doing (desc 2 64 (63 * 1048576))).freeBytes (pairAt (desc 2 64 (63 * 1048576)) 4) 64 = 64 ∧
      (∀ b, b < 64 → (doing []).filling b = false) ∧ (doing []).bankState 63 ≠ 2 ∧
      (doing []).frozen .xdma = false ∧ (doing []).dmWaits = false ∧ (doing []).dm.flips = [] := by decide +kernel

/-! ## Mailboxes and their commands -/

/-- A channel is bound, in a state. -/
def mbAt (ch st : Nat) : Dev := ((up.setMbState ch st).wr 0x0C F.MB_VER_ver 0x0201)

/-- A message that its receiver has taken on a channel. -/
def posed (ch op : Nat) (args : List Nat) (d : Dev) : Dev :=
  (op :: args).zipIdx.foldl (fun d x => d.wr (mbPage ch) (F.MB_DATA.at2 (ch % 16) x.2) x.1)
    ((d.setMbState ch 2).wr 0x0C F.MB_VER_ver 0x0201)

theorem wit_MailboxMoves :
    accepted up 0x0C 0x7C0 (w4 .host 0xFFFF) = true ∧ accepted (mbAt 7 1) 0x0C 0x7C4 (w4 .mc 1) = true ∧
      (seen (mbAt 7 1) 0x0C 0x7C4 (w4 .mc 1)).new.getLsbD 0 = true ∧ accepted (mbAt 7 2) 0x0C 0x7C8 (w4 .mc 0xFFFF) = true ∧
      accepted (mbAt 7 2) 0x0C 0x7D4 (w4 .mc 1) = true ∧ (seen (mbAt 7 2) 0x0C 0x7D4 (w4 .mc 1)).new.getLsbD 0 = true ∧
      (mbAt 7 2).mbState 7 = 2 ∧ up.mcRuns = true ∧
      ((List.range 8).find? fun i => (mbAt 8 1).mbState (8 + i) == 0 || (mbAt 8 1).mbState (8 + i) == 3) = some 1 ∧
      ({ up with mail := { up.mail with notes := [(0x8001, 5), (0x8002, 7)] } } : Dev).mail.notes = (0x8001, 5) :: [(0x8002, 7)] := by decide +kernel

/-- A descriptor image of format 2 that loads one HALT at entry 2047 of SQ19: its header without its CRC, and its memory. -/
def imageHead : Bytes :=
  ([0x53444C46, 0x102, 0x80000, 1 + 2047 * 2 ^ 16, 0, 0, 0, 0] : List Word).flatMap wordBytes ++
    wordBytes (crc32c (List.replicate 16 0)) ++ List.replicate 24 0
def imageTile : Bytes := imageHead ++ wordBytes (crc32c imageHead) ++ List.replicate 4032 0
def imageMem : Mem := Mem.reset.putTileBytes (4096 * 0) (imageTile.map some)
def imageDev : Dev := validTile (validTile (posed 7 0x10 [0, 24379391, 0] up) 0 (imageMem.tile 0)) 1 (imageMem.tile 1)

theorem imageTile_length : imageTile.length = 4096 := by
  have h : (imageHead ++ wordBytes (crc32c imageHead)).length = 64 := by decide +kernel
  rw [imageTile, List.length_append, h, List.length_replicate]

theorem imageMem_tile : imageMem.tile 0 = imageTile := Mem.tile_putTileBytes _ _ _ imageTile_length

theorem imageMem_load : bytesGet 0 imageMem.tiles 4096 16 = List.replicate 16 0 := by
  rw [imageMem, Mem.putTileBytes, bytesGet_bytesSetEn_other _ _ _ _ _ _ (.inr (by rw [List.length_map, imageTile_length]))]
  decide

theorem passes_image : tilePasses imageDev 0 (imageMem.tile 0) = true ∧ tilePasses imageDev 1 (imageMem.tile 1) = true := by
  have h : imageDev.tile 0 = ⟨.valid, crc32c (imageMem.tile 0)⟩ := by
    unfold imageDev validTile Dev.setTile Dev.tile
    rw [tabGet_tabSet_other _ _ _ _ _ (by decide), tabGet_tabSet_same]
  exact ⟨by simp [tilePasses, h], passes_validTile _ _ _⟩

theorem wit_McCommandsAnswer_load :
    askedFirst (posed 7 0x10 [0, 24379391, 0] up) 7 0x10 = true ∧ headWord (imageMem.tile 0) 0 = 0x53444C46 ∧
      headBits (imageMem.tile 0) 1 7 0 = 2 ∧ (crc32c ((imageMem.tile 0).take 60)).toNat = headWord (imageMem.tile 0) 15 ∧
      (∀ h ∈ headerOf (imageMem.tile 0), h.program = true ∧ h.targets = [19] ∧ h.bytes = 16 ∧ h.base = 2047 ∧ h.count = 1 ∧
        crc32c (List.replicate 16 0) = h.crc ∧
        (payloadEntries (List.replicate 16 0) h.count).mapM (loadEntry h 24379391) = some [0]) ∧
      (headerOf (imageMem.tile 0)).isSome = true ∧ up.sqState 19 ≠ 1 ∧ up.sqLive 19 = false ∧
      up.dmWaits = false ∧ up.dm.flips = [] := by
  rw [imageMem_tile]
  decide +kernel

theorem wit_McCommandsAnswer :
    asked (posed 7 0x01 [0x02FF0101] up) 7 0x01 = true ∧ asked (posed 7 0x02 [] up) 7 0x02 = true ∧
      (versions.find? fun v => decide (0x0101 ≤ v) && decide (v ≤ 0x02FF)).isSome = true ∧
      (∀ k, k < 8 → k ≠ 7 → (posed 7 0x01 [0x02FF0101] up).mbState k ≠ 1 ∧ (posed 7 0x01 [0x02FF0101] up).mbState k ≠ 2) ∧
      asked (posed 0 0x03 [1, 2] up) 0 0x03 = true ∧ askedFirst (posed 7 0x20 [15] up) 7 0x20 = true ∧
      up.submitBad 15 = false ∧
      (((begun (posed 7 0x20 [15] arm) 7).submit 15).evaluateTo 15 16).actState 15 = 2 ∧
      (((begun (posed 7 0x20 [15] up) 7).submit 15).evaluateTo 15 16).actState 15 = 5 ∧
      asked (posed 7 0x21 [0x8001] up) 7 0x21 = true ∧ askedFirst (posed 7 0x30 [3] up) 7 0x30 = true ∧
      (begun (posed 7 0x30 [3] up) 7).stateReqBad 3 = false ∧ askedFirst (posed 7 0x30 [2] up) 7 0x30 = true ∧
      (begun (posed 7 0x30 [2] up) 7).stateReqBad 2 = false ∧ up.on 0x02 F.PAGE_CTRL_reset_busy = false ∧
      (let d := posed 7 0x30 [3] arm
       let b : Dev := { d with mail := { d.mail with begun := [7] } }
       asked b 7 0x30 = true ∧ b.mail.begun.contains 7 = true ∧ b.power = 3 ∧ b.on 0x02 F.SB_STATE_changing = false) := by decide +kernel

/-- A command on channel 23, to the SE; the region is bank 63, which is FREE. -/
def seAsks (op : Nat) (args : List Nat) : Dev := posed 23 op args (bank63 0)
def r63 : Nat := 63 * 1048576

theorem wit_SeCommandsAnswer :
    asked (seAsks 0x40 [r63, 4096]) 23 0x40 = true ∧ (begun (seAsks 0x40 [r63, 4096]) 23).regionBad r63 4096 4096 = none ∧
      (begun (seAsks 0x40 [r63, 1048576]) 23).regionBad r63 1048576 4096 = none ∧ up.anyLive = false ∧ up.mail.loading = 0 ∧
      asked ((seAsks 0x41 []).setSlot true 2) 23 0x41 = true ∧ (up.setSlot true 2).trySlot = some true ∧
      asked (seAsks 0x42 []) 23 0x42 = true ∧ up.rd 0x10 F.SEC_BOOT_mode ≠ 2 ∧ up.trySlot = none ∧
      asked (seAsks 0x43 [3, r63, 4096]) 23 0x43 = true ∧ asked (seAsks 0x44 [r63, 4096]) 23 0x44 = true ∧
      asked (seAsks 0x45 []) 23 0x45 = true ∧ asked (seAsks 0x43 [4, r63, 4096]) 23 0x43 = true ∧
      asked (seAsks 0x46 [r63, 5407]) 23 0x46 = true ∧ asked (seAsks 0x46 [r63, 5408]) 23 0x46 = true ∧
      (begun (seAsks 0x46 [r63, 5408]) 23).regionBad r63 5408 0 = none ∧ asked (seAsks 0x47 []) 23 0x47 = true ∧
      asked (seAsks 0x48 [r63, 1984]) 23 0x48 = true ∧ (begun (seAsks 0x48 [r63, 1984]) 23).regionBad r63 1984 0 = none ∧
      (up.wr 0x10 F.SEC_KEYS_owner 0).on 0x10 F.SEC_KEYS_owner = false ∧ asked (posed 7 0x50 [r63, 7536] up) 7 0x50 = true ∧
      asked (posed 7 0x51 [r63, 7536] up) 7 0x51 = true ∧ asked (posed 7 0x52 [] up) 7 0x52 = true ∧
      (begun (posed 7 0x51 [r63, 7536] (bank63 0)) 7).regionBad r63 7536 0 = none ∧
      (up.wr 0x98 F.CAL_STAT_commits 9999).rd 0x98 F.CAL_STAT_commits < 10000 ∧
      ({ up with sec := { up.sec with staged := some [] } } : Dev).sec.staged = some [] ∧
      accepted up 0x11 0x040 (w4 .host 3) = true := by decide +kernel

/-! ## Cartridge, ring, epochs -/

def answer (v : Option CartCause) (n : Nat) : CartAnswer :=
  ⟨v, 1, 7, 5000, 100000, List.replicate 16 0, BitVec.ofNat 32 n, BitVec.ofNat 64 n⟩
def carted (v : Nat) (d : Dev) : Dev := (d.wr 0x90 F.CART_STAT_vstate v).wr 0x90 F.CART_STAT_present 1

theorem wit_CartridgeQualifies :
    (up.wr 0x90 F.CART_STAT_vstate 0).vstate = 0 ∧ (carted 1 up).vstate = 1 ∧ (carted 2 up).vstate = 2 ∧
      (carted 2 up).on 0x90 F.CART_STAT_present = true ∧ up.net.asked = false ∧ up.net.retry = false ∧
      up.has 0x02 F.SB_HK_CTRL_en 3 = true ∧ ({ carted 2 up with net := { up.net with retry := true } } : Dev).net.retry = true ∧
      (carted 2 up).cartCheck (answer none 5) = none ∧
      ((carted 2 up).wr 0x90 F.CART_MATINGS 6).cartCheck (answer none 5) = some .rollback ∧
      (carted 2 up).cartCheck (answer (some .noReply) 0) = some .noReply ∧
      accepted (carted 3 up) 0x90 0x05C (w4 .mc (F.CART_CHAL_go.put 0 1)) = true ∧
      (seen (carted 3 up) 0x90 0x05C (w4 .mc (F.CART_CHAL_go.put 0 1))).cmd F.CART_CHAL_go = 1 ∧
      accepted (((up.wr 0x90 F.PAGE_CTRL_key_armed 1).wr 0x90 F.PAGE_CTRL_key_master 1).wr 0x90 F.PAGE_CTRL_level 1) 0x90 0x100 (w4 .mc 1) = true ∧
      F.CART_OVR_en.get 1 = 1 := by decide +kernel

/-- A ring node whose receiver has lock. -/
def noded (node : Nat) (master timed : Bool) : Dev :=
  ((((up.wr 0x94 F.RING_CFG_en 1).wr 0x94 F.RING_CFG_node node).wr 0x94 F.RING_CFG_master master.toNat).wr 0x94 F.RING_STAT_lock 1).wr
    0x94 F.RING_STAT_timed timed.toNat
def frame (src : Nat) (b : FrameBody) : Frame := ⟨2, BitVec.ofNat 4 src, 0, b, true⟩

/-- A node that has sent DISCOVERY with sequence number 0. -/
def told (d : Dev) : Dev := { d with ring := { d.ring with disc := some 0 } }

theorem wit_RingCarries :
    accepted up 0x94 0x040 (w4 .mc 0x1F) = true ∧ (noded 15 false false).ringOn = true ∧ (noded 15 true false).ringMaster = true ∧
      (told (noded 15 true false)).ownDiscovery (frame 15 (.discovery 2 0x8000 0 true false)) = true ∧
      (told (noded 15 false false)).ownDiscovery (frame 15 (.discovery 2 0x8000 0 true true)) = true ∧
      (noded 15 false false).ringMaster = false ∧
      (noded 15 false false).ownDiscovery (frame 0 (.discovery 2 1 0 false false)) = false ∧
      hears (noded 15 false false) (frame 0 (.time 0)) = true ∧ (noded 15 false false).on 0x94 F.RING_CFG_master = false ∧
      (noded 15 false false).on 0x94 F.RING_STAT_timed = false ∧ (noded 15 false true).on 0x94 F.RING_STAT_timed = true ∧
      1000 * ((noded 15 false true).ringOff 204).natAbs ≤ 200 * 1024 ∧
      200 * 1024 < 1000 * ((noded 15 false true).ringOff 205).natAbs ∧
      up.ringRepeats = true ∧ (noded 0 false false).on 0x94 F.RING_CFG_en = true ∧ (noded 0 false false).on 0x94 F.RING_STAT_lock = true ∧
      accepted (noded 0 false false) 0x94 0x058 (w4 .mc 1) = true ∧
      (seen (noded 0 false false) 0x94 0x058 (w4 .mc 1)).cmd F.RING_WAKE_send = 1 ∧
      hears (noded 15 false false) (frame 0 (.event [(1, 6), (1, 7)])) = true ∧
      (let d := noded 0 false false
       let e : Dev := { d with mw := { d.mw with export_ := [(1, 0)] }, ring := { d.ring with own := [(.wake, 2)] } }
       e.ringOn = true ∧ e.mw.export_ ≠ [] ∧ d.mw.export_ = [] ∧ e.ring.own = (.wake, 2) :: []) ∧
      hears (noded 15 false false) (frame 0 .wake) = true ∧ hears (noded 15 false false) (frame 0 .other) = true := by decide +kernel

def epoch (d : Dev) : Dev :=
  ((d.wr 0x0B F.EP_CTRL_stage 1).wr 0x0B F.EP_STAT_master Master.host.id).putBits (addrOf 0x0B 0x084) 0xFFFFFFFF 0xFFFFFFFF
def armedEp (st : List (Nat × Word)) (d : Dev) : Dev :=
  let e := (d.wr 0x0B F.EP_STAT_armed 1).wr 0x0B F.EP_AT_LO 10000
  { e with ring := { e.ring with store := st } }

theorem wit_EpochsApply :
    ({ up with ring := { up.ring with computing := true } } : Dev).ring.computing = true ∧
      hears (noded 15 false false) (frame 0 (.fingerprint 5 1 false true)) = true ∧ (noded 15 false false).ringVer = 2 ∧
      up.rd 0x94 F.RING_STAT_ver ≠ 1 ∧ (up.wr 0x0B F.FP_CFG_mode 1).rd 0x0B F.FP_CFG_mode = 1 ∧
      (up.wr 0x0B F.FP_CFG_mode 0).rd 0x0B F.FP_CFG_mode = 0 ∧
      (let w := w4 .host (F.EP_CTRL_stage.put 0 1)
       let x := seen up 0x0B 0x07C w
       accepted up 0x0B 0x07C w = true ∧ x.val F.EP_CTRL_stage = 1 ∧ up.on 0x0B F.EP_CTRL_stage = false ∧
         x.cmd F.EP_CTRL_arm ≠ 1 ∧ x.cmd F.EP_CTRL_broadcast ≠ 1 ∧ x.cmd F.EP_CTRL_cancel ≠ 1) ∧
      (let w := w4 .host (F.EP_CTRL_stage.put (F.EP_CTRL_arm.put 0 1) 1)
       let d := (epoch up).wr 0x0B F.EP_NUM_num 1
       let x := seen d 0x0B 0x07C w
       accepted d 0x0B 0x07C w = true ∧ x.cmd F.EP_CTRL_arm = 1 ∧ x.cmd F.EP_CTRL_broadcast ≠ 1 ∧ x.cmd F.EP_CTRL_cancel ≠ 1 ∧
         d.epAt < d.count.toNat + 10000 ∧
         ¬ ((d.wr 0x0B F.EP_AT_LO 10000).epAt < (d.wr 0x0B F.EP_AT_LO 10000).count.toNat + 10000)) ∧
      (let w := w4 .host (F.EP_CTRL_stage.put (F.EP_CTRL_broadcast.put 0 1) 1)
       let d := ((epoch (noded 0 true true)).wr 0x0B F.EP_NUM_num 1).wr 0x0B F.EP_AT_LO 10000
       accepted d 0x0B 0x07C w = true ∧ (seen d 0x0B 0x07C w).cmd F.EP_CTRL_broadcast = 1 ∧ d.on 0x94 F.RING_CFG_en = true) ∧
      (let w := w4 .host (F.EP_CTRL_stage.put (F.EP_CTRL_cancel.put 0 1) 1)
       accepted (epoch up) 0x0B 0x07C w = true ∧ (seen (epoch up) 0x0B 0x07C w).cmd F.EP_CTRL_cancel = 1) ∧
      (epoch up).staged .host 0x2F 0x044 = true ∧ stageBad 0x2F 0x044 false = false ∧ (fieldsAt 0x2F 0x044).isSome = true ∧
      (epoch up).accessCause (seen (epoch up) 0x2F 0x044 (w4 .host 1)) 1 false = none ∧
      (List.replicate 1023 ((0, 0) : Nat × Word)).length < 1024 ∧
      (let d := (epoch (noded 15 false true)).wr 0x0B F.EP_NUM_num 9
       hears d (frame 0 (.epoch 9 10000)) = true ∧ d.on 0x0B F.EP_CTRL_stage = true ∧ d.rd 0x0B F.EP_NUM_num = 9) ∧
      (let d := armedEp [(addrOf 0x2F 0x044, 5)] (lockd 0 up)
       d.on 0x0B F.EP_STAT_armed = true ∧ (d.reachTime d.epAt).epAt ≤ (d.reachTime d.epAt).count.toNat ∧
         (d.reachTime d.epAt).ring.store.find? (d.reachTime d.epAt).stagedBad = none) ∧
      (let d := armedEp [(addrOf 0x00 0x040, 1)] ((lockd 0 up).wr 0x00 F.PAGE_CTRL_reset_busy 1)
       (d.reachTime d.epAt).epAt ≤ (d.reachTime d.epAt).count.toNat ∧ (d.reachTime d.epAt).ring.store.find? (d.reachTime d.epAt).stagedBad = some (addrOf 0x00 0x040, 1)) := by decide +kernel

/-! ## What single commands do: the worked examples and tables of the spec -/

/-- The device after a command on it. -/
def after (c : Instr) (d : Dev) : Dev := match exec c (on d) with | .next t => t.dev | _ => d

/-- The reset column of a few tables. -/
theorem test_reset :
    Dev.reset.rd 0x02 F.SB_STATE_cur = 2 ∧ Dev.reset.rd 0x02 F.SB_PWR_COMMIT = 0x12C ∧ Dev.reset.rd 0x01 F.RST_STAT_ready = 0 ∧
      Dev.reset.rd 0x02 F.SB_HK_CTRL_en = 0x1F ∧ Dev.reset.reg (addrOf 0x04 0x058) = 0xFFFFFFFF ∧
      Dev.reset.rd 0x05 F.THERM_THETA = 0x12C ∧ Dev.reset.rd 0x05 F.THERM_TAU = 0x3A98 := by decide +kernel

/-- The worked example of chapter 2: an 8-bit write of GLB_MODE is a violation that freezes HOST and is logged. -/
theorem test_registerWrite_narrow :
    let e := after (.registerWrite .host 0x40 [(true, 1)]) up
    e.rd 0x08 F.PROT_FROZEN_mask = 1 ∧ e.readWord .mc 0x08 0x060 = 0x80001400 ∧ e.readWord .mc 0x08 0x064 = 0x40 ∧
      e.readWord .mc 0x08 0x068 = 1 ∧ e.readWord .host 0x0A 0x04C = 0x80001400 ∧ e.mode = up.mode := by
  decide +kernel

/-- The same example: what a frozen HOST reads is ones, but on page 0x0A. -/
theorem test_rcRead_frozen : (after (.rcRead 0x200000 ⟨.host, [true, true, true, true]⟩) (icy .host)).rdata = 0xFFFFFFFF := by decide +kernel

/-- The same example: THAW_REQ. -/
theorem test_thawReq : (after (.thawReq (w4 .host 1)) (icy .host)).thawPending .host = true := by decide +kernel

/-- A synthesizer runs and is locked. -/
def locks (d : Dev) (i : Nat) : Dev := (d.setSyn i { Syn.init with on := true }).synWr i F.SYN_STAT_locked 1

/-- The worked example of chapter 3: EXERCISE, a verified cartridge, 99.0 °C, SB_ARM_SYNTH 0x10F; slot 0 and slot 1 (a
20 s act where `short`). -/
def bill (short : Bool) : Dev :=
  let rs : List (Nat × Nat × Nat) :=
    [(0x02, 0x048, 0x10F), (0x02, 0x050, 270), (0x05, 0x040, 1584), (0x03, 0x100, 0x00050021), (0x03, 0x104, 0x00FF00FF),
      (0x03, 0x108, 0x001000FF), (0x03, 0x10C, 0x00780000), (0x03, 0x110, 0xCF85), (0x03, 0x114, 0x01C9C380),
      (0x03, 0x128, 0x0F0F0000), (0x03, 0x134, if short then 0x01312D00 else 0)]
  let d := rs.foldl (fun d r => d.putBits (addrOf r.1 r.2.1) 0xFFFFFFFF (BitVec.ofNat 32 r.2.2)) arm
  let d := [6, 7, 8, 9, 14].foldl locks d
  let d := d.wr 0x00 F.GLB_MODE_STAT_active 1
  (d.wr 0x90 F.CART_STAT_vstate 2).wr 0x90 F.CART_STAT_present 1

/-- The same with slot 0 RUNNING. -/
def bill1 (short : Bool) : Dev := (bill short).wr 0x03 (F.ACT_STAT_state.at 0) 3

theorem test_actEvaluate_admitted :
    let e := after (.actEvaluate 0) ((bill false).submit 0)
    e.reg (addrOf 0x03 0x300) = 0x6E000002 ∧ e.rd 0x02 F.SB_PWR_COMMIT = 670 := by decide +kernel

theorem test_actStart :
    (after (.actStart 0) ((bill false).putBits (addrOf 0x03 0x300) 0xFFFFFFFF 0x6E000002)).reg (addrOf 0x03 0x300) = 0x6E000003 := by decide +kernel

theorem test_actEvaluate_thermal :
    (after (.actEvaluate 1) ((bill1 false).submit 1)).reg (addrOf 0x03 0x304) = 0x76000B05 := by decide +kernel

theorem test_actEvaluate_short :
    let e := after (.actEvaluate 1) ((bill1 true).submit 1)
    e.reg (addrOf 0x03 0x304) = 0x71000002 ∧ e.rd 0x02 F.SB_PWR_COMMIT = 878 := by decide +kernel

/-- The worked example of chapter 6, as R166 has it: LS4 at 10 312 500 kBd, LS5 at 25 781 250 kBd. -/
theorem test_laneTune : laneTune 10312500000 = ⟨0xCE, 2, 0x40000000⟩ ∧ laneTune 25781250000 = ⟨0x101, 1, 0xD0000000⟩ := by
  decide +kernel

theorem test_laneRateWrite :
    let e := after (.laneRateWrite 5 (w4 .mc 0x1896402)) up
    e.reg (addrOf 0x1D (synOff 11 0x00)) = 0x00010101 ∧ e.synRd 11 F.SYN_FRAC = 0xD0000000 := by decide +kernel

/-- The worked example of chapter 10: tile 0xBD35A6 lies in stack 2, logical 9, and its retirement. -/
theorem test_tilePlace : tileStack 0xBD35A6 = 2 ∧ tileLpc 0xBD35A6 = 9 := by decide +kernel

def retires : Dev := up.setStack 2 { Stack.init with retire := some 9 }

theorem test_migrationStart :
    let e := after (.migrationStart 2) retires
    e.reg (addrOf 0x63 (F.DMS_MIG_lpc.off)) = 0x001F0909 ∧ e.on 0x63 F.DMS_STAT_migrating = true := by decide +kernel

theorem test_migrated :
    let e := (after (.migrationStart 2) retires).migrated 2
    e.rd 0x63 F.DMS_RETIRED = 0x200 ∧ e.reg (addrOf 0x63 F.DMS_MAP7_spare.off) = 0x001E1D1C ∧
      e.physical 2 9 = 31 ∧ e.physical 2 8 = 8 ∧ e.physical 2 10 = 10 ∧ e.on 0x63 F.DMS_STAT_spare_free = false := by
  decide +kernel

/-- The worked example of chapter 11: the last of four banks goes to Q0. -/
theorem test_bankHandover :
    let d := [60, 61, 62].foldl (fun d b => d.wr (bankPage b) (bf b F.SPB_OWN_owner) 0x20) up
    let e := after (.bankHandover 63 (w4 .mc 0x20)) d
    e.readWord .mc 0x78 (qf 0 F.Q_INFO_cap).off = 0x02000080 ∧ e.filling 63 = true := by decide +kernel

/-- The worked example of chapter 12: cell 5 while armed, and TRIG_IN1. -/
def cell5 : Dev :=
  let rs : List (Nat × Nat × Nat) :=
    [(0x80, 0x054, 0x000A0C0A), (0x82, 0x1A0, 0x070C140A), (0x82, 0x1A4, 0x0A0A0C00), (0x82, 0x1A8, 0x0001011E)]
  (rs.foldl (fun d r => d.putBits (addrOf r.1 r.2.1) 0xFFFFFFFF (BitVec.ofNat 32 r.2.2)) (locks up 0))

theorem test_eventRaise_lut :
    let e := after (.eventRaise [⟨20, 1, .ring, 3⟩]) (cell5.wr 0x82 (F.LUT_STAT_q.at 5) 1)
    e.mw.wire = [⟨30, 2, .source, sourceOf 0x82 (F.LUT_CFG_out_ev.at 5)⟩] ∧ e.rd 0x82 (F.LUT_STAT_q.at 5) = 0 := by decide +kernel

theorem test_eventRaise_disarmed :
    let e := after (.eventRaise [⟨20, 1, .ring, 3⟩]) cell5
    e.mw.wire = [] ∧ e.rd 0x82 (F.LUT_STAT_q.at 5) = 0 := by decide +kernel

theorem test_eventRaise_arms :
    (after (.eventRaise [⟨10, 0, .ring, 3⟩]) cell5).rd 0x82 (F.LUT_STAT_q.at 5) = 1 := by decide +kernel

theorem test_trigInEdge :
    let e := after (.trigInEdge 1 true ⟨1024, 1000⟩) cell5
    e.mw.wire = [⟨10, 0, .source, sourceOf 0x80 (F.MW_TRIG_ev.at 1)⟩] ∧ (e.queue 6).ready.length = 1 := by decide +kernel

/-- The worked example of chapter 13: a push of step 1, and the tick that takes it. -/
theorem test_queuePush :
    (((after (.queuePush (w4 .host 0xFA)) (up.wr 0x7A F.Q_WR_LO 0x00130A8F)).queue 4).ready.map (·.data)) = [0xFA00130A8F] := by
  decide +kernel

def ramp : Dev :=
  ((((((locks arm 0).wr 0x03 (F.ACT_STAT_state.at 0) 3).wr 0x03 (F.ACT_AUX_sd.at 0) 8).putBits (addrOf 0x8C 0x130) 0xFFFFFFFF
    0x32).wr 0x8C F.SD_GSTAT_hv_ok 1).wr 0x8C F.PAGE_CTRL_enable 1).setQueue 4 ⟨[⟨true, true, 0xFA00130A8F⟩], 0⟩

theorem test_sdTick :
    let e := after .sdTick ramp
    e.rd 0x8C (F.SD_STAT_out.at 3) = 0x0A8F ∧ e.an.hold = 250 ∧ e.queueEmpty 4 = true := by decide +kernel

/-- The worked example of chapter 15: CAL_COMMIT. -/
theorem test_calCommit :
    let d := (posed 7 0x52 [] up).wr 0x98 F.CAL_STAT_staged 1
    let d : Dev := { d with sec := { d.sec with staged := some (0 :: 0x100 :: List.replicate 1038 0) } }
    let e := after (.calCommit 7) d
    e.mbWord 7 1 = 1 ∧ e.on 0x98 F.CAL_STAT_staged = false ∧ e.rd 0x98 F.CAL_STAT_commits = 1 ∧ e.on 0x98 F.CAL_STAT_reload = true := by
  decide +kernel

/-- The worked example of chapter 16: node 1's staged AWG_DELAY is refused at apply, as an act names AW0; its publication of
epoch 6 makes the others see a mismatch. -/
theorem test_epochApply_refused :
    let d := armedEp [(0x880044, 0x4000), (0x88004C, 0x10)]
      (((locks arm 0).wr 0x03 (F.ACT_STAT_state.at 0) 3).wr 0x03 (F.ACT_ENG_aw.at 0) 1)
    let e := after .epochApply { d with count := 9999 }
    e.rd 0x0B F.EP_FAIL_addr = 0x88004C ∧ e.rd 0x0B F.EP_STAT_result = 2 ∧ e.ring.store = d.ring.store ∧
      e.reg (addrOf 0x88 0x044) = up.reg (addrOf 0x88 0x044) := by decide +kernel

theorem test_epochApply :
    let d := armedEp [(0x880044, 0x4000)] (((locks arm 0).wr 0x03 (F.ACT_STAT_state.at 0) 3).wr 0x03 (F.ACT_ENG_aw.at 0) 1)
    let e := after .epochApply { d.wr 0x0B F.EP_NUM_num 7 with count := 9999 }
    e.reg (addrOf 0x88 0x044) = 0x4000 ∧ e.rd 0x0B F.EP_CUR_num = 7 ∧ e.rd 0x0B F.EP_STAT_result = 1 := by decide +kernel

theorem test_publish : ((noded 2 false true).publish 1 5 6 false true).rd 0x0B F.FP_MISMATCH_nodes = 2 := by decide +kernel

/-- The first command of the queue runs, and the rest waits. -/
theorem test_step : ∃ t, step ⟨[.mwFire (w4 .host 5), .xtalValid], up, Mem.reset⟩ = .next t ∧ t.pending = [.xtalValid] ∧
    t.dev.mw.wire = [⟨5, 0, .fired, 0⟩] := by
  refine ⟨_, rfl, ?_, ?_⟩ <;> decide +kernel

/-! ## Ill-formed commands -/

theorem ill_registerWrite : (Instr.registerWrite .host 0 []).wf = false ∧ (Instr.registerWrite .host 0xFFFFFF [(true, 0), (true, 0)]).wf = false := by
  decide
theorem ill_rcRead : (Instr.rcRead 0 ⟨.host, []⟩).wf = false ∧ (Instr.rcRead 0xFFFFFF ⟨.host, [true, true]⟩).wf = false := by decide
theorem ill_aliasWrite : (Instr.aliasWrite 0x207FFF (w4 .host 1)).wf = false := by decide
theorem ill_pageClaim : (Instr.pageClaim 0x20 [w4 .host 1, w4 .host 2]).wf = false := by decide
theorem ill_t3Sweep :
    (Instr.t3Sweep [(2, 1)]).wf = false ∧ (Instr.t3Sweep [(0x1000000, 1)]).wf = false ∧ (Instr.t3Sweep [(4, 1), (4, 2)]).wf = false := by
  decide
theorem ill_turnstileAcquire : (Instr.turnstileAcquire 0 [⟨.host, 15⟩, ⟨.host, 15⟩]).wf = false := by decide
theorem ill_tileWriteWhole : (Instr.tileWriteWhole .xdma 24379392 []).wf = false ∧ (Instr.tileWriteWhole .xdma 0 [0]).wf = false := by
  decide
theorem ill_tileWritePartial :
    (Instr.tileWritePartial .xdma 24379392 0 [none] []).wf = false ∧ (Instr.tileWritePartial .xdma 0 4096 [none] []).wf = false ∧
      (Instr.tileWritePartial .xdma 0 0 [] []).wf = false ∧ (Instr.tileWritePartial .xdma 0 0 [none] [(0, 0)]).wf = false := by decide
theorem ill_bar4 :
    (Instr.bar4Read .host 0 0).wf = false ∧ (Instr.bar4Read .host 0x100000000 1).wf = false ∧ (Instr.bar4Write .host 0 []).wf = false ∧
      (Instr.bar4Write .host 0x100000000 [none]).wf = false := by decide
theorem ill_tileFetchDone : (Instr.tileFetchDone 0 24379392 ⟨[], 0⟩).wf = false ∧ (Instr.tileFetchDone 0 0 ⟨[(24379392 * 4096, 1)], 0⟩).wf = false := by decide
theorem ill_rxBlock : (Instr.rxBlock 0 ⟨⟨[], 0, 0, 0, 0, false, none⟩, []⟩).wf = false ∧ (Instr.rxBlock 0 ⟨⟨[true], 1, 0, 0, 0, false, none⟩, []⟩).wf = false ∧
      (Instr.rxBlock 0 ⟨⟨[true], 0, 0, 0, 0, false, none⟩, [(1, ⟨[], 0, 0, 0, 0, false, none⟩)]⟩).wf = false := by decide
theorem ill_dmRequest :
    (Instr.dmRequest ⟨[⟨.pdma, 24379392, .read, none⟩], []⟩).wf = false ∧
      (Instr.dmRequest ⟨[⟨.xdma, 0, .writeWhole [], none⟩], []⟩).wf = false ∧
      (Instr.dmRequest ⟨[⟨.xdma, 0, .writePart 4096 [none], none⟩], []⟩).wf = false := by decide
theorem ill_scrubRead : (Instr.scrubRead 24379392 []).wf = false := by decide
theorem ill_scratchpadAccess :
    (Instr.scratchpadAccess 0 ⟨.host, 1, 16384, false, []⟩ none .clean).wf = false ∧
      (Instr.scratchpadAccess 0 ⟨.host, 1, 0, true, List.replicate 65 none⟩ none .clean).wf = false ∧
      (Instr.scratchpadAccess 0 ⟨.host, 1, 0, false, []⟩ (some ⟨⟨.host, 1, 0, false, []⟩, .sameCycle, false⟩) .clean).wf = false := by
  decide
theorem ill_queue : (Instr.queueCommit 0 []).wf = false ∧ (Instr.queueRewind 0 []).wf = false := by decide
theorem ill_eventRaise :
    (Instr.eventRaise [⟨1, 8, .ring, 0⟩]).wf = false ∧ (Instr.eventRaise [⟨1, 1, .source, 0⟩]).wf = false := by decide
theorem ill_trigInEdge : (Instr.trigInEdge 0 true ⟨1, 0⟩).wf = false := by decide
theorem ill_frames :
    (Instr.ringEventFrame (frame 0 .idle)).wf = false ∧ (Instr.ringEventFrame (frame 0 (.event (List.replicate 25 (1, 0))))).wf = false ∧
      (Instr.ringEventFrame (frame 0 (.event [(1, 8)]))).wf = false ∧ (Instr.ringDiscoveryFrame (frame 0 .idle)).wf = false ∧
      (Instr.ringTimeFrame (frame 0 .idle) 0).wf = false ∧ (Instr.ringFingerprintFrame (frame 0 .idle)).wf = false ∧
      (Instr.ringEpochFrame (frame 0 .idle)).wf = false := by decide
theorem ill_link :
    (Instr.linkUp 1).wf = false ∧ (Instr.linkUp 5).wf = false ∧ (Instr.dmaDescriptor 0 [] true).wf = false ∧
      (Instr.linkClStateChange (.cl 3)).wf = false := by decide
theorem ill_fallbackRead : (Instr.fallbackRead 0 (.other 4) 0 0).wf = false ∧ (Instr.fallbackRead 0 (.other 1) 0 0).wf = false := by decide
theorem ill_fallbackWrite (bs : Bytes) (h : 2 ^ 32 ≤ bs.length) : (Instr.fallbackWrite 0 0 0 bs).wf = false :=
  decide_eq_false (by omega)
theorem ill_fallbackTileWrite (bs : Bytes) (h : 0x10000000 < bs.length) : (Instr.fallbackTileWrite 0 0 bs .done).wf = false :=
  decide_eq_false (by omega)
theorem ill_cart :
    (Instr.cartVerify ⟨none, 1, 0, 0, 0, [], 0, 0⟩).wf = false ∧ (Instr.cartChallenge ⟨none, 1, 0, 0, 0, [], 0, 0⟩).wf = false ∧
      (Instr.cartChallengeRetry ⟨none, 1, 0, 0, 0, [], 0, 0⟩).wf = false ∧
      (Instr.cartChalGo (w4 .mc 1) ⟨none, 1, 0, 0, 0, [], 0, 0⟩).wf = false := by decide
theorem ill_stagedWrite : (Instr.stagedWrite 2 (w4 .host 0)).wf = false := by decide

end Sys2Proof.Tests
end

section
/-! SUPPORT. What the operations on lanes, paths and synthesizers leave alone: the registers outside their own, Showbill's record
and the Safety Net's. -/
namespace Sys2Proof.Machine

/-! ## Steps that stay within some registers -/

/-- A step changes no register outside `A`, and leaves Showbill's record and the Safety Net's. -/
structure Within (A : Nat → Prop) (d e : Dev) : Prop where
  reg : ∀ a, ¬A a → e.reg a = d.reg a
  bill : e.bill = d.bill
  net : e.net = d.net

section
variable {A B : Nat → Prop} {d e f : Dev}

theorem Within.refl (d : Dev) : Within A d d := ⟨fun _ _ => rfl, rfl, rfl⟩

theorem Within.trans (h : Within A d e) (k : Within A e f) : Within A d f :=
  ⟨fun a ha => (k.reg a ha).trans (h.reg a ha), k.bill.trans h.bill, k.net.trans h.net⟩

theorem Within.mono (h : Within A d e) (hAB : ∀ a, A a → B a) : Within B d e :=
  ⟨fun a ha => h.reg a fun hA => ha (hAB a hA), h.bill, h.net⟩

/-- A fold whose state holds a device, each step of which stays within the same registers. -/
theorem Within.fold {σ α : Type} (dev : σ → Dev) (step : σ → α → σ) (xs : List α)
    (h : ∀ s, ∀ x ∈ xs, Within A (dev s) (dev (step s x))) (s : σ) : Within A (dev s) (dev (xs.foldl step s)) := by
  induction xs generalizing s with
  | nil => exact .refl _
  | cons x xs ih =>
    exact (h s x (List.mem_cons_self ..)).trans (ih (fun s y hy => h s y (List.mem_cons_of_mem _ hy)) (step s x))

theorem Within.rd (h : Within A d e) (p : Nat) (g : Field) (hp : ¬A (addrOf p g.off)) : e.rd p g = d.rd p g := by
  simp only [Dev.rd, h.reg _ hp]

theorem Within.putBits (h : Within A d e) (a : Nat) (m w : Word) (ha : A a) : Within A d (e.putBits a m w) :=
  h.trans ⟨fun b hb => e.reg_putBits_other a b m w fun hc => hb (hc ▸ ha), rfl, rfl⟩

theorem Within.wr (h : Within A d e) (p : Nat) (g : Field) (v : Nat) (hp : A (addrOf p g.off)) : Within A d (e.wr p g v) :=
  h.putBits _ _ _ hp

theorem Within.fbit (h : Within A d e) (p : Nat) (g : Field) (i : Nat) (b : Bool) (hp : A (addrOf p g.off)) :
    Within A d (e.fbit p g i b) := h.wr p g _ hp

theorem Within.stat (h : Within A d e) (p b : Nat) (hs : A (addrOf p 0x00C)) (hb : ∀ a, isPba a → A a) :
    Within A d (e.stat p b) :=
  h.trans ⟨fun a ha => e.reg_stat p b a (fun hc => ha (hc ▸ hs)) fun hc => ha (hb a hc), Dev.stat_bill _ _ _,
    Dev.stat_net _ _ _⟩

theorem Within.setTx (h : Within A d e) (n : Nat) (t : Tx) : Within A d (e.setTx n t) := h.trans ⟨fun _ _ => rfl, rfl, rfl⟩
theorem Within.setRx (h : Within A d e) (n : Nat) (t : Rx) : Within A d (e.setRx n t) := h.trans ⟨fun _ _ => rfl, rfl, rfl⟩
theorem Within.setSq (h : Within A d e) (n : Nat) (t : Sq) : Within A d (e.setSq n t) := h.trans ⟨fun _ _ => rfl, rfl, rfl⟩
theorem Within.setSyn (h : Within A d e) (n : Nat) (t : Syn) : Within A d (e.setSyn n t) := h.trans ⟨fun _ _ => rfl, rfl, rfl⟩
theorem Within.setAwg (h : Within A d e) (n : Nat) (t : Awg) : Within A d (e.setAwg n t) := h.trans ⟨fun _ _ => rfl, rfl, rfl⟩
theorem Within.emit (h : Within A d e) (m : Message) : Within A d (e.emit m) := h.trans ⟨fun _ _ => rfl, rfl, rfl⟩
theorem Within.raise (h : Within A d e) (src ch : Nat) : Within A d (e.raise src ch) := h.trans ⟨fun _ _ => rfl, rfl, rfl⟩

theorem Within.raiseIf (h : Within A d e) (p : Nat) (en ev : Field) : Within A d (e.raiseIf p en ev) := by
  unfold Dev.raiseIf
  split
  · exact h.raise _ _
  · exact h

end

/-! ## What a TX lane sends -/

section
variable {A : Nat → Prop}

/-- An automatic injection takes free values at most. -/
theorem Dev.within_errAuto (d : Dev) (n blocks : Nat) : Within A d (d.errAuto n blocks).2 := by
  unfold Dev.errAuto
  simp only
  repeat' split
  all_goals exact ⟨fun _ _ => rfl, rfl, rfl⟩

theorem Dev.within_errBlock (d : Dev) (n : Nat) : Within A d (d.errBlock n) := by
  have h := d.within_errAuto (A := A) n ((d.tx n).blocks + 1)
  unfold Dev.errBlock
  simp only
  split
  · exact (Within.refl d).setTx _ _
  · split
    next e => rw [e] at h; exact h.setTx _ _
    next e => rw [e] at h; exact h.setTx _ _

theorem Dev.within_injectRun (d : Dev) (n : Nat) (bits : List Bool) : Within A d (d.injectRun n bits).2 := by
  unfold Dev.injectRun
  refine Within.fold (fun s : List Bool × Dev => s.2) _ bits (fun s b _ => ?_) ([], d)
  simp only
  split
  · exact (s.2.within_errBlock n).setTx _ _
  · exact (Within.refl s.2).setTx _ _

theorem Dev.within_countBlocks (d : Dev) (n k : Nat) : Within A d (d.countBlocks n k) := (Within.refl d).setTx _ _

theorem Dev.within_markRun (d : Dev) (n k : Nat) : Within A d (d.markRun n k) := by
  unfold Dev.markRun
  exact ((Within.refl d).setSq _ _).trans
    (Within.fold id _ _ (fun e _ _ => (Within.refl e).raise _ _) _)

theorem Dev.within_driveOut (d : Dev) (n : Nat) : Within A d (d.driveOut n) := by
  have h : Within A d (d.setTx n { d.tx n with hist := [], half := none }) := (Within.refl d).setTx _ _
  unfold Dev.driveOut
  simp only
  split
  · exact h
  · exact h.emit _

theorem Dev.within_repairOut (d : Dev) (n : Nat) (own : Bool) (line : List Bool) :
    Within A d (d.repairOut n own line).2 := by
  unfold Dev.repairOut
  simp only
  repeat' split
  all_goals exact ⟨fun _ _ => rfl, rfl, rfl⟩

theorem Dev.within_rxStore (d : Dev) (n : Nat) : Within A d (d.rxStore n) := by
  unfold Dev.rxStore
  simp only
  split
  · exact (Within.refl d).setRx _ _
  · exact .refl d

/-- A lane that joins begins to leave electrical idle, and no register shows it yet. -/
theorem Dev.within_laneJoin (d : Dev) (n : Nat) : Within A d (d.laneJoin n) := by
  unfold Dev.laneJoin Dev.txDrive
  repeat' split
  · exact (Within.refl d).setTx _ _
  all_goals exact .refl d

end

/-! ## The registers of the lanes -/

/-- A register on a page of a lane or of a lane's sequencer, or a word of pending interrupts. -/
def LaneReg (a : Nat) : Prop := isPba a ∨ (0x20 ≤ a / 65536 ∧ a / 65536 < 0x50)

theorem LaneReg.of_page (p off : Nat) (h1 : 0x20 ≤ p) (h2 : p < 0x50) (ho : off < 65536) : LaneReg (addrOf p off) := by
  unfold LaneReg
  rw [addrOf_page p off ho]
  exact .inr ⟨h1, h2⟩

theorem not_laneReg (p off : Nat) (ho : off < 65536) (h7 : p ≠ 0x17) (h : p < 0x20 ∨ 0x50 ≤ p) :
    ¬LaneReg (addrOf p off) := by
  rintro ((e | e) | e)
  · exact h7 ((addrOf_inj p 0x17 off _ ho (by decide)).mp e).1
  · exact h7 ((addrOf_inj p 0x17 off _ ho (by decide)).mp e).1
  · rw [addrOf_page p off ho] at e
    omega

section
variable {d e : Dev} {n : Nat}

theorem Within.wrLane (h : Within LaneReg d e) (p : Nat) (f : Field) (v : Nat) (h1 : 0x20 ≤ p) (h2 : p < 0x50)
    (ho : f.off < 65536) : Within LaneReg d (e.wr p f v) := h.wr _ _ _ (.of_page _ _ h1 h2 ho)

theorem Within.statLane (h : Within LaneReg d e) (p b : Nat) (h1 : 0x20 ≤ p) (h2 : p < 0x50) :
    Within LaneReg d (e.stat p b) := h.stat _ _ (.of_page _ _ h1 h2 (by decide)) fun _ => .inl

theorem Within.wrRx (h : Within LaneReg d e) (hn : n < 16) (f : Field) (v : Nat) (ho : f.off < 65536) :
    Within LaneReg d (e.wr (rxPage n) f v) := h.wrLane _ f v (by unfold rxPage; omega) (by unfold rxPage; omega) ho

theorem Within.bumpRx (h : Within LaneReg d e) (hn : n < 16) (f : Field) (k : Nat) (ho : f.off < 65536) :
    Within LaneReg d (e.bump (rxPage n) f k) := h.wrRx hn f _ ho

theorem Within.statRx (h : Within LaneReg d e) (hn : n < 16) (b : Nat) : Within LaneReg d (e.stat (rxPage n) b) :=
  h.statLane _ b (by unfold rxPage; omega) (by unfold rxPage; omega)

end

theorem fwdTx_lt (n : Nat) : fwdTx n < 16 := Nat.mod_lt _ (by decide)
theorem pathTx_lt (k : Nat) : pathTx k < 16 := Nat.mod_lt _ (by decide)

/-! ## A TX lane -/

theorem Dev.within_jitterStep (d : Dev) (n : Nat) (hn : n < 16) : Within LaneReg d (d.jitterStep n) := by
  unfold Dev.jitterStep
  simp only
  split
  · exact (Within.refl d).setTx _ _
  · exact (((Within.refl d).setTx _ _).wrLane _ _ _ (by omega) (by omega) (by decide)).statLane _ _ (by omega) (by omega)

theorem Dev.within_jitterRun (d : Dev) (n k : Nat) (hn : n < 16) : Within LaneReg d (d.jitterRun n k).2 := by
  have h : Within LaneReg d (d.setTx n { d.tx n with ui := ((d.tx n).ui + k) % 4 }) := (Within.refl d).setTx _ _
  unfold Dev.jitterRun
  simp only
  split
  · exact h.setTx _ _
  · exact h.trans (Within.fold (fun s : List Int × Dev => s.2) _ _ (fun s _ _ => s.2.within_jitterStep n hn) ([], _))

theorem Dev.within_drive (d : Dev) (n : Nat) (ls : List Int) (hn : n < 16) : Within LaneReg d (d.drive n ls) := by
  have h := d.within_jitterRun n ls.length hn
  unfold Dev.drive
  simp only
  split
  · exact h.setTx _ _
  · exact (h.setTx _ _).emit _

theorem Dev.within_txIdle (d : Dev) (n : Nat) (hn : n < 16) : Within LaneReg d (d.txIdle n) :=
  ((d.within_driveOut n).setTx _ _).wrLane _ _ _ (by omega) (by omega) (by decide)

theorem Dev.within_laneSend (d : Dev) (n : Nat) (bits : List Bool) (hn : n < 16) : Within LaneReg d (d.laneSend n bits) := by
  unfold Dev.laneSend
  split
  · exact ((d.within_injectRun n bits).trans (Dev.within_drive _ n _ hn)).trans (Dev.within_markRun _ _ _)
  · exact (d.within_jitterRun n _ hn).trans (Dev.within_countBlocks _ _ _)

theorem Dev.within_underrun (d : Dev) (n words : Nat) (hn : n < 16) : Within LaneReg d (d.underrun n words) := by
  unfold Dev.underrun
  split
  · exact .refl d
  · exact ((Within.refl d).wrLane _ _ _ (by unfold sqPage; omega) (by unfold sqPage; omega) (by decide)).statLane _ _
      (by unfold sqPage; omega) (by unfold sqPage; omega)

theorem Dev.within_errRecheck (d old : Dev) (n : Nat) (hn : n < 16) : Within LaneReg d (d.errRecheck old n) := by
  unfold Dev.errRecheck
  split
  · exact (Within.refl d).statLane _ _ (by unfold txPage; omega) (by unfold txPage; omega)
  · exact .refl d

/-! ## A receiving lane -/

theorem Dev.within_fwdSend (d : Dev) (n : Nat) (own : Bool) (bits : List Bool) : Within LaneReg d (d.fwdSend n own bits) := by
  unfold Dev.fwdSend
  simp only
  split
  · exact ((Within.refl d).setTx _ _).trans (Dev.within_laneSend _ _ _ (fwdTx_lt n))
  · exact d.within_laneSend _ _ (fwdTx_lt n)

theorem Dev.within_sendBlock (d : Dev) (n : Nat) (own : Bool) (bits : List Bool) :
    Within LaneReg d (d.sendBlock n own bits) := (d.within_repairOut n own _).trans (Dev.within_fwdSend _ _ _ _)

theorem Dev.within_rxFollow (d : Dev) (n : Nat) : Within LaneReg d (d.rxFollow n) :=
  ((Within.refl d).setRx _ _).trans (Dev.within_errRecheck _ _ _ (fwdTx_lt n))

section
variable (d : Dev) (n : Nat) (hn : n < 16)
include hn

theorem Dev.within_fwdQuiet : Within LaneReg d (d.fwdQuiet n) :=
  (((Within.refl d).wrRx hn _ _ (by decide)).trans (Dev.within_driveOut _ _)).setRx _ _

theorem Dev.within_showHeld : Within LaneReg d (d.showHeld n) := by
  have h : Within LaneReg d (d.wr (rxPage n) F.RXL_FWD_STAT_held (min (d.rx n).held.length 4095)) :=
    (Within.refl d).wrRx hn _ _ (by decide)
  unfold Dev.showHeld
  simp only
  split
  · exact h.wrRx hn _ _ (by decide)
  · exact h

theorem Dev.within_sendHeld (k : Nat) : Within LaneReg d (d.sendHeld n k) :=
  (((Within.refl d).setRx _ _).trans (Within.fold id _ _ (fun e _ _ => e.within_sendBlock n false _) _)).trans
    (Dev.within_showHeld _ n hn)

theorem Dev.within_spliceOver : Within LaneReg d (d.spliceOver n) := by
  have h := ((Within.refl (A := LaneReg) d).setRx n { d.rx n with lead := max 0 (d.rx n).lead }).trans
    (Dev.within_sendHeld _ n hn (-(d.rx n).lead).toNat)
  unfold Dev.spliceOver
  simp only
  split
  · exact h.wrRx hn _ _ (by decide)
  · split
    · exact h.trans (Dev.within_fwdQuiet _ n hn)
    · exact h

theorem Dev.within_cutSplice (cause : Nat) : Within LaneReg d (d.cutSplice n cause) := by
  have h := (((((Within.refl d).wrRx hn F.RXL_FWD_STAT_splice 0 (by decide)).bumpRx hn F.RXL_FWD_CNT_cut 1
    (by decide)).wrRx hn F.RXL_FWD_CNT_cut_cause cause (by decide)).statRx hn 20).raiseIf (rxPage n) F.RXL_EV_cut_en
    F.RXL_EV_cut_ev
  unfold Dev.cutSplice
  simp only
  split
  · split
    · exact (h.setRx _ _).trans (Dev.within_spliceOver _ n hn)
    · exact h.setRx _ _
  · exact .refl d

theorem Dev.within_fwdFlush : Within LaneReg d (d.fwdFlush n) := by
  unfold Dev.fwdFlush
  simp only
  split
  · exact d.within_sendHeld n hn _
  · exact (((d.within_underrun _ _ (fwdTx_lt n)).setRx _ _).trans (Dev.within_sendBlock _ n true _)).trans
      (Dev.within_sendHeld _ n hn _)

theorem Dev.within_rxOff : Within LaneReg d (d.rxOff n) := by
  have h := (d.within_cutSplice n hn 2).trans (Dev.within_rxStore _ n)
  have hf := h.trans (Dev.within_fwdFlush _ n hn) |>.trans (Dev.within_fwdQuiet _ n hn)
  unfold Dev.rxOff Dev.setRxState
  simp only
  refine Within.trans ?_ (Dev.within_rxFollow _ n)
  refine Within.setRx (((Within.wrRx ?_ hn _ _ (by decide)).wrRx hn _ _ (by decide)).wrRx hn _ _ (by decide)) _ _
  split
  · refine Within.wrRx ?_ hn _ _ (by decide)
    split
    · exact hf
    · exact h
  · split
    · exact hf
    · exact h

/-- A receiving lane goes on or off without a change outside the lanes' pages. -/
theorem Dev.within_rxSettle : Within LaneReg d (d.rxSettle n) := by
  unfold Dev.rxSettle
  split
  · split
    · exact (Within.refl d).wrRx hn _ _ (by decide)
    · exact .refl d
  · split
    · exact .refl d
    · exact d.within_rxOff n hn

end

theorem Dev.within_rxSettleAll (d : Dev) : Within LaneReg d d.rxSettleAll :=
  Within.fold id _ _ (fun e n hn => e.within_rxSettle n (List.mem_range.mp hn)) d

end Sys2Proof.Machine
end

section
/-! SUPPORT. What the Safety Net's paths, the injection switches and the synthesizers do when they are settled. -/
namespace Sys2Proof.Machine

/-! ## A property that a fold establishes member by member -/

/-- A fold each step of which establishes its member's property and keeps the others' establishes all of them. -/
theorem foldl_establishes {α : Type} {step : Dev → α → Dev} {I : Dev → Prop} {Q : α → Dev → Prop} (xs : List α)
    (hI : ∀ d, ∀ x ∈ xs, I d → I (step d x)) (hset : ∀ d, ∀ x ∈ xs, I d → Q x (step d x))
    (hkeep : ∀ d, ∀ x ∈ xs, ∀ y, y ≠ x → I d → Q y d → Q y (step d x)) (d : Dev) (h : I d) (y : α)
    (hy : y ∈ xs ∨ Q y d) : Q y (xs.foldl step d) := by
  induction xs generalizing d with
  | nil => exact hy.resolve_left List.not_mem_nil
  | cons x xs ih =>
    have hx : x ∈ x :: xs := List.mem_cons_self ..
    have tail : ∀ {z}, z ∈ xs → z ∈ x :: xs := List.mem_cons_of_mem _
    refine ih (fun d z hz => hI d z (tail hz)) (fun d z hz => hset d z (tail hz)) (fun d z hz => hkeep d z (tail hz)) _
      (hI d x hx h) ?_
    by_cases e : y = x
    · subst e
      exact .inr (hset d y hx h)
    · rcases hy with hy | hy
      · exact .inl ((List.mem_cons.mp hy).resolve_left e)
      · exact .inr (hkeep d x hx y e h hy)

/-! ## Paths -/

/-- A register that the end of a path's module position may change. -/
def PosReg (a : Nat) : Prop := LaneReg a ∨ a = addrOf 0x92 F.SN_POS_module.off

/-- A register that a command to a path may change. -/
def PathReg (a : Nat) : Prop := PosReg a ∨ a = addrOf 0x92 F.SN_CMD_module.off

theorem not_posReg (p off : Nat) (ho : off < 65536) (h : p < 0x17 ∨ (p = 0x92 ∧ off ≠ 0x044)) :
    ¬PosReg (addrOf p off) := by
  rintro (e | e)
  · exact not_laneReg p off ho (by omega) (by omega) e
  · obtain ⟨hp, hoff⟩ := (addrOf_inj p 0x92 off _ ho (by decide)).mp e
    have : off = 0x044 := hoff
    omega

theorem not_pathReg (p off : Nat) (ho : off < 65536) (h : p < 0x17 ∨ (p = 0x92 ∧ off ≠ 0x040 ∧ off ≠ 0x044)) :
    ¬PathReg (addrOf p off) := by
  rintro (e | e)
  · exact not_posReg p off ho (by omega) e
  · obtain ⟨hp, hoff⟩ := (addrOf_inj p 0x92 off _ ho (by decide)).mp e
    have : off = 0x040 := hoff
    omega

/-- Paths are commanded: their registers and the lanes' change, and in the Safety Net's record the moves alone. -/
structure PathStep (d e : Dev) : Prop where
  reg : ∀ a, ¬PathReg a → e.reg a = d.reg a
  bill : e.bill = d.bill
  check : e.net.check = d.net.check

section
variable {d e f : Dev}

theorem PathStep.refl (d : Dev) : PathStep d d := ⟨fun _ _ => rfl, rfl, rfl⟩

theorem PathStep.trans (h : PathStep d e) (k : PathStep e f) : PathStep d f :=
  ⟨fun a ha => (k.reg a ha).trans (h.reg a ha), k.bill.trans h.bill, k.check.trans h.check⟩

theorem Within.pathStep (h : Within PathReg d e) : PathStep d e := ⟨h.reg, h.bill, congrArg _ h.net⟩

theorem PathStep.rd (h : PathStep d e) (p : Nat) (g : Field) (hp : ¬PathReg (addrOf p g.off)) : e.rd p g = d.rd p g := by
  simp only [Dev.rd, h.reg _ hp]

theorem PathStep.fold {α : Type} (step : Dev → α → Dev) (xs : List α) (h : ∀ d, ∀ x ∈ xs, PathStep d (step d x)) (d : Dev) :
    PathStep d (xs.foldl step d) := by
  induction xs generalizing d with
  | nil => exact .refl d
  | cons x xs ih =>
    exact (h d x (List.mem_cons_self ..)).trans (ih (fun d y hy => h d y (List.mem_cons_of_mem _ hy)) (step d x))

end

/-- The position that a path takes when it is commanded to one: bypass where it is faulted, and while a supply is outside its
window (R438, R439). -/
def Dev.allowed (d : Dev) (k : Nat) (module : Bool) : Bool :=
  module && !d.has 0x92 F.SN_FAULT_paths k && d.bill.supplyOut == 0

theorem PathStep.allowed {d e : Dev} (h : PathStep d e) (k : Nat) (module : Bool) : e.allowed k module = d.allowed k module := by
  simp only [Dev.allowed, Dev.has, h.bill, h.rd 0x92 F.SN_FAULT_paths (not_pathReg _ _ (by decide) (by decide))]

/-- What a command to a path does: nothing where the path is so commanded already; else SN_CMD takes the position, and a path that
leaves module position idles its lane. -/
theorem Dev.command_cases (d : Dev) (k : Nat) (module : Bool) :
    (d.has 0x92 F.SN_CMD_module k = d.allowed k module ∧ d.command k module = d) ∨
      ∃ moving, Within PosReg
        { d.fbit 0x92 F.SN_CMD_module k (d.allowed k module) with net := { d.net with moving := moving } }
        (d.command k module) := by
  unfold Dev.command
  simp only
  split
  case isTrue h => exact .inl ⟨h, rfl⟩
  case isFalse h =>
    refine .inr ⟨withBit d.net.moving k true, ?_⟩
    split
    · exact .refl _
    · exact (((Within.refl _).fbit 0x92 F.SN_POS_module k false (.inr rfl))).trans
        ((Dev.within_txIdle _ _ (pathTx_lt k)).mono fun _ => .inl)

theorem Dev.pathStep_command (d : Dev) (k : Nat) (module : Bool) : PathStep d (d.command k module) := by
  rcases d.command_cases k module with ⟨-, h⟩ | ⟨moving, h⟩
  · rw [h]
    exact .refl d
  · refine PathStep.trans (e := { d.fbit 0x92 F.SN_CMD_module k (d.allowed k module) with
      net := { d.net with moving := moving } }) ⟨fun a ha => ?_, rfl, rfl⟩ (h.mono fun _ => .inl).pathStep
    exact Dev.reg_wr_other d 0x92 a F.SN_CMD_module _ fun e => ha (.inr e)

/-- A commanded path shows the position that it takes, and the others what they did. -/
theorem Dev.has_command (d : Dev) (k j : Nat) (module : Bool) (hj : j < 16) :
    (d.command k module).has 0x92 F.SN_CMD_module j =
      if j = k then d.allowed k module else d.has 0x92 F.SN_CMD_module j := by
  rcases d.command_cases k module with ⟨hc, h⟩ | ⟨moving, h⟩
  · rw [h]
    split
    next e => rw [e, hc]
    next => rfl
  · have hrd := h.rd 0x92 F.SN_CMD_module (not_posReg _ _ (by decide) (by decide))
    unfold Dev.has at hrd ⊢
    rw [hrd]
    exact d.has_fbit 0x92 F.SN_CMD_module k j _ (by decide) hj

theorem Dev.within_rxSettle_path (d : Dev) (k : Nat) (hk : k < 16) : Within PosReg d (d.rxSettle k) :=
  (d.within_rxSettle k hk).mono fun _ => .inl

theorem Dev.pathStep_movePath (d : Dev) (k : Nat) (module : Bool) (hk : k < 16) : PathStep d (d.movePath k module) :=
  (d.pathStep_command k module).trans ((Dev.within_rxSettle_path _ k hk).mono fun _ => .inl).pathStep

theorem Dev.has_movePath (d : Dev) (k j : Nat) (module : Bool) (hk : k < 16) (hj : j < 16) :
    (d.movePath k module).has 0x92 F.SN_CMD_module j =
      if j = k then d.allowed k module else d.has 0x92 F.SN_CMD_module j := by
  rw [← d.has_command k j module hj]
  unfold Dev.movePath Dev.has
  rw [(Dev.within_rxSettle_path _ k hk).rd 0x92 F.SN_CMD_module (not_posReg _ _ (by decide) (by decide))]

theorem Dev.pathStep_settleSome (d : Dev) (ks : List Nat) (hks : ∀ k ∈ ks, k < 16) : PathStep d (d.settleSome ks) := by
  unfold Dev.settleSome
  exact PathStep.fold _ _ (fun e k hk => e.pathStep_movePath k _ (hks k hk)) d

/-- Of the paths that are settled, each is commanded to where it belongs, as far as it is allowed there. -/
theorem Dev.has_settleSome (d : Dev) (ks : List Nat) (hks : ∀ k ∈ ks, k < 16) (k : Nat) (hk : k ∈ ks) :
    (d.settleSome ks).has 0x92 F.SN_CMD_module k = d.allowed k (d.wantedPaths.testBit k) := by
  unfold Dev.settleSome
  generalize d.wantedPaths = paths
  refine foldl_establishes (I := PathStep d)
    (Q := fun j e => j < 16 → e.has 0x92 F.SN_CMD_module j = d.allowed j (paths.testBit j)) ks
    (fun e j hj h => h.trans (e.pathStep_movePath j _ (hks j hj))) (fun e j _ h hlt => ?_)
    (fun e j hj i hij _ hi hlt => ?_) d (.refl d) k (.inl hk) (hks k hk)
  · rw [e.has_movePath j j _ hlt hlt, if_pos rfl, h.allowed]
  · rw [e.has_movePath j i _ (hks j hj) hlt, if_neg hij, hi hlt]

theorem Dev.pathStep_settlePaths (d : Dev) : PathStep d d.settlePaths :=
  d.pathStep_settleSome _ fun _ => List.mem_range.mp

theorem Dev.has_settlePaths (d : Dev) (k : Nat) (hk : k < 16) :
    d.settlePaths.has 0x92 F.SN_CMD_module k = d.allowed k (d.wantedPaths.testBit k) :=
  d.has_settleSome _ (fun _ => List.mem_range.mp) k (List.mem_range.mpr hk)

/-! ## A mode change -/

/-- The paths that a mode change moves to module position first: all on the way to EXERCISE and in the first half of a check cycle
(Table 16.2). -/
def movesToModule (from_ to_ : Nat) : Bool := decide (to_ = 1 ∨ (from_ = 0 ∧ to_ = 2) ∨ (from_ = 2 ∧ to_ = 0))

theorem testBit_all16 (k : Nat) (hk : k < 16) : (0xFFFF : Nat).testBit k = true := by
  rw [show (0xFFFF : Nat) = 2 ^ 16 - 1 from rfl, Nat.testBit_two_pow_sub_one]
  exact decide_eq_true hk

/-- The device at the start of a mode change, before its paths move. -/
def Dev.modeBegun (d : Dev) (to_ : Nat) : Dev :=
  let d' := d.wr 0x00 F.GLB_MODE_STAT_changing 1
  { d' with net := { d'.net with check := if (d.mode = 0 ∧ to_ = 2) ∨ (d.mode = 2 ∧ to_ = 0) then 1 else 0 } }

theorem Dev.startMode_eq (d : Dev) (to_ : Nat) : d.startMode to_ = (d.modeBegun to_).settlePaths := rfl

theorem Dev.on_changing_modeBegun (d : Dev) (to_ : Nat) : (d.modeBegun to_).on 0x00 F.GLB_MODE_STAT_changing = true := by
  unfold Dev.on
  rw [show (d.modeBegun to_).rd 0x00 F.GLB_MODE_STAT_changing = 1 from
    d.rd_wr_same 0x00 F.GLB_MODE_STAT_changing 1 (by decide)]
  rfl

theorem Dev.rd_mode_modeBegun (d : Dev) (to_ : Nat) :
    (d.modeBegun to_).rd 0x00 F.GLB_MODE_mode = d.rd 0x00 F.GLB_MODE_mode :=
  d.rd_wr_other 0x00 0x00 F.GLB_MODE_STAT_changing F.GLB_MODE_mode 1 (by decide)

theorem Dev.mode_modeBegun (d : Dev) (to_ : Nat) : (d.modeBegun to_).mode = d.mode :=
  d.rd_wr_disjoint 0x00 F.GLB_MODE_STAT_changing F.GLB_MODE_STAT_active 1 rfl (by decide) (by decide)

theorem Dev.allowed_modeBegun (d : Dev) (to_ k : Nat) (module : Bool) :
    (d.modeBegun to_).allowed k module = d.allowed k module := by
  unfold Dev.allowed
  rw [show (d.modeBegun to_).has 0x92 F.SN_FAULT_paths k = d.has 0x92 F.SN_FAULT_paths k from
    d.has_wr_other 0x00 0x92 F.GLB_MODE_STAT_changing F.SN_FAULT_paths 1 k (by decide)]
  rfl

/-- Where the paths belong as a change begins to the mode that GLB_MODE shows. -/
theorem Dev.wantedPaths_modeBegun (d : Dev) (k : Nat) (hk : k < 16) :
    (d.modeBegun (d.rd 0x00 F.GLB_MODE_mode)).wantedPaths.testBit k = movesToModule d.mode (d.rd 0x00 F.GLB_MODE_mode) := by
  unfold Dev.wantedPaths
  rw [if_pos (d.on_changing_modeBegun _), d.rd_mode_modeBegun]
  generalize d.rd 0x00 F.GLB_MODE_mode = to_
  have hc : (d.modeBegun to_).net.check = if (d.mode = 0 ∧ to_ = 2) ∨ (d.mode = 2 ∧ to_ = 0) then 1 else 0 := rfl
  rw [hc]
  unfold movesToModule
  by_cases h1 : (d.mode = 0 ∧ to_ = 2) ∨ (d.mode = 2 ∧ to_ = 0)
  · simp [h1, testBit_all16 k hk]
  · by_cases h2 : to_ = 1
    · simp [h2, testBit_all16 k hk]
    · simp [h1, h2]

section
variable (d : Dev) (to_ : Nat)

theorem Dev.pathStep_startMode : PathStep (d.modeBegun to_) (d.startMode to_) := Dev.pathStep_settlePaths _

theorem Dev.rd_mode_startMode : (d.startMode to_).rd 0x00 F.GLB_MODE_mode = d.rd 0x00 F.GLB_MODE_mode :=
  ((d.pathStep_startMode to_).rd _ _ (not_pathReg _ _ (by decide) (by decide))).trans (d.rd_mode_modeBegun to_)

theorem Dev.mode_startMode : (d.startMode to_).mode = d.mode :=
  ((d.pathStep_startMode to_).rd _ _ (not_pathReg _ _ (by decide) (by decide))).trans (d.mode_modeBegun to_)

theorem Dev.on_changing_startMode : (d.startMode to_).on 0x00 F.GLB_MODE_STAT_changing = true := by
  have h := d.on_changing_modeBegun to_
  unfold Dev.on at h ⊢
  rw [(d.pathStep_startMode to_).rd _ _ (not_pathReg _ _ (by decide) (by decide)), h]

end

/-- A change begins: every path is commanded to where Table 16.2 has it, as far as it is allowed there. -/
theorem Dev.has_startMode (d : Dev) (k : Nat) (hk : k < 16) :
    (d.startMode (d.rd 0x00 F.GLB_MODE_mode)).has 0x92 F.SN_CMD_module k =
      d.allowed k (movesToModule d.mode (d.rd 0x00 F.GLB_MODE_mode)) := by
  rw [d.startMode_eq, Dev.has_settlePaths _ k hk, d.wantedPaths_modeBegun k hk, d.allowed_modeBegun]

/-! ## Injection switches -/

/-- A register of the injection switches or on a page of a wideband channel, or a word of pending interrupts. -/
def InjReg (a : Nat) : Prop := isPba a ∨ a = addrOf 0x92 F.SN_INJ_closed.off ∨ (0x88 ≤ a / 65536 ∧ a / 65536 < 0x8C)

theorem InjReg.of_page (p off : Nat) (h1 : 0x88 ≤ p) (h2 : p < 0x8C) (ho : off < 65536) : InjReg (addrOf p off) := by
  unfold InjReg
  rw [addrOf_page p off ho]
  exact .inr (.inr ⟨h1, h2⟩)

theorem not_injReg (p off : Nat) (ho : off < 65536) (hp : p < 0x17) : ¬InjReg (addrOf p off) := by
  rintro ((e | e) | e | e)
  · have := ((addrOf_inj p 0x17 off _ ho (by decide)).mp e).1
    omega
  · have := ((addrOf_inj p 0x17 off _ ho (by decide)).mp e).1
    omega
  · have := ((addrOf_inj p 0x92 off _ ho (by decide)).mp e).1
    omega
  · rw [addrOf_page p off ho] at e
    omega

theorem Within.wrAwg {d e : Dev} {k : Nat} (h : Within InjReg d e) (hk : k < 4) (f : Field) (v : Nat) (ho : f.off < 65536) :
    Within InjReg d (e.wr (0x88 + k) f v) := h.wr _ f v (.of_page _ _ (by omega) (by omega) ho)

theorem Within.statAwg {d e : Dev} {k : Nat} (h : Within InjReg d e) (hk : k < 4) (b : Nat) :
    Within InjReg d (e.stat (0x88 + k) b) := h.stat _ b (.of_page _ _ (by omega) (by omega) (by decide)) fun _ => .inl

theorem Dev.within_showAwg (d : Dev) : Within InjReg d d.showAwg := by
  unfold Dev.showAwg
  refine Within.fold id _ _ (fun e k hk => ?_) d
  have hk4 := List.mem_range.mp hk
  simp only [id]
  split
  · exact ((((Within.refl e).wrAwg hk4 _ _ (by decide)).wrAwg hk4 _ _ (by decide)).wrAwg hk4 _ _ (by decide)).setAwg _ _
      |>.statAwg hk4 _
  · exact ((((Within.refl e).wrAwg hk4 _ _ (by decide)).wrAwg hk4 _ _ (by decide)).wrAwg hk4 _ _ (by decide)).setAwg _ _

theorem Dev.within_openInjection (d : Dev) : Within InjReg d d.openInjection := by
  refine Within.trans (Within.fold id _ _ (fun e k _ => ?_) d) (Dev.within_showAwg _)
  simp only [id]
  split
  · exact (Within.refl e).fbit _ _ _ _ (.inr (.inl rfl))
  · exact .refl e

end Sys2Proof.Machine
end

section
/-! SUPPORT. The synthesizers that SB_ARM_SYNTH starts and stops, and the power that it commits. -/
namespace Sys2Proof.Machine

/-! ## The registers of the synthesizers -/

/-- A register of a synthesizer's block, CLK_LOCK, or SB_HK_STAT. -/
def SynReg (a : Nat) : Prop :=
  a = addrOf 0x01 0x048 ∨ a = addrOf 0x02 F.SB_HK_STAT_running.off ∨
    (0x19 ≤ a / 65536 ∧ a / 65536 < 0x1F ∧ 0x100 ≤ a % 65536)

theorem not_synReg (p off : Nat) (ho : off < 65536) (h1 : p ≠ 0x01) (h2 : p = 0x02 → off ≠ 0x05C)
    (h : p < 0x19 ∨ off < 0x100) : ¬SynReg (addrOf p off) := by
  rintro (e | e | e)
  · exact h1 ((addrOf_inj p 0x01 off _ ho (by decide)).mp e).1
  · obtain ⟨hp, hoff⟩ := (addrOf_inj p 0x02 off _ ho (by decide)).mp e
    exact h2 hp hoff
  · rw [addrOf_page p off ho, addrOf_off p off ho] at e
    omega

theorem synPage_mem (i : Nat) : 0x19 ≤ synPage i ∧ synPage i < 0x1F := by
  unfold synPage
  split_ifs <;> omega

theorem synIndex_le (i : Nat) : synIndex i ≤ 5 := by
  unfold synIndex
  split_ifs <;> omega

theorem Within.synWr {d e : Dev} (h : Within SynReg d e) (i : Nat) (f : Field) (v : Nat) (hlo : 0x100 ≤ f.off)
    (hhi : f.off + 5 * f.st < 65536) : Within SynReg d (e.synWr i f v) := by
  refine h.wr _ _ _ (.inr (.inr ?_))
  obtain ⟨hp1, hp2⟩ := synPage_mem i
  have hm : synIndex i * f.st ≤ 5 * f.st := Nat.mul_le_mul_right _ (synIndex_le i)
  have ho : (f.at (synIndex i)).off < 65536 := by simp only [Field.at]; omega
  rw [addrOf_page _ _ ho, addrOf_off _ _ ho]
  exact ⟨hp1, hp2, by simp only [Field.at]; omega⟩

section
variable (d : Dev) (i : Nat)

theorem Dev.within_showRecal : Within SynReg d d.showRecal := (Within.refl d).fbit _ _ _ _ (.inr (.inl rfl))

theorem Dev.within_setLocked (b : Bool) : Within SynReg d (d.setLocked i b) :=
  ((Within.refl d).synWr i _ _ (by decide) (by decide)).wr _ _ _ (.inl rfl)

theorem Dev.within_synSearch : Within SynReg d (d.synSearch i) :=
  ((((Within.refl d).setSyn _ _).trans (Dev.within_setLocked _ i false)).synWr i _ _ (by decide) (by decide)).synWr i _ _
    (by decide) (by decide)

theorem Dev.within_synStart : Within SynReg d (d.synStart i) := by
  unfold Dev.synStart
  split
  · exact .refl d
  · exact d.within_synSearch i

theorem Dev.within_endRecal : Within SynReg d (d.endRecal i) := by
  unfold Dev.endRecal
  split
  · exact ((Within.refl d).synWr i _ _ (by decide) (by decide)).trans (Dev.within_showRecal _)
  · exact .refl d

theorem Dev.within_showTune (t : Tune) : Within SynReg d (d.showTune i t) :=
  (((Within.refl d).synWr i _ _ (by decide) (by decide)).synWr i _ _ (by decide) (by decide)).synWr i _ _ (by decide)
    (by decide)

/-! ## Starts and stops -/

theorem Dev.syn_setSyn_same (t : Syn) : (d.setSyn i t).syn i = t := tabGet_tabSet_same _ _ _ _
theorem Dev.syn_setSyn_other (j : Nat) (t : Syn) (h : j ≠ i) : (d.setSyn i t).syn j = d.syn j :=
  tabGet_tabSet_other _ _ _ _ _ h

theorem Dev.syn_congr {d e : Dev} (h : e.syns = d.syns) (j : Nat) : e.syn j = d.syn j := by simp only [Dev.syn, h]

theorem Dev.syns_endRecal : (d.endRecal i).syns = d.syns := by
  unfold Dev.endRecal
  split <;> rfl

theorem Dev.syn_synSearch (j : Nat) :
    (d.synSearch i).syn j = (d.setSyn i { d.syn i with on := true, job := .search }).syn j := rfl

theorem Dev.syn_synStart_other (j : Nat) (h : j ≠ i) : (d.synStart i).syn j = d.syn j := by
  unfold Dev.synStart
  split
  · rfl
  · rw [d.syn_synSearch, d.syn_setSyn_other i j _ h]

/-- A started loop of a page that is on runs. -/
theorem Dev.on_synStart (h : d.on (synPage i) F.PAGE_CTRL_enable = true) : ((d.synStart i).syn i).on = true := by
  unfold Dev.synStart
  rw [h, Bool.not_true, Bool.and_false, Bool.or_false]
  split
  case isTrue hon => exact hon
  case isFalse => rw [d.syn_synSearch, d.syn_setSyn_same]

/-- A loop that is off takes a tuning and stays off. -/
theorem Dev.retune_off (t : Tune) (h : (d.syn i).on = false) :
    d.retune i t = (d.setSyn i { d.syn i with tune := some t, restore := false }).showTune i t := by
  unfold Dev.retune
  simp only [h, Bool.not_false, if_true]

/-- The device with a loop off, before the loop takes the tuning to which it was to return. -/
def Dev.synOff (d : Dev) (i : Nat) : Dev :=
  ((((d.setSyn i { d.syn i with on := false, job := .idle, restore := false }).setLocked i false).synWr i F.SYN_STAT_search
    0).synWr i F.SYN_STAT_aligned 0).endRecal i

theorem Dev.syn_synOff (j : Nat) :
    (d.synOff i).syn j = (d.setSyn i { d.syn i with on := false, job := .idle, restore := false }).syn j :=
  Dev.syn_congr (Dev.syns_endRecal _ i) j

theorem Dev.on_synOff : ((d.synOff i).syn i).on = false := by rw [d.syn_synOff, d.syn_setSyn_same]

/-- What a stop does: the loop goes off, and may take another tuning. -/
theorem Dev.synStop_cases :
    d.synStop i = d.synOff i ∨
      ∃ t, d.synStop i = ((d.synOff i).setSyn i { (d.synOff i).syn i with tune := some t, restore := false }).showTune i t := by
  unfold Dev.synStop
  simp only
  split
  · exact .inr ⟨_, (d.synOff i).retune_off i _ (d.on_synOff i)⟩
  · exact .inl rfl

theorem Dev.on_synStop : ((d.synStop i).syn i).on = false := by
  rcases d.synStop_cases i with h | ⟨t, h⟩
  · rw [h, d.on_synOff]
  · rw [h]
    change (((d.synOff i).setSyn i _).syn i).on = false
    rw [Dev.syn_setSyn_same]
    exact d.on_synOff i

theorem Dev.syn_synStop_other (j : Nat) (hj : j ≠ i) : (d.synStop i).syn j = d.syn j := by
  have hoff : (d.synOff i).syn j = d.syn j := by rw [d.syn_synOff, d.syn_setSyn_other i j _ hj]
  rcases d.synStop_cases i with h | ⟨t, h⟩
  · rw [h, hoff]
  · rw [h]
    change ((d.synOff i).setSyn i _).syn j = d.syn j
    rw [Dev.syn_setSyn_other _ i j _ hj, hoff]

theorem Dev.within_synStop : Within SynReg d (d.synStop i) := by
  have hoff : Within SynReg d (d.synOff i) :=
    (((((Within.refl d).setSyn _ _).trans (Dev.within_setLocked _ i false)).synWr i _ _ (by decide) (by decide)).synWr i _ _
      (by decide) (by decide)).trans (Dev.within_endRecal _ i)
  rcases d.synStop_cases i with h | ⟨t, h⟩
  · rw [h]
    exact hoff
  · rw [h]
    exact (hoff.setSyn _ _).trans (Dev.within_showTune _ i t)

end

/-! ## All synthesizers of SB_ARM_SYNTH -/

/-- What SB_ARM_SYNTH does to one synthesizer. -/
def Dev.armOne (d : Dev) (i : Nat) : Dev := if d.bit 0x02 0x048 i then d.synStart (6 + i) else d.synStop (6 + i)

theorem Dev.within_armOne (d : Dev) (i : Nat) : Within SynReg d (d.armOne i) := by
  unfold Dev.armOne
  split
  · exact d.within_synStart _
  · exact d.within_synStop _

theorem Dev.syn_armOne_other (d : Dev) (i j : Nat) (h : j ≠ 6 + i) : (d.armOne i).syn j = d.syn j := by
  unfold Dev.armOne
  split
  · exact d.syn_synStart_other _ j h
  · exact d.syn_synStop_other _ j h

theorem Dev.on_armOne (d : Dev) (i : Nat) (h : d.on (synPage (6 + i)) F.PAGE_CTRL_enable = true) :
    ((d.armOne i).syn (6 + i)).on = d.bit 0x02 0x048 i := by
  unfold Dev.armOne
  split
  case isTrue hb => rw [d.on_synStart _ h, hb]
  case isFalse hb => rw [d.on_synStop, Bool.eq_false_of_not_eq_true hb]

theorem Dev.within_armAll (d : Dev) : Within SynReg d d.armAll :=
  Within.fold id _ _ (fun e i _ => e.within_armOne i) d

/-- The loops whose pages are on run exactly where SB_ARM_SYNTH has them. -/
theorem Dev.on_armAll (d : Dev) (i : Nat) (hi : i < 9) (h : d.on (synPage (6 + i)) F.PAGE_CTRL_enable = true) :
    (d.armAll.syn (6 + i)).on = d.bit 0x02 0x048 i := by
  have hbit : ∀ {e}, Within SynReg d e → ∀ j, e.bit 0x02 0x048 j = d.bit 0x02 0x048 j := fun he j => by
    simp only [Dev.bit, he.reg _ (not_synReg 0x02 0x048 (by decide) (by decide) (by decide) (by decide))]
  refine foldl_establishes (step := Dev.armOne) (I := Within SynReg d)
    (Q := fun j e => d.on (synPage (6 + j)) F.PAGE_CTRL_enable = true → (e.syn (6 + j)).on = d.bit 0x02 0x048 j) (List.range 9)
    (fun e j _ he => he.trans (e.within_armOne j)) (fun e j _ he hen => ?_)
    (fun e j _ k hkj _ hk hen => ?_) d (.refl d) i (.inl (List.mem_range.mpr hi)) h
  · rw [e.on_armOne j, hbit he]
    have hp := synPage_mem (6 + j)
    unfold Dev.on at hen ⊢
    rw [he.rd _ F.PAGE_CTRL_enable (not_synReg _ _ (by decide) (by omega) (fun c => absurd c (by omega)) (.inr (by decide))), hen]
  · rw [e.syn_armOne_other j _ (by omega), hk hen]

/-! ## The commitment -/

/-- The commitment depends on SB_ARM_SYNTH and on the acts' page alone. -/
theorem Dev.committed_congr {d e : Dev} (h2 : e.reg (addrOf 0x02 0x048) = d.reg (addrOf 0x02 0x048))
    (h3 : ∀ off, off < 65536 → e.reg (addrOf 0x03 off) = d.reg (addrOf 0x03 off)) : e.committed = d.committed := by
  have hrd : ∀ k, k < 16 → ∀ f : Field, f.off + 15 * f.st < 65536 → e.rd 0x03 (f.at k) = d.rd 0x03 (f.at k) := by
    intro k hk f hf
    have hm : k * f.st ≤ 15 * f.st := Nat.mul_le_mul_right _ (by omega)
    simp only [Dev.rd, h3 _ (show (f.at k).off < 65536 by simp only [Field.at]; omega)]
  have hs : e.armSynths = d.armSynths := by simp only [Dev.armSynths, Dev.bit, h2]
  have hl : e.liveSlots = d.liveSlots := List.filter_congr fun k hk => by
    simp only [Dev.actState, hrd k (List.mem_range.mp hk) F.ACT_STAT_state (by decide)]
  have hp : d.liveSlots.map e.actPower = d.liveSlots.map d.actPower := List.map_congr_left fun k hk => by
    have hk := hrd k (List.mem_range.mp (List.mem_filter.mp hk).1)
    simp (disch := decide) only [Dev.actPower, Dev.actMicrowatts, Dev.namesCount, hk]
  simp only [Dev.committed, hs, hl, hp]

/-- SB_PWR_COMMIT shows the commitment. -/
theorem Dev.rd_commitPower (d : Dev) : d.commitPower.rd 0x02 F.SB_PWR_COMMIT = d.committed % 2 ^ F.SB_PWR_COMMIT.w :=
  d.rd_wr_same _ _ _ (by decide)

theorem Dev.reg_commitPower (d : Dev) (a : Nat) (h : a ≠ addrOf 0x02 F.SB_PWR_COMMIT.off) : d.commitPower.reg a = d.reg a :=
  d.reg_wr_other _ _ _ _ h

end Sys2Proof.Machine
end

section
/-! SUPPORT. Writes of GLB_MODE and of SB_ARM_SYNTH, and the end of a mode change. -/
namespace Sys2Proof.Machine

open Sys2Proof.Safety

/-! ## Writes that reach their register -/

/-- A write that no access rule stops reaches its register, where its block judges it. -/
theorem Dev.writeAt_judged (d : Dev) (p off : Nat) (w : BusWrite) (ho : off < 0x1000) (h4 : off % 4 = 0)
    (hheard : d.heard w.m = true) (hstalls : d.stalls w.m = false) (hbarred : d.barred w.m p = false)
    (hf : (fieldsAt p off).isNone = false) (hbe : w.be ≠ 0)
    (hcause : d.accessCause (seen d p off w) w.data (w.be != 15) = none) (hstaged : d.staged w.m p off = false) :
    d.writeAt p off w = d.judge (seen d p off w) := by
  have hoff : addrOf p off % 65536 / 4 * 4 = off := by rw [addrOf_off p off (by omega)]; omega
  unfold Dev.writeAt Dev.busWrite Dev.writeNow
  simp only [hheard, hstalls, addrOf_page p off (by omega), hoff, hbarred, Bool.not_true, Bool.false_eq_true, if_false]
  rw [if_pos ho]
  unfold Dev.writeWord
  simp only [hf, hbe, beq_iff_eq, Bool.false_or, if_false, Option.isSome_none, Bool.false_eq_true]
  change (match d.accessCause (seen d p off w) w.data (w.be != 15) with
    | some c => _
    | none => _) = _
  rw [hcause]
  simp only [hstaged, Bool.false_eq_true, if_false]
  rfl

/-- A command that performs a write gives the write's effect. -/
theorem performs_apply {c : Instr} {s : State} {e : Dev} {f : Dev → Dev} (x : Wr) (h : exec c s = onDev s f)
    (hf : f s.dev = s.dev.apply x) (he : Dev.effect s.dev (s.dev.store x) x = e) : Performs c s e := by
  rcases s.dev.apply_cases x with hx | hx
  · exact .inl (gives_onDev h (hf.trans (hx.trans he)))
  · exact .inr (gives_onDev h (hf.trans (by rw [hx, he])))

/-! ## GLB_MODE -/

/-- A full-word write of GLB_MODE, as its block sees it. -/
def Dev.modeWr (d : Dev) (m : Master) (data : Word) : Wr := seen d 0x00 0x040 ⟨m, 15, data⟩

theorem bitsWhere_mode (q : Field → Bool) :
    bitsWhere 0x00 0x040 q = if q F.GLB_MODE_mode then F.GLB_MODE_mode.mask else 0 := by
  rw [bitsWhere, show fieldsAt 0x00 0x040 = some [F.GLB_MODE_mode] from rfl]
  simp only [List.foldl_cons, List.foldl_nil]
  rfl

section
variable (d : Dev) (m : Master) (data : Word)

theorem Dev.canWrite_mode : d.canWrite m 0x00 0x040 F.GLB_MODE_mode = true := rfl

theorem Dev.writeMask_mode : d.writeMask m 0x00 0x040 = F.GLB_MODE_mode.mask := by
  unfold Dev.writeMask
  rw [bitsWhere_mode, if_pos (d.canWrite_mode m)]
  rfl

theorem Dev.reaches_modeWr : (d.modeWr m data).reaches (d.canWrite m 0x00 0x040) = true := by
  change (bitsWhere 0x00 0x040 (d.canWrite m 0x00 0x040) &&& beMask 15 != 0) = true
  rw [bitsWhere_mode, if_pos (d.canWrite_mode m)]
  decide

theorem Dev.val_modeWr : (d.modeWr m data).val F.GLB_MODE_mode = F.GLB_MODE_mode.get data := by
  have hk : d.writeMask m 0x00 0x040 &&& beMask 15 = F.GLB_MODE_mode.mask := by
    rw [d.writeMask_mode]
    decide
  refine F.GLB_MODE_mode.get_congr _ _ ?_ (by decide)
  change ((d.reg (addrOf 0x00 0x040) &&& ~~~(d.writeMask m 0x00 0x040 &&& beMask 15)) |||
    (data &&& (d.writeMask m 0x00 0x040 &&& beMask 15))) &&& F.GLB_MODE_mode.mask = _
  rw [hk]
  ext i
  simp only [BitVec.getElem_and, BitVec.getElem_or, BitVec.getElem_not]
  cases F.GLB_MODE_mode.mask[i] <;> simp

/-- Outside a block reset the mode's own rules decide on a write of GLB_MODE (R12, R13). -/
theorem Dev.judge_modeWr (hb : d.on 0x00 F.PAGE_CTRL_reset_busy = false) :
    (∀ c, d.modeBad = some c → d.judge (d.modeWr m data) = d.modeReject c) ∧
      (d.modeBad = none → d.judge (d.modeWr m data) =
        if F.GLB_MODE_mode.get data = 3 then d.modeReject 2 else d.apply (d.modeWr m data)) := by
  have hr := d.reaches_modeWr m data
  have hl : d.levelIgnores 0x00 0x040 = false := rfl
  have hp : (d.modeWr m data).p = 0x00 := rfl
  have ho : (d.modeWr m data).off = 0x040 := rfl
  have hm : (d.modeWr m data).m = m := rfl
  unfold Dev.judge
  simp only [hp, ho, hm, hr, hl, hb, Bool.not_true, Bool.not_false, Bool.false_eq_true, if_false, and_self, if_true,
    d.val_modeWr m data]
  constructor
  · intro c hc
    rw [hc]
  · intro hc
    rw [hc]

/-- A write of GLB_MODE that no access rule stops is judged. -/
theorem Dev.writeAt_mode (hheard : d.heard m = true) (hstalls : d.stalls m = false) (hbarred : d.barred m 0x00 = false)
    (hcause : d.accessCause (d.modeWr m data) data false = none) (hstaged : d.staged m 0x00 0x040 = false) :
    d.writeAt 0x00 0x040 ⟨m, 15, data⟩ = d.judge (d.modeWr m data) :=
  d.writeAt_judged 0x00 0x040 ⟨m, 15, data⟩ (by decide) (by decide) hheard hstalls hbarred rfl
    (show (15 : BitVec 4) ≠ 0 by decide) hcause hstaged

/-! ### Refusals -/

theorem Dev.modeBad_cases (c : Nat) (h : d.modeBad = some c) : c = 1 ∨ c = 3 := by
  unfold Dev.modeBad at h
  split at h
  · exact .inr (Option.some.inj h).symm
  · split at h
    · exact absurd h (by simp)
    · exact .inl (Option.some.inj h).symm

theorem Dev.not_changing_of_modeBad (h : d.modeBad = none) : d.on 0x00 F.GLB_MODE_STAT_changing = false := by
  unfold Dev.modeBad at h
  split at h
  · exact absurd h (by simp)
  next hc => exact Bool.eq_false_of_not_eq_true hc

/-- GLB_MODE_STAT.reject shows why. -/
theorem Dev.rd_reject_modeReject (c : Nat) (hc : c < 4) : (d.modeReject c).rd 0x00 F.GLB_MODE_STAT_reject = c :=
  (Dev.rd_wr_same _ 0x00 F.GLB_MODE_STAT_reject c (by decide)).trans (Nat.mod_eq_of_lt hc)

theorem Dev.modeReject_state (c : Nat) (hc : c ≠ 2) :
    d.modeReject c = (d.stateReject 0x00).wr 0x00 F.GLB_MODE_STAT_reject c := by
  unfold Dev.modeReject
  simp only [if_neg hc]

/-- A refusal for the state changes GLB_MODE_STAT.reject, and sets state_reject. -/
theorem Dev.same_modeReject (c : Nat) (hc : c ≠ 2) :
    SameRegs (addrOf 0x00 F.GLB_MODE_STAT_reject.off :: statAddrs 0x00) d (d.modeReject c) := by
  rw [d.modeReject_state c hc]
  exact ((d.same_stat 0x00 0).mono fun _ => List.mem_cons_of_mem _).step (Dev.same_wr _ 0x00 c F.GLB_MODE_STAT_reject)
    fun a ha => List.mem_singleton.mp ha ▸ List.mem_cons_self ..

theorem Dev.bit_modeReject (c : Nat) (hc : c ≠ 2) : (d.modeReject c).bit 0x00 0x00C 0 = true := by
  rw [d.modeReject_state c hc]
  unfold Dev.bit
  rw [Dev.reg_wr_other _ _ _ _ _ (by decide)]
  exact d.stat_bit 0x00 0 (by decide)

/-! ### Changes -/

theorem Dev.same_store_modeWr : SameRegs [addrOf 0x00 0x040] d (d.store (d.modeWr m data)) :=
  d.same_store (d.modeWr m data)

/-- What a stored write of GLB_MODE does outside a change. -/
theorem Dev.effect_modeWr (h : d.on 0x00 F.GLB_MODE_STAT_changing = false) :
    Dev.effect d (d.store (d.modeWr m data)) (d.modeWr m data) =
      if F.GLB_MODE_mode.get data = d.mode then d.store (d.modeWr m data)
      else (d.store (d.modeWr m data)).startMode (F.GLB_MODE_mode.get data) := by
  have hs := d.same_store_modeWr m data
  have hmode : (d.store (d.modeWr m data)).mode = d.mode := hs.rd 0x00 F.GLB_MODE_STAT_active (by decide)
  have hch : (d.store (d.modeWr m data)).on 0x00 F.GLB_MODE_STAT_changing = false :=
    (hs.on 0x00 F.GLB_MODE_STAT_changing (by decide)).trans h
  rw [Dev.effect_block _ _ _ (le_refl 0x040) (bitsWhere_mode _)]
  change (if (0x040 = 0x040 ∧ ((d.modeWr m data).val F.GLB_MODE_mode ≠ (d.store (d.modeWr m data)).mode ∨
    (d.store (d.modeWr m data)).on 0x00 F.GLB_MODE_STAT_changing)) then
    (d.store (d.modeWr m data)).startMode ((d.modeWr m data).val F.GLB_MODE_mode) else _) = _
  rw [d.val_modeWr, hmode, hch]
  by_cases e : F.GLB_MODE_mode.get data = d.mode
  · simp [e]
  · simp [e]

/-- GLB_MODE stores the mode. -/
theorem Dev.rd_store_modeWr : (d.store (d.modeWr m data)).rd 0x00 F.GLB_MODE_mode = F.GLB_MODE_mode.get data :=
  (d.rd_store 0x00 0x040 ⟨m, 15, data⟩ F.GLB_MODE_mode rfl (by decide) rfl (by decide)).trans (d.val_modeWr m data)

theorem Dev.mode_store_modeWr : (d.store (d.modeWr m data)).mode = d.mode :=
  (d.same_store_modeWr m data).rd 0x00 F.GLB_MODE_STAT_active (by decide)

theorem Dev.allowed_store_modeWr (k : Nat) (module : Bool) :
    (d.store (d.modeWr m data)).allowed k module = d.allowed k module := by
  unfold Dev.allowed
  rw [(d.same_store_modeWr m data).has 0x92 k F.SN_FAULT_paths (by decide), Dev.store_bill]

end

/-! ## The end of a mode change -/

/-- The device at the end of a mode change, before its paths and lanes settle. -/
def Dev.modeEnded (d : Dev) : Dev :=
  let d' := (d.wr 0x00 F.GLB_MODE_STAT_active (d.rd 0x00 F.GLB_MODE_mode)).wr 0x00 F.GLB_MODE_STAT_changing 0
  { d' with net := { d'.net with check := 0 } }

/-- Paths settle, and the lanes and the injection switches follow them. -/
def Dev.settleAll (d : Dev) : Dev := (((List.range 16).foldl Dev.laneJoin d.settlePaths).rxSettleAll).openInjection

theorem Dev.modeDone_eq (d : Dev) (hch : d.on 0x00 F.GLB_MODE_STAT_changing = true) (hck : d.net.check ≠ 1)
    (hp : d.pathsSettled = true) : d.modeDone = d.modeEnded.settleAll := by
  have hret : d.checkReturn = d := if_neg fun h => hck h.1
  unfold Dev.modeDone
  simp only [hch, hret, hp, Bool.true_and, bne_iff_ne, ne_eq, hck, not_false_eq_true, if_true]
  rfl

section
variable (d : Dev)

theorem Dev.within_laneJoins {A : Nat → Prop} : Within A d ((List.range 16).foldl Dev.laneJoin d) :=
  Within.fold id Dev.laneJoin _ (fun e n _ => e.within_laneJoin n) d

/-- Page 0x00 stays. -/
theorem Dev.rd_settleAll (f : Field) (hf : f.off < 65536) : d.settleAll.rd 0x00 f = d.rd 0x00 f := by
  unfold Dev.settleAll
  rw [(Dev.within_openInjection _).rd _ f (not_injReg _ _ hf (by decide)),
    (Dev.within_rxSettleAll _).rd _ f (not_laneReg _ _ hf (by decide) (by decide)),
    (Dev.within_laneJoins (A := fun _ => False) _).rd _ f not_false,
    d.pathStep_settlePaths.rd _ f (not_pathReg _ _ hf (.inl (by decide)))]

theorem Dev.check_settleAll : d.settleAll.net.check = d.net.check := by
  unfold Dev.settleAll
  rw [(Dev.within_openInjection _).net, (Dev.within_rxSettleAll _).net,
    (Dev.within_laneJoins (A := fun _ => False) _).net]
  exact d.pathStep_settlePaths.check

theorem Dev.mode_modeEnded : d.modeEnded.mode = d.rd 0x00 F.GLB_MODE_mode := by
  change ((d.wr 0x00 F.GLB_MODE_STAT_active _).wr 0x00 F.GLB_MODE_STAT_changing 0).rd 0x00 F.GLB_MODE_STAT_active = _
  rw [Dev.rd_wr_disjoint _ _ F.GLB_MODE_STAT_changing F.GLB_MODE_STAT_active _ rfl (by decide) (by decide),
    Dev.rd_wr_same _ _ _ _ (by decide)]
  exact Nat.mod_eq_of_lt (d.rd_lt _ _)

theorem Dev.rd_changing_modeEnded : d.modeEnded.rd 0x00 F.GLB_MODE_STAT_changing = 0 :=
  Dev.rd_wr_same _ 0x00 F.GLB_MODE_STAT_changing 0 (by decide)

end

/-! ## SB_ARM_SYNTH -/

theorem Dev.armSynthEffect_off (d : Dev) (h : ¬(d.power = 3 ∨ d.power = 4)) : d.armSynthEffect = d.commitPower := by
  have hp : d.commitPower.power = d.power := d.rd_wr_other _ _ _ _ _ (by decide)
  unfold Dev.armSynthEffect
  simp only [hp, if_neg h]

theorem Dev.armSynthEffect_on (d : Dev) (h : d.power = 3 ∨ d.power = 4) : d.armSynthEffect = d.commitPower.armAll := by
  have hp : d.commitPower.power = d.power := d.rd_wr_other _ _ _ _ _ (by decide)
  unfold Dev.armSynthEffect
  simp only [hp, if_pos h]

/-- The commitment is stored, and the synthesizers' registers change at most. -/
theorem Dev.within_armSynthEffect (d : Dev) : Within SynReg d.commitPower d.armSynthEffect := by
  by_cases h : d.power = 3 ∨ d.power = 4
  · rw [d.armSynthEffect_on h]
    exact Dev.within_armAll _
  · rw [d.armSynthEffect_off h]
    exact .refl _

theorem Dev.reg_armSynthEffect (d : Dev) : d.armSynthEffect.reg (addrOf 0x02 0x048) = d.reg (addrOf 0x02 0x048) :=
  (d.within_armSynthEffect.reg _ (not_synReg _ _ (by decide) (by decide) (by decide) (by decide))).trans
    (d.reg_commitPower _ (by decide))

theorem Dev.committed_armSynthEffect (d : Dev) : d.armSynthEffect.committed = d.committed :=
  Dev.committed_congr d.reg_armSynthEffect fun off ho =>
    (d.within_armSynthEffect.reg _ (not_synReg 0x03 off ho (by decide) (fun c => absurd c (by decide)) (.inl (by decide)))).trans
      (d.reg_commitPower _ fun e => absurd ((addrOf_inj 0x03 0x02 off _ ho (by decide)).mp e).1 (by decide))

theorem Dev.rd_armSynthEffect (d : Dev) :
    d.armSynthEffect.rd 0x02 F.SB_PWR_COMMIT = d.armSynthEffect.committed % 2 ^ F.SB_PWR_COMMIT.w := by
  rw [d.committed_armSynthEffect,
    d.within_armSynthEffect.rd _ _ (not_synReg _ _ (by decide) (by decide) (by decide) (by decide)), d.rd_commitPower]

/-- In ARMED and SHOW the loops whose pages are on run exactly where SB_ARM_SYNTH has them. -/
theorem Dev.on_armSynthEffect (d : Dev) (i : Nat) (hi : i < 9) (h : d.power = 3 ∨ d.power = 4)
    (hen : d.on (synPage (6 + i)) F.PAGE_CTRL_enable = true) : (d.armSynthEffect.syn (6 + i)).on = d.bit 0x02 0x048 i := by
  have hreg : ∀ a, a ≠ addrOf 0x02 F.SB_PWR_COMMIT.off → d.commitPower.reg a = d.reg a := d.reg_commitPower
  have hbit : d.commitPower.bit 0x02 0x048 i = d.bit 0x02 0x048 i := by
    simp only [Dev.bit, hreg (addrOf 0x02 0x048) (by decide)]
  have hpage : d.commitPower.on (synPage (6 + i)) F.PAGE_CTRL_enable = true := by
    unfold Dev.on Dev.rd at hen ⊢
    rw [hreg _ fun e => absurd ((addrOf_inj _ _ F.PAGE_CTRL_enable.off _ (by decide) (by decide)).mp e).2 (by decide), hen]
  rw [d.armSynthEffect_on h, Dev.on_armAll _ i hi hpage, hbit]

end Sys2Proof.Machine

namespace Sys2Proof.Safety

open Sys2Proof.Machine

section
variable {s : State} {m : Master} {data : Word}

/-- A write of GLB_MODE that no access rule stops gives what its judgement says. -/
theorem exec_modeWrite (hheard : s.dev.heard m = true) (hstalls : s.dev.stalls m = false)
    (hbarred : s.dev.barred m 0x00 = false)
    (hcause : s.dev.accessCause (seen s.dev 0x00 0x040 ⟨m, 15, data⟩) data false = none)
    (hstaged : s.dev.staged m 0x00 0x040 = false) :
    exec (.modeWrite ⟨m, 15, data⟩) s = onDev s fun _ => s.dev.judge (s.dev.modeWr m data) :=
  congrArg (fun d => Host.Outcome.next (s.withDev d)) (s.dev.writeAt_mode m data hheard hstalls hbarred hcause hstaged)

/-- A write that the mode's rules let through is stored, and begins a change to another mode. -/
theorem performs_modeWrite
    (hexec : exec (.modeWrite ⟨m, 15, data⟩) s = onDev s fun _ => s.dev.judge (s.dev.modeWr m data))
    (hbusy : s.dev.on 0x00 F.PAGE_CTRL_reset_busy = false) (hok : s.dev.modeBad = none) (h3 : F.GLB_MODE_mode.get data ≠ 3) :
    Performs (.modeWrite ⟨m, 15, data⟩) s
      (if F.GLB_MODE_mode.get data = s.dev.mode then s.dev.store (s.dev.modeWr m data)
        else (s.dev.store (s.dev.modeWr m data)).startMode (F.GLB_MODE_mode.get data)) :=
  performs_apply (s.dev.modeWr m data) hexec (((s.dev.judge_modeWr m data hbusy).2 hok).trans (if_neg h3))
    (s.dev.effect_modeWr m data (s.dev.not_changing_of_modeBad hok))

end

/-- Settles O23: the mode's own rules decide on a write of GLB_MODE, a change begins and ends with every path settled, and
SB_ARM_SYNTH starts and stops the synthesizers one by one. -/
theorem modeWrites : Obligations.ModeWrites := by
  intro s m data w d v x to_ y
  refine ⟨fun hheard hstalls hbarred hcause hstaged hbusy => ?_, fun hserv hch hck hp => ?_, fun hacc => ?_⟩
  · have hexec := exec_modeWrite hheard hstalls hbarred hcause hstaged
    obtain ⟨hbad, hgood⟩ := d.judge_modeWr m data hbusy
    refine ⟨fun hok h3 hne => ?_, fun hok h3 heq => ?_, fun hok h3 => ?_, fun c hc => ?_⟩
    · have hperf := performs_modeWrite hexec hbusy hok h3
      rw [if_neg hne] at hperf
      have hrd : (d.store (d.modeWr m data)).rd 0x00 F.GLB_MODE_mode = to_ := d.rd_store_modeWr m data
      have hmode := d.mode_store_modeWr m data
      refine ⟨_, hperf, (Dev.rd_mode_startMode _ _).trans hrd, (Dev.mode_startMode _ _).trans hmode,
        Dev.on_changing_startMode _ _, fun k hk => ?_⟩
      have hcmd := (d.store (d.modeWr m data)).has_startMode k hk
      rw [hrd, hmode, d.allowed_store_modeWr] at hcmd
      exact hcmd
    · have hperf := performs_modeWrite hexec hbusy hok h3
      rw [if_pos heq] at hperf
      exact ⟨_, hperf, d.rd_store_modeWr m data, Dev.store_net _ _, d.same_store_modeWr m data⟩
    · exact ⟨d.modeReject 2, gives_onDev hexec ((hgood hok).trans (if_pos h3)), d.rd_reject_modeReject 2 (by decide),
        d.same_wr 0x00 2 F.GLB_MODE_STAT_reject⟩
    · have hc13 := d.modeBad_cases c hc
      exact ⟨d.modeReject c, gives_onDev hexec (hbad c hc), d.rd_reject_modeReject c (by omega),
        d.bit_modeReject c (by omega), d.same_modeReject c (by omega)⟩
  · have hrd := fun f hf => (d.modeEnded).rd_settleAll f hf
    refine ⟨d.modeEnded.settleAll, gives_onLive rfl hserv (d.modeDone_eq hch hck hp),
      (hrd F.GLB_MODE_STAT_active (by decide)).trans d.mode_modeEnded, ?_, d.modeEnded.check_settleAll⟩
    unfold Dev.on
    rw [hrd F.GLB_MODE_STAT_changing (by decide), d.rd_changing_modeEnded]
    rfl
  · have hs : SameRegs [addrOf 0x02 0x048] d (d.store y) := d.same_store y
    have hnew : (d.store y).reg (addrOf 0x02 0x048) = y.new := d.reg_store_same 0x02 0x048 w rfl (by decide)
    have hpower : (d.store y).power = d.power := hs.rd 0x02 F.SB_STATE_cur (by decide)
    refine ⟨(d.store y).armSynthEffect, performs_block rfl (by decide) (by decide) hacc (by decide) (by decide) rfl,
      (Dev.reg_armSynthEffect _).trans hnew, Dev.rd_armSynthEffect _, fun h2 => ?_, fun h34 i hi hen => ?_⟩
    · rw [Dev.armSynthEffect_off _ (by omega)]
      exact (Dev.wr_syns _ _ _ _).trans (Dev.store_syns _ _)
    · have hpage : (d.store y).on (synPage (6 + i)) F.PAGE_CTRL_enable = true :=
        (hs.on _ _ fun h => absurd ((addrOf_inj _ _ F.PAGE_CTRL_enable.off _ (by decide) (by decide)).mp
          (List.mem_singleton.mp h)).2 (by decide)).trans hen
      rw [Dev.on_armSynthEffect _ i hi (hpower ▸ h34) hpage, Dev.bit, hnew]

end Sys2Proof.Safety
end

section
/-! SUPPORT. What one step can do, and the statements about every step: each answers a next state, keeps the canonical form of the
memories and leaves no note of its cycle behind. -/
namespace Sys2Proof.Machine

/-- What follows any command empties the notes of its cycle. -/
theorem settle_rose (old d : Dev) : (settle old d).rose = [] := rfl
theorem settle_logged (old d : Dev) : (settle old d).dm.logged = [] := rfl

end Sys2Proof.Machine

namespace Sys2Proof.Safety

open Sys2Proof.Machine

/-- What a step makes of the device and the memories of `s`: it brings the device to the end of its cycle and keeps the canonical
form of the memories; or it leaves both. -/
def Stepped (s t : State) : Prop :=
  ((∃ d, t.dev = settle s.dev d) ∧ (MemOk s → MemOk t)) ∨ (t.dev = s.dev ∧ t.mem = s.mem)

theorem stepped_exec (c : Instr) (s : State) : ∃ t, exec c s = .next t ∧ Stepped s t := by
  rcases exec_shape c s with ⟨x, h, -, hwf⟩ | h
  · exact ⟨_, h, .inl ⟨⟨x.1, rfl⟩, hwf⟩⟩
  · exact ⟨_, h, .inr ⟨rfl, rfl⟩⟩

theorem stepped_idle (s : State) : Stepped s (idle s) := by
  unfold idle
  split
  · exact .inl ⟨⟨_, rfl⟩, tickAll_wf s.dev s.mem⟩
  · exact .inl ⟨⟨_, rfl⟩, id⟩

/-- What any step can do, with a command waiting or with none. -/
theorem stepped_step (s : State) : ∃ t, step s = .next t ∧ Stepped s t := by
  unfold step
  split
  next => exact ⟨_, rfl, stepped_idle s⟩
  next c r _ => exact stepped_exec c { s with pending := r }

section
variable {s t : State} (h : Stepped s t)
include h

theorem Stepped.memOk (hs : MemOk s) : MemOk t := by
  rcases h with ⟨-, hwf⟩ | ⟨-, hm⟩
  · exact hwf hs
  · unfold MemOk
    rw [hm]
    exact hs

theorem Stepped.notes (hr : s.dev.rose = []) (hl : s.dev.dm.logged = []) : t.dev.rose = [] ∧ t.dev.dm.logged = [] := by
  rcases h with ⟨⟨d, hd⟩, -⟩ | ⟨hd, -⟩
  · rw [hd]
    exact ⟨settle_rose _ _, settle_logged _ _⟩
  · rw [hd]
    exact ⟨hr, hl⟩

end

/-- A step answers one state alone. -/
theorem stepped_of_step {s t : State} (h : step s = .next t) : Stepped s t := by
  obtain ⟨u, hu, hs⟩ := stepped_step s
  cases hu.symm.trans h
  exact hs

/-- Settles O4: every outcome of a command and the step on an empty queue keep the canonical form, and the end of the cycle empties
its notes. -/
theorem memoryInvariant : Obligations.MemoryInvariant :=
  ⟨fun _ _ hs h => (stepped_of_step h).memOk hs, fun _ _ hr hl h => (stepped_of_step h).notes hr hl⟩

/-- Settles O2: no outcome of a command is a fault or a refusal, and the step on an empty queue answers a state. -/
theorem everyCommandCompletes : Obligations.EveryCommandCompletes :=
  ⟨fun c s => (stepped_exec c s).imp fun _ h => h.1, fun s => (stepped_step s).imp fun _ h => h.1⟩

end Sys2Proof.Safety
end

section
/-! SUPPORT. Word writes and status bits: what an access at a register's place comes to, and the statements about stored fields,
status bits, accepted writes, violations and frozen masters. -/
namespace Sys2Proof.Machine

open Sys2Proof.Safety

/-! ## Word accesses -/

theorem addrOf_lt (p off : Nat) (hp : p < 256) (ho : off < 0x10000) : addrOf p off < 2 ^ 24 := by
  unfold addrOf
  omega

theorem toNat_addrOf (p off : Nat) (hp : p < 256) (ho : off < 0x10000) :
    (BitVec.ofNat 24 (addrOf p off)).toNat = addrOf p off := by
  rw [BitVec.toNat_ofNat, Nat.mod_eq_of_lt (addrOf_lt p off hp ho)]

section
variable (d : Dev) {p off : Nat} {w : BusWrite} (hp : p < 256) (ho : off < 0x1000) (h4 : off % 4 = 0)
include ho h4

theorem addrOf_word : addrOf p off % 65536 / 4 * 4 = off := by
  rw [addrOf_off p off (by omega)]
  omega

/-- A write of a word's four lanes is one access, and ends a cycle. -/
theorem Dev.writeBytes_lanes (hp : p < 256) :
    d.writeBytes w.m (BitVec.ofNat 24 (addrOf p off)).toNat (lanes w) = (d.writeAt p off w).cycle := by
  have ha : addrOf p off % 4 = 0 := by
    unfold addrOf
    omega
  unfold Dev.writeBytes
  rw [toNat_addrOf p off hp (by omega), split_lanes _ w ha]
  simp only [List.foldl_cons, List.foldl_nil, Nat.mod_eq_of_lt (addrOf_lt p off hp (by omega))]
  rfl

/-- A write that its master's state lets through meets the register. -/
theorem Dev.writeAt_word (hheard : d.heard w.m = true) (hstalls : d.stalls w.m = false) (hbarred : d.barred w.m p = false) :
    d.writeAt p off w = d.writeWord w.m p off w.be w.data none := by
  unfold Dev.writeAt Dev.busWrite Dev.writeNow
  simp only [hheard, hstalls, addrOf_page p off (by omega), addrOf_word ho h4, hbarred, Bool.not_true, Bool.false_eq_true,
    if_false, if_pos ho]

end

theorem exec_registerWrite (m : Master) (addr : BitVec 24) (bs : List (Bool × Byte)) (s : State) :
    exec (.registerWrite m addr bs) s = onDev s fun d => d.writeBytes m addr.toNat bs := rfl

/-- A register write of a word gives what the access at the word's place makes, brought to the end of its cycle. -/
theorem gives_registerWrite {s : State} {p off : Nat} {w : BusWrite} (hp : p < 256) (ho : off < 0x1000) (h4 : off % 4 = 0) :
    Gives (.registerWrite w.m (BitVec.ofNat 24 (addrOf p off)) (lanes w)) s (s.dev.writeAt p off w).cycle :=
  gives_onDev (exec_registerWrite _ _ _ s) (s.dev.writeBytes_lanes ho h4 hp)

/-- A performed write changes what its effect changes. -/
theorem Dev.same_apply {l : List Nat} {d : Dev} {x : Wr} (h : SameRegs l d (Dev.effect d (d.store x) x)) :
    SameRegs l d (d.apply x) := fun a ha => (d.reg_apply x a).trans (h a ha)

/-! ## Status bits -/

/-- A bit asks for no interrupt where it was set before or is not enabled. -/
theorem twoPow_quiet (old en : Word) (b : Nat) :
    BitVec.twoPow 32 b &&& ~~~old &&& en = 0 ↔ 32 ≤ b ∨ old.getLsbD b = true ∨ en.getLsbD b = false := by
  constructor
  · intro h
    have e := congrArg (fun x : Word => x.getLsbD b) h
    simp only [BitVec.getLsbD_and, BitVec.getLsbD_twoPow, BitVec.getLsbD_not, BitVec.ofNat_eq_ofNat, BitVec.getLsbD_zero] at e
    by_cases hb : b < 32
    · simp only [hb, decide_true, Bool.and_true, Bool.true_and] at e
      cases ho : old.getLsbD b <;> cases he : en.getLsbD b <;> simp_all
    · exact .inl (by omega)
  · intro h
    apply BitVec.eq_of_getLsbD_eq
    intro i hi
    simp only [BitVec.getLsbD_and, BitVec.getLsbD_twoPow, BitVec.getLsbD_not, BitVec.ofNat_eq_ofNat, BitVec.getLsbD_zero]
    by_cases e : b = i
    · subst e
      rcases h with h | h | h
      · omega
      · simp [h]
      · simp [h]
    · simp [e]

section
variable (d : Dev) (p b : Nat)

/-- A status bit that was set before or is not enabled is set, and nothing else happens. -/
theorem Dev.stat_quiet (h : d.bit p 0x00C b = true ∨ d.bit p 0x010 b = false) :
    d.stat p b = d.putBits (addrOf p 0x00C) (BitVec.twoPow 32 b) (BitVec.twoPow 32 b) := by
  unfold Dev.stat Dev.statW
  exact if_pos ((twoPow_quiet _ _ b).mpr (.inr h))

/-- An enabled status bit that rises asks for its page's vector. -/
theorem Dev.stat_rise (hb : b < 32) (h0 : d.bit p 0x00C b = false) (h1 : d.bit p 0x010 b = true) :
    d.stat p b =
      (d.putBits (addrOf p 0x00C) (BitVec.twoPow 32 b) (BitVec.twoPow 32 b)).irq (d.rd p F.PAGE_IRQ_MAP_vector) := by
  have hv : (d.putBits (addrOf p 0x00C) (BitVec.twoPow 32 b) (BitVec.twoPow 32 b)).rd p F.PAGE_IRQ_MAP_vector =
      d.rd p F.PAGE_IRQ_MAP_vector := by
    unfold Dev.rd
    rw [Dev.reg_putBits_other _ _ _ _ _ (by unfold addrOf F.PAGE_IRQ_MAP_vector; simp)]
  rw [← hv]
  unfold Dev.stat Dev.statW
  refine if_neg fun h => ?_
  unfold Dev.bit at h0 h1
  rcases (twoPow_quiet _ _ b).mp h with h | h | h
  · omega
  · rw [h0] at h
    exact Bool.false_ne_true h
  · rw [h1] at h
    exact Bool.false_ne_true h.symm

end

/-- A vector that has been asked for in the cycle is not asked for again (R380). -/
theorem Dev.irq_asked (d : Dev) (v : Nat) (h : v ∈ d.rose) : d.irq v = d := if_pos h

theorem Dev.irq_first (d : Dev) (v : Nat) (h : v ∉ d.rose) : d.irq v = { d with rose := v :: d.rose }.request v := if_neg h

/-- On a USB4 link the message of an unmasked vector leaves at once. -/
theorem Dev.sent_request (d : Dev) (v : Nat) (hgen : 2 ≤ d.rd 0x14 F.HL_STAT_gen)
    (hmask : d.on 0x17 (F.MSIX_VCTRL_mask.at v) = false) : ∃ a x, (d.request v).sent = .msix v a x :: d.sent := by
  have hheld : d.msixHeld v = false := by
    unfold Dev.msixHeld
    rw [hmask, Bool.or_false, beq_eq_false_iff_ne]
    omega
  unfold Dev.request
  rw [if_neg (by simp [hheld])]
  unfold Dev.sendMsix
  rw [if_neg (by omega)]
  exact ⟨_, _, rfl⟩

theorem addrOf_stat_ne (p q off : Nat) (ho : off < 65536) (h : off ≠ 0x00C) : addrOf q off ≠ addrOf p 0x00C :=
  fun e => h ((addrOf_inj q p off 0x00C ho (by decide)).mp e).2

/-- Setting bits of PAGE_STAT leaves fields of other registers. -/
theorem Dev.rd_putStat (d : Dev) (p q : Nat) (k x : Word) (f : Field) (ho : f.off < 65536) (h : f.off ≠ 0x00C) :
    (d.putBits (addrOf p 0x00C) k x).rd q f = d.rd q f := by
  unfold Dev.rd
  rw [Dev.reg_putBits_other _ _ _ _ _ (addrOf_stat_ne p q f.off ho h)]

/-- The message of a rising status bit's vector leaves. -/
theorem Dev.sent_stat (d : Dev) (p b : Nat) (hb : b < 32) (h0 : d.bit p 0x00C b = false) (h1 : d.bit p 0x010 b = true)
    (hrose : d.rd p F.PAGE_IRQ_MAP_vector ∉ d.rose) (hgen : 2 ≤ d.rd 0x14 F.HL_STAT_gen)
    (hmask : d.on 0x17 (F.MSIX_VCTRL_mask.at (d.rd p F.PAGE_IRQ_MAP_vector)) = false) :
    ∃ a x, (d.stat p b).sent = .msix (d.rd p F.PAGE_IRQ_MAP_vector) a x :: d.sent := by
  have hv : d.rd p F.PAGE_IRQ_MAP_vector < 64 := d.rd_lt p F.PAGE_IRQ_MAP_vector
  have ho : (F.MSIX_VCTRL_mask.at (d.rd p F.PAGE_IRQ_MAP_vector)).off =
      F.MSIX_VCTRL_mask.off + d.rd p F.PAGE_IRQ_MAP_vector * F.MSIX_VCTRL_mask.st := rfl
  have hoff : F.MSIX_VCTRL_mask.off = 0x40C := rfl
  have hst : F.MSIX_VCTRL_mask.st = 0x10 := rfl
  rw [d.stat_rise p b hb h0 h1, Dev.irq_first (d.putBits _ _ _) _ hrose]
  refine Dev.sent_request _ _ (hgen.trans_eq (d.rd_putStat p 0x14 _ _ F.HL_STAT_gen (by decide) (by decide)).symm) ?_
  unfold Dev.on at hmask ⊢
  rw [← hmask]
  exact congrArg (· != 0) (d.rd_putStat p 0x17 _ _ _ (by rw [ho, hoff, hst]; omega) (by rw [ho, hoff, hst]; omega))

/-! ## Violations -/

section
variable (d : Dev) (m : Master) (c p a : Nat) (be : BitVec 4) (data : Word)

/-- The entry that a violation logs (R59). -/
def Dev.vEntry : VEntry := ⟨vInfo (some m) c be, BitVec.ofNat 32 a, data, d.now⟩

/-- The device after a violation's status, log and counts, before the master's own record, the event and the freeze. -/
def Dev.logged : Dev := ((d.stat p 2).vlogAdd (d.vEntry m c a be data)).bump 0x10 F.SEC_VCOUNT

/-- The violation's record for its master (R60). -/
def Dev.recorded (d : Dev) (m : Master) (e : VEntry) : Dev :=
  { d with
    prot := { d.prot with
      thawLast := tabSet (fun _ => none) d.prot.thawLast m.id (some e)
      thawCount := tabSet (fun _ => 0) d.prot.thawCount m.id
        (min (tabGet (fun _ => 0) d.prot.thawCount m.id + 1) 65535) } }

/-- The device after a violation, but for the freeze. -/
def Dev.noted : Dev := ((d.logged m c p a be data).recorded m (d.vEntry m c a be data)).raiseSys 240

theorem Dev.violation_eq :
    d.violation m c p a be data =
      if m = .se then d.noted m c p a be data else (d.noted m c p a be data).fbit 0x08 F.PROT_FROZEN_mask m.id true := rfl

/-- The addresses that a violation may change, but for PROT_FROZEN. -/
def noteAddrs (p : Nat) : List Nat := statAddrs p ++ [addrOf 0x08 0x058, addrOf 0x10 0x054]

theorem Dev.same_noted : SameRegs (noteAddrs p) d (d.noted m c p a be data) := by
  have hstat : SameRegs (noteAddrs p) d (d.stat p 2) :=
    (d.same_stat p 2).mono fun _ h => List.mem_append_left _ h
  have hlog : SameRegs (noteAddrs p) d ((d.stat p 2).vlogAdd (d.vEntry m c a be data)) :=
    hstat.step (Dev.same_vlogAdd _ _) (by simp [noteAddrs])
  exact hlog.step (Dev.same_bump _ 0x10 1 F.SEC_VCOUNT) (by simp [noteAddrs, F.SEC_VCOUNT])

theorem not_mem_noteAddrs (q off : Nat) (ho : off < 65536)
    (h : off ≠ 0x00C ∧ (q = 0x17 → off ≠ 0x800 ∧ off ≠ 0x804) ∧ (q = 0x08 → off ≠ 0x058) ∧ (q = 0x10 → off ≠ 0x054)) :
    addrOf q off ∉ noteAddrs p := by
  simp only [noteAddrs, statAddrs, List.mem_append, List.mem_cons, List.not_mem_nil, or_false, addrOf]
  omega

theorem Dev.bit_noted : (d.noted m c p a be data).bit p 0x00C 2 = true := by
  have hlog : SameRegs [addrOf 0x08 0x058, addrOf 0x10 0x054] (d.stat p 2) (d.noted m c p a be data) :=
    ((Dev.same_vlogAdd (d.stat p 2) _).mono (by simp)).step (Dev.same_bump _ 0x10 1 F.SEC_VCOUNT) (by simp [F.SEC_VCOUNT])
  rw [hlog.bit p 0x00C 2 (by simp [addrOf]; omega)]
  exact d.stat_bit p 2 (by decide)

theorem Dev.frozen_noted (k : Master) : (d.noted m c p a be data).frozen k = d.frozen k :=
  (d.same_noted m c p a be data).has 0x08 k.id F.PROT_FROZEN_mask (not_mem_noteAddrs p 0x08 _ (by decide) (by decide))

theorem Dev.thawLast_noted :
    tabGet (fun _ => none) (d.noted m c p a be data).prot.thawLast m.id = some (d.vEntry m c a be data) :=
  tabGet_tabSet_same (fun _ => none) (d.logged m c p a be data).prot.thawLast m.id (some (d.vEntry m c a be data))

theorem Dev.vlog_noted (h : d.prot.vlog.length < 32) :
    (d.noted m c p a be data).prot.vlog = d.prot.vlog ++ [d.vEntry m c a be data] := by
  have hs : (d.stat p 2).prot = d.prot := d.stat_prot p 2
  change ((d.stat p 2).vlogAdd (d.vEntry m c a be data)).prot.vlog = _
  unfold Dev.vlogAdd
  rw [hs, if_pos h]

theorem Dev.mw_vlogAdd (e : VEntry) : (d.vlogAdd e).mw = d.mw := by
  unfold Dev.vlogAdd
  split
  · rfl
  · exact Dev.bump_mw _ _ _ _

theorem Dev.wire_noted : (d.noted m c p a be data).mw.wire = d.mw.wire ++ [⟨240, 0, .system, 240⟩] := by
  have h : (d.logged m c p a be data).mw = d.mw :=
    (Dev.bump_mw _ _ _ _).trans ((Dev.mw_vlogAdd _ _).trans (d.stat_mw p 2))
  change (d.logged m c p a be data).mw.wire ++ _ = _
  rw [h]
  rfl

theorem Dev.prot_violation : (d.violation m c p a be data).prot = (d.noted m c p a be data).prot := by
  rw [Dev.violation_eq]
  split
  · rfl
  · exact Dev.wr_prot _ _ _ _

theorem Dev.mw_violation : (d.violation m c p a be data).mw = (d.noted m c p a be data).mw := by
  rw [Dev.violation_eq]
  split
  · rfl
  · exact Dev.wr_mw _ _ _ _

/-- A violation changes no other register than these. -/
theorem Dev.same_violation :
    SameRegs (statAddrs p ++ [addrOf 0x08 0x040, addrOf 0x08 0x058, addrOf 0x10 0x054]) d (d.violation m c p a be data) := by
  have h := (d.same_noted m c p a be data).mono
    (l := statAddrs p ++ [addrOf 0x08 0x040, addrOf 0x08 0x058, addrOf 0x10 0x054]) (by simp [noteAddrs]; tauto)
  rw [Dev.violation_eq]
  split
  · exact h
  · exact h.step (Dev.same_fbit _ 0x08 _ F.PROT_FROZEN_mask true) (by simp [F.PROT_FROZEN_mask])

theorem Dev.bit_violation : (d.violation m c p a be data).bit p 0x00C 2 = true := by
  rw [Dev.violation_eq]
  split
  · exact d.bit_noted m c p a be data
  · rw [(Dev.same_fbit _ 0x08 _ F.PROT_FROZEN_mask true).bit p 0x00C 2 (by simp [addrOf, F.PROT_FROZEN_mask]; omega)]
    exact d.bit_noted m c p a be data

/-- A violation freezes its master, but for the SE, and no other (Table 2.4). -/
theorem Dev.frozen_violation (k : Master) :
    (d.violation m c p a be data).frozen k = if k = m ∧ m ≠ .se then true else d.frozen k := by
  rw [Dev.violation_eq]
  split
  next h => rw [d.frozen_noted, if_neg fun e => e.2 h]
  next h =>
    unfold Dev.frozen
    rw [Dev.has_fbit _ _ _ _ _ _ (by decide) (Dev.master_lt k)]
    by_cases e : k = m
    · rw [if_pos (congrArg _ e), if_pos ⟨e, h⟩]
    · rw [if_neg fun hid => e (Dev.master_inj _ _ hid), if_neg fun he => e he.1]
      exact d.frozen_noted m c p a be data k

end

/-- A write that fails an access check is a violation. -/
theorem Dev.writeAt_violation (d : Dev) {p off c : Nat} {w : BusWrite} (ho : off < 0x1000) (h4 : off % 4 = 0) (hbe : w.be ≠ 0)
    (hf : (fieldsAt p off).isSome = true) (hheard : d.heard w.m = true) (hstalls : d.stalls w.m = false)
    (hbarred : d.barred w.m p = false) (hcause : d.accessCause (seen d p off w) w.data (w.be != 15) = some c)
    (harm : d.armedBy p w.m = false) : d.writeAt p off w = d.violation w.m c p (addrOf p off) w.be w.data := by
  have hnone : (fieldsAt p off).isNone = false := by
    rw [← Option.not_isSome, hf]
    rfl
  rw [d.writeAt_word ho h4 hheard hstalls hbarred]
  unfold Dev.writeWord
  simp only [hnone, hbe, beq_iff_eq, Bool.false_or, if_false, Option.isSome_none, Bool.false_eq_true]
  change (match d.accessCause (seen d p off w) w.data (w.be != 15) with
    | some c => _
    | none => _) = _
  rw [hcause]
  simp only [harm, Bool.false_eq_true, and_false, if_false]

/-! ## Frozen masters -/

/-- A write of a frozen master that is not open to it is held up, or over (Table 2.4). -/
theorem Dev.writeAt_frozen (d : Dev) {p off : Nat} {w : BusWrite} (ho : off < 0x1000) (hbarred : d.barred w.m p = true) :
    d.writeAt p off w =
      if d.heard w.m = false then d
      else if d.stalls w.m = true then d.hold (.bus ⟨w.m, true, addrOf p off, w.be, w.data⟩)
      else d.stall (.bus ⟨w.m, true, addrOf p off, w.be, w.data⟩) := by
  unfold Dev.writeAt Dev.busWrite Dev.writeNow
  simp only [addrOf_page p off (by omega), hbarred, if_true, Bool.not_eq_true']

theorem Dev.same_hold (d : Dev) (h : Held) : SameRegs [] d (d.hold h) := fun _ _ => rfl

theorem Dev.same_stall (d : Dev) (h : Held) : SameRegs [] d (d.stall h) := by
  unfold Dev.stall
  split
  · exact SameRegs.refl _ _
  · exact d.same_hold h

/-- Every master but the host is heard while the device serves. -/
theorem Dev.heard_of_serving (d : Dev) (m : Master) (hs : d.serving = true) (hm : m ≠ .host) : d.heard m = true := by
  unfold Dev.heard
  rw [hs, beq_eq_false_iff_ne.mpr hm]
  rfl

end Sys2Proof.Machine

namespace Sys2Proof.Safety

open Sys2Proof.Machine

/-- Settles O8: fields just set, and fields under a stored write. -/
theorem storedFields : Obligations.StoredFields := by
  intro d p f hf
  refine ⟨fun v => ⟨d.rd_wr_same p f v hf, d.same_wr p v f, fun g ho hg hm => d.rd_wr_disjoint p f g v ho hm hg, rfl⟩,
    fun w ht hwo => ⟨d.rd_store p f.off w f rfl hf ht hwo, d.same_store (seen d p f.off w)⟩⟩

/-- Settles O9: a status bit rises with a request of its page's vector, or without one. -/
theorem statusBitRequests : Obligations.StatusBitRequests := by
  intro d p b hb
  refine ⟨d.stat_bit p b hb, d.same_stat p b, fun h0 h1 hrose hgen hmask => d.sent_stat p b hb h0 h1 hrose hgen hmask,
    fun h => ?_⟩
  by_cases hq : d.bit p 0x00C b = true ∨ d.bit p 0x010 b = false
  · rw [d.stat_quiet p b hq]
    exact ⟨rfl, d.same_putBits _ _ _⟩
  · have hrose : d.rd p F.PAGE_IRQ_MAP_vector ∈ d.rose := by tauto
    rw [not_or, Bool.not_eq_true, Bool.not_eq_false] at hq
    rw [d.stat_rise p b hb hq.1 hq.2, Dev.irq_asked (d.putBits _ _ _) _ hrose]
    exact ⟨rfl, d.same_putBits _ _ _⟩

/-- Settles O5: the word's four lanes are one access, and the header's stored words act on nothing. -/
theorem acceptedWriteStores : Obligations.AcceptedWriteStores := by
  intro s p off w hp ho h4 ha
  have hw := s.dev.writeAt_accepted p off w ho h4 ha
  refine ⟨hw ▸ gives_registerWrite hp ho h4, fun hhdr => ?_⟩
  have he : Dev.effect s.dev (s.dev.store (seen s.dev p off w)) (seen s.dev p off w) = s.dev.store (seen s.dev p off w) :=
    effect_hdr _ _ _ p rfl hhdr
  refine ⟨?_, Dev.same_apply (he.symm ▸ s.dev.same_store (seen s.dev p off w) :)⟩
  rw [Dev.reg_apply, he]
  exact s.dev.reg_store_same p off w (tsOf_hdr p off (by omega)) (wo_hdr p off hhdr)

/-- Settles O10: the access check's cause makes the write a violation, and a violation changes these registers alone. -/
theorem violationFreezes : Obligations.ViolationFreezes := by
  intro s p off c w hp ho h4 hbe hf hheard hstalls hbarred hcause harm entry
  have hfz := s.dev.frozen_violation w.m c p (addrOf p off) w.be w.data
  have hprot := s.dev.prot_violation w.m c p (addrOf p off) w.be w.data
  have hmw := s.dev.mw_violation w.m c p (addrOf p off) w.be w.data
  have hgives := gives_registerWrite (s := s) (w := w) hp ho h4
  rw [s.dev.writeAt_violation ho h4 hbe hf hheard hstalls hbarred hcause harm] at hgives
  refine ⟨_, hgives, s.dev.same_violation _ _ _ _ _ _, s.dev.bit_violation _ _ _ _ _ _, fun hse => ?_, fun hse => ?_,
    fun m hm => ?_, (congrArg (fun q => tabGet (fun _ => none) q.thawLast w.m.id) hprot).trans (s.dev.thawLast_noted _ _ _ _ _ _),
    fun hlen => (congrArg Prot.vlog hprot).trans (s.dev.vlog_noted _ _ _ _ _ _ hlen),
    (congrArg Midway.wire hmw).trans (s.dev.wire_noted _ _ _ _ _ _)⟩
  · exact (hfz w.m).trans (if_pos ⟨rfl, hse⟩)
  · exact (hfz .se).trans (if_neg fun h => h.2 hse)
  · exact (hfz m).trans (if_neg fun h => hm h.1)

/-- Settles O11: a barred write is over or held up, and neither touches a register. -/
theorem frozenWritesStop : Obligations.FrozenWritesStop := by
  intro s p off w hp ho h4 _ hs hfr hpage
  have hbarred : s.dev.barred w.m p = true := by
    unfold Dev.barred
    rw [hfr, beq_eq_false_iff_ne.mpr hpage]
    rfl
  have hw := s.dev.writeAt_frozen ho hbarred
  refine ⟨_, gives_registerWrite hp ho h4, ?_, fun hm hst => ?_, fun hh hd => ?_⟩
  · rw [hw]
    split_ifs
    · exact SameRegs.refl _ _
    · exact s.dev.same_hold (.bus ⟨w.m, true, addrOf p off, w.be, w.data⟩)
    · exact s.dev.same_stall (.bus ⟨w.m, true, addrOf p off, w.be, w.data⟩)
  · have hover : s.dev.stall (.bus ⟨w.m, true, addrOf p off, w.be, w.data⟩) = s.dev := if_pos hm
    rw [hw, hst, hover, if_neg Bool.false_ne_true, ite_self]
  · have hheld : s.dev.stall (.bus ⟨w.m, true, addrOf p off, w.be, w.data⟩) =
        s.dev.hold (.bus ⟨w.m, true, addrOf p off, w.be, w.data⟩) := if_neg (not_or.mpr ⟨hh, hd⟩)
    rw [hw, if_neg (by simp [s.dev.heard_of_serving w.m hs hh]), hheld, ite_self]
    rfl

end Sys2Proof.Safety
end

section
/-! SUPPORT. What a page has running, keys and thaws, and the statements about them. -/
namespace Sys2Proof.Safety

open Sys2Proof.Machine

/-- Setting a field of a listed register changes listed registers alone. -/
theorem SameRegs.wr {l : List Nat} {d e : Dev} (h : SameRegs l d e) (p : Nat) (f : Field) (v : Nat)
    (ha : addrOf p f.off ∈ l) : SameRegs l d (e.wr p f v) :=
  h.step (e.same_wr p v f) fun _ hb => List.mem_singleton.mp hb ▸ ha

theorem SameRegs.stat {l : List Nat} {d e : Dev} (h : SameRegs l d e) (p b : Nat) (hl : ∀ a ∈ statAddrs p, a ∈ l) :
    SameRegs l d (e.stat p b) := h.step (e.same_stat p b) hl

end Sys2Proof.Safety

namespace Sys2Proof.Machine

open Sys2Proof.Safety

/-! ## Fields of one page -/

section
variable (d : Dev) (p : Nat) (f g : Field) (v : Nat)

/-- Setting a field leaves the fields of the page's other registers. -/
theorem Dev.rd_wr_off (h : g.off ≠ f.off) : (d.wr p f v).rd p g = d.rd p g :=
  d.rd_wr_other p p f g v fun e => h (Nat.add_left_cancel e)

/-- A field takes a value that it has room for. -/
theorem Dev.rd_wr_fit (hf : f.lo + f.w ≤ 32) (hv : v < 2 ^ f.w) : (d.wr p f v).rd p f = v :=
  (d.rd_wr_same p f v hf).trans (Nat.mod_eq_of_lt hv)

end

/-- No PAGE_CTRL is a register that a status bit may change. -/
theorem not_mem_statAddrs (p q off : Nat) (ho : off < 65536) (h : off ≠ 0x00C) (h17 : q = 0x17 → off ≠ 0x800 ∧ off ≠ 0x804) :
    addrOf q off ∉ statAddrs p := by
  simp only [statAddrs, List.mem_cons, List.not_mem_nil, or_false, addrOf]
  omega

/-! ## Ends of what a page has running (R37, R48, R52 to R54) -/

/-- The end of a block reset: reset_busy falls on the pages of the block. -/
def Dev.resetEnded (d : Dev) (ps : List Nat) : Dev := ps.foldl (fun d q => d.wr q F.PAGE_CTRL_reset_busy 0) d

theorem Dev.rd_resetEnded (d : Dev) (ps : List Nat) (q : Nat) (hq : q ∈ ps) :
    (d.resetEnded ps).rd q F.PAGE_CTRL_reset_busy = 0 := by
  refine foldl_establishes (I := fun _ => True) (Q := fun q e => e.rd q F.PAGE_CTRL_reset_busy = 0) ps
    (fun _ _ _ _ => trivial) (fun e x _ _ => e.rd_wr_fit x _ 0 (by decide) (by decide))
    (fun e x _ y hyx _ hy => (e.rd_wr_other x y _ _ 0 fun h => hyx ?_).trans hy) d trivial q (.inl hq)
  exact ((addrOf_inj y x _ _ (by decide) (by decide)).mp h).1

theorem Dev.same_resetEnded (d : Dev) (ps : List Nat) :
    SameRegs (ps.map fun q => addrOf q 0x008) d (d.resetEnded ps) :=
  SameRegs.fold _ _ ps (fun e q hq => (SameRegs.refl _ e).wr q F.PAGE_CTRL_reset_busy 0
    (List.mem_map.mpr ⟨q, hq, rfl⟩)) d

section
variable (d : Dev) (p : Nat)

theorem Dev.same_disarm : SameRegs [addrOf p 0x008] d (d.disarm p) :=
  ((SameRegs.refl _ d).wr p F.PAGE_CTRL_key_armed 0 (List.mem_cons_self ..)).wr p F.PAGE_CTRL_key_master 0
    (List.mem_cons_self ..)

theorem Dev.rd_disarm :
    (d.disarm p).rd p F.PAGE_CTRL_key_armed = 0 ∧ (d.disarm p).rd p F.PAGE_CTRL_key_master = 0 :=
  ⟨(Dev.rd_wr_disjoint _ p F.PAGE_CTRL_key_master F.PAGE_CTRL_key_armed 0 rfl (by decide) (by decide)).trans
    (d.rd_wr_fit p _ 0 (by decide) (by decide)), Dev.rd_wr_fit _ p _ 0 (by decide) (by decide)⟩

/-- A key's life ends (R48). -/
theorem Dev.keyExpire_armed (h : d.on p F.PAGE_CTRL_key_armed = true) : d.keyExpire p = (d.disarm p).stat p 6 := if_pos h

/-- Setting the last difference leaves every register. -/
theorem Dev.same_setDiff (v : Option Word) : SameRegs [] d (d.setDiff p v) := fun _ _ => rfl
theorem Dev.rd_setDiff (v : Option Word) (q : Nat) (f : Field) : (d.setDiff p v).rd q f = d.rd q f := rfl

/-- The registers at the end of a commit (R54). -/
def Dev.committedCheck (v : Nat) : Dev :=
  (((d.wr p F.PAGE_CHECK v).wr p F.PAGE_CHECK_REF v).wr p F.PAGE_CTRL_check_en 1).wr p F.PAGE_CTRL_check_busy 0

theorem Dev.commitDone_busy (h : d.on p F.PAGE_CTRL_check_busy = true) (hp : isPriv p = true) :
    d.commitDone p = (d.committedCheck p (d.pageCheck p).toNat).setDiff p none := by
  unfold Dev.commitDone
  rw [if_pos h, hp]
  rfl

theorem Dev.same_committedCheck (v : Nat) :
    SameRegs [addrOf p 0x008, addrOf p 0x01C, addrOf p 0x020] d (d.committedCheck p v) :=
  ((((SameRegs.refl _ d).wr p F.PAGE_CHECK v (by simp [F.PAGE_CHECK])).wr p F.PAGE_CHECK_REF v
    (by simp [F.PAGE_CHECK_REF])).wr p F.PAGE_CTRL_check_en 1 (by simp [F.PAGE_CTRL_check_en])).wr p F.PAGE_CTRL_check_busy 0
    (by simp [F.PAGE_CTRL_check_busy])

theorem Dev.rd_committedCheck (v : Word) :
    (d.committedCheck p v.toNat).rd p F.PAGE_CHECK = v.toNat ∧ (d.committedCheck p v.toNat).rd p F.PAGE_CHECK_REF = v.toNat ∧
      (d.committedCheck p v.toNat).rd p F.PAGE_CTRL_check_en = 1 ∧
      (d.committedCheck p v.toNat).rd p F.PAGE_CTRL_check_busy = 0 := by
  unfold Dev.committedCheck
  refine ⟨?_, ?_, ?_, Dev.rd_wr_fit _ p _ 0 (by decide) (by decide)⟩
  · rw [Dev.rd_wr_off _ p _ _ _ (by decide), Dev.rd_wr_off _ p _ _ _ (by decide), Dev.rd_wr_off _ p _ _ _ (by decide)]
    exact d.rd_wr_fit p F.PAGE_CHECK _ (by decide) v.isLt
  · rw [Dev.rd_wr_off _ p _ _ _ (by decide), Dev.rd_wr_off _ p _ _ _ (by decide)]
    exact Dev.rd_wr_fit _ p F.PAGE_CHECK_REF _ (by decide) v.isLt
  · rw [Dev.rd_wr_disjoint _ p F.PAGE_CTRL_check_busy F.PAGE_CTRL_check_en 0 rfl (by decide) (by decide)]
    exact Dev.rd_wr_fit _ p _ 1 (by decide) (by decide)

/-! ### Rechecks -/

/-- The page shows its check value (R52). -/
def Dev.shownCheck : Dev := d.wr p F.PAGE_CHECK (d.pageCheck p).toNat

theorem Dev.rd_shownCheck : (d.shownCheck p).rd p F.PAGE_CHECK = (d.pageCheck p).toNat :=
  d.rd_wr_fit p F.PAGE_CHECK _ (by decide) (d.pageCheck p).isLt

theorem Dev.same_shownCheck : SameRegs [addrOf p 0x01C] d (d.shownCheck p) := d.same_wr p _ F.PAGE_CHECK

theorem Dev.on_shownCheck : (d.shownCheck p).on p F.PAGE_CTRL_check_en = d.on p F.PAGE_CTRL_check_en :=
  congrArg (· != 0) (d.rd_wr_off p F.PAGE_CHECK F.PAGE_CTRL_check_en _ (by decide))

theorem Dev.ref_shownCheck : (d.shownCheck p).reg (addrOf p 0x020) = d.reg (addrOf p 0x020) :=
  d.reg_wr_other p _ F.PAGE_CHECK _ fun h => absurd (Nat.add_left_cancel h) (by decide)

theorem Dev.prot_shownCheck : (d.shownCheck p).prot = d.prot := d.wr_prot p _ _
theorem Dev.mw_shownCheck : (d.shownCheck p).mw = d.mw := d.wr_mw p _ _
theorem Dev.mw_setDiff (v : Option Word) : (d.setDiff p v).mw = d.mw := rfl

/-- What a recheck does after it shows the check value, of a page with CK fields. -/
theorem Dev.recheck_eq (hp : isPriv p = true) :
    d.recheck p =
      if (d.shownCheck p).on p F.PAGE_CTRL_check_en = false then d.shownCheck p
      else if d.pageCheck p = (d.shownCheck p).reg (addrOf p 0x020) then (d.shownCheck p).setDiff p none
      else if tabGet (fun _ => none) (d.shownCheck p).prot.lastDiff p = some (d.pageCheck p) then d.shownCheck p
      else ((d.shownCheck p).setDiff p (some (d.pageCheck p))).mismatch p := by
  unfold Dev.recheck Dev.shownCheck
  simp only [hp, if_true, Bool.not_eq_true']

/-- Without check_en nothing is compared. -/
theorem Dev.recheck_quiet (hp : isPriv p = true) (hen : d.on p F.PAGE_CTRL_check_en = false) : d.recheck p = d.shownCheck p := by
  rw [d.recheck_eq p hp, d.on_shownCheck, if_pos hen]

/-- A page that matches its reference has no mismatch open. -/
theorem Dev.recheck_equal (hp : isPriv p = true) (hen : d.on p F.PAGE_CTRL_check_en = true)
    (h : d.pageCheck p = d.reg (addrOf p 0x020)) : d.recheck p = (d.shownCheck p).setDiff p none := by
  rw [d.recheck_eq p hp, d.on_shownCheck, if_neg (by simp [hen]), d.ref_shownCheck, if_pos h]

/-- A difference that has not been reported is a mismatch (R53). -/
theorem Dev.recheck_differs (hp : isPriv p = true) (hen : d.on p F.PAGE_CTRL_check_en = true)
    (h : d.pageCheck p ≠ d.reg (addrOf p 0x020)) (hl : tabGet (fun _ => none) d.prot.lastDiff p ≠ some (d.pageCheck p)) :
    d.recheck p = ((d.shownCheck p).setDiff p (some (d.pageCheck p))).mismatch p := by
  rw [d.recheck_eq p hp, d.on_shownCheck, if_neg (by simp [hen]), d.ref_shownCheck, if_neg h, d.prot_shownCheck, if_neg hl]

/-- The addresses that a mismatch may change, but for its page's status. -/
theorem Dev.same_counted (e : VEntry) :
    SameRegs [addrOf 0x08 0x054, addrOf 0x08 0x058] d
      ((((d.bump 0x08 F.PROT_CHECK_FAIL_count).wr 0x08 F.PROT_CHECK_FAIL_last_page p).vlogAdd e).raiseSys 240) :=
  (((SameRegs.refl _ d).wr 0x08 F.PROT_CHECK_FAIL_count _ (by simp [F.PROT_CHECK_FAIL_count])).wr 0x08
    F.PROT_CHECK_FAIL_last_page p (by simp [F.PROT_CHECK_FAIL_last_page])).step (Dev.same_vlogAdd _ e) (by simp)

/-- What a mismatch reports (R53). -/
theorem Dev.mismatch_reports :
    (d.mismatch p).bit p 0x00C 5 = true ∧ (d.mismatch p).rd p F.PAGE_CHECK = d.rd p F.PAGE_CHECK ∧
      (d.mismatch p).mw.wire = d.mw.wire ++ [⟨240, 0, .system, 240⟩] := by
  have hs := (d.stat p 5).same_counted p
    ⟨vInfo none 9 0, BitVec.ofNat 32 (65536 * p), 0,
      (((d.stat p 5).bump 0x08 F.PROT_CHECK_FAIL_count).wr 0x08 F.PROT_CHECK_FAIL_last_page p).now⟩
  refine ⟨(hs.bit p 0x00C 5 (by simp [addrOf]; omega)).trans (d.stat_bit p 5 (by decide)),
    (hs.rd p F.PAGE_CHECK (by simp [addrOf, F.PAGE_CHECK]; omega)).trans
      ((d.same_stat p 5).rd p F.PAGE_CHECK (not_mem_statAddrs p p _ (by decide) (by decide) fun _ => by decide)), ?_⟩
  have hmw : ∀ e, ((((d.stat p 5).bump 0x08 F.PROT_CHECK_FAIL_count).wr 0x08 F.PROT_CHECK_FAIL_last_page p).vlogAdd e).mw = d.mw :=
    fun e => (Dev.mw_vlogAdd _ e).trans ((Dev.wr_mw _ _ _ _).trans ((Dev.bump_mw _ _ _ _).trans (d.stat_mw p 5)))
  exact congrArg (fun q : Midway => q.wire ++ [⟨240, 0, .system, 240⟩]) (hmw _)

end

/-! ## Keys -/

/-- A key armed by a master (R46). -/
def Dev.keyArmed (d : Dev) (p : Nat) (m : Master) : Dev :=
  (d.wr p F.PAGE_CTRL_key_armed 1).wr p F.PAGE_CTRL_key_master m.id

theorem Dev.armedBy_keyArmed (d : Dev) (p : Nat) (m : Master) : (d.keyArmed p m).armedBy p m = true := by
  unfold Dev.armedBy Dev.keyArmed Dev.on
  rw [Dev.rd_wr_disjoint _ p F.PAGE_CTRL_key_master F.PAGE_CTRL_key_armed m.id rfl (by decide) (by decide),
    Dev.rd_wr_fit _ p F.PAGE_CTRL_key_armed 1 (by decide) (by decide),
    Dev.rd_wr_fit _ p F.PAGE_CTRL_key_master _ (by decide) (Dev.master_lt m)]
  simp

theorem Dev.same_keyArmed (d : Dev) (p : Nat) (m : Master) : SameRegs [addrOf p 0x008] d (d.keyArmed p m) :=
  ((SameRegs.refl _ d).wr p F.PAGE_CTRL_key_armed 1 (List.mem_cons_self ..)).wr p F.PAGE_CTRL_key_master m.id
    (List.mem_cons_self ..)

theorem isKeyed_eq (p : Nat) (h : isKeyed p = true) : p = 0x90 := of_decide_eq_true h

/-- The bits of a register of one field. -/
theorem bitsWhere_one {p off : Nat} {f : Field} (h : fieldsAt p off = some [f]) (q : Field → Bool) :
    bitsWhere p off q = if q f then f.mask else 0 := by
  unfold bitsWhere
  rw [h]
  simp

/-- A whole word replaces every bit of a register that its master can change whole. -/
theorem new_of_full (d : Dev) (p off : Nat) (m : Master) (data : Word) (h : d.writeMask m p off = BitVec.allOnes 32) :
    (seen d p off ⟨m, 15, data⟩).new = data := by
  change (d.reg (addrOf p off) &&& ~~~(d.writeMask m p off &&& beMask 15)) ||| (data &&& (d.writeMask m p off &&& beMask 15)) = _
  rw [h, show beMask 15 = BitVec.allOnes 32 from by decide]
  simp only [BitVec.and_self, BitVec.not_allOnes, BitVec.and_allOnes, BitVec.and_zero, BitVec.zero_or]

theorem writeMask_unlock (d : Dev) (m : Master) : d.writeMask m 0x90 0x018 = BitVec.allOnes 32 := by
  unfold Dev.writeMask
  rw [bitsWhere_one (f := F.PAGE_UNLOCK) rfl, show d.canWrite m 0x90 0x018 F.PAGE_UNLOCK = true from rfl]
  decide

/-- A write of a register whose one field is WO stores nothing. -/
theorem Dev.same_store_command (d : Dev) (p off : Nat) (w : BusWrite) (f : Field) (hf : fieldsAt p off = some [f])
    (hwo : f.acc = .wo) : SameRegs [] d (d.store (seen d p off w)) := by
  refine d.same_store_wo p off w ?_
  rw [bitsWhere_one hf, bitsWhere_one hf, hwo]
  split <;> simp

/-- A write of the key to PAGE_UNLOCK arms it. -/
theorem Dev.effect_unlock (old d : Dev) (x : Wr) (ho : x.off = 0x018) (hk : bitsWhere x.p x.off Field.ky = 0)
    (hkey : isKeyed x.p = true) (hnew : x.new = pageKey x.p) : Dev.effect old d x = d.keyArmed x.p x.m := by
  have hr : x.reaches Field.ky = false := by simp [Wr.reaches, hk]
  unfold Dev.effect
  simp only [hr, ho, hkey, hnew, Bool.false_eq_true, if_false, beq_self_eq_true, Bool.and_self, if_true]
  rw [if_neg (by decide)]
  rfl

/-! ## Thaws (R58) -/

/-- One master of a thaw's mask. -/
def Dev.thawOne (mask : Nat) (d : Dev) (n : Nat) : Dev :=
  if mask.testBit n && d.frozen (Master.ofId n) then d.thaw (Master.ofId n) else d

theorem Dev.frozen_thawOne (mask : Nat) (d : Dev) (n : Nat) (k : Master) :
    (d.thawOne mask n).frozen k = (d.frozen k && !(mask.testBit n && k == Master.ofId n)) := by
  unfold Dev.thawOne
  split
  next h =>
    rw [Bool.and_eq_true] at h
    rw [Dev.frozen_thaw, h.1, Bool.true_and]
  next h =>
    by_cases e : k = Master.ofId n
    · subst e
      revert h
      cases mask.testBit n <;> cases d.frozen (Master.ofId n) <;> simp
    · simp [e]

theorem Dev.frozen_thawAll (mask : Nat) (ns : List Nat) (d : Dev) (k : Master) :
    (ns.foldl (Dev.thawOne mask) d).frozen k = (d.frozen k && !ns.any fun n => mask.testBit n && k == Master.ofId n) := by
  induction ns generalizing d with
  | nil => simp
  | cons n ns ih => rw [List.foldl_cons, ih, Dev.frozen_thawOne, List.any_cons, Bool.not_or, Bool.and_assoc]

/-- Each master is at its own place of a mask. -/
theorem any_ofId (mask : Nat) (k : Master) :
    ((List.range 8).any fun n => mask.testBit n && k == Master.ofId n) = mask.testBit k.id := by
  have hid : ∀ n, n < 8 → (Master.ofId n).id = n := by decide
  have hof : Master.ofId k.id = k := by cases k <;> rfl
  rw [Bool.eq_iff_iff, List.any_eq_true]
  simp only [Bool.and_eq_true, beq_iff_eq, List.mem_range]
  constructor
  · rintro ⟨n, hn, hbit, rfl⟩
    rwa [hid n hn]
  · exact fun h => ⟨k.id, Dev.master_lt k, h, hof.symm⟩

theorem Dev.same_thawOne (mask : Nat) (d : Dev) (n : Nat) : SameRegs [addrOf 0x08 0x040] d (d.thawOne mask n) := by
  unfold Dev.thawOne
  split
  · exact d.same_thaw _
  · exact SameRegs.refl _ _

theorem Dev.frozen_congr {l : List Nat} {d e : Dev} (h : SameRegs l d e) (hl : addrOf 0x08 0x040 ∉ l) (k : Master) :
    e.frozen k = d.frozen k := h.has 0x08 k.id F.PROT_FROZEN_mask hl

theorem Dev.autothaw_frozen (d : Dev) (m : Master) (hr : d.mcRuns = true) (hf : d.frozen m = true)
    (ha : d.has 0x08 F.PROT_AUTOTHAW_mask m.id = true) : d.autothaw m = d.thaw m := by
  unfold Dev.autothaw
  rw [hr, hf, ha]
  rfl

theorem Dev.mcThaw_pending (d : Dev) (m : Master) (hr : d.mcRuns = true) (hp : d.thawPending m = true) : d.mcThaw m = d.thaw m := by
  unfold Dev.mcThaw
  rw [hr, hp]
  rfl

theorem Dev.thawPending_thawAsk (d : Dev) (m : Master) (h : d.frozen m = true) : (d.thawAsk m).thawPending m = true := by
  unfold Dev.thawAsk
  rw [if_pos h]
  exact tabGet_tabSet_same (fun _ => false) d.prot.thawPend m.id true

theorem Dev.same_thawAsk (d : Dev) (m : Master) : SameRegs [] d (d.thawAsk m) := by
  unfold Dev.thawAsk
  split
  · exact fun _ _ => rfl
  · exact SameRegs.refl _ _

/-- The oldest entry leaves the log (R59). -/
def Dev.popped (d : Dev) : Dev := { d with prot := { d.prot with vlog := d.prot.vlog.drop 1 } }

theorem Dev.protEffect_pop (d : Dev) (x : Wr) (ho : x.off = 0x05C) (h : x.cmd F.VLOG_POP_pop = 1) : d.protEffect x = d.popped := by
  unfold Dev.protEffect
  rw [if_neg (by omega), if_pos ⟨ho, h⟩]
  rfl

end Sys2Proof.Machine

namespace Sys2Proof.Safety

open Sys2Proof.Machine

theorem gives_recheck {s : State} {page : BitVec 8} {e : Dev} (hs : s.dev.serving = true)
    (he : s.dev.recheck page.toNat = e) : Gives (.checkRecompute page) s e :=
  gives_onLive (f := fun d => d.recheck page.toNat) rfl hs he

/-- Settles O12: the ends of a block reset, a key's life, a commit and a check. -/
theorem pageEvents : Obligations.PageEvents := by
  intro s page hs d p
  refine ⟨fun h => ?_, fun h => ?_, fun h hp => ?_, fun hp h => ?_, fun hp hen hne hlast => ?_⟩
  · exact ⟨d.resetEnded (blockPages p), gives_onLive rfl hs (if_pos h), d.rd_resetEnded _, d.same_resetEnded _⟩
  · have hstat := (d.disarm p).same_stat p 6
    have hctrl : addrOf p 0x008 ∉ statAddrs p := not_mem_statAddrs p p _ (by decide) (by decide) fun _ => by decide
    exact ⟨(d.disarm p).stat p 6, gives_onLive rfl hs (d.keyExpire_armed p h), (hstat.rd p _ hctrl).trans (d.rd_disarm p).1,
      (hstat.rd p _ hctrl).trans (d.rd_disarm p).2, (d.disarm p).stat_bit p 6 (by decide),
      SameRegs.stat ((d.same_disarm p).mono (List.cons_subset_cons _ (List.nil_subset _))) p 6 fun _ => List.mem_cons_of_mem _⟩
  · obtain ⟨hc, hr, he, hb⟩ := d.rd_committedCheck p (d.pageCheck p)
    refine ⟨_, gives_onLive rfl hs (d.commitDone_busy p h hp), ?_, ?_, ?_, ?_,
      (d.same_committedCheck p _).step (Dev.same_setDiff _ p none) (by simp)⟩
    · rw [Dev.rd_setDiff, hc]
    · rw [Dev.rd_setDiff, hr]
    · rw [Dev.rd_setDiff, he]
    · rw [Dev.rd_setDiff, hb]
  · by_cases hen : d.on p F.PAGE_CTRL_check_en = false
    · exact ⟨_, gives_recheck hs (d.recheck_quiet p hp hen), d.rd_shownCheck p, d.same_shownCheck p⟩
    · refine ⟨_, gives_recheck hs (d.recheck_equal p hp (Bool.eq_true_of_not_eq_false hen) (h.resolve_left hen)), ?_,
        (d.same_shownCheck p).step (Dev.same_setDiff _ p none) (by simp)⟩
      rw [Dev.rd_setDiff, d.rd_shownCheck]
  · obtain ⟨hbit, hrd, hwire⟩ := ((d.shownCheck p).setDiff p (some (d.pageCheck p))).mismatch_reports p
    refine ⟨_, gives_recheck hs (d.recheck_differs p hp hen hne hlast), ?_, hbit, ?_⟩
    · rw [hrd, Dev.rd_setDiff, d.rd_shownCheck]
    · rw [hwire, Dev.mw_setDiff, d.mw_shownCheck]

/-- Settles O13: the key's word arms it, and each way of thawing thaws its masters alone. -/
theorem keysAndThaws : Obligations.KeysAndThaws := by
  intro s w m page d p
  refine ⟨fun hkey hbe hdata ha => ?_, fun ha => ?_, fun hr hf hauto => ?_, fun ha hcmd hf => ?_, fun hr hpend => ?_,
    fun ha hcmd => ?_⟩
  · have hp : p = 0x90 := isKeyed_eq p hkey
    have hky : bitsWhere p 0x018 Field.ky = 0 := by
      rw [hp]
      rfl
    have hnew : (seen d p 0x018 w).new = pageKey p := by
      obtain ⟨k, be, data⟩ := w
      cases hbe
      cases hdata
      rw [hp]
      exact new_of_full d 0x90 0x018 k _ (writeMask_unlock d k)
    have hstore : SameRegs [addrOf p 0x008] d (d.store (seen d p 0x018 w)) :=
      (d.same_store_command p 0x018 w F.PAGE_UNLOCK (hp ▸ rfl) rfl).mono (by simp)
    refine ⟨_, performs_write rfl (by decide) (by decide) ha
      (Dev.effect_unlock d _ (seen d p 0x018 w) rfl hky hkey hnew), Dev.armedBy_keyArmed _ p w.m,
      hstore.step (Dev.same_keyArmed _ p w.m) fun _ h => h⟩
  · have hstore := d.same_store_command 0x08 0x044 w F.PROT_THAW_mask rfl rfl
    refine ⟨_, performs_block rfl (by decide) (by decide) ha (by decide) (by decide) rfl,
      (hstore.mono (by simp)).step (SameRegs.fold _ (Dev.thawOne ((seen d 0x08 0x044 w).cmd F.PROT_THAW_mask)) (List.range 8)
        (fun e n _ => e.same_thawOne _ n) _) fun _ h => h, fun k => ?_⟩
    refine (Dev.frozen_thawAll ((seen d 0x08 0x044 w).cmd F.PROT_THAW_mask) (List.range 8) _ k).trans ?_
    rw [any_ofId, Dev.frozen_congr hstore (by simp)]
  · refine ⟨_, gives_onDev rfl (d.autothaw_frozen m hr hf hauto), d.same_thaw m, ?_, fun k hk => ?_⟩
    · simp [Dev.frozen_thaw]
    · simp [Dev.frozen_thaw, hk, d]
  · have hstore := d.same_store_command 0x0A 0x044 w F.THAW_REQ_req rfl rfl
    have hfz : (d.store (seen d 0x0A 0x044 w)).frozen w.m = true := (Dev.frozen_congr hstore (by simp) w.m).trans hf
    exact ⟨_, performs_block rfl (by decide) (by decide) ha (by decide) (by decide) (if_pos ⟨rfl, hcmd⟩),
      hstore.step (Dev.same_thawAsk _ w.m) fun _ h => h, Dev.thawPending_thawAsk _ w.m hfz⟩
  · refine ⟨_, gives_onDev rfl (d.mcThaw_pending m hr hpend), d.same_thaw m, ?_, d.thawPending_thaw m, fun k hk => ?_⟩
    · simp [Dev.frozen_thaw]
    · simp [Dev.frozen_thaw, hk, d]
  · have hstore := d.same_store_command 0x08 0x05C w F.VLOG_POP_pop rfl rfl
    have hprot : (d.store (seen d 0x08 0x05C w)).prot = d.prot := d.store_prot _
    exact ⟨(d.store (seen d 0x08 0x05C w)).popped,
      performs_block rfl (by decide) (by decide) ha (by decide) (by decide) (Dev.protEffect_pop _ (seen d 0x08 0x05C w) rfl hcmd),
      hstore.step (SameRegs.refl [] _) fun _ h => h, congrArg (·.vlog.drop 1) hprot⟩

end Sys2Proof.Safety
end

section
/-! SUPPORT. Aliases, page claims and the sweep, and the statements about them. -/
namespace Sys2Proof.Machine

open Sys2Proof.Safety

/-! ## Several accesses of one cycle -/

/-- The accesses of a cycle by ascending master ID: one alone. -/
theorem byId_one {α : Type} (g : α → Nat) (x : α) (h : g x < 8) :
    ((List.range 8).flatMap fun i => [x].filter fun y => g y == i) = [x] := by
  generalize hk : g x = k at h
  simp only [List.filter_cons, List.filter_nil, hk]
  interval_cases k <;> rfl

/-- Of two accesses the one with the lower ID comes first. -/
theorem byId_two {α : Type} (g : α → Nat) (x y : α) (hy : g y < 8) (h : g x < g y) :
    ((List.range 8).flatMap fun i => [y, x].filter fun z => g z == i) = [x, y] := by
  generalize hj : g x = j at h
  generalize hk : g y = k at h hy
  simp only [List.filter_cons, List.filter_nil, hj, hk]
  interval_cases k <;> interval_cases j <;> rfl

/-! ## Records that a status bit leaves -/

section
variable (d : Dev) (f : Ring → Ring)

theorem Dev.sendMsix_modRing (v : Nat) : (d.modRing f).sendMsix v = (d.sendMsix v).modRing f := by
  unfold Dev.sendMsix
  by_cases h : d.rd 0x14 F.HL_STAT_gen = 1
  · rw [if_pos h, if_pos (show (d.modRing f).rd 0x14 F.HL_STAT_gen = 1 from h)]
    rfl
  · rw [if_neg h, if_neg (show ¬(d.modRing f).rd 0x14 F.HL_STAT_gen = 1 from h)]
    rfl

theorem Dev.request_modRing (v : Nat) : (d.modRing f).request v = (d.request v).modRing f := by
  unfold Dev.request
  by_cases h : d.msixHeld v = true
  · rw [if_pos h, if_pos (show (d.modRing f).msixHeld v = true from h)]
    rfl
  · rw [if_neg h, if_neg (show ¬(d.modRing f).msixHeld v = true from h), Dev.sendMsix_modRing]

theorem Dev.irq_modRing (v : Nat) : (d.modRing f).irq v = (d.irq v).modRing f := by
  by_cases h : v ∈ d.rose
  · rw [Dev.irq_asked d v h, Dev.irq_asked (d.modRing f) v h]
  · rw [Dev.irq_first d v h, Dev.irq_first (d.modRing f) v h]
    exact Dev.request_modRing { d with rose := v :: d.rose } f v

/-- A status bit takes no notice of the ring's record. -/
theorem Dev.statW_modRing (p : Nat) (k : Word) : (d.modRing f).statW p k = (d.statW p k).modRing f := by
  unfold Dev.statW
  by_cases h : k &&& ~~~d.reg (addrOf p 0x00C) &&& d.reg (addrOf p 0x010) = 0
  · rw [if_pos h]
    exact if_pos h
  · rw [if_neg h]
    exact (if_neg h).trans (Dev.irq_modRing (d.putBits (addrOf p 0x00C) k k) f _)

end

/-! ## Writes of header registers -/

/-- A header register other than PAGE_CTRL and PAGE_UNLOCK acts on nothing. -/
theorem Dev.effect_header (old d : Dev) (x : Wr) (ho : x.off < 0x040) (h8 : x.off ≠ 0x008) (h18 : x.off ≠ 0x018)
    (hk : bitsWhere x.p x.off Field.ky = 0) : Dev.effect old d x = d := by
  have hr : x.reaches Field.ky = false := by simp [Wr.reaches, hk]
  unfold Dev.effect
  simp only [hr, Bool.false_eq_true, if_false]
  rw [if_neg h8, if_neg h18, if_pos ho]

/-- A field that a master can write whole takes what a whole-word write has there. -/
theorem Dev.val_full (d : Dev) (p off : Nat) (w : BusWrite) (f : Field) (hbe : w.be = 15) (hf : f.lo + f.w ≤ 32)
    (hm : d.writeMask w.m p off &&& f.mask = f.mask) : (seen d p off w).val f = f.get w.data := by
  refine f.get_congr _ _ ?_ hf
  change ((d.reg (addrOf p off) &&& ~~~(d.writeMask w.m p off &&& beMask w.be)) |||
    (w.data &&& (d.writeMask w.m p off &&& beMask w.be))) &&& f.mask = _
  rw [hbe, show beMask 15 = BitVec.allOnes 32 from by decide, BitVec.and_allOnes]
  ext i
  have e := congrArg (fun x : Word => x[i]) hm
  simp only [BitVec.getElem_and] at e
  simp only [BitVec.getElem_and, BitVec.getElem_or, BitVec.getElem_not]
  revert e
  cases f.mask[i] <;> cases (d.writeMask w.m p off)[i] <;> simp

theorem bitsWhere_hdr (p off : Nat) (q : Field → Bool) (ho : off < 0x040) (hf : (fieldsAt p off).isSome = true) :
    bitsWhere p off q = ((hdrFields off).getD []).foldl (fun w f => if q f then w ||| f.mask else w) 0 := by
  unfold bitsWhere
  unfold fieldsAt at hf ⊢
  cases hb : blkOf p with
  | none => simp [hb] at hf
  | some b =>
    simp only [if_pos ho]
    cases hdrFields off with
    | none => rfl
    | some fs => rfl

/-! ## PAGE_OWNER -/

section
variable {p : Nat}

theorem ownerKy (p : Nat) : bitsWhere p 0x024 Field.ky = 0 := by
  unfold bitsWhere fieldsAt
  cases blkOf p <;> rfl

theorem woBits_owner (p : Nat) : woBits p 0x024 = 0 := by
  unfold woBits bitsWhere fieldsAt
  cases blkOf p <;> rfl

/-- Every master can change PAGE_OWNER's fields on a page that can be owned. -/
theorem Dev.writeMask_owner (d : Dev) (m : Master) (hf : (fieldsAt p 0x024).isSome = true) (ho : isOwned p = true) :
    d.writeMask m p 0x024 = 0x87 := by
  have hcan : ∀ f : Field, f.writable = true → f.pv = false → d.canWrite m p 0x024 f = true := fun f hw hpv => by
    simp [Dev.canWrite, hw, hpv, ho]
  unfold Dev.writeMask
  rw [bitsWhere_hdr p 0x024 _ (by decide) hf, if_neg (by simp)]
  rw [show (hdrFields 0x024).getD [] = [F.PAGE_OWNER_owner, F.PAGE_OWNER_valid] from rfl]
  simp only [List.foldl_cons, List.foldl_nil, hcan F.PAGE_OWNER_owner rfl rfl, hcan F.PAGE_OWNER_valid rfl rfl, if_true]
  decide

/-- A write of PAGE_OWNER is stored and does nothing else. -/
theorem Dev.effect_owner (old d : Dev) (x : Wr) (ho : x.off = 0x024) : Dev.effect old d x = d :=
  Dev.effect_header old d x (by omega) (by omega) (by omega) (ho ▸ ownerKy x.p)

end

section
variable (d : Dev) (p : Nat) (w : BusWrite)

/-- A write of PAGE_OWNER of a page as the cycle found it is a write. -/
theorem Dev.claim_first : Dev.claim d d p w = d.writeAt p 0x024 w := by
  unfold Dev.claim
  cases d.on p F.PAGE_OWNER_valid <;> simp

theorem Dev.same_apply_owner : SameRegs [addrOf p 0x024] d (d.apply (seen d p 0x024 w)) :=
  Dev.same_apply ((Dev.effect_owner d _ (seen d p 0x024 w) rfl).symm ▸ (d.same_store (seen d p 0x024 w) :))

/-- A page just claimed is owned. -/
theorem Dev.on_apply_owner (hf : (fieldsAt p 0x024).isSome = true) (ho : isOwned p = true) (hbe : w.be = 15)
    (hv : F.PAGE_OWNER_valid.get w.data = 1) : (d.apply (seen d p 0x024 w)).on p F.PAGE_OWNER_valid = true := by
  have hm : d.writeMask w.m p 0x024 &&& F.PAGE_OWNER_valid.mask = F.PAGE_OWNER_valid.mask := by
    rw [d.writeMask_owner w.m hf ho]
    decide
  have hwo : F.PAGE_OWNER_valid.mask &&& woBits p 0x024 = 0 := by
    rw [woBits_owner]
    decide
  unfold Dev.on
  rw [Dev.rd_apply, Dev.effect_owner _ _ _ rfl, d.rd_store p 0x024 w _ rfl (by decide) (tsOf_hdr p _ (by decide)) hwo,
    d.val_full p 0x024 w _ hbe (by decide) hm, hv]
  rfl

end

/-- A second claim in a cycle of a page that was free, which no access check stops, is refused for the state (R45). -/
theorem Dev.claim_second (d e : Dev) (p : Nat) (v : BusWrite) (hown : isOwned p = true) (hfree : d.on p F.PAGE_OWNER_valid = false)
    (htaken : e.on p F.PAGE_OWNER_valid = true) (hheard : e.heard v.m = true) (hstalls : e.stalls v.m = false)
    (hbarred : e.barred v.m p = false) (hbe : v.be = 15) (hcause : d.accessCause (seen d p 0x024 v) v.data false = none)
    (hvalid : F.PAGE_OWNER_valid.get v.data = 1) (howner : F.PAGE_OWNER_owner.get v.data = v.m.id) :
    Dev.claim d e p v = e.stateReject p := by
  unfold Dev.claim
  rw [hbe, show v.data &&& beMask 15 = v.data from by rw [show beMask 15 = BitVec.allOnes 32 from by decide]; exact BitVec.and_allOnes,
    hvalid, howner, hown, hfree, htaken, hheard, hstalls, hbarred]
  simp only [beq_self_eq_true, Bool.or_true, Bool.and_true, Bool.not_false, if_true]
  change (match d.accessCause (d.mkWr v.m p 0x024 15 v.data) v.data false with
    | some c => _
    | none => _) = _
  rw [show d.mkWr v.m p 0x024 15 v.data = seen d p 0x024 v from by unfold seen; rw [hbe], hcause]

section
variable {d e : Dev} {l : List Nat}

theorem Dev.serving_congr (h : SameRegs l d e) (h1 : addrOf 0x01 0x040 ∉ l) (h2 : addrOf 0x02 0x040 ∉ l) :
    e.serving = d.serving := by
  unfold Dev.serving Dev.ready Dev.power
  rw [h.on 0x01 F.RST_STAT_ready h1, h.rd 0x02 F.SB_STATE_cur h2]

theorem Dev.barred_congr (h : SameRegs l d e) (h1 : addrOf 0x08 0x040 ∉ l) (m : Master) (p : Nat) : e.barred m p = d.barred m p := by
  unfold Dev.barred
  rw [Dev.frozen_congr h h1]

theorem Dev.stalls_congr (hp : e.prot = d.prot) (hd : e.dm = d.dm) (m : Master) : e.stalls m = d.stalls m := by
  unfold Dev.stalls Dev.queued Dev.postWaits
  rw [hp, hd]

theorem Dev.heard_serving (m : Master) (h : d.heard m = true) : d.serving = true := by
  unfold Dev.heard at h
  exact (Bool.and_eq_true_iff.mp h).1

end

/-! ## Triplicated fields -/

theorem Dev.mem_t3Fields {p off : Nat} {f : Field} (h : f ∈ t3Fields p off) : f.off = off ∧ f.t3 = true := by
  unfold t3Fields at h
  obtain ⟨g, hg, rfl⟩ := List.mem_map.mp h
  exact ⟨rfl, (List.mem_filter.mp hg).2⟩

/-- The T3 bits of a register are those of its T3 fields. -/
theorem bitsWhere_t3 (p off : Nat) :
    bitsWhere p off Field.t3 = (t3Fields p off).foldl (fun w f => w ||| f.mask) 0 := by
  unfold bitsWhere t3Fields
  cases fieldsAt p off with
  | none => rfl
  | some fs =>
    simp only [Option.getD_some, List.foldl_map]
    rw [List.foldl_filter]
    rfl

theorem bitsWhere_t3_one {p off : Nat} {f : Field} (h : t3Fields p off = [f]) : bitsWhere p off Field.t3 = f.mask := by
  rw [bitsWhere_t3, h]
  simp

/-- With one copy of a register upset, the sweep votes its fields. -/
theorem Dev.sweep_one (d : Dev) (a : Nat) (u : Word × Word) (h : d.upset = [(a, u)]) : d.sweep = d.vote a := by
  unfold Dev.sweep
  rw [h]
  rfl

/-- One upset copy is the minority: the field takes the majority's value, which is what it reads as, and the correction counts. -/
theorem Dev.voteField_fixed (d : Dev) (p : Nat) (f : Field) (x : Word) (hx : x &&& f.mask ≠ 0)
    (h : tabGet (fun _ => ((0 : Word), (0 : Word))) d.upset (addrOf p f.off) = (x, 0)) :
    d.voteField p f = ((d.wr p f (d.rd p f)).stat p 3).bump 0x08 F.PROT_T3_FIXED := by
  unfold Dev.voteField
  simp only [h]
  rw [if_neg fun e => hx e.1, if_neg (by simp)]

/-- Putting back what a field holds gives its bits. -/
theorem Field.put_get (f : Field) (w : Word) : f.put 0 (f.get w) &&& f.mask = w &&& f.mask := by
  apply BitVec.eq_of_getLsbD_eq
  intro i hi
  simp only [BitVec.getLsbD_and, f.mask_getLsbD i hi]
  by_cases h : f.lo ≤ i ∧ i < f.lo + f.w
  · have hbit : (f.put 0 (f.get w)).getLsbD i = w.getLsbD i := by
      simp only [Field.put, Field.get, BitVec.ofNat_eq_ofNat, BitVec.zero_and, BitVec.zero_or, BitVec.getLsbD_ofNat, hi,
        decide_true, Bool.true_and, Nat.testBit_two_pow_mul, h.1, Nat.testBit_mod_two_pow, Nat.testBit_div_two_pow]
      rw [show decide (i - f.lo < f.w) = true from decide_eq_true (by omega), Nat.sub_add_cancel h.1]
      rfl
    rw [hbit]
  · have hout : (decide (f.lo ≤ i) && decide (i < f.lo + f.w)) = false := by
      rw [Bool.and_eq_false_iff, decide_eq_false_iff_not, decide_eq_false_iff_not]
      omega
    rw [hout, Bool.and_false, Bool.and_false]

/-- Writing what a field reads as changes no register. -/
theorem Dev.reg_wr_rd (d : Dev) (p : Nat) (f : Field) (a : Nat) : (d.wr p f (d.rd p f)).reg a = d.reg a := by
  by_cases ha : a = addrOf p f.off
  · subst ha
    unfold Dev.wr
    rw [Dev.reg_putBits_same, show d.rd p f = f.get (d.reg (addrOf p f.off)) from rfl, f.put_get]
    ext i
    simp only [BitVec.getElem_or, BitVec.getElem_and, BitVec.getElem_not]
    cases f.mask[i] <;> simp
  · exact d.reg_wr_other p a f _ ha

/-! ### Copies -/

theorem Dev.upset_putBits (d : Dev) (a : Nat) (k w : Word) :
    (d.putBits a k w).upset = tabSet (fun _ => ((0 : Word), (0 : Word))) d.upset a
      ((tabGet (fun _ => ((0 : Word), (0 : Word))) d.upset a).1 &&& ~~~k,
        (tabGet (fun _ => ((0 : Word), (0 : Word))) d.upset a).2 &&& ~~~k) := rfl

section
variable {d : Dev} (h : d.upset = [])
include h

theorem Dev.upset_putBits_nil (a : Nat) (k w : Word) : (d.putBits a k w).upset = [] := by
  rw [d.upset_putBits, h]
  simp [tabSet, tabErase]

theorem Dev.upset_wr_nil (p : Nat) (f : Field) (v : Nat) : (d.wr p f v).upset = [] := Dev.upset_putBits_nil h _ _ _

theorem Dev.upset_request_nil (v : Nat) : (d.request v).upset = [] := by
  unfold Dev.request
  split
  · exact Dev.upset_wr_nil h _ _ _
  · unfold Dev.sendMsix
    split
    · exact h
    · exact h

theorem Dev.upset_stat_nil (p b : Nat) : (d.stat p b).upset = [] := by
  have hput := Dev.upset_putBits_nil h (addrOf p 0x00C) (BitVec.twoPow 32 b) (BitVec.twoPow 32 b)
  rcases Dev.statW_cases d p (BitVec.twoPow 32 b) with e | ⟨v, e⟩
  · exact (congrArg Dev.upset e).trans hput
  · refine (congrArg Dev.upset e).trans ?_
    unfold Dev.irq
    split
    · exact hput
    · exact Dev.upset_request_nil (d := { d.putBits _ _ _ with rose := v :: (d.putBits _ _ _).rose }) hput v

end

/-- A device with copy 2 of a register's field upset. -/
def Dev.oneUpset (d : Dev) (a : Nat) (x : Word) : Dev := { d with upset := [(a, (x, 0))] }

section
variable (d : Dev) (p : Nat) (f : Field) (x : Word)

/-- One upset copy changes no value that is read (R49). -/
theorem Dev.reg_oneUpset (hd : d.upset = []) (a b : Nat) : (d.oneUpset a x).reg b = d.reg b := by
  unfold Dev.reg Dev.raw Dev.oneUpset
  rw [hd]
  by_cases h : a = b <;> simp [tabGet, h]

theorem Dev.upsets_one (hd : d.upset = []) (off : Nat) (ho : off < 65536) (ht : t3Fields p off = [f]) (hx : x &&& f.mask ≠ 0) :
    d.upsets [(addrOf p off, x, 0)] = d.oneUpset (addrOf p off) (x &&& f.mask) := by
  have hne : ¬(x &&& f.mask, (0 : Word) &&& f.mask) = (0, 0) := fun h => hx (congrArg Prod.fst h)
  unfold Dev.upsets
  simp only [List.foldl_cons, List.foldl_nil, addrOf_page p off ho, addrOf_off p off ho, bitsWhere_t3_one ht, hd]
  unfold tabSet
  rw [if_neg hne]
  simp [tabInsert, Dev.oneUpset]

/-- The correction takes the upset away. -/
theorem Dev.upset_corrected (k : Nat) : ((d.oneUpset (addrOf p f.off) (x &&& f.mask)).wr p f k).upset = [] := by
  have hup : (d.oneUpset (addrOf p f.off) (x &&& f.mask)).upset = [(addrOf p f.off, (x &&& f.mask, 0))] := rfl
  have hclear : x &&& f.mask &&& ~~~f.mask = 0 := by
    ext i
    simp
  unfold Dev.wr
  rw [Dev.upset_putBits, hup]
  simp [tabGet, hclear, tabSet, tabErase]

/-- What the sweep makes of one upset copy: the vote's correction of the field. -/
theorem Dev.sweep_fixed (hd : d.upset = []) (off : Nat) (ho : off < 65536) (ht : t3Fields p off = [f]) (hx : x &&& f.mask ≠ 0) :
    (d.upsets [(addrOf p off, x, 0)]).sweep =
      (((d.oneUpset (addrOf p off) (x &&& f.mask)).wr p f ((d.oneUpset (addrOf p off) (x &&& f.mask)).rd p f)).stat p 3).bump
        0x08 F.PROT_T3_FIXED := by
  have hoff : f.off = off := (Dev.mem_t3Fields (ht ▸ List.mem_singleton_self f)).1
  rw [d.upsets_one p f x hd off ho ht hx, Dev.sweep_one _ (addrOf p off) (x &&& f.mask, 0) rfl]
  unfold Dev.vote
  rw [addrOf_page p off ho, addrOf_off p off ho, ht]
  refine Dev.voteField_fixed _ p f (x &&& f.mask) ?_ (by simp [hoff, Dev.oneUpset, tabGet])
  rwa [BitVec.and_assoc, BitVec.and_self]

end

end Sys2Proof.Machine

namespace Sys2Proof.Safety

open Sys2Proof.Machine

/-- A device that serves, in STANDBY, with every other register at its reset value. -/
def justReady : State := ⟨[], Dev.reset.wr 0x01 F.RST_STAT_ready 1, Mem.reset⟩

/-- Refutes O6: the registers at 0x400 to 0xFFF have no aliases (chapter 2, Bit aliases), and the address that their aliases would
have lies on another page. The single-bit place of bit 0 of MSIX_DATA of vector 0 would be an unlisted offset of page 0x18, so that the command
leaves the register 0, where a write of the bit makes it 1. -/
theorem not_aliasWritesAndStatusReads : ¬ Obligations.AliasWritesAndStatusReads := by
  rintro ⟨halias, -⟩
  have hpass : acceptedAlias justReady.dev .mc 0x17 0x408 0 true = true := by decide +kernel
  obtain ⟨e, hgives, he, -⟩ := halias justReady .mc 0x17 0x408 0 true 1 1 (by decide) (by decide) (by decide) (by decide)
    (by decide) (by decide) hpass
  have hcmd : (justReady.withDev (justReady.dev.busWrite .mc (BitVec.ofNat 24 (addrOf 0x17 0x10100)).toNat 1 1)).dev.reg
      (addrOf 0x17 0x408) = 0 := by decide +kernel
  have hwrite : (justReady.withDev (justReady.dev.apply (seen justReady.dev 0x17 0x408
      (aliasWr justReady.dev .mc 0x17 0x408 0 true)))).dev.reg (addrOf 0x17 0x408) = 1 := by decide +kernel
  have hsame : justReady.withDev (justReady.dev.busWrite .mc (BitVec.ofNat 24 (addrOf 0x17 0x10100)).toNat 1 1) =
      justReady.withDev e := Host.Outcome.next.inj hgives
  rw [hsame, he, hwrite] at hcmd
  exact absurd hcmd (by decide)

/-- Settles O16: a claim is a write of PAGE_OWNER, and a second one of the same cycle is refused for the state. -/
theorem pageClaims : Obligations.PageClaims := by
  intro s page w v d p
  have hexec : ∀ ws : List BusWrite, exec (.pageClaim page ws) s = onDev s fun d =>
      ((List.range 8).flatMap fun i => ws.filter fun w => w.m.id == i).foldl (fun e w => Dev.claim d e p w) d := fun _ => rfl
  have hnew : (d.store (seen d p 0x024 w)).reg (addrOf p 0x024) = (seen d p 0x024 w).new :=
    d.reg_store_same p 0x024 w (tsOf_hdr p _ (by decide)) (woBits_owner p)
  refine ⟨fun ha => ⟨d.store (seen d p 0x024 w), ?_, hnew, d.same_store (seen d p 0x024 w)⟩,
    fun ha hown hfree hid hstalls hbarred hwbe hvbe hcause hwv hvv hvo =>
      ⟨(d.store (seen d p 0x024 w)).stateReject p, ?_, ?_, Dev.stat_bit _ p 0 (by decide), ?_⟩⟩
  · refine performs_apply (seen d p 0x024 w) (hexec [w]) ?_ (Dev.effect_owner _ _ _ rfl)
    simp only [byId_one (fun w : BusWrite => w.m.id) w (Dev.master_lt w.m), List.foldl_cons, List.foldl_nil]
    exact (s.dev.claim_first p w).trans (s.dev.writeAt_accepted p 0x024 w (by decide) (by decide) ha)
  · have hacc := (acceptedAs_iff d p 0x024 w _).mp ha
    obtain ⟨hheard, -, -, hf, -⟩ := hacc
    have hsome : (fieldsAt p 0x024).isSome = true := by rw [← Option.not_isNone, hf]; rfl
    have hsame := d.same_apply_owner p w
    have hnothost : v.m ≠ .host := fun e => by rw [e] at hid; exact absurd hid (Nat.not_lt_zero _)
    have hserving : (d.apply (seen d p 0x024 w)).serving = true :=
      (Dev.serving_congr hsame (by simp [addrOf]; omega) (by simp [addrOf]; omega)).trans (Dev.heard_serving w.m hheard)
    have hprot : (d.apply (seen d p 0x024 w)).prot = d.prot := by
      rw [Dev.apply_prot, Dev.effect_owner _ _ _ rfl, Dev.store_prot]
    have hdm : (d.apply (seen d p 0x024 w)).dm = d.dm := by
      rw [Dev.apply_dm, Dev.effect_owner _ _ _ rfl, Dev.store_dm]
    have hsecond := Dev.claim_second d (d.apply (seen d p 0x024 w)) p v hown hfree (d.on_apply_owner p w hsome hown hwbe hwv)
      (Dev.heard_of_serving _ v.m hserving hnothost) ((Dev.stalls_congr hprot hdm v.m).trans hstalls)
      ((Dev.barred_congr hsame (by simp [addrOf]; omega) v.m p).trans hbarred) hvbe hcause hvv hvo
    have hrun : exec (.pageClaim page [v, w]) s = onDev s fun _ => (d.apply (seen d p 0x024 w)).stateReject p := by
      rw [hexec, byId_two (fun w : BusWrite => w.m.id) w v (Dev.master_lt v.m) hid]
      simp only [List.foldl_cons, List.foldl_nil]
      refine congrArg (fun e => Host.Outcome.next (s.withDev e)) ?_
      change Dev.claim d (Dev.claim d d p w) p v = _
      rw [d.claim_first p w, d.writeAt_accepted p 0x024 w (by decide) (by decide) ha]
      exact hsecond
    rcases d.apply_cases (seen d p 0x024 w) with h | h
    · refine .inl (gives_onDev hrun ?_)
      rw [h, Dev.effect_owner _ _ _ rfl]
    · refine .inr (gives_onDev hrun ?_)
      rw [h, Dev.effect_owner _ _ _ rfl]
      exact Dev.statW_modRing _ _ p _
  · exact (Dev.reg_stat _ p 0 _ (addrOf_stat_ne p p 0x024 (by decide) (by decide))
      (by simp [isPba, addrOf, F.MSIX_PBA_LO, F.MSIX_PBA_HI]; omega)).trans hnew
  · exact SameRegs.stat ((d.same_store (seen d p 0x024 w)).mono (List.cons_subset_cons _ (List.nil_subset _))) p 0
      fun _ => List.mem_cons_of_mem _

/-- Settles O17: the one upset copy is outvoted, and the correction is counted. -/
theorem sweepCorrects : Obligations.SweepCorrects := by
  intro s f p off x hs hup
  refine ⟨?_, fun ht hp ho h4 hf hx => ?_⟩
  · refine gives_onLive (f := fun d => (d.upsets []).sweep) rfl hs ?_
    unfold Dev.upsets Dev.sweep
    simp [hup]
  · have hoff : f.off = off := (Dev.mem_t3Fields (ht ▸ List.mem_singleton_self f)).1
    have hrun := s.dev.sweep_fixed p f x hup off (by omega) ht hx
    have hupset := s.dev.upset_corrected p f x
    rw [hoff] at hupset
    have hreg : SameRegs [] s.dev ((s.dev.oneUpset (addrOf p off) (x &&& f.mask)).wr p f
        ((s.dev.oneUpset (addrOf p off) (x &&& f.mask)).rd p f)) := fun a _ =>
      (Dev.reg_wr_rd _ p f a).trans (s.dev.reg_oneUpset _ hup _ a)
    generalize (s.dev.oneUpset (addrOf p off) (x &&& f.mask)).rd p f = k at hrun hreg
    specialize hupset k
    generalize (s.dev.oneUpset (addrOf p off) (x &&& f.mask)).wr p f k = c at hrun hreg hupset
    have hcount : (c.stat p 3).rd 0x08 F.PROT_T3_FIXED = s.dev.rd 0x08 F.PROT_T3_FIXED :=
      ((c.same_stat p 3).rd _ _ (not_mem_statAddrs p 0x08 _ (by decide) (by decide) fun h => absurd h (by decide))).trans
        (hreg.rd _ _ (by simp))
    refine ⟨(c.stat p 3).bump 0x08 F.PROT_T3_FIXED, gives_onLive (f := fun d => (d.upsets _).sweep) rfl hs hrun,
      Dev.upset_wr_nil (Dev.upset_stat_nil hupset p 3) _ _ _, ?_, ?_, ?_⟩
    · rw [(Dev.same_bump _ 0x08 1 F.PROT_T3_FIXED).bit p 0x00C 3 (by simp [addrOf, F.PROT_T3_FIXED]; omega)]
      exact c.stat_bit p 3 (by decide)
    · rw [← hcount]
      exact Dev.rd_wr_fit _ 0x08 F.PROT_T3_FIXED _ (by decide) (by
        have := Nat.two_pow_pos F.PROT_T3_FIXED.w
        omega)
    · exact (SameRegs.stat (hreg.mono (by simp)) p 3 fun _ => List.mem_cons_of_mem _).wr 0x08 F.PROT_T3_FIXED _
        (List.mem_cons_self ..)

end Sys2Proof.Safety
end

section
/-! SUPPORT. Turnstiles and the restart of the MC, and the statements about them. -/
namespace Sys2Proof.Machine

open Sys2Proof.Safety

/-! ## The registers of a Turnstile -/

theorem Field.mask_and_mask (f g : Field) (h : f.lo + f.w ≤ g.lo) : f.mask &&& g.mask = 0 := by
  apply BitVec.eq_of_getLsbD_eq
  intro i hi
  simp only [BitVec.getLsbD_and, f.mask_getLsbD i hi, g.mask_getLsbD i hi, BitVec.ofNat_eq_ofNat, BitVec.getLsbD_zero]
  rw [Bool.and_eq_false_iff, Bool.and_eq_false_iff, Bool.and_eq_false_iff]
  simp only [decide_eq_false_iff_not]
  omega

theorem Field.mask_and_comm (f g : Field) (h : g.lo + g.w ≤ f.lo) : f.mask &&& g.mask = 0 := by
  rw [BitVec.and_comm]
  exact g.mask_and_mask f h

/-- Two fields whose registers or bits are apart do not meet. -/
theorem Dev.rd_wr_apart (d : Dev) (p : Nat) (f g : Field) (v : Nat) (hg : g.lo + g.w ≤ 32)
    (h : g.off ≠ f.off ∨ g.lo + g.w ≤ f.lo ∨ f.lo + f.w ≤ g.lo) : (d.wr p f v).rd p g = d.rd p g := by
  by_cases ho : g.off = f.off
  · refine d.rd_wr_disjoint p f g v ho ?_ hg
    rcases (h.resolve_left fun hne => hne ho) with h | h
    · exact g.mask_and_mask f h
    · exact g.mask_and_comm f h
  · exact d.rd_wr_off p f g v ho

section
variable (n : Nat)

theorem tsState_off : (F.TS_state.at n).off = 0x200 + 4 * n := by
  change 0x200 + n * 4 = _
  omega

theorem tsState_lo : (F.TS_state.at n).lo = 0 := rfl
theorem tsState_w : (F.TS_state.at n).w = 1 := rfl
theorem tsHolder_off : (tsHolder n).off = 0x300 + 4 * (n / 8) := rfl
theorem tsHolder_lo : (tsHolder n).lo = 4 * (n % 8) := rfl
theorem tsHolder_w : (tsHolder n).w = 3 := rfl
theorem tsHeld_off : (tsHeld n).off = 0x300 + 4 * (n / 8) := rfl
theorem tsHeld_lo : (tsHeld n).lo = 4 * (n % 8) + 3 := rfl
theorem tsHeld_w : (tsHeld n).w = 1 := rfl

end

/-- A Turnstile shows a state and a holder. -/
def Dev.tsSet (d : Dev) (n t id : Nat) : Dev := ((d.wr 0x09 (F.TS_state.at n) t).wr 0x09 (tsHolder n) id).wr 0x09 (tsHeld n) t

theorem Dev.acquire_free (d : Dev) (n : Nat) (m : Master) (h : d.taken n = false) : d.acquire n m = (0, d.tsSet n 1 m.id) := by
  unfold Dev.acquire
  rw [if_neg (by simp [h])]
  rfl
theorem Dev.acquire_taken (d : Dev) (n : Nat) (m : Master) (h : d.taken n = true) : d.acquire n m = (1, d) := if_pos h

/-- The addresses of a Turnstile's registers. -/
def tsAddrs (n : Nat) : List Nat := [addrOf 0x09 (0x200 + 4 * n), addrOf 0x09 (0x300 + 4 * (n / 8))]

section
variable (d : Dev) (n t id : Nat)

theorem Dev.same_tsSet : SameRegs (tsAddrs n) d (d.tsSet n t id) :=
  (((SameRegs.refl _ d).wr 0x09 (F.TS_state.at n) t (by rw [tsState_off]; simp [tsAddrs])).wr 0x09 (tsHolder n) id
    (by rw [tsHolder_off]; simp [tsAddrs])).wr 0x09 (tsHeld n) t (by rw [tsHeld_off]; simp [tsAddrs])

theorem Dev.rd_state_tsSet (hn : n < 64) (ht : t < 2) : (d.tsSet n t id).rd 0x09 (F.TS_state.at n) = t := by
  unfold Dev.tsSet
  rw [Dev.rd_wr_off _ _ _ _ _ (by rw [tsState_off, tsHeld_off]; omega),
    Dev.rd_wr_off _ _ _ _ _ (by rw [tsState_off, tsHolder_off]; omega)]
  exact d.rd_wr_fit 0x09 _ t (by rw [tsState_lo, tsState_w]; omega) ht

theorem Dev.taken_tsSet (hn : n < 64) (ht : t < 2) : (d.tsSet n t id).taken n = (t != 0) := by
  unfold Dev.taken Dev.on
  rw [d.rd_state_tsSet n t id hn ht]

theorem Dev.rd_holder_tsSet (hid : id < 8) : (d.tsSet n t id).rd 0x09 (tsHolder n) = id := by
  unfold Dev.tsSet
  rw [Dev.rd_wr_apart _ _ _ _ _ (by rw [tsHolder_lo, tsHolder_w]; omega)
    (.inr (.inl (by rw [tsHolder_lo, tsHolder_w, tsHeld_lo])))]
  exact Dev.rd_wr_fit _ 0x09 _ id (by rw [tsHolder_lo, tsHolder_w]; omega) hid

theorem Dev.rd_held_tsSet (ht : t < 2) : (d.tsSet n t id).rd 0x09 (tsHeld n) = t :=
  Dev.rd_wr_fit _ 0x09 _ t (by rw [tsHeld_lo, tsHeld_w]; omega) ht

/-- The other Turnstiles keep their states and holders. -/
theorem Dev.tsSet_other (j : Nat) (hn : n < 64) (hj : j < 64) (h : j ≠ n) :
    (d.tsSet n t id).taken j = d.taken j ∧ (d.tsSet n t id).rd 0x09 (tsHolder j) = d.rd 0x09 (tsHolder j) := by
  constructor
  · unfold Dev.taken
    refine (d.same_tsSet n t id).on 0x09 _ ?_
    simp only [tsState_off, tsAddrs, List.mem_cons, List.not_mem_nil, or_false, addrOf]
    omega
  · have ho := tsHolder_off
    have hl := tsHolder_lo
    have hw := tsHolder_w
    have hfit : (tsHolder j).lo + (tsHolder j).w ≤ 32 := by rw [hl, hw]; omega
    unfold Dev.tsSet
    rw [Dev.rd_wr_apart _ _ _ _ _ hfit (by rw [ho, hl, hw, tsHeld_off, tsHeld_lo, tsHeld_w]; omega),
      Dev.rd_wr_apart _ _ _ _ _ hfit (by rw [ho, ho, hl, hl, hw, hw]; omega),
      Dev.rd_wr_off _ _ _ _ _ (by rw [ho, tsState_off]; omega)]

end

/-! ## Accesses of a Turnstile -/

section
variable (n : Fin 64)

theorem fieldsAt_ts : fieldsAt 0x09 (0x200 + 4 * n.val) = some [F.TS_state] := by
  revert n
  decide +kernel

theorem tsOf_ts : tsOf 0x09 (0x200 + 4 * n.val) = some n.val := by
  unfold tsOf
  rw [if_pos (by omega)]
  congr 1
  omega

theorem bitsWhere_ts (q : Field → Bool) : bitsWhere 0x09 (0x200 + 4 * n.val) q = if q F.TS_state then F.TS_state.mask else 0 :=
  bitsWhere_one (fieldsAt_ts n) q

/-- A Turnstile has no T3 field to vote. -/
theorem Dev.vote_ts (d : Dev) : d.vote (addrOf 0x09 (0x200 + 4 * n.val)) = d := by
  unfold Dev.vote
  rw [addrOf_page _ _ (by omega), addrOf_off _ _ (by omega), show t3Fields 0x09 (0x200 + 4 * n.val) = [] from by
    unfold t3Fields
    rw [fieldsAt_ts]
    rfl]
  rfl

/-- Anyone reads a Turnstile's register as it stands. -/
theorem Dev.readWord_ts (d : Dev) (m : Master) :
    d.readWord m 0x09 (0x200 + 4 * n.val) = d.reg (addrOf 0x09 (0x200 + 4 * n.val)) := by
  unfold Dev.readWord
  rw [fieldsAt_ts]
  simp only [bitsWhere_ts]
  rw [if_neg (by omega), if_neg (by simp [F.TS_state])]
  unfold Dev.view
  rw [if_neg (by omega)]
  exact BitVec.and_allOnes

theorem Dev.taken_bit (d : Dev) : (d.reg (addrOf 0x09 (0x200 + 4 * n.val))).getLsbD 0 = d.taken n.val := by
  unfold Dev.taken Dev.on Dev.rd
  rw [tsState_off]
  generalize d.reg _ = w
  change w.toNat.testBit 0 = (w.toNat / 2 ^ 0 % 2 ^ 1 != 0)
  rw [Nat.testBit_zero]
  rcases Nat.mod_two_eq_zero_or_one w.toNat with h | h <;> simp [h]

end

/-- Where bit `j` of a Turnstile has its place of its own (R26). -/
def tsAlias (k j : Nat) : Nat := 0x8000 + (0x200 + 4 * k) / 4 * 128 + 4 * j

theorem tsAlias_lt (n : Fin 64) {j : Nat} (hj : j < 32) : tsAlias n.val j < 65536 := by
  unfold tsAlias
  omega

theorem tsAlias_mod (k j : Nat) : tsAlias k j % 4 = 0 := by
  unfold tsAlias
  omega

section
variable {d : Dev} {n : Fin 64} {r : BusRead} (h : readable d 0x09 (0x200 + 4 * n.val) r = true)
include h

theorem readable_heard : d.heard r.m = true ∧ d.stalls r.m = false ∧ d.barred r.m 0x09 = false ∧ r.be ≠ 0 := by
  unfold readable at h
  simp only [Bool.and_eq_true, Bool.not_eq_true', bne_iff_ne] at h
  obtain ⟨⟨⟨⟨h1, h2⟩, h3⟩, -⟩, h5⟩ := h
  exact ⟨h1, h2, h3, h5⟩

/-- A served read of a Turnstile's word. -/
theorem Dev.readAt_ts :
    d.readAt 0x09 (0x200 + 4 * n.val) r =
      if r.be.getLsbD 0 = true then (d.acquire n.val r.m).2.answerRead r.m (d.acquire n.val r.m).1
      else d.answerRead r.m (d.reg (addrOf 0x09 (0x200 + 4 * n.val))) := by
  obtain ⟨hheard, hstalls, hbarred, hbe⟩ := readable_heard h
  have hw : addrOf 0x09 (0x200 + 4 * n.val) % 65536 / 4 * 4 = 0x200 + 4 * n.val := addrOf_word (by omega) (by omega)
  unfold Dev.readAt Dev.busRead Dev.readNow Dev.readWith
  simp only [hheard, hstalls, addrOf_page 0x09 (0x200 + 4 * n.val) (by omega), hw, hbarred, fieldsAt_ts, hbe, d.vote_ts n, tsOf_ts,
    d.readWord_ts n, Bool.not_true, Bool.false_eq_true, if_false, Option.isNone_some]
  rw [if_pos (by omega)]
  split <;> rfl

theorem Dev.busRead_alias (j : Nat) (hj : j < 32) :
    d.busRead r.m (addrOf 0x09 (tsAlias n.val j)) r.be =
      if j = 0 then (d.acquire n.val r.m).2.answerRead r.m (d.acquire n.val r.m).1 else d.answerRead r.m 0 := by
  obtain ⟨hheard, hstalls, hbarred, hbe⟩ := readable_heard h
  have ho : tsAlias n.val j < 65536 := tsAlias_lt n hj
  have hw : addrOf 0x09 (tsAlias n.val j) % 65536 / 4 * 4 = tsAlias n.val j := by
    rw [addrOf_off _ _ ho]
    unfold tsAlias
    omega
  have hoff : (tsAlias n.val j - 0x8000) / 128 * 4 = 0x200 + 4 * n.val := by unfold tsAlias; omega
  have hbit : (tsAlias n.val j - 0x8000) % 128 / 4 = j := by unfold tsAlias; omega
  unfold Dev.busRead Dev.readNow Dev.readAlias
  simp only [hheard, hstalls, addrOf_page 0x09 _ ho, hw, hbarred, hoff, hbit, fieldsAt_ts, hbe, d.vote_ts n, tsOf_ts,
    Bool.not_true, Bool.false_eq_true, if_false, Option.isNone_some]
  rw [if_neg (by unfold tsAlias; omega), if_pos (by unfold tsAlias; omega)]
  split <;> rfl

end

theorem span_lanes (r : BusRead) : ((span r).lanes.map fun b => (b, (0 : Byte))) = lanes ⟨r.m, r.be, 0⟩ := by
  unfold span beLanes lanes
  simp

/-- A read of a word's four lanes is one read, and ends a cycle. -/
theorem Dev.readBytes_span (d : Dev) {p off : Nat} {r : BusRead} (hp : p < 256) (ho : off < 0x10000) (h4 : off % 4 = 0) :
    d.readBytes (span r).m (BitVec.ofNat 24 (addrOf p off)).toNat (span r).lanes = (d.busRead r.m (addrOf p off) r.be).cycle := by
  have ha : addrOf p off % 4 = 0 := by
    unfold addrOf
    omega
  have hlanes : ((span r).lanes.map fun b => (b, (0 : Byte))) = lanes ⟨r.m, r.be, 0⟩ := span_lanes r
  unfold Dev.readBytes
  rw [toNat_addrOf p off hp ho, hlanes, split_lanes _ _ ha]
  simp only [List.foldl_cons, List.foldl_nil, Nat.mod_eq_of_lt (addrOf_lt p off hp ho)]
  rfl

theorem exec_rcRead (addr : BitVec 24) (r : SpanRead) (s : State) :
    exec (.rcRead addr r) s = onDev s fun d => d.readBytes r.m addr.toNat r.lanes := rfl

/-- The reads of a cycle by ascending master ID. -/
theorem exec_turnstileAcquire (n : Fin 64) (rs : List BusRead) (s : State) :
    exec (.turnstileAcquire n rs) s = onDev s fun d =>
      ((List.range 8).flatMap fun i => rs.filter fun r => r.m.id == i).foldl
        (fun d r => d.readAt 0x09 (0x200 + 4 * n.val) r) d := rfl

theorem gives_acquire_one {s : State} (n : Fin 64) (r : BusRead) :
    Gives (.turnstileAcquire n [r]) s (s.dev.readAt 0x09 (0x200 + 4 * n.val) r) := by
  refine gives_onDev (exec_turnstileAcquire n [r] s) ?_
  rw [byId_one (fun r : BusRead => r.m.id) r (Dev.master_lt r.m)]
  rfl

theorem gives_acquire_two {s : State} (n : Fin 64) (r q : BusRead) (h : r.m.id < q.m.id) :
    Gives (.turnstileAcquire n [q, r]) s
      ((s.dev.readAt 0x09 (0x200 + 4 * n.val) r).readAt 0x09 (0x200 + 4 * n.val) q) := by
  refine gives_onDev (exec_turnstileAcquire n [q, r] s) ?_
  rw [byId_two (fun r : BusRead => r.m.id) r q (Dev.master_lt q.m) h]
  rfl

theorem Dev.heard_congr {l : List Nat} {d e : Dev} (h : SameRegs l d e) (h1 : addrOf 0x01 0x040 ∉ l) (h2 : addrOf 0x02 0x040 ∉ l)
    (h3 : addrOf 0x14 F.HL_STAT_gen.off ∉ l) (he : e.ep = d.ep) (m : Master) : e.heard m = d.heard m := by
  unfold Dev.heard Dev.linkGen
  rw [Dev.serving_congr h h1 h2, h.rd 0x14 F.HL_STAT_gen h3, he]

/-- A Turnstile just taken stays open to other readers. -/
theorem readable_tsSet {d : Dev} {n : Fin 64} {q : BusRead} (t id : Nat) (h : readable d 0x09 (0x200 + 4 * n.val) q = true)
    (m : Master) (w : Word) : readable ((d.tsSet n.val t id).answerRead m w) 0x09 (0x200 + 4 * n.val) q = true := by
  have hs : SameRegs (tsAddrs n.val) d ((d.tsSet n.val t id).answerRead m w) := d.same_tsSet n.val t id
  have hout : ∀ p off, p ≠ 0x09 → off < 65536 → addrOf p off ∉ tsAddrs n.val := fun p off hp ho => by
    simp only [tsAddrs, List.mem_cons, List.not_mem_nil, or_false, addrOf]
    omega
  rw [← h]
  unfold readable
  rw [Dev.heard_congr hs (hout _ _ (by decide) (by decide)) (hout _ _ (by decide) (by decide)) (hout _ _ (by decide) (by decide)) rfl,
    Dev.stalls_congr (d := d) (e := (d.tsSet n.val t id).answerRead m w) rfl rfl q.m, Dev.barred_congr hs (hout _ _ (by decide) (by decide))]

/-- A write of 0 to a Turnstile releases it, and stores nothing besides. -/
theorem Dev.effect_ts (d : Dev) (n : Fin 64) (w : BusWrite) (hbe : w.be.getLsbD 0 = true) (hdata : w.data.getLsbD 0 = false) :
    Dev.blockEffect d (d.store (seen d 0x09 (0x200 + 4 * n.val) w)) (seen d 0x09 (0x200 + 4 * n.val) w) = d.tsSet n.val 0 0 := by
  have hts : tsOf (seen d 0x09 (0x200 + 4 * n.val) w).p (seen d 0x09 (0x200 + 4 * n.val) w).off = some n.val := tsOf_ts n
  have hstore : d.store (seen d 0x09 (0x200 + 4 * n.val) w) = d := by
    unfold Dev.store
    rw [hts]
    rfl
  have hcan : d.canWrite w.m 0x09 (0x200 + 4 * n.val) F.TS_state = true := by
    have h1 : (0x200 + 4 * n.val == 0x020) = false := beq_eq_false_iff_ne.mpr (by omega)
    have h2 : (0x200 + 4 * n.val == 0x024) = false := beq_eq_false_iff_ne.mpr (by omega)
    have h3 : (0x200 + 4 * n.val == 0x008) = false := beq_eq_false_iff_ne.mpr (by omega)
    unfold Dev.canWrite
    rw [h1, h2, h3]
    rfl
  have hmask : (d.writeMask w.m 0x09 (0x200 + 4 * n.val) &&& beMask w.be).getLsbD 0 = true := by
    unfold Dev.writeMask
    rw [bitsWhere_ts, if_pos hcan, if_neg (by omega)]
    unfold beMask
    rw [hbe]
    simp [F.TS_state, Field.mask]
  have hnew : (seen d 0x09 (0x200 + 4 * n.val) w).new.getLsbD 0 = false := by
    change ((d.reg _ &&& ~~~(d.writeMask w.m 0x09 (0x200 + 4 * n.val) &&& beMask w.be)) |||
      (w.data &&& (d.writeMask w.m 0x09 (0x200 + 4 * n.val) &&& beMask w.be))).getLsbD 0 = false
    rw [BitVec.getLsbD_or, BitVec.getLsbD_and, BitVec.getLsbD_and, BitVec.getLsbD_not, hmask, hdata]
    simp
  rw [hstore]
  change (match tsOf (seen d 0x09 (0x200 + 4 * n.val) w).p (seen d 0x09 (0x200 + 4 * n.val) w).off with
    | some k => if (w.be.getLsbD 0 && !(seen d 0x09 (0x200 + 4 * n.val) w).new.getLsbD 0) = true then d.release k else d
    | none => d) = _
  rw [hts, hnew, hbe]
  rfl

end Sys2Proof.Machine

namespace Sys2Proof.Safety

open Sys2Proof.Machine

/-- Settles O15: a Turnstile is taken by the first reader, shown to the others, and freed by a write of 0. -/
theorem turnstilesLock : Obligations.TurnstilesLock := by
  intro s n r q w d off alias_ mine
  have hmine : ∀ (m : Master) (e : Dev), e.regs = (d.tsSet n.val 1 m.id).regs → e.upset = (d.tsSet n.val 1 m.id).upset → mine e m := by
    intro m e hr hu
    have hreg : SameRegs [] (d.tsSet n.val 1 m.id) e := Dev.same_of_eq _ _ hr hu
    refine ⟨(hreg.on _ _ (by simp)).trans (d.taken_tsSet n.val 1 m.id n.isLt (by decide)),
      (hreg.rd _ _ (by simp)).trans (d.rd_holder_tsSet n.val 1 m.id (Dev.master_lt m)),
      (hreg.rd _ _ (by simp)).trans (d.rd_held_tsSet n.val 1 m.id (by decide)),
      (d.same_tsSet n.val 1 m.id).step hreg (by simp)⟩
  have halias : ∀ j, j < 32 → readable d 0x09 off r = true →
      Gives (.rcRead (alias_ j) (span r)) s (d.busRead r.m (addrOf 0x09 (tsAlias n.val j)) r.be).cycle := fun j hj _ =>
    gives_onDev (exec_rcRead _ _ s) (d.readBytes_span (by decide) (tsAlias_lt n hj) (tsAlias_mod n.val j))
  refine ⟨fun hr hbe hfree => ?_, fun hr hbe htaken => ?_, fun hr hbe => ?_, fun hr => ⟨?_, fun j h1 hj => ?_⟩,
    fun hr hq hrbe hqbe hid hfree => ?_, fun ha hbe hdata => ?_⟩
  · refine ⟨_, gives_acquire_one n r, ?_⟩
    rw [Dev.readAt_ts hr, if_pos hbe, Dev.acquire_free _ _ _ hfree]
    exact ⟨rfl, hmine r.m _ rfl rfl⟩
  · refine ⟨_, gives_acquire_one n r, ?_⟩
    rw [Dev.readAt_ts hr, if_pos hbe, Dev.acquire_taken _ _ _ htaken]
    exact ⟨rfl, fun _ _ => rfl⟩
  · refine ⟨_, gives_acquire_one n r, ?_⟩
    rw [Dev.readAt_ts hr, if_neg (by rw [hbe]; exact Bool.false_ne_true)]
    exact ⟨d.taken_bit n, fun _ _ => rfl⟩
  · have hone : readable d 0x09 off ⟨r.m, 1⟩ = true := by
      unfold readable at hr ⊢
      simp only [Bool.and_eq_true] at hr ⊢
      exact ⟨hr.1, rfl⟩
    have hread := halias 0 (by decide) hr
    rw [Dev.busRead_alias hr 0 (by decide), if_pos rfl] at hread
    refine ⟨_, hread, ?_⟩
    have hacq := gives_acquire_one (s := s) n ⟨r.m, 1⟩
    rw [Dev.readAt_ts hone, if_pos (show (1 : BitVec 4).getLsbD 0 = true by decide)] at hacq
    exact hacq
  · have hread := halias j hj hr
    rw [Dev.busRead_alias hr j hj, if_neg (by omega)] at hread
    exact ⟨_, hread, rfl, fun _ _ => rfl⟩
  · refine ⟨_, gives_acquire_two n r q hid, ?_⟩
    have hfirst : d.readAt 0x09 off r = (d.tsSet n.val 1 r.m.id).answerRead r.m 0 := by
      rw [Dev.readAt_ts hr, if_pos hrbe, Dev.acquire_free _ _ _ hfree]
    have htaken : ((d.tsSet n.val 1 r.m.id).answerRead r.m 0).taken n.val = true :=
      d.taken_tsSet n.val 1 r.m.id n.isLt (by decide)
    rw [hfirst, Dev.readAt_ts (readable_tsSet 1 r.m.id hq r.m 0), if_pos hqbe, Dev.acquire_taken _ _ _ htaken]
    exact ⟨rfl, hmine r.m _ rfl rfl⟩
  · refine ⟨_, performs_block rfl (by omega) (by omega) ha (by omega) ?_ (d.effect_ts n w hbe hdata),
      d.taken_tsSet n.val 0 0 n.isLt (by decide), d.rd_holder_tsSet n.val 0 0 (by decide), d.rd_held_tsSet n.val 0 0 (by decide),
      d.same_tsSet n.val 0 0⟩
    rw [bitsWhere_ts]
    rfl

end Sys2Proof.Safety
end

section
/-! SUPPORT. The restart of the MC by its watchdog. -/
namespace Sys2Proof.Machine

open Sys2Proof.Safety

/-! ## What the restart's parts leave alone -/

/-- What each step of a fold keeps, the fold keeps. -/
theorem foldl_keeps {α β : Type} {step : Dev → α → Dev} (g : Dev → β) (xs : List α)
    (h : ∀ d, ∀ x ∈ xs, g (step d x) = g d) (d : Dev) : g (xs.foldl step d) = g d := by
  induction xs generalizing d with
  | nil => rfl
  | cons x xs ih => exact (ih (fun d y hy => h d y (List.mem_cons_of_mem _ hy)) _).trans (h d x (List.mem_cons_self ..))

section
variable {d e : Dev} {A : Nat → Prop}

theorem Within.frozen (h : Within A d e) (hA : ¬A (addrOf 0x08 0x040)) (k : Master) : e.frozen k = d.frozen k := by
  unfold Dev.frozen Dev.has
  rw [h.rd 0x08 F.PROT_FROZEN_mask hA]

end

/-! ## The Turnstiles a master holds -/

/-- A Turnstile that a master holds is released. -/
def releaseIf (m : Master) (d : Dev) (n : Nat) : Dev := if d.taken n && d.rd 0x09 (tsHolder n) == m.id then d.release n else d

section
variable (d : Dev) (m : Master)

theorem Dev.releaseHeld_eq : d.releaseHeld m = (List.range 64).foldl (releaseIf m) d := rfl

/-- The registers of the Turnstiles. -/
def TurnReg (a : Nat) : Prop := a / 65536 = 0x09

theorem Dev.within_releaseIf {n : Nat} (hn : n < 64) : Within TurnReg d (releaseIf m d n) := by
  have hp : ∀ off, off < 65536 → TurnReg (addrOf 0x09 off) := fun off ho => addrOf_page 0x09 off ho
  unfold releaseIf
  split
  · exact (((Within.refl d).wr _ (F.TS_state.at n) _ (hp _ (by rw [tsState_off]; omega))).wr _ (tsHolder n) _
      (hp _ (by rw [tsHolder_off]; omega))).wr _ (tsHeld n) _ (hp _ (by rw [tsHeld_off]; omega))
  · exact .refl d

theorem Dev.within_releaseHeld : Within TurnReg d (d.releaseHeld m) :=
  Within.fold id (releaseIf m) _ (fun e _ hn => e.within_releaseIf m (List.mem_range.mp hn)) d

theorem Dev.releaseIf_own {n : Nat} (hn : n < 64) (h : d.taken n = true → d.rd 0x09 (tsHolder n) = m.id) :
    (releaseIf m d n).taken n = false := by
  unfold releaseIf
  split
  · exact d.taken_tsSet n 0 0 hn (by decide)
  next hc =>
    refine Bool.eq_false_iff.mpr fun ht => hc ?_
    rw [ht, h ht, beq_self_eq_true]
    rfl

theorem Dev.releaseIf_other {n j : Nat} (hn : n < 64) (hj : j < 64) (h : j ≠ n) :
    (releaseIf m d n).taken j = d.taken j ∧ (releaseIf m d n).rd 0x09 (tsHolder j) = d.rd 0x09 (tsHolder j) := by
  unfold releaseIf
  split
  · exact d.tsSet_other n 0 0 j hn hj h
  · exact ⟨rfl, rfl⟩

/-- None of the Turnstiles that the master held is taken after its release. -/
theorem Dev.taken_releaseHeld (n : Nat) (hn : n < 64) (hh : d.rd 0x09 (tsHolder n) = m.id) : (d.releaseHeld m).taken n = false := by
  rw [Dev.releaseHeld_eq]
  refine foldl_establishes (I := fun e => e.taken n = true → e.rd 0x09 (tsHolder n) = m.id)
    (Q := fun k e => k = n → e.taken k = false) (List.range 64) (fun e j hj hI => ?_) (fun e j hj hI hjn => ?_)
    (fun e j hj k hk hI hQ hkn => ?_) d (fun _ => hh) n (.inl (List.mem_range.mpr hn)) rfl
  · by_cases e1 : n = j
    · subst e1
      rw [e.releaseIf_own m hn hI]
      exact fun hc => absurd hc (by decide)
    · obtain ⟨h1, h2⟩ := e.releaseIf_other m (List.mem_range.mp hj) hn e1
      rwa [h1, h2]
  · subst hjn
    exact e.releaseIf_own m hn hI
  · subst hkn
    rw [(e.releaseIf_other m (List.mem_range.mp hj) hn hk).1]
    exact hQ rfl

theorem Dev.releaseHeld_prot : (d.releaseHeld m).prot = d.prot :=
  foldl_keeps (step := releaseIf m) Dev.prot _ (fun e n _ => by unfold releaseIf; split <;> rfl) d

theorem Dev.releaseHeld_sec : (d.releaseHeld m).sec = d.sec :=
  foldl_keeps (step := releaseIf m) Dev.sec _ (fun e n _ => by unfold releaseIf; split <;> rfl) d

theorem Dev.releaseHeld_mail : (d.releaseHeld m).mail = d.mail :=
  foldl_keeps (step := releaseIf m) Dev.mail _ (fun e n _ => by unfold releaseIf; split <;> rfl) d

end

/-! ## The channels that a receiver returns -/

/-- A taken channel returns to POSTED. -/
def Dev.retakeOne (d : Dev) (ch : Nat) : Dev := (d.setMbState ch 1).wr (mbPage ch) (mf ch F.MB_STAT_retaken) 1

/-- The taken channels of a receiver. -/
def Dev.takenBy (d : Dev) (m : Master) : List Nat :=
  (List.range 64).filter fun ch => d.mbBound ch && d.mbReceiver ch == m && d.mbState ch == 2

theorem Dev.mem_takenBy {d : Dev} {m : Master} {ch : Nat} (h : ch ∈ d.takenBy m) : ch < 64 ∧ d.mbState ch = 2 := by
  obtain ⟨h1, h2⟩ := List.mem_filter.mp h
  simp only [Bool.and_eq_true, beq_iff_eq] at h2
  exact ⟨List.mem_range.mp h1, h2.2⟩

/-- The status words of the channels. -/
def MbStatReg (a : Nat) : Prop := 0x0C ≤ a / 65536 ∧ a / 65536 < 0x10 ∧ a % 128 = 0x50

theorem mbStat_off (ch : Nat) : (mf ch F.MB_STAT_state).off = 0x450 + ch % 16 * 128 := rfl

theorem mbData_off (ch k : Nat) : (F.MB_DATA.at2 (ch % 16) k).off = 0x400 + ch % 16 * 128 + k * 4 := rfl
theorem mbAck_off (ch : Nat) : (mf ch F.MB_ACK_code).off = 0x44C + ch % 16 * 128 := rfl
theorem mbAckSeq_off (ch : Nat) : (mf ch F.MB_ACK_seq).off = 0x44C + ch % 16 * 128 := rfl

theorem mbStatReg (ch : Nat) (h : ch < 64) : MbStatReg (addrOf (mbPage ch) (0x450 + ch % 16 * 128)) := by
  unfold MbStatReg mbPage addrOf
  omega

section
variable (d : Dev)

theorem Dev.within_retakeOne {ch : Nat} (h : ch < 64) : Within MbStatReg d (d.retakeOne ch) :=
  ((Within.refl d).wr _ _ _ (mbStatReg ch h)).wr _ _ _ (mbStatReg ch h)

theorem Dev.mbState_retakeOne {ch k : Nat} (h : ch < 64) (hk : k < 64) (hne : k ≠ ch) : (d.retakeOne ch).mbState k = d.mbState k := by
  have ha : addrOf (mbPage k) (mf k F.MB_STAT_state).off ≠ addrOf (mbPage ch) (0x450 + ch % 16 * 128) := by
    rw [mbStat_off]
    unfold mbPage addrOf
    omega
  unfold Dev.mbState Dev.retakeOne Dev.setMbState
  rw [Dev.rd_wr_other _ _ _ _ _ _ ha, Dev.rd_wr_other _ _ _ _ _ _ ha]

variable (m : Master)

theorem Dev.within_retake : Within MbStatReg d (d.retake m) := by
  have h := Within.fold id Dev.retakeOne (d.takenBy m) (fun e _ hc => e.within_retakeOne (Dev.mem_takenBy hc).1) d
  exact h.trans ⟨fun _ _ => rfl, rfl, rfl⟩

/-- A channel that is not TAKEN keeps its state. -/
theorem Dev.mbState_retake {ch : Nat} (h : ch < 64) (hne : d.mbState ch ≠ 2) : (d.retake m).mbState ch = d.mbState ch :=
  foldl_keeps (fun e => e.mbState ch) (d.takenBy m) (fun e _ hk => e.mbState_retakeOne (Dev.mem_takenBy hk).1 h
    fun heq => hne (heq ▸ (Dev.mem_takenBy hk).2)) d

theorem Dev.retake_prot : (d.retake m).prot = d.prot := foldl_keeps (step := Dev.retakeOne) Dev.prot (d.takenBy m) (fun _ _ _ => rfl) d
theorem Dev.retake_sec : (d.retake m).sec = d.sec := foldl_keeps (step := Dev.retakeOne) Dev.sec (d.takenBy m) (fun _ _ _ => rfl) d
theorem Dev.retake_notes : (d.retake m).mail.notes = d.mail.notes :=
  foldl_keeps (step := Dev.retakeOne) (fun e => e.mail.notes) (d.takenBy m) (fun _ _ _ => rfl) d

end

/-! ## The restart -/

/-- The registers that the MC's restart may change. -/
def RestartReg (a : Nat) : Prop := TurnReg a ∨ a = addrOf 0x08 0x040 ∨ MbStatReg a

section
variable (d : Dev)

theorem Dev.within_thaw (m : Master) : Within (· = addrOf 0x08 0x040) d (d.thaw m) :=
  (Within.fbit (A := (· = addrOf 0x08 0x040)) (.refl d) 0x08 F.PROT_FROZEN_mask m.id false rfl).trans ⟨fun _ _ => rfl, rfl, rfl⟩

/-- The MC after its Turnstiles are released and it is thawed. -/
def Dev.mcThawed : Dev := (d.releaseHeld .mc).thaw .mc

theorem Dev.within_mcThawed : Within (fun a => TurnReg a ∨ a = addrOf 0x08 0x040) d d.mcThawed :=
  ((d.within_releaseHeld .mc).mono fun _ => .inl).trans (((d.releaseHeld .mc).within_thaw .mc).mono fun _ => .inr)

theorem Dev.within_mcRestart : Within RestartReg d d.mcRestart := by
  have h : Within RestartReg d (d.mcThawed.retake .mc) :=
    (d.within_mcThawed.mono fun _ h => h.elim .inl fun h => .inr (.inl h)).trans
      ((d.mcThawed.within_retake .mc).mono fun _ h => .inr (.inr h))
  exact h.trans ⟨fun _ _ => rfl, rfl, rfl⟩

/-- Pages 0x00 to 0x07 and 0x10 upwards are none of the restart's. -/
theorem not_restartReg {a : Nat} (h : a / 65536 < 0x08 ∨ 0x10 ≤ a / 65536) : ¬RestartReg a := by
  unfold RestartReg TurnReg MbStatReg addrOf
  omega

theorem not_restartReg_mb {ch off : Nat} (hc : ch < 64) (ho : off < 65536) (hm : off % 128 ≠ 0x50) :
    ¬RestartReg (addrOf (mbPage ch) off) := by
  unfold RestartReg TurnReg MbStatReg addrOf mbPage
  omega

theorem Dev.mcRestart_frozen (k : Master) : d.mcRestart.frozen k = (d.frozen k && !(k == .mc)) := by
  have h1 : d.mcRestart.frozen k = d.mcThawed.frozen k :=
    (d.mcThawed.within_retake .mc).frozen (by unfold MbStatReg addrOf; omega) k
  rw [h1, Dev.mcThawed, Dev.frozen_thaw, (d.within_releaseHeld .mc).frozen (by unfold TurnReg addrOf; omega)]

theorem Dev.mcRestart_taken (n : Nat) (hn : n < 64) (hh : d.rd 0x09 (tsHolder n) = Master.mc.id) : d.mcRestart.taken n = false := by
  have hrest : Within (fun a => ¬TurnReg a) (d.releaseHeld .mc) d.mcRestart :=
    (((d.releaseHeld .mc).within_thaw .mc).mono fun a ha => by subst ha; unfold TurnReg addrOf; omega).trans
      (((d.mcThawed.within_retake .mc).mono fun a ha => by unfold MbStatReg at ha; unfold TurnReg; omega).trans
        ⟨fun _ _ => rfl, rfl, rfl⟩)
  have hreg := hrest.rd 0x09 (F.TS_state.at n) (fun h => h (addrOf_page 0x09 _ (by rw [tsState_off]; omega)))
  have h0 := d.taken_releaseHeld .mc n hn hh
  unfold Dev.taken Dev.on at h0 ⊢
  rw [hreg, h0]

theorem Dev.mcRestart_mbState {ch : Nat} (h : ch < 64) (hne : d.mbState ch ≠ 2) : d.mcRestart.mbState ch = d.mbState ch := by
  have h1 : d.mcThawed.mbState ch = d.mbState ch := d.within_mcThawed.rd _ _ (by
    rw [mbStat_off]
    unfold TurnReg addrOf mbPage
    omega)
  exact (d.mcThawed.mbState_retake .mc h (h1 ▸ hne)).trans h1

theorem Dev.mcRestart_stalled : d.mcRestart.prot.stalled = d.prot.stalled.filter fun h => h.master != .mc := by
  change ((d.mcThawed.retake .mc).prot.stalled.filter _) = _
  rw [Dev.retake_prot]
  change ((d.releaseHeld .mc).prot.stalled.filter _) = _
  rw [Dev.releaseHeld_prot]

theorem Dev.mcRestart_sec : d.mcRestart.sec = d.sec := (d.mcThawed.retake_sec .mc).trans (d.releaseHeld_sec .mc)

theorem Dev.mcRestart_notes : d.mcRestart.mail.notes = d.mail.notes :=
  (d.mcThawed.retake_notes .mc).trans (congrArg Mail.notes (d.releaseHeld_mail .mc))

/-- The watchdog's reset: the restart, its count and its notification. -/
theorem Dev.watchdog_frozen (hs : d.serving = true) (hb : d.rd 0x01 F.RST_STAT_boot ≠ 2) (hf : d.frozen .mc = true) :
    d.watchdog = { d.mcRestart with
      sec := { d.mcRestart.sec with mcResets := d.mcRestart.sec.mcResets + 1 }
      mail := { d.mcRestart.mail with
        notes := d.mcRestart.mail.notes ++ [(0x8002, BitVec.ofNat 32 (d.mcRestart.sec.mcResets + 1))] } } := by
  refine if_pos ?_
  rw [hs, hf, bne_iff_ne.mpr hb]
  rfl

end

theorem exec_mcWatchdogReset (s : State) : exec .mcWatchdogReset s = onDev s Dev.watchdog := rfl

end Sys2Proof.Machine

namespace Sys2Proof.Safety

open Sys2Proof.Machine

/-- Settles O14: the watchdog's reset is a restart that keeps what the mailbox and page 0x10 hold. -/
theorem watchdogRestartsMc : Obligations.WatchdogRestartsMc := by
  intro s hserv hboot hfrozen
  have hw := s.dev.within_mcRestart
  have hrun : s.dev.mcRestart.mcRuns = true := by
    unfold Dev.mcRuns Dev.serving Dev.ready Dev.power Dev.on
    rw [s.dev.mcRestart_frozen, hw.rd _ _ (not_restartReg (by decide)), hw.rd _ _ (not_restartReg (by decide)),
      hw.rd _ _ (not_restartReg (by decide)), bne_iff_ne.mpr hboot]
    unfold Dev.serving Dev.ready Dev.power Dev.on at hserv
    rw [hserv, hfrozen]
    rfl
  refine ⟨_, gives_onDev (exec_mcWatchdogReset s) (s.dev.watchdog_frozen hserv hboot hfrozen), ?_, fun k hk => ?_,
    fun n hn _ hh => s.dev.mcRestart_taken n hn hh, s.dev.mcRestart_stalled, hrun,
    fun a ha => hw.reg a (not_restartReg (.inr (by omega))), ?_, fun ch hch => ⟨s.dev.mcRestart_mbState hch, fun k hk => ?_, ?_, ?_⟩, ?_⟩
  · exact (s.dev.mcRestart_frozen .mc).trans (by simp)
  · exact (s.dev.mcRestart_frozen k).trans (by simp [hk])
  · change { s.dev.mcRestart.sec with mcResets := s.dev.mcRestart.sec.mcResets + 1 } = _
    rw [s.dev.mcRestart_sec]
  · refine hw.reg _ (not_restartReg_mb hch ?_ ?_) <;> rw [mbData_off] <;> omega
  · exact hw.rd _ _ (not_restartReg_mb hch (by rw [mbAck_off]; omega) (by rw [mbAck_off]; omega))
  · exact hw.rd _ _ (not_restartReg_mb hch (by rw [mbAckSeq_off]; omega) (by rw [mbAckSeq_off]; omega))
  · change s.dev.mcRestart.mail.notes ++ [(0x8002, BitVec.ofNat 32 (s.dev.mcRestart.sec.mcResets + 1))] = _
    rw [s.dev.mcRestart_notes, s.dev.mcRestart_sec]

end Sys2Proof.Safety
end

section
/-! SUPPORT. What the parts of a PAGE_CTRL write leave alone: the PAGE_CTRL registers of all pages. -/
namespace Sys2Proof.Machine

/-! ## Steps that keep every PAGE_CTRL -/

/-- A step changes no page's PAGE_CTRL. -/
structure CtrlKept (d e : Dev) : Prop where
  reg : ∀ a, a % 65536 = 0x008 → e.reg a = d.reg a

section
variable {d e f : Dev}

theorem CtrlKept.refl (d : Dev) : CtrlKept d d := ⟨fun _ _ => rfl⟩

theorem CtrlKept.trans (h : CtrlKept d e) (k : CtrlKept e f) : CtrlKept d f := ⟨fun a ha => (k.reg a ha).trans (h.reg a ha)⟩

/-- What a record besides the registers takes keeps them all. -/
theorem CtrlKept.regs (h : CtrlKept d e) (hr : f.regs = e.regs) (hu : f.upset = e.upset) : CtrlKept d f :=
  h.trans ⟨fun a _ => show f.reg a = e.reg a by simp only [Dev.reg, Dev.raw, hr, hu]⟩

theorem Within.ctrlKept {A : Nat → Prop} (h : Within A d e) (hA : ∀ a, A a → a % 65536 ≠ 0x008) : CtrlKept d e :=
  ⟨fun a ha => h.reg a fun hc => hA a hc ha⟩

/-- A step that changes no register at all. -/
theorem Within.ctrlOfNone (h : Within (fun _ => False) d e) : CtrlKept d e := h.ctrlKept fun _ hc => hc.elim

theorem CtrlKept.fold {σ α : Type} (dev : σ → Dev) (step : σ → α → σ) (xs : List α)
    (h : ∀ s, ∀ x ∈ xs, CtrlKept (dev s) (dev (step s x))) (s : σ) : CtrlKept (dev s) (dev (xs.foldl step s)) := by
  induction xs generalizing s with
  | nil => exact .refl _
  | cons x xs ih =>
    exact (h s x (List.mem_cons_self ..)).trans (ih (fun s y hy => h s y (List.mem_cons_of_mem _ hy)) (step s x))

theorem CtrlKept.foldDev {α : Type} {step : Dev → α → Dev} {xs : List α} (h : ∀ d, ∀ x ∈ xs, CtrlKept d (step d x))
    (d : Dev) : CtrlKept d (xs.foldl step d) := CtrlKept.fold id step xs h d

/-- A choice between two steps that keep them. -/
theorem CtrlKept.ite {c : Prop} [Decidable c] (h : CtrlKept d e) (k : CtrlKept d f) : CtrlKept d (if c then e else f) := by
  split
  · exact h
  · exact k

/-- A field's places up to `m` lie behind PAGE_CTRL. -/
def Field.behindCtrl (g : Field) (m : Nat) : Bool := decide (0x008 < g.off ∧ g.off + m * g.st < 65536)

theorem Field.behindCtrl_iff (g : Field) (m : Nat) : g.behindCtrl m = true ↔ 0x008 < g.off ∧ g.off + m * g.st < 65536 := by
  rw [Field.behindCtrl, decide_eq_true_iff]

theorem addrOf_mod (p off : Nat) : addrOf p off % 65536 = off % 65536 := by
  unfold addrOf
  omega

section
variable {p v i n : Nat} {g : Field} {b : Bool}

theorem CtrlKept.putBits {a : Nat} {m w : Word} (ha : a % 65536 ≠ 0x008) (h : CtrlKept d e) : CtrlKept d (e.putBits a m w) :=
  h.trans ⟨fun c hc => e.reg_putBits_other a c m w fun he => ha (he ▸ hc)⟩

theorem CtrlKept.wr (hg : g.behindCtrl 0 = true) (h : CtrlKept d e) : CtrlKept d (e.wr p g v) :=
  h.putBits (by
    rw [Field.behindCtrl_iff] at hg
    rw [addrOf_mod]
    omega)

/-- The `k`th of a field's places, those up to `m` of which lie behind PAGE_CTRL. -/
theorem CtrlKept.wrAt {k : Nat} (m : Nat) (hg : g.behindCtrl m = true) (hk : k ≤ m) (h : CtrlKept d e) :
    CtrlKept d (e.wr p (g.at k) v) := by
  have hm : k * g.st ≤ m * g.st := Nat.mul_le_mul_right _ hk
  rw [Field.behindCtrl_iff] at hg
  refine h.wr (((g.at k).behindCtrl_iff 0).mpr ?_)
  change 0x008 < g.off + k * g.st ∧ g.off + k * g.st + 0 * g.st < 65536
  omega

theorem CtrlKept.fbit (hg : g.behindCtrl 0 = true) (h : CtrlKept d e) : CtrlKept d (e.fbit p g i b) := h.wr hg
theorem CtrlKept.bump (hg : g.behindCtrl 0 = true) (h : CtrlKept d e) : CtrlKept d (e.bump p g n) := h.wr hg

section
variable (h : CtrlKept d e)
include h

theorem CtrlKept.stat : CtrlKept d (e.stat p n) := by
  refine h.trans ⟨fun a ha => e.reg_stat p n a ?_ ?_⟩
  · rintro rfl
    rw [addrOf_mod] at ha
    omega
  · rintro (rfl | rfl) <;> exact absurd ha (by decide)

theorem CtrlKept.setTx {t : Tx} : CtrlKept d (e.setTx n t) := h.regs rfl rfl
theorem CtrlKept.setRx {t : Rx} : CtrlKept d (e.setRx n t) := h.regs rfl rfl
theorem CtrlKept.setSq {t : Sq} : CtrlKept d (e.setSq n t) := h.regs rfl rfl
theorem CtrlKept.setSyn {t : Syn} : CtrlKept d (e.setSyn n t) := h.regs rfl rfl
theorem CtrlKept.setAwg {t : Awg} : CtrlKept d (e.setAwg n t) := h.regs rfl rfl
theorem CtrlKept.setMw {m : Midway} : CtrlKept d { e with mw := m } := h.regs rfl rfl
theorem CtrlKept.setRefs {r : RefLoop} : CtrlKept d { e with refs := r } := h.regs rfl rfl
theorem CtrlKept.modRing {r : Ring → Ring} : CtrlKept d (e.modRing r) := h.regs rfl rfl
theorem CtrlKept.emit {m : Message} : CtrlKept d (e.emit m) := h.regs rfl rfl

theorem CtrlKept.raiseIf {en ev : Field} : CtrlKept d (e.raiseIf p en ev) := by
  unfold Dev.raiseIf
  exact .ite (h.regs rfl rfl) h

end

end

end

/-! ## Lanes -/

section
variable (d : Dev) (n : Nat)

theorem Dev.ctrl_driveOut : CtrlKept d (d.driveOut n) := (d.within_driveOut n).ctrlOfNone

theorem Dev.ctrl_jitterStep : CtrlKept d (d.jitterStep n) := by
  unfold Dev.jitterStep
  exact .ite (.setTx <| .refl d) (.stat <| .bump rfl <| .setTx <| .refl d)

theorem Dev.ctrl_jitterRun (k : Nat) : CtrlKept d (d.jitterRun n k).2 := by
  unfold Dev.jitterRun
  simp only
  split
  · exact (CtrlKept.refl d).setTx.setTx
  · exact (CtrlKept.refl d).setTx.trans
      (CtrlKept.fold (fun s : List Int × Dev => s.2) _ _ (fun s _ _ => s.2.ctrl_jitterStep n) ([], _))

theorem Dev.ctrl_drive (ls : List Int) : CtrlKept d (d.drive n ls) := by
  unfold Dev.drive
  exact .ite (d.ctrl_jitterRun n _).setTx (d.ctrl_jitterRun n _).setTx.emit

theorem Dev.ctrl_txIdle : CtrlKept d (d.txIdle n) := 
  .wr rfl <| .setTx <| d.ctrl_driveOut n

theorem Dev.ctrl_laneSend (bits : List Bool) : CtrlKept d (d.laneSend n bits) := by
  unfold Dev.laneSend
  refine .ite ?_ ?_
  · exact ((d.within_injectRun n bits).ctrlOfNone.trans (Dev.ctrl_drive _ n _)).trans (Dev.within_markRun _ n _).ctrlOfNone
  · exact (d.ctrl_jitterRun n _).trans (Dev.within_countBlocks _ n _).ctrlOfNone

theorem Dev.ctrl_underrun (words : Nat) : CtrlKept d (d.underrun n words) := by
  unfold Dev.underrun
  exact .ite (.refl d) (.stat <| .bump rfl <| .refl d)

theorem Dev.ctrl_fillBits (k : Nat) : CtrlKept d (d.fillBits n k).2 := d.ctrl_underrun n _

theorem Dev.ctrl_errRecheck (old : Dev) : CtrlKept d (d.errRecheck old n) := by
  unfold Dev.errRecheck
  exact .ite (.stat <| .refl d) (.refl d)

theorem Dev.ctrl_fwdSend (own : Bool) (bits : List Bool) : CtrlKept d (d.fwdSend n own bits) := by
  unfold Dev.fwdSend
  exact .ite ((CtrlKept.refl d).setTx.trans (Dev.ctrl_laneSend _ _ _)) (d.ctrl_laneSend _ _)

theorem Dev.ctrl_sendBlock (own : Bool) (bits : List Bool) : CtrlKept d (d.sendBlock n own bits) :=
  (d.within_repairOut n own _).ctrlOfNone.trans (Dev.ctrl_fwdSend _ _ _ _)

theorem Dev.ctrl_rxFollow : CtrlKept d (d.rxFollow n) := (CtrlKept.refl d).setRx.trans (Dev.ctrl_errRecheck _ _ _)

theorem Dev.ctrl_fwdQuiet : CtrlKept d (d.fwdQuiet n) := 
  .setRx <| .trans (.wr rfl <| .refl d) (Dev.ctrl_driveOut _ _)

theorem Dev.ctrl_showHeld : CtrlKept d (d.showHeld n) := by
  unfold Dev.showHeld
  exact .ite (.wr rfl <| .wr rfl <| .refl d) (.wr rfl <| .refl d)

theorem Dev.ctrl_sendHeld (k : Nat) : CtrlKept d (d.sendHeld n k) :=
  ((CtrlKept.refl d).setRx.trans (CtrlKept.foldDev (fun e _ _ => e.ctrl_sendBlock n false _) _)).trans (Dev.ctrl_showHeld _ n)

theorem Dev.ctrl_spliceOver : CtrlKept d (d.spliceOver n) := by
  have h := (CtrlKept.refl d).setRx (n := n) (t := { d.rx n with lead := max 0 (d.rx n).lead }) |>.trans
    (Dev.ctrl_sendHeld _ n (-(d.rx n).lead).toNat)
  unfold Dev.spliceOver
  exact .ite (h.wr rfl) (.ite (h.trans (Dev.ctrl_fwdQuiet _ n)) h)

theorem Dev.ctrl_cutSplice (cause : Nat) : CtrlKept d (d.cutSplice n cause) := by
  unfold Dev.cutSplice
  refine .ite (.ite (.trans ?_ (Dev.ctrl_spliceOver _ n)) ?_) (.refl d)
  all_goals exact .setRx <| .raiseIf <| .stat <| .wr rfl <| .bump rfl <| .wr rfl <| .refl d

theorem Dev.ctrl_fwdFlush : CtrlKept d (d.fwdFlush n) := by
  unfold Dev.fwdFlush
  refine .trans ?_ (Dev.ctrl_sendHeld _ n _)
  exact .ite (.refl d) ((d.ctrl_fillBits _ _).setRx.trans (Dev.ctrl_sendBlock _ n true _))

theorem Dev.ctrl_rxOff : CtrlKept d (d.rxOff n) := by
  have h := (d.ctrl_cutSplice n 2).trans (Dev.within_rxStore _ n).ctrlOfNone
  have hf := (h.trans (Dev.ctrl_fwdFlush _ n)).trans (Dev.ctrl_fwdQuiet _ n)
  unfold Dev.rxOff Dev.setRxState
  refine .trans (.setRx <| .wr rfl <| .wr rfl <| .wr rfl ?_) (Dev.ctrl_rxFollow _ n)
  exact .ite (.wr rfl <| .ite hf h) (.ite hf h)

theorem Dev.ctrl_rxSettle : CtrlKept d (d.rxSettle n) := by
  unfold Dev.rxSettle Dev.setRxState
  exact .ite (.ite (.wr rfl <| .refl d) (.refl d)) (.ite (.refl d) (d.ctrl_rxOff n))

/-! ## Values of a lane's basic level -/

theorem Dev.ctrl_showRlm : CtrlKept d (d.showRlm n) := .wr rfl <| .refl d

theorem Dev.ctrl_txDerive : CtrlKept d (d.txDerive n) := by
  iterate 16 refine .wr rfl ?_
  exact .refl d

theorem Dev.ctrl_txHome : CtrlKept d (d.txHome n) := 
  .trans (.setTx <| .wr rfl <| .refl d) (Dev.ctrl_errRecheck _ _ _)

theorem Dev.ctrl_rxDerive : CtrlKept d (d.rxDerive n) := 
  .wr rfl <| .wr rfl <| .wr rfl <| .wr rfl <| .wr rfl <| .wr rfl <| .refl d

theorem Dev.ctrl_rxRetime (rate : Nat) (pam : Bool) : CtrlKept d (d.rxRetime n rate pam) := by
  unfold Dev.rxRetime
  exact .ite (d.ctrl_rxFollow n) (.ite (CtrlKept.refl d).setRx (.refl d))

theorem Dev.ctrl_setRxEq (vs : List (BitVec 10)) : CtrlKept d (d.setRxEq n vs) := by
  refine .setRx <| .wr rfl <| .wr rfl <| .trans (.wr rfl <| .wr rfl <| .refl d) (CtrlKept.foldDev (fun e k hk => ?_) _)
  have h4 : k / 2 ≤ 3 := by
    have := List.mem_range.mp hk
    omega
  split
  · exact .wrAt 3 rfl h4 (.refl e)
  · exact .wrAt 3 rfl h4 (.refl e)

theorem Dev.ctrl_rxEqWrite : CtrlKept d (d.rxEqWrite n) := by
  unfold Dev.rxEqWrite
  exact .ite (.setRx <| .refl d) (d.ctrl_setRxEq n _)

end

/-! ## Paths, switches and outputs -/

section
variable (d : Dev)

theorem Dev.ctrl_command (k : Nat) (module : Bool) : CtrlKept d (d.command k module) := by
  have h : CtrlKept d { d.fbit 0x92 F.SN_CMD_module k (d.allowed k module) with
      net := { d.net with moving := withBit d.net.moving k true } } := ((CtrlKept.refl d).fbit rfl).regs rfl rfl
  unfold Dev.command
  exact .ite (.refl d) (.ite h (.trans (h.fbit rfl) (Dev.ctrl_txIdle _ _)))

theorem Dev.ctrl_settlePaths : CtrlKept d d.settlePaths :=
  CtrlKept.foldDev (fun e k _ => (e.ctrl_command k _).trans (Dev.ctrl_rxSettle _ k)) d

theorem Dev.ctrl_startMode (to_ : Nat) : CtrlKept d (d.startMode to_) := by
  have h : CtrlKept d (d.wr 0x00 F.GLB_MODE_STAT_changing 1) := .wr rfl <| .refl d
  rw [d.startMode_eq]
  exact CtrlKept.trans (e := d.modeBegun to_) (h.regs rfl rfl) (Dev.ctrl_settlePaths _)

theorem Dev.ctrl_showAwg : CtrlKept d d.showAwg := CtrlKept.foldDev (fun e _ _ =>
  .ite (.stat <| .setAwg <| .wr rfl <| .wr rfl <| .wr rfl <| .refl e) (.setAwg <| .wr rfl <| .wr rfl <| .wr rfl <| .refl e)) d

theorem Dev.ctrl_openInjection : CtrlKept d d.openInjection :=
  (CtrlKept.foldDev (fun e _ _ => .ite (.fbit rfl <| .refl e) (.refl e)) d).trans (Dev.ctrl_showAwg _)

theorem Dev.ctrl_sdOut (k v : Nat) (hk : k < 8) : CtrlKept d (d.sdOut k v) := by
  have h : CtrlKept d (d.wr 0x8C (F.SD_STAT_out.at k) v) := .wrAt 7 rfl (by omega) (.refl d)
  unfold Dev.sdOut
  exact .ite h (h.regs rfl rfl)

end

/-! ## Synthesizers and power -/

theorem synReg_ctrl (a : Nat) (h : SynReg a) : a % 65536 ≠ 0x008 := by
  rcases h with rfl | rfl | h
  · decide
  · decide
  · omega

section
variable (d : Dev) (i : Nat)

theorem Dev.ctrl_synStart : CtrlKept d (d.synStart i) := (d.within_synStart i).ctrlKept synReg_ctrl
theorem Dev.ctrl_synStop : CtrlKept d (d.synStop i) := (d.within_synStop i).ctrlKept synReg_ctrl
theorem Dev.ctrl_setLocked (b : Bool) : CtrlKept d (d.setLocked i b) := (d.within_setLocked i b).ctrlKept synReg_ctrl
theorem Dev.ctrl_showTune (t : Tune) : CtrlKept d (d.showTune i t) := (d.within_showTune i t).ctrlKept synReg_ctrl

theorem CtrlKept.synWr {d e : Dev} {i v : Nat} {f : Field} (hf : f.behindCtrl 5 = true) (h : CtrlKept d e) :
    CtrlKept d (e.synWr i f v) := h.wrAt 5 hf (synIndex_le i)

theorem Dev.ctrl_retune (t : Tune) : CtrlKept d (d.retune i t) := by
  have h := (CtrlKept.refl d).setSyn (n := i) (t := { d.syn i with tune := some t, restore := false }) |>.trans
    (Dev.ctrl_showTune _ i t)
  unfold Dev.retune
  exact .ite h (.ite h (.ite h.setSyn (h.trans ((Dev.within_synSearch _ i).ctrlKept synReg_ctrl))))

theorem Dev.ctrl_synBasic : CtrlKept d (d.synBasic i) :=
  .trans (.synWr rfl <| .synWr rfl <| .setSyn <| .refl d) (Dev.ctrl_retune _ i _)

theorem Dev.ctrl_armSynthEffect : CtrlKept d d.armSynthEffect :=
  .trans (.wr rfl <| .refl d) (d.within_armSynthEffect.ctrlKept synReg_ctrl)

theorem Dev.ctrl_setTrans (t : Trans) : CtrlKept d (d.setTrans t) :=
  CtrlKept.wr (e := { d with bill := { d.bill with trans := t } }) rfl (.regs (.refl d) rfl rfl)

theorem Dev.ctrl_requestState (req : Nat) : CtrlKept d (d.requestState req) := by
  unfold Dev.requestState
  simp only
  split
  · exact .ite (d.ctrl_setTrans _) (d.ctrl_setTrans _)
  · exact .ite (d.ctrl_setTrans _) (.refl d)
  · exact .ite (.refl d) ((d.ctrl_setTrans _).trans ((Dev.within_armAll _).ctrlKept synReg_ctrl))
  · exact .refl d

theorem Dev.ctrl_resetSynths (p : Nat) : CtrlKept d (d.resetSynths p) := by
  refine ((Dev.within_showRecal d).ctrlKept synReg_ctrl).trans (CtrlKept.foldDev (fun e i _ => ?_) _)
  have h := (CtrlKept.refl e).setSyn (n := i) (t := Syn.init) |>.trans (Dev.ctrl_setLocked _ i false)
  exact .ite (h.trans (Dev.ctrl_synStart _ i)) h

theorem Dev.ctrl_fresh : CtrlKept d d.fresh.2 := .regs (.refl d) rfl rfl

theorem Dev.ctrl_closeLoops (src : Nat) (offset : Word) : CtrlKept d (d.closeLoops src offset) := by
  unfold Dev.closeLoops
  refine .synWr rfl <| .synWr rfl <| .wr rfl <| .wr rfl <| .trans ?_ (Dev.ctrl_showTune _ 1 _)
  exact .setSyn <| .trans (.setSyn <| .setRefs <| .wr rfl <| .refl d) (Dev.ctrl_showTune _ 0 _)

theorem Dev.ctrl_referenceWritten : CtrlKept d d.referenceWritten :=
  CtrlKept.regs (.stat <| .wr rfl <| .wr rfl <| d.ctrl_fresh.trans (Dev.ctrl_closeLoops d.fresh.2 _ _)) rfl rfl

end

/-! ## Sequencers -/

section
variable (d : Dev) (n : Nat)

theorem Dev.ctrl_spliceBlock (bits : List Bool) : CtrlKept d (d.spliceBlock n bits) := by
  have h := d.ctrl_sendBlock n true bits
  unfold Dev.spliceBlock
  refine .ite h ?_
  simp only
  split
  · exact .bump rfl <| h.setRx.trans (Dev.ctrl_showHeld _ n)
  · exact h.setRx

theorem Dev.ctrl_spliceBits (bits : List Bool) : CtrlKept d (d.spliceBits n bits) := by
  unfold Dev.spliceBits
  refine .ite (CtrlKept.setRx (CtrlKept.foldDev (fun e _ _ => e.ctrl_spliceBlock n _) d)) (.ite (.refl d)
    (.ite (CtrlKept.refl d).setRx ?_))
  exact ((CtrlKept.refl d).setRx.trans (Dev.ctrl_spliceBlock _ n _)).trans (Dev.ctrl_spliceOver _ n)

/-- The end of a block that the device fills itself. -/
theorem Dev.ctrl_blockEnd : CtrlKept d (d.blockEnd n false) := by
  unfold Dev.blockEnd
  exact .ite ((d.ctrl_fillBits n _).trans (Dev.ctrl_spliceBits _ _ _)) (.refl d)

theorem Dev.ctrl_closeBracket : CtrlKept d (d.closeBracket n) := by
  unfold Dev.closeBracket
  split
  · exact .refl d
  · have h := (CtrlKept.refl d).setSq (n := n) (t := { d.sq n with bracket := none })
    exact .ite (.trans (.setRx <| h.wr rfl) (Dev.ctrl_spliceOver _ _)) (.setRx <| h.wr rfl)

theorem Dev.ctrl_showSq : CtrlKept d (d.showSq n) := by
  unfold Dev.showSq
  refine .trans (.wr rfl <| .wr rfl <| .refl d) (CtrlKept.foldDev (fun e k hk => ?_) _)
  exact .wrAt 7 rfl (Nat.le_of_lt_succ (List.mem_range.mp hk)) (.refl e)

theorem Dev.ctrl_modSq (f : Sq → Sq) : CtrlKept d (d.modSq n f) := (CtrlKept.refl d).setSq.trans (Dev.ctrl_showSq _ n)

theorem Dev.ctrl_abandonHandoff : CtrlKept d (d.abandonHandoff n) := by
  unfold Dev.abandonHandoff
  split
  · exact .refl d
  · exact .stat <| .fbit rfl <| .fbit rfl <| .setTx <| .refl d

theorem Dev.ctrl_sqDisarm : CtrlKept d (d.sqDisarm n) := by
  unfold Dev.sqDisarm
  refine .ite (CtrlKept.trans ?_ (Dev.ctrl_abandonHandoff _ n)) ?_
  all_goals exact ((d.ctrl_closeBracket n).trans (Dev.ctrl_modSq _ n _)).setMw

theorem Dev.ctrl_sqFinish : CtrlKept d (d.sqFinish n) := by
  unfold Dev.sqFinish Dev.setSqState
  refine .ite ?_ (.wr rfl ?_)
  all_goals exact .setMw <| .wr rfl <| (d.ctrl_sqDisarm n).trans (Dev.ctrl_modSq _ n _)

theorem Dev.ctrl_sqLaneIdle : CtrlKept d (d.sqLaneIdle n) := by
  unfold Dev.sqLaneIdle
  exact .ite (d.ctrl_txIdle n) (.refl d)

theorem Dev.ctrl_sqRelease : CtrlKept d (d.sqRelease n) := by
  unfold Dev.sqRelease Dev.setSqState
  exact .ite (.wr rfl <| .wr rfl <| .setSq <| .refl d) (.wr rfl <| .wr rfl <| .wr rfl <| .setSq <| .refl d)

end

/-! ## What block resets do besides -/

section
variable (d : Dev)

theorem Dev.ctrl_showPred : CtrlKept d d.showPred := by
  unfold Dev.showPred
  exact .ite (.wr rfl <| .refl d) (.wr rfl d.ctrl_fresh)

/-- The fields of TS_HOLDm lie behind PAGE_CTRL. -/
theorem tsOwner_behind {n : Nat} (hn : n < 64) (lo w : Nat) :
    Field.behindCtrl { off := 0x300 + 4 * (n / 8), lo := lo, w := w } 0 = true := by
  rw [Field.behindCtrl_iff]
  change 0x008 < 0x300 + 4 * (n / 8) ∧ 0x300 + 4 * (n / 8) + 0 * 0 < 65536
  omega

theorem Dev.ctrl_release (n : Nat) (hn : n < 64) : CtrlKept d (d.release n) :=
  .wr (tsOwner_behind hn _ _) <| .wr (tsOwner_behind hn _ _) <| .wrAt 63 rfl (Nat.le_of_lt_succ hn) (.refl d)

theorem Dev.ctrl_showMeasurement : CtrlKept d d.showMeasurement := by
  unfold Dev.showMeasurement
  generalize (d.measurement (d.rd 0x11 F.SEC_MEAS_SEL_sel)).toNat = v
  exact CtrlKept.foldDev (fun e _ hk => .wrAt 15 rfl (Nat.le_of_lt_succ (List.mem_range.mp hk)) (.refl e)) d

theorem Dev.ctrl_showCeil : CtrlKept d d.showCeil := .wr rfl <| .wr rfl <| .refl d

theorem Dev.ctrl_pinRate (r : Nat) : CtrlKept d (d.pinRate r) := by
  have h : CtrlKept d { d with dm := { d.dm with rate := r } } := .regs (.refl d) rfl rfl
  have hc := (h.wr (p := 0x60) (g := F.DM_STAT_changing) (v := 1) rfl).trans (Dev.ctrl_showCeil _)
  unfold Dev.pinRate
  exact .ite (.refl d) (.ite (hc.wr rfl) hc)

theorem Dev.ctrl_ownerInvolved (o : Nat) : CtrlKept d (d.ownerInvolved o) := by
  unfold Dev.ownerInvolved
  split
  · exact .ite (d.ctrl_sqRelease _) (.refl d)
  · exact (CtrlKept.refl d).regs rfl rfl
  · exact .refl d

theorem Dev.ctrl_handover (b old : Nat) : CtrlKept d (d.handover b old) := by
  have hb : b % 8 ≤ 7 := Nat.le_of_lt_succ (Nat.mod_lt _ (by decide))
  exact .regs (.wrAt 7 rfl hb <| .wrAt 7 rfl hb <| (d.ctrl_ownerInvolved _).trans (Dev.ctrl_ownerInvolved _ _)) rfl rfl

theorem Dev.ctrl_resetBanks (p : Nat) : CtrlKept d (d.resetBanks p) := CtrlKept.foldDev (fun e _ hk =>
  .ite (.refl e) (.trans (.wrAt 7 rfl (Nat.le_of_lt_succ (List.mem_range.mp hk)) (.refl e)) (Dev.ctrl_handover _ _ _))) d

theorem Dev.ctrl_cartBlank : CtrlKept d d.cartBlank := by
  have h9 : ∀ p o : Nat, o % 65536 ≠ 0x008 → ∀ e : Dev, CtrlKept e (e.putBits (addrOf p o) 0xFFFFFFFF 0) := fun p o ho e =>
    .putBits (by rwa [addrOf_mod]) (.refl e)
  refine (CtrlKept.foldDev (fun e o ho => h9 0x90 o ?_ e) d).trans (CtrlKept.foldDev (fun e o ho => h9 0x91 o ?_ e) _)
  · revert o
    decide
  · revert o
    decide

theorem Dev.ctrl_txLost : CtrlKept d d.txLost := by
  unfold Dev.txLost
  refine .ite ?_ (.stat ?_)
  all_goals
    refine .trans (CtrlKept.foldDev (fun e n _ => ?_) d) (Dev.ctrl_openInjection _)
    exact (CtrlKept.refl e).setTx.trans (Dev.ctrl_txIdle _ n)

theorem Dev.ctrl_overrideEffect (old : Bool) : CtrlKept d (d.overrideEffect old) := by
  unfold Dev.overrideEffect
  refine .trans ?_ (Dev.ctrl_txLost _)
  split
  · exact (CtrlKept.refl d).stat.regs rfl rfl
  · exact (CtrlKept.refl d).regs rfl rfl

theorem Dev.ctrl_ringConfig : CtrlKept d d.ringConfig := by
  unfold Dev.ringConfig Dev.ringQueue
  refine .ite (.ite (.modRing ?_) ?_) ?_
  all_goals exact .modRing <| .wr rfl <| .wr rfl <| .refl d

end

end Sys2Proof.Machine
end

section
/-! SUPPORT. Writes of PAGE_CTRL: which bits a master changes there, and what each of them does. -/
namespace Sys2Proof.Machine

open Sys2Proof.Safety

/-! ## What the effects on a page leave of PAGE_CTRL -/

theorem CtrlKept.rd {d e : Dev} (h : CtrlKept d e) (q : Nat) (f : Field) (hf : f.off = 0x008) : e.rd q f = d.rd q f := by
  simp only [Dev.rd, hf, h.reg (addrOf q 0x008) (addrOf_mod q 0x008)]

section
variable (d old : Dev) (p : Nat)

theorem Dev.ctrl_enableEffect : CtrlKept d (d.enableEffect p) := by
  unfold Dev.enableEffect Dev.setSqState
  simp only
  split
  · have h := ((d.ctrl_blockEnd (p - 0x40)).trans (Dev.ctrl_sqFinish _ (p - 0x40))).trans (Dev.ctrl_sqLaneIdle _ (p - 0x40))
    refine .ite (.refl d) (.ite ?_ (.trans ?_ (Dev.ctrl_openInjection _)))
    all_goals exact .wr rfl <| .wr rfl <| .setSq <| .wr rfl h
  · exact CtrlKept.foldDev (fun e i _ => .ite (e.ctrl_synStop i) (.ite (e.ctrl_synStart i) (.refl e))) d
  · exact CtrlKept.foldDev (fun e i _ => .ite (e.ctrl_synStop i) (.ite (e.ctrl_synStart i) (.refl e))) d
  · exact .ite (.refl d) (d.ctrl_txIdle _)
  · exact d.ctrl_rxSettle _
  · exact d.ctrl_openInjection
  · exact .ite (.refl d) (CtrlKept.foldDev (fun e k hk => e.ctrl_sdOut k 0 (List.mem_range.mp hk)) d)
  · exact .refl d

theorem Dev.ctrl_levelEffect : CtrlKept d (Dev.levelEffect old d p) := by
  unfold Dev.levelEffect
  simp only
  split
  · have h := (d.ctrl_txDerive (p - 0x20)).trans (Dev.ctrl_showRlm _ (p - 0x20))
    exact .ite h (h.trans (Dev.ctrl_txHome _ _))
  · exact (((d.ctrl_rxDerive _).trans (Dev.ctrl_rxRetime _ _ _ _)).trans (Dev.ctrl_rxEqWrite _ _)).trans (Dev.ctrl_rxSettle _ _)
  · exact CtrlKept.foldDev (fun e i _ => e.ctrl_synBasic i) d
  · exact CtrlKept.foldDev (fun e i _ => e.ctrl_synBasic i) d
  · exact .refl d

theorem Dev.ctrl_resetPower (c : Prop) [Decidable c] : CtrlKept d (if c then d.requestState 2 else d).armSynthEffect :=
  .trans (.ite (d.ctrl_requestState 2) (.refl d)) (Dev.ctrl_armSynthEffect _)

theorem Dev.ctrl_resetTurnstiles : CtrlKept d ((List.range 64).foldl Dev.release d) :=
  CtrlKept.foldDev (fun e n hn => e.ctrl_release n (List.mem_range.mp hn)) d

theorem Dev.ctrl_resetRefs (c : Prop) [Decidable c] (r : RefLoop) :
    CtrlKept d (if c then ({ d with refs := r } : Dev).referenceWritten else { d with refs := r }) :=
  .ite (.trans (CtrlKept.refl d).setRefs (Dev.ctrl_referenceWritten _)) (CtrlKept.refl d).setRefs

theorem Dev.ctrl_resetMemory (c : Prop) [Decidable c] (r : DeepMem) :
    CtrlKept d (if c then ({ d with dm := r } : Dev).pinRate 1 else { d with dm := r }).showCeil :=
  have h : CtrlKept d { d with dm := r } := .regs (.refl d) rfl rfl
  .trans (.ite (h.trans (Dev.ctrl_pinRate _ 1)) h) (Dev.ctrl_showCeil _)

theorem Dev.ctrl_resetClamps (c : Nat → Prop) [DecidablePred c] (h : CtrlKept old d) :
    CtrlKept old ((List.range 8).foldl (fun d k => if c k then d.wr 0x8C (F.SD_STAT_clamp.at k) 1 else d) d) :=
  h.trans (CtrlKept.foldDev
    (fun e _ hk => .ite (.wrAt 7 rfl (Nat.le_of_lt_succ (List.mem_range.mp hk)) (.refl e)) (.refl e)) d)

theorem Dev.ctrl_qReset (q : Nat) : CtrlKept d (d.qReset q) := .regs (.refl d) rfl rfl

theorem Dev.ctrl_cartChanged : CtrlKept d d.cartChanged := .regs (e := d.stat 0x90 16) (CtrlKept.refl d).stat rfl rfl

/-- A cartridge without its record, whose loss shows where it had one. -/
theorem Dev.ctrl_resetCart (c : Prop) [Decidable c] (r : Net) (o : Bool) :
    CtrlKept d ((if c then ({ d.cartBlank with net := r } : Dev)
      else ({ d.cartBlank with net := r } : Dev).cartChanged).overrideEffect o) :=
  have h : CtrlKept d { d.cartBlank with net := r } := .regs (e := d.cartBlank) d.ctrl_cartBlank rfl rfl
  .trans (.ite h (h.trans (Dev.ctrl_cartChanged _))) (Dev.ctrl_overrideEffect _ _)

theorem Dev.ctrl_resetBlock : CtrlKept d (Dev.resetBlock old d p) := by
  unfold Dev.resetBlock
  simp only
  split
  · exact .ite (d.ctrl_startMode 0) (.refl d)
  · exact d.ctrl_resetPower _
  · exact d.ctrl_resetPower _
  · exact d.ctrl_showPred
  · exact d.ctrl_resetTurnstiles
  · exact d.ctrl_resetTurnstiles
  · exact .wr rfl <| .modRing <| .putBits (by decide) <| .putBits (by decide) <| .refl d
  · exact .regs (.refl d) rfl rfl
  · exact d.ctrl_showMeasurement
  · exact d.ctrl_showMeasurement
  · exact d.ctrl_showMeasurement
  · exact .regs (.refl d) rfl rfl
  · exact .regs (.refl d) rfl rfl
  · exact .regs (.refl d) rfl rfl
  · exact d.ctrl_resetRefs _ _
  · exact d.ctrl_resetRefs _ _
  · exact d.ctrl_resetSynths p
  · exact (d.ctrl_resetSynths p).trans (CtrlKept.foldDev (fun e _ _ => (CtrlKept.refl e).setTx) _)
  · exact .trans (.setTx <| .refl d) (Dev.ctrl_txHome _ _)
  · exact .trans (.trans (.setRx <| .refl d) (Dev.ctrl_setRxEq _ _ _)) (Dev.ctrl_rxSettle _ _)
  · exact .regs (.refl d) rfl rfl
  · exact .regs (.refl d) rfl rfl
  · exact .regs (.refl d) rfl rfl
  · exact .regs (.refl d) rfl rfl
  · exact .regs (.refl d) rfl rfl
  · exact d.ctrl_resetMemory _ _
  · exact d.ctrl_resetMemory _ _
  · exact d.ctrl_resetBanks p
  · exact CtrlKept.foldDev (fun e q _ => e.ctrl_qReset q) d
  · exact CtrlKept.foldDev (fun e q _ => e.ctrl_qReset q) d
  · exact .regs (.refl d) rfl rfl
  · exact .regs (.refl d) rfl rfl
  · exact .regs (.refl d) rfl rfl
  · exact .regs (.refl d) rfl rfl
  · exact .regs (.refl d) rfl rfl
  · exact .trans (.setAwg <| .refl d) (Dev.ctrl_openInjection _)
  · exact Dev.ctrl_resetClamps _ d _ (.regs (.refl d) rfl rfl)
  · exact .regs (.refl d) rfl rfl
  · exact d.ctrl_resetCart _ _ _
  · exact d.ctrl_resetCart _ _ _
  · exact d.ctrl_settlePaths.trans (Dev.ctrl_openInjection _)
  · exact d.ctrl_ringConfig
  · exact .refl d

end

/-! ## A block reset's pages (R37) -/

section
variable (d : Dev)

theorem Dev.within_back (p o : Nat) : Within (fun a => a / 65536 = p) d
    (d.putBits (addrOf p (o % 65536)) (~~~(keptBits p (o % 65536))) (d.resetNow p (o % 65536))) :=
  (Within.refl d).putBits _ _ _ (addrOf_page p _ (Nat.mod_lt _ (by decide)))

/-- A page's registers return to their Reset values without a change on another page. -/
theorem Dev.within_clearPage (p : Nat) : Within (fun a => a / 65536 = p) d (d.clearPage p) := by
  have hcal : ∀ x ∈ calLoads, x.2 < 65536 := by decide
  unfold Dev.clearPage
  refine .wr (.trans (Within.fold id _ _ (fun e x _ => ?_) d) (Within.fold id _ _ (fun e x hx => ?_) _)) _ _ _
    (addrOf_page p _ (by decide))
  · simp only [id]
    split
    · exact e.within_back p x.1
    · exact .refl e
  · have ho : x.2 < 65536 := hcal x (List.mem_filter.mp hx).1
    exact (Within.putBits (A := fun a => a / 65536 = p) (.refl e) _ _ _ (addrOf_page p _ ho)).trans ⟨fun _ _ => rfl, rfl, rfl⟩

theorem Dev.busy_clearPage (p : Nat) : (d.clearPage p).rd p F.PAGE_CTRL_reset_busy = 1 :=
  Dev.rd_wr_fit _ p F.PAGE_CTRL_reset_busy 1 (by decide) (by decide)

theorem Dev.busy_clearPages (ps : List Nat) (q : Nat) (hq : q ∈ ps) :
    (ps.foldl Dev.clearPage d).rd q F.PAGE_CTRL_reset_busy = 1 :=
  foldl_establishes (I := fun _ => True) (Q := fun q e => e.rd q F.PAGE_CTRL_reset_busy = 1) ps (fun _ _ _ _ => trivial)
    (fun e x _ _ => e.busy_clearPage x)
    (fun e x _ y hyx _ hy => ((e.within_clearPage x).rd y _ fun h => hyx ((addrOf_page y _ (by decide)).symm.trans h)).trans hy)
    d trivial q (.inl hq)

theorem Dev.busy_blockReset (old : Dev) (p q : Nat) (hq : q ∈ blockPages p) :
    (Dev.blockReset old d p).rd q F.PAGE_CTRL_reset_busy = 1 :=
  ((Dev.ctrl_resetBlock _ old p).rd q _ rfl).trans (d.busy_clearPages _ q hq)

end

/-! ## The word that a command writes to PAGE_CTRL -/

/-- PAGE_CTRL's word `r` after a master has written it back with bit `i` at `b`: a master that is not privileged reads 0 in
bits 4 and 5 and changes bits 4 to 6 not at all, and bit 2 can be changed on a page with a basic level alone. -/
def ctrlNew (r : Word) (priv basic : Bool) (i : Nat) (b : Bool) : Word :=
  let hide : Word := if priv then 0x42 else 0x72
  let k : Word := 0x3 ||| (if basic then 0x4 else 0) ||| (if priv then 0x70 else 0)
  (r &&& ~~~k) ||| (wordBit ((r &&& ~~~hide) ||| (if basic then 0 else 0x4)) i b &&& k)

theorem wordBit_getElem (w : Word) (i j : Nat) (b : Bool) (hj : j < 32) :
    (wordBit w i b)[j] = if j = i then b else w[j] := by
  unfold wordBit
  by_cases h : i = j
  · subst h
    cases b <;> simp
  · cases b <;> simp [BitVec.getElem_twoPow, Ne.symm h]

section
variable (r : Word) (priv basic : Bool) (i j : Nat) (b : Bool)

/-- The bit that the command means takes its value, where the master can change it. -/
theorem ctrlNew_written (h : i = 0 ∨ i = 1 ∨ (i = 2 ∧ basic = true) ∨ ((i = 4 ∨ i = 5 ∨ i = 6) ∧ priv = true)) :
    (ctrlNew r priv basic i b).getLsbD i = b := by
  unfold ctrlNew
  rcases h with rfl | rfl | ⟨rfl, rfl⟩ | ⟨rfl | rfl | rfl, rfl⟩
  · cases priv <;> cases basic <;> simp [wordBit_getElem]
  · cases priv <;> cases basic <;> simp [wordBit_getElem]
  · cases priv <;> simp [wordBit_getElem]
  all_goals cases basic <;> simp [wordBit_getElem]

/-- The other bits that a write can leave as they stand stay. -/
theorem ctrlNew_kept (hj : j = 0 ∨ j = 2 ∨ j = 4 ∨ j = 5) (h : j ≠ i) :
    (ctrlNew r priv basic i b).getLsbD j = r.getLsbD j := by
  unfold ctrlNew
  rcases hj with rfl | rfl | rfl | rfl
  all_goals cases priv <;> cases basic <;> simp [wordBit_getElem, h]

/-- A command that means another bit asks for no block reset, and a privileged master's for no commit. -/
theorem ctrlNew_asks (hj : j = 1 ∨ (j = 6 ∧ priv = true)) (h : j ≠ i) : (ctrlNew r priv basic i b).getLsbD j = false := by
  unfold ctrlNew
  rcases hj with rfl | ⟨rfl, rfl⟩
  · cases priv <;> cases basic <;> simp [wordBit_getElem, h]
  · cases basic <;> simp [wordBit_getElem, h]

end

/-! ## A command's write of PAGE_CTRL -/

/-- A field of one bit shows that bit. -/
theorem Field.get_bit (f : Field) (w : Word) (h : f.w = 1) : f.get w = (w.getLsbD f.lo).toNat := by
  unfold Field.get
  rw [h, pow_one]
  exact (Nat.toNat_testBit w.toNat f.lo).symm

/-- The write of a command that means bit `i` of PAGE_CTRL. -/
def Dev.ctrlSeen (d : Dev) (m : Master) (p i : Nat) (b : Bool) : Wr := seen d p 0x008 (ctrlWr d m p i b)

section
variable (d : Dev) (m : Master) (p i : Nat) (b : Bool) (hf : (fieldsAt p 0x008).isSome = true)
include hf

theorem Dev.writeMask_ctrl :
    d.writeMask m p 0x008 = 0x3 ||| (if hasBasic p then 0x4 else 0) ||| (if d.privileged m then 0x70 else 0) := by
  unfold Dev.writeMask
  rw [bitsWhere_hdr p 0x008 _ (by decide) hf, if_neg (by simp)]
  unfold Dev.canWrite
  generalize d.privileged m = priv, hasBasic p = basic, isPriv p = x, isOwned p = y
  revert priv basic x y
  decide

theorem Dev.readWord_ctrl :
    d.readWord m p 0x008 = (d.reg (addrOf p 0x008) &&& ~~~(if d.privileged m then 0x42 else 0x72)) |||
      (if hasBasic p then 0 else 0x4) := by
  have hhide : bitsWhere p 0x008 (fun f => f.acc == .wo || (f.pv && !d.privileged m)) =
      if d.privileged m then 0x42 else 0x72 := by
    rw [bitsWhere_hdr p 0x008 _ (by decide) hf]
    cases d.privileged m <;> decide
  obtain ⟨fs, hfs⟩ := Option.isSome_iff_exists.mp hf
  unfold Dev.readWord Dev.view
  rw [hfs]
  simp only [hhide]
  cases hasBasic p <;> simp

theorem Dev.new_ctrlSeen :
    (d.ctrlSeen m p i b).new = ctrlNew (d.reg (addrOf p 0x008)) (d.privileged m) (hasBasic p) i b := by
  have h15 : beMask 15 = BitVec.allOnes 32 := by decide
  change (d.reg (addrOf p 0x008) &&& ~~~(d.writeMask m p 0x008 &&& beMask 15)) |||
    (wordBit (d.readWord m p 0x008) i b &&& (d.writeMask m p 0x008 &&& beMask 15)) = _
  rw [h15, BitVec.and_allOnes, d.writeMask_ctrl m p hf, d.readWord_ctrl m p hf]
  rfl

end

theorem exec_pageEnable (m : Master) (page : BitVec 8) (v : Bool) (s : State) :
    exec (.pageEnable m page v) s = onDev s fun d => d.writeAt page.toNat 0x008 (ctrlWr d m page.toNat 0 v) := rfl
theorem exec_blockReset (m : Master) (page : BitVec 8) (s : State) :
    exec (.blockReset m page) s = onDev s fun d => d.writeAt page.toNat 0x008 (ctrlWr d m page.toNat 1 true) := rfl
theorem exec_levelChange (m : Master) (page : BitVec 8) (v : Bool) (s : State) :
    exec (.levelChange m page v) s = onDev s fun d => d.writeAt page.toNat 0x008 (ctrlWr d m page.toNat 2 v) := rfl
theorem exec_pageLock (m : Master) (page : BitVec 8) (s : State) :
    exec (.pageLock m page) s = onDev s fun d => d.writeAt page.toNat 0x008 (ctrlWr d m page.toNat 4 true) := rfl
theorem exec_checkEnable (m : Master) (page : BitVec 8) (v : Bool) (s : State) :
    exec (.checkEnable m page v) s = onDev s fun d => d.writeAt page.toNat 0x008 (ctrlWr d m page.toNat 5 v) := rfl
theorem exec_pageCommit (m : Master) (page : BitVec 8) (s : State) :
    exec (.pageCommit m page) s = onDev s fun d => d.writeAt page.toNat 0x008 (ctrlWr d m page.toNat 6 true) := rfl

/-- The device after a write of PAGE_CTRL has acted on the page, before a commit and a block reset. -/
def Dev.ctrlActs (old d : Dev) (w : Wr) : Dev :=
  let d := if w.alters F.PAGE_CTRL_enable then d.enableEffect w.p else d
  let d := if !w.alters F.PAGE_CTRL_level then d else if w.val F.PAGE_CTRL_level = 0 then Dev.levelEffect old d w.p else d
  if w.alters F.PAGE_CTRL_check_en ∧ w.val F.PAGE_CTRL_check_en = 0 then d.setDiff w.p none else d

/-- The commit of a write of PAGE_CTRL. -/
def Dev.ctrlCommit (d : Dev) (w : Wr) : Dev := if w.cmd F.PAGE_CTRL_commit = 1 then d.wr w.p F.PAGE_CTRL_check_busy 1 else d

theorem ctrlKy (p : Nat) : bitsWhere p 0x008 Field.ky = 0 := by
  unfold bitsWhere fieldsAt
  cases blkOf p <;> rfl

theorem Dev.effect_ctrl (old d : Dev) (w : Wr) (ho : w.off = 0x008) :
    Dev.effect old d w =
      if w.cmd F.PAGE_CTRL_block_reset = 1 then Dev.blockReset old ((Dev.ctrlActs old d w).ctrlCommit w) w.p
      else (Dev.ctrlActs old d w).ctrlCommit w := by
  have hr : w.reaches Field.ky = false := by simp [Wr.reaches, ho, ctrlKy]
  unfold Dev.effect
  simp only [hr, Bool.false_eq_true, if_false]
  rw [if_pos ho]
  rfl

theorem Dev.ctrl_ctrlActs (old d : Dev) (w : Wr) : CtrlKept d (Dev.ctrlActs old d w) := by
  have he : CtrlKept d (if w.alters F.PAGE_CTRL_enable then d.enableEffect w.p else d) := .ite (d.ctrl_enableEffect _) (.refl d)
  have hl := CtrlKept.ite (c := (!w.alters F.PAGE_CTRL_level) = true) he
    (.ite (c := w.val F.PAGE_CTRL_level = 0) (he.trans (Dev.ctrl_levelEffect _ old w.p)) he)
  exact .ite (.regs hl rfl rfl) hl

/-- A write that changes neither enable nor level changes no register by its acts. -/
theorem Dev.same_ctrlActs (old d : Dev) (w : Wr) (he : w.alters F.PAGE_CTRL_enable = false)
    (hl : w.alters F.PAGE_CTRL_level = false) : SameRegs [] d (Dev.ctrlActs old d w) := by
  unfold Dev.ctrlActs
  simp only [he, hl, Bool.false_eq_true, if_false, Bool.not_false, if_true]
  split
  · exact d.same_setDiff w.p none
  · exact SameRegs.refl [] d

theorem Dev.rd_ctrlCommit (d : Dev) (w : Wr) (g : Field) (ho : g.off = 0x008)
    (hg : g.lo + g.w ≤ 32) (hm : g.mask &&& F.PAGE_CTRL_check_busy.mask = 0) : (d.ctrlCommit w).rd w.p g = d.rd w.p g := by
  unfold Dev.ctrlCommit
  split
  · exact d.rd_wr_disjoint w.p _ g 1 ho hm hg
  · rfl

theorem Dev.same_ctrlCommit (d : Dev) (w : Wr) : SameRegs [addrOf w.p 0x008] d (d.ctrlCommit w) := by
  unfold Dev.ctrlCommit
  split
  · exact d.same_wr w.p 1 F.PAGE_CTRL_check_busy
  · exact SameRegs.refl _ d

/-- A command that reaches its field asks for what it writes there. -/
theorem Wr.cmd_full (w : Wr) (f : Field) (hbe : w.be = 15) (hf : f.mask ≠ 0) : w.cmd f = w.val f := by
  have h15 : beMask 15 = BitVec.allOnes 32 := by decide
  refine if_pos ?_
  unfold Wr.reach
  rw [hbe, h15, BitVec.and_allOnes]
  exact bne_iff_ne.mpr hf

section
variable (d : Dev) (m : Master) (p i : Nat) (b : Bool) (hf : (fieldsAt p 0x008).isSome = true)
include hf

theorem Dev.val_ctrlSeen (f : Field) (hw : f.w = 1) : (d.ctrlSeen m p i b).val f =
    ((ctrlNew (d.reg (addrOf p 0x008)) (d.privileged m) (hasBasic p) i b).getLsbD f.lo).toNat := by
  rw [← d.new_ctrlSeen m p i b hf]
  exact f.get_bit _ hw

/-- The field that a command means takes its value. -/
theorem Dev.val_ctrlSeen_own (f : Field) (hw : f.w = 1) (hi : f.lo = i)
    (h : i = 0 ∨ i = 1 ∨ (i = 2 ∧ hasBasic p = true) ∨ ((i = 4 ∨ i = 5 ∨ i = 6) ∧ d.privileged m = true)) :
    (d.ctrlSeen m p i b).val f = b.toNat := by
  rw [d.val_ctrlSeen m p i b hf f hw, hi, ctrlNew_written _ _ _ i b h]

/-- A command alters no other field that acts on its page. -/
theorem Dev.alters_ctrlSeen (f : Field) (hw : f.w = 1) (hj : f.lo = 0 ∨ f.lo = 2 ∨ f.lo = 4 ∨ f.lo = 5) (h : f.lo ≠ i) :
    (d.ctrlSeen m p i b).alters f = false := by
  have hn : f.get (d.ctrlSeen m p i b).new = f.get (d.reg (addrOf p 0x008)) := by
    rw [d.new_ctrlSeen m p i b hf, f.get_bit _ hw, f.get_bit _ hw, ctrlNew_kept _ _ _ _ _ b hj h]
  unfold Wr.alters
  rw [hn]
  exact bne_self_eq_false' _

theorem Dev.cmd_ctrlSeen_reset (h : i ≠ 1) : (d.ctrlSeen m p i b).cmd F.PAGE_CTRL_block_reset ≠ 1 := by
  rw [Wr.cmd_full _ _ rfl (by decide), d.val_ctrlSeen m p i b hf _ rfl, show F.PAGE_CTRL_block_reset.lo = 1 from rfl,
    ctrlNew_asks _ _ _ i 1 b (.inl rfl) (Ne.symm h)]
  decide

/-- A field of PAGE_CTRL that is not WO shows what its command writes. -/
theorem Dev.rd_ctrlWrite (f : Field) (ho : f.off = 0x008) (hw : f.w = 1) (hi : f.lo = i) (hl : f.lo + f.w ≤ 32)
    (hm : f.mask &&& F.PAGE_CTRL_check_busy.mask = 0) (hwo : f.mask &&& 0x42 = 0)
    (h : i = 0 ∨ (i = 2 ∧ hasBasic p = true) ∨ ((i = 4 ∨ i = 5) ∧ d.privileged m = true)) :
    (d.apply (d.ctrlSeen m p i b)).rd p f = b.toNat := by
  have hown : i = 0 ∨ i = 1 ∨ (i = 2 ∧ hasBasic p = true) ∨ ((i = 4 ∨ i = 5 ∨ i = 6) ∧ d.privileged m = true) := by tauto
  have hw42 : woBits p 0x008 = 0x42 := (bitsWhere_hdr p 0x008 _ (by decide) hf).trans (by decide)
  have hstore : (d.store (d.ctrlSeen m p i b)).rd p f = (d.ctrlSeen m p i b).val f :=
    d.rd_store p 0x008 _ f ho hl (tsOf_hdr p _ (by decide)) (hw42 ▸ hwo)
  rw [Dev.rd_apply, Dev.effect_ctrl _ _ _ rfl, if_neg (d.cmd_ctrlSeen_reset m p i b hf (by omega))]
  refine (Dev.rd_ctrlCommit _ (d.ctrlSeen m p i b) f ho hl hm).trans ?_
  rw [(Dev.ctrl_ctrlActs d _ _).rd _ f ho]
  exact hstore.trans (d.val_ctrlSeen_own m p i b hf f hw hi hown)

/-- A lock, a change of check_en and a commit change no register but PAGE_CTRL. -/
theorem Dev.same_ctrlWrite (h : i = 4 ∨ i = 5 ∨ i = 6) :
    SameRegs [addrOf p 0x008] d (d.apply (d.ctrlSeen m p i b)) := by
  refine Dev.same_apply ?_
  rw [Dev.effect_ctrl _ _ _ rfl, if_neg (d.cmd_ctrlSeen_reset m p i b hf (by omega))]
  have hacts := Dev.same_ctrlActs d (d.store (d.ctrlSeen m p i b)) (d.ctrlSeen m p i b)
    (d.alters_ctrlSeen m p i b hf _ rfl (.inl rfl) (by change 0 ≠ i; omega))
    (d.alters_ctrlSeen m p i b hf _ rfl (.inr (.inl rfl)) (by change 2 ≠ i; omega))
  have hstored : SameRegs [addrOf p 0x008] d (d.store (d.ctrlSeen m p i b)) := d.same_store (d.ctrlSeen m p i b)
  exact (hstored.step hacts (by simp)).step (Dev.same_ctrlCommit _ _) fun _ h => h

/-- A privileged master's commit raises check_busy. -/
theorem Dev.rd_commitWrite (hpriv : d.privileged m = true) :
    (d.apply (d.ctrlSeen m p 6 true)).rd p F.PAGE_CTRL_check_busy = 1 := by
  have hcmd : (d.ctrlSeen m p 6 true).cmd F.PAGE_CTRL_commit = 1 := by
    rw [Wr.cmd_full _ _ rfl (by decide), d.val_ctrlSeen_own m p 6 true hf _ rfl rfl (by simp [hpriv])]
    rfl
  rw [Dev.rd_apply, Dev.effect_ctrl _ _ _ rfl, if_neg (d.cmd_ctrlSeen_reset m p 6 true hf (by decide))]
  unfold Dev.ctrlCommit
  rw [if_pos hcmd]
  exact Dev.rd_wr_fit _ p F.PAGE_CTRL_check_busy 1 (by decide) (by decide)

theorem Dev.cmd_resetWrite : (d.ctrlSeen m p 1 true).cmd F.PAGE_CTRL_block_reset = 1 := by
  rw [Wr.cmd_full _ _ rfl (by decide), d.val_ctrlSeen_own m p 1 true hf _ rfl rfl (.inr (.inl rfl))]
  rfl

/-- A block reset raises reset_busy on every page of its block. -/
theorem Dev.rd_resetWrite (q : Nat) (hq : q ∈ blockPages p) :
    (d.apply (d.ctrlSeen m p 1 true)).rd q F.PAGE_CTRL_reset_busy = 1 := by
  rw [Dev.rd_apply, Dev.effect_ctrl _ _ _ rfl, if_pos (d.cmd_resetWrite m p hf)]
  exact Dev.busy_blockReset _ d p q hq

end

/-- A write of PAGE_CTRL that passes is performed, and PAGE_CTRL is a register of its page. -/
theorem Dev.writeAt_ctrl {d : Dev} {m : Master} {p i : Nat} {b : Bool} (h : accepted d p 0x008 (ctrlWr d m p i b) = true) :
    (fieldsAt p 0x008).isSome = true ∧ d.writeAt p 0x008 (ctrlWr d m p i b) = d.apply (d.ctrlSeen m p i b) := by
  obtain ⟨-, -, -, hf, -⟩ := (acceptedAs_iff d p 0x008 _ _).mp h
  exact ⟨by rw [← Option.not_isNone, hf]; rfl, d.writeAt_accepted p 0x008 _ (by decide) (by decide) h⟩

end Sys2Proof.Machine

namespace Sys2Proof.Safety

open Sys2Proof.Machine

/-- Settles O7: the effects of a PAGE_CTRL write leave every page's PAGE_CTRL, but for check_busy and reset_busy. -/
theorem pageControlWrites : Obligations.PageControlWrites := by
  intro s m page v d p x
  refine ⟨fun ha => ?_, fun ha => ?_, fun ha hbasic => ?_, fun hpriv ha => ?_, fun hpriv ha => ?_, fun hpriv ha => ?_⟩ <;>
    obtain ⟨hf, hw⟩ := Dev.writeAt_ctrl ha
  · exact ⟨_, gives_onDev (exec_pageEnable m page v s) hw, rfl,
      d.rd_ctrlWrite m p 0 v hf F.PAGE_CTRL_enable rfl rfl rfl (by decide) (by decide) (by decide) (.inl rfl)⟩
  · exact ⟨_, gives_onDev (exec_blockReset m page s) hw, rfl, d.cmd_resetWrite m p hf, d.rd_resetWrite m p hf⟩
  · exact ⟨_, gives_onDev (exec_levelChange m page v s) hw, rfl,
      d.rd_ctrlWrite m p 2 v hf F.PAGE_CTRL_level rfl rfl rfl (by decide) (by decide) (by decide) (.inr (.inl ⟨rfl, hbasic⟩))⟩
  · exact ⟨_, gives_onDev (exec_pageLock m page s) hw,
      d.rd_ctrlWrite m p 4 true hf F.PAGE_CTRL_lock rfl rfl rfl (by decide) (by decide) (by decide) (by simp [hpriv]),
      d.same_ctrlWrite m p 4 true hf (.inl rfl)⟩
  · exact ⟨_, gives_onDev (exec_checkEnable m page v s) hw,
      d.rd_ctrlWrite m p 5 v hf F.PAGE_CTRL_check_en rfl rfl rfl (by decide) (by decide) (by decide) (by simp [hpriv]),
      d.same_ctrlWrite m p 5 v hf (.inr (.inl rfl))⟩
  · exact ⟨_, gives_onDev (exec_pageCommit m page s) hw, d.rd_commitWrite m p hf hpriv,
      d.same_ctrlWrite m p 6 true hf (.inr (.inr rfl))⟩

end Sys2Proof.Safety
end

section
/-! SUPPORT. Resets and the start of the device: what a whole reset keeps, what the band search of the CS loops touches, and what a
reset that begins a start leaves. -/
namespace Sys2Proof.Machine

open Sys2Proof.Safety

/-! ## The band search of the CS loops -/

/-- The registers of a band search of the CS loops. -/
def SearchReg (a : Nat) : Prop := SynReg a ∨ a = addrOf 0x18 F.CLK_GUARD_safe.off

theorem not_searchReg (p off : Nat) (ho : off < 65536) (h1 : p ≠ 0x01) (h2 : p = 0x02 → off ≠ 0x05C) (h : p < 0x18 ∨ 0x1F ≤ p) :
    ¬SearchReg (addrOf p off) := by
  rintro ((e | e | e) | e)
  · exact h1 ((addrOf_inj p 0x01 off _ ho (by decide)).mp e).1
  · obtain ⟨hp, hoff⟩ := (addrOf_inj p 0x02 off _ ho (by decide)).mp e
    exact h2 hp hoff
  · rw [addrOf_page p off ho] at e
    omega
  · obtain ⟨hp, -⟩ := (addrOf_inj p 0x18 off _ ho (by decide)).mp e
    omega

theorem not_searchReg_rst (off : Nat) (ho : off < 65536) (h : off ≠ 0x048) : ¬SearchReg (addrOf 0x01 off) := by
  rintro ((e | e | e) | e)
  · exact h ((addrOf_inj 0x01 0x01 off _ ho (by decide)).mp e).2
  · exact absurd ((addrOf_inj 0x01 0x02 off _ ho (by decide)).mp e).1 (by decide)
  · rw [addrOf_page 0x01 off ho] at e
    omega
  · exact absurd ((addrOf_inj 0x01 0x18 off _ ho (by decide)).mp e).1 (by decide)

section
variable (d : Dev)

theorem Dev.within_guardedSearch (c : Nat) : Within SearchReg d ((d.wr 0x18 F.CLK_GUARD_safe 1).synSearch c) :=
  ((Within.refl d).wr _ _ _ (.inr rfl)).trans ((Dev.within_synSearch _ c).mono fun _ => .inl)

theorem Dev.within_csSearch : Within SearchReg d d.csSearch :=
  (d.within_guardedSearch 0).trans ((Dev.within_synSearch _ 1).mono fun _ => .inl)

/-- Both CS loops search. -/
theorem Dev.job_csSearch (c : Nat) (hc : c < 2) : (d.csSearch.syn c).job = .search := by
  unfold Dev.csSearch
  obtain rfl | rfl : c = 0 ∨ c = 1 := by omega
  · rw [Dev.syn_synSearch, Dev.syn_setSyn_other _ 1 0 _ (by decide), Dev.syn_synSearch, Dev.syn_setSyn_same]
  · rw [Dev.syn_synSearch, Dev.syn_setSyn_same]

theorem Dev.safe_csSearch : d.csSearch.on 0x18 F.CLK_GUARD_safe = true := by
  have hs : Within SynReg (d.wr 0x18 F.CLK_GUARD_safe 1) d.csSearch :=
    (Dev.within_synSearch _ 0).trans (Dev.within_synSearch _ 1)
  unfold Dev.on
  rw [hs.rd _ _ (not_synReg _ _ (by decide) (by decide) (by decide) (by decide)), Dev.rd_wr_fit _ _ _ _ (by decide) (by decide)]
  rfl

end

/-! ## A whole reset -/

/-- With no register listed and no copy upset, each reads its Reset value. -/
theorem Dev.reg_unlisted {d : Dev} (hr : d.regs = []) (hu : d.upset = []) (a : Nat) : d.reg a = resetWord a := by
  simp [Dev.reg, Dev.raw, hr, hu]

/-- Restoring some registers leaves the others. -/
theorem Dev.reg_restore (d old : Dev) (ks : List (Nat × Word)) (a : Nat) (h : ∀ k ∈ ks, k.1 ≠ a) :
    (d.restore old ks).reg a = d.reg a :=
  foldl_keeps (step := fun d (k : Nat × Word) => d.putBits k.1 k.2 (old.reg k.1)) (·.reg a) ks
    (fun e k hk => e.reg_putBits_other _ _ _ _ (h k hk).symm) d

theorem Dev.upset_restore (d old : Dev) (ks : List (Nat × Word)) (h : d.upset = []) : (d.restore old ks).upset = [] := by
  unfold Dev.restore
  induction ks generalizing d with
  | nil => exact h
  | cons k ks ih => exact ih _ (Dev.upset_putBits_nil h _ _ _)

section
variable (d : Dev)

/-- What outlives a reset lies on pages from 0x10 on. -/
theorem Dev.kept_page (k : Nat × Word) (hk : k ∈ d.kept) : 0x10 ≤ k.1 / 65536 := by
  unfold Dev.kept at hk
  simp only [List.mem_append, List.mem_flatMap, List.mem_range] at hk
  have page : ∀ p off : Nat, 0x10 ≤ p → 0x10 ≤ addrOf p off / 65536 := fun p off hp => by
    unfold addrOf
    omega
  obtain (h | ⟨s, hs, h⟩) | ⟨b, hb, h⟩ := hk
  · simp only [List.mem_cons, List.not_mem_nil, or_false] at h
    obtain rfl | rfl | rfl | rfl := h <;> exact page _ _ (by decide)
  · simp only [List.mem_cons, List.not_mem_nil, or_false, List.mem_map] at h
    obtain (rfl | rfl) | ⟨j, -, rfl⟩ := h <;> exact page _ _ (by omega)
  · rw [List.mem_cons] at h
    obtain rfl | h := h
    · exact page _ _ (by omega)
    · split at h
      · rw [List.mem_singleton.mp h]
        exact page _ _ (by omega)
      · exact absurd h List.not_mem_nil

theorem Dev.reg_wiped (a : Nat) (h : ∀ k ∈ d.kept, k.1 ≠ a) : d.wiped.reg a = resetWord a :=
  (Dev.reg_restore _ _ _ a h).trans (Dev.reg_unlisted rfl rfl a)

theorem Dev.reg_wiped_low (p off : Nat) (ho : off < 65536) (hp : p < 0x10) : d.wiped.reg (addrOf p off) = resetWord (addrOf p off) :=
  d.reg_wiped _ fun k hk e => by
    have := d.kept_page k hk
    rw [e, addrOf_page p off ho] at this
    omega

theorem Dev.upset_wiped : d.wiped.upset = [] := Dev.upset_restore _ _ _ rfl
theorem Dev.ready_of_reset (h : d.reg (addrOf 0x01 0x040) = resetWord (addrOf 0x01 0x040)) : d.ready = false := by
  have hv : F.RST_STAT_ready.get (resetWord (addrOf 0x01 0x040)) = 0 := by decide +kernel
  unfold Dev.ready Dev.on Dev.rd
  change (F.RST_STAT_ready.get (d.reg (addrOf 0x01 0x040)) != 0) = false
  rw [h, hv]
  rfl

theorem Dev.ready_wiped : d.wiped.ready = false := Dev.ready_of_reset _ (d.reg_wiped_low _ _ (by decide) (by decide))

theorem Dev.ready_setBill (b : Bill) : ({ d with bill := b } : Dev).ready = d.ready := rfl

theorem Dev.ready_pinReset : d.pinReset.ready = false := by
  unfold Dev.pinReset
  exact (d.wiped.ready_setBill _).trans d.ready_wiped

/-! ## The beginning of a start -/

section
variable (post : BitVec 4) (cause : Nat)

theorem Dev.ready_begin (h : d.ready = false) : (d.begin post cause).ready = false := by
  unfold Dev.ready Dev.on at h ⊢
  have hsame : (d.begin post cause).rd 0x01 F.RST_STAT_ready = d.rd 0x01 F.RST_STAT_ready := by
    unfold Dev.begin
    rw [(Dev.within_csSearch _).rd _ _ (not_searchReg_rst _ (by decide) (by decide)),
      Dev.rd_wr_disjoint _ _ F.RST_STAT_cause F.RST_STAT_ready _ rfl (by decide) (by decide)]
    exact (d.same_putBits _ _ _).rd _ _ (by decide)
  rw [hsame, h]

theorem Dev.cause_begin (hc : cause < 2 ^ F.RST_STAT_cause.w) : (d.begin post cause).rd 0x01 F.RST_STAT_cause = cause := by
  unfold Dev.begin
  rw [(Dev.within_csSearch _).rd _ _ (not_searchReg_rst _ (by decide) (by decide)), Dev.rd_wr_fit _ _ _ _ (by decide) hc]

/-- The self-test's result shows where it was put. -/
theorem Dev.post_putBits : (d.putBits (addrOf 0xF0 0x040) 0xF (post.setWidth 32)).reg (addrOf 0xF0 0x040) &&& 0xF = post.setWidth 32 := by
  rw [Dev.reg_putBits_same]
  ext i hi
  simp only [BitVec.getElem_and, BitVec.getElem_or, BitVec.getElem_not, BitVec.getElem_setWidth]
  by_cases h : i < 4
  · interval_cases i <;> simp
  · rw [post.getLsbD_of_ge i (by omega)]
    interval_cases i <;> simp

theorem Dev.post_begin : (d.begin post cause).reg (addrOf 0xF0 0x040) &&& 0xF = post.setWidth 32 := by
  unfold Dev.begin
  rw [(Dev.within_csSearch _).reg _ (not_searchReg _ _ (by decide) (by decide) (by decide) (by decide)),
    Dev.reg_wr_other _ _ _ _ _ (by decide), d.post_putBits]

end

end

end Sys2Proof.Machine

namespace Sys2Proof.Safety

open Sys2Proof.Machine

theorem exec_powerUp (post : BitVec 4) (s : State) : exec (.powerUp post) s = onBoth s fun d _ => powerOn d post := rfl
theorem exec_resetN (lowNs : Nat) (post : BitVec 4) (s : State) :
    exec (.resetN lowNs post) s = onBoth s fun d m => resetPin d m lowNs post := rfl
theorem exec_supplyReset (sup : Fin 13) (s : State) : exec (.supplyReset sup) s = onBoth s fun d _ => supplyDown d := rfl

/-- Settles O18: no register is listed, so each reads its Reset value, and every record is its initial one. -/
theorem resetValues : Obligations.ResetValues :=
  ⟨Dev.reg_unlisted rfl rfl, Dev.ready_of_reset _ (Dev.reg_unlisted rfl rfl _), rfl, rfl, rfl, rfl,
    fun m => by cases m <;> decide +kernel, rfl, rfl, Mem.wf_reset⟩

/-- Settles O19: a reset restores what it keeps and nothing else, and what then begins the start touches its own registers. -/
theorem wholeResets : Obligations.WholeResets := by
  intro s post lowNs sup d
  have hstart (e : Dev) (cause : Nat) : ((e.begin post cause).syn 0).job = .search ∧ ((e.begin post cause).syn 1).job = .search ∧
      (e.begin post cause).on 0x18 F.CLK_GUARD_safe = true :=
    ⟨Dev.job_csSearch _ 0 (by decide), Dev.job_csSearch _ 1 (by decide), Dev.safe_csSearch _⟩
  refine ⟨⟨d.wiped, gives_onBoth (exec_supplyReset sup s) rfl, rfl, d.ready_wiped, d.reg_wiped⟩,
    ⟨d.wiped.begin post 0, gives_onBoth (exec_powerUp post s) rfl, rfl, Dev.ready_begin _ _ _ d.ready_wiped,
      Dev.cause_begin _ _ 0 (by decide), Dev.post_begin _ _ _, hstart _ _⟩,
    fun h => ⟨d.pinReset.begin post 1, gives_onBoth (exec_resetN lowNs post s) (if_neg (by omega)), rfl,
      Dev.ready_begin _ _ _ d.ready_pinReset, Dev.cause_begin _ _ 1 (by decide), Dev.post_begin _ _ _, hstart _ _⟩,
    fun h => gives_onBoth (exec_resetN lowNs post s) (if_pos h)⟩

end Sys2Proof.Safety
end

section
/-! SUPPORT. Admission: what follows from each check that an admitted act has passed. -/
namespace Sys2Proof.Machine

open Sys2Proof.Safety

theorem ite_some_eq_none {α : Type} {c : Prop} [Decidable c] {x : α} {y : Option α} :
    (if c then some x else y) = none ↔ ¬c ∧ y = none := by
  split <;> simp_all

/-- The checks of Table 3.13 in their order, all passed. -/
theorem Dev.refusal_none (d : Dev) (s p : Nat) (t : Int) (h : d.refusal s p t = none) :
    d.formatBad s = false ∧ d.on 0x02 F.SB_EMERG_latched = false ∧ d.armed = true ∧
      d.on 0x00 F.GLB_MODE_STAT_changing = false ∧ (d.namesLane s = true → d.mode ≠ 0) ∧ (d.forwards s = true → d.mode = 2) ∧
      (∀ n, n < 16 → d.names F.ACT_LANES_tx n s = true → d.r2 n = true) ∧ d.conflicts s = false ∧
      (d.rd 0x03 (F.ACT_W0_start.at s) = 1 → d.count.toNat + (if d.forwards s then 37000 else 2000) ≤ d.startCount s) ∧
      p ≤ 10 * d.rd 0x02 F.SB_PWR_LIMIT_watts ∧ tooHot t p = false := by
  simp only [Dev.refusal, ite_some_eq_none] at h
  obtain ⟨-, hformat, hemerg, hstate, hmode, hfwd, hr2, -, hconf, hlead, -, -, hlimit, hheat, -⟩ := h
  simp only [Bool.not_eq_true, Bool.not_eq_eq_eq_not, Bool.not_true, Bool.not_eq_false, Bool.and_eq_true, Bool.or_eq_true,
    beq_iff_eq, bne_iff_ne, decide_eq_true_eq, not_and, not_or, List.any_eq_false, List.mem_range] at *
  exact ⟨hformat, hemerg, hstate.1, hstate.2, fun h => hmode (.inl h), fun h => by_contra (hfwd h), hr2, hconf,
    fun h => not_lt.mp (hlead h), by omega, hheat⟩

/-- What is not too hot stays under the cap of Table 3.8 and its power. -/
theorem not_tooHot {t : Int} {p : Nat} (h : tooHot t p = false) : p ≤ 1500 ∧ t ≤ 1250000 * tempScale := by
  simp only [tooHot, Bool.or_eq_false_iff, decide_eq_false_iff_not] at h
  obtain ⟨⟨ht, hp⟩, -⟩ := h
  exact ⟨by omega, not_lt.mp ht⟩

end Sys2Proof.Machine

namespace Sys2Proof.Safety

open Sys2Proof.Machine

/-- Settles O27: each conjunct is one check of Table 3.13; the lead of a forwarding act is the longer one. -/
theorem admissionIsSafe : Obligations.AdmissionIsSafe := by
  intro d k p t h
  obtain ⟨hformat, hemerg, harmed, hmode0, hlane, hfwd, hr2, hconf, hlead, hlimit, hheat⟩ := d.refusal_none k p t h
  obtain ⟨hcap, htemp⟩ := not_tooHot hheat
  refine ⟨hformat, hemerg, harmed, hmode0, hlane, hfwd, hr2, hconf, fun hs => ?_, hlimit, hcap, htemp⟩
  have hl := hlead hs
  split at hl <;> omega

end Sys2Proof.Safety
end

section
/-! SUPPORT. Power-state transitions: what beginning one writes, and what each request asks for. -/
namespace Sys2Proof.Machine

open Sys2Proof.Safety

section
variable (d : Dev) (t : Trans)

theorem Dev.same_setTrans : SameRegs [addrOf 0x02 0x040] d (d.setTrans t) :=
  Dev.same_wr { d with bill := { d.bill with trans := t } } 0x02 _ F.SB_STATE_changing

theorem Dev.rd_setTrans : (d.setTrans t).rd 0x02 F.SB_STATE_changing = (decide (t ≠ Trans.none)).toNat :=
  Dev.rd_wr_fit _ _ _ _ (by decide) (Nat.lt_succ_of_le (Bool.toNat_le _))

@[simp] theorem Dev.bill_setTrans : (d.setTrans t).bill = { d.bill with trans := t } := Dev.wr_bill _ _ _ _
@[simp] theorem Dev.syn_setTrans (i : Nat) : (d.setTrans t).syn i = d.syn i := Dev.syn_congr (Dev.wr_syns _ _ _ _) i

theorem Dev.power_setTrans : (d.setTrans t).power = d.power :=
  Dev.rd_wr_disjoint { d with bill := { d.bill with trans := t } } 0x02 F.SB_STATE_changing F.SB_STATE_cur _ rfl (by decide)
    (by decide)

/-- Whether the state is ARMED or SHOW. -/
theorem Dev.armedState_iff : (d.power == 3 || d.power == 4) = true ↔ d.power = 3 ∨ d.power = 4 := by
  rw [Bool.or_eq_true, beq_iff_eq, beq_iff_eq]

theorem Dev.requestState_dormant :
    d.requestState 1 = d.setTrans (if d.power = 3 ∨ d.power = 4 then .toStandby false true else .toDormant) := by
  simp only [Dev.requestState, d.armedState_iff]
  split <;> rfl

theorem Dev.requestState_standby (h : d.power = 3 ∨ d.power = 4) : d.requestState 2 = d.setTrans (.toStandby false false) :=
  if_pos (d.armedState_iff.mpr h)

theorem Dev.requestState_standby_stays (h : ¬(d.power = 3 ∨ d.power = 4)) : d.requestState 2 = d :=
  if_neg fun hc => h (d.armedState_iff.mp hc)

theorem Dev.requestState_armed_stays (h : d.power = 3 ∨ d.power = 4) : d.requestState 3 = d :=
  if_pos (d.armedState_iff.mpr h)

theorem Dev.requestState_armed (h : ¬(d.power = 3 ∨ d.power = 4)) : d.requestState 3 = (d.setTrans .toArmed).armAll :=
  if_neg fun hc => h (d.armedState_iff.mp hc)

end

end Sys2Proof.Machine

namespace Sys2Proof.Safety

open Sys2Proof.Machine

section
variable (d : Dev) (w : BusWrite)

/-- A write of SB_STATE_REQ, stored. -/
theorem same_store_req : SameRegs [addrOf 0x02 0x044] d (d.store (seen d 0x02 0x044 w)) :=
  d.same_store (seen d 0x02 0x044 w)

theorem rd_store_req : (d.store (seen d 0x02 0x044 w)).rd 0x02 F.SB_STATE_REQ_req = (seen d 0x02 0x044 w).val F.SB_STATE_REQ_req :=
  congrArg F.SB_STATE_REQ_req.get (d.reg_store_same 0x02 0x044 w rfl (by decide))

theorem power_store_req : (d.store (seen d 0x02 0x044 w)).power = d.power :=
  (same_store_req d w).rd 0x02 F.SB_STATE_cur (by decide)

/-- An accepted write of SB_STATE_REQ stores its request and acts on it. -/
theorem performs_request {c : Instr} {s : State} {r : Nat} (h : exec c s = onDev s fun d => d.writeAt 0x02 0x044 w)
    (ha : accepted s.dev 0x02 0x044 w = true) (hr : (seen s.dev 0x02 0x044 w).val F.SB_STATE_REQ_req = r) :
    Performs c s ((s.dev.store (seen s.dev 0x02 0x044 w)).requestState r) :=
  performs_block h (by decide) (by decide) ha (by decide) (by decide) (congrArg (Dev.requestState _) hr)

/-- A transition that a request begins leaves the request and every other register. -/
theorem request_begins (t : Trans) :
    ((d.store (seen d 0x02 0x044 w)).setTrans t).rd 0x02 F.SB_STATE_REQ_req = (seen d 0x02 0x044 w).val F.SB_STATE_REQ_req ∧
      SameRegs [addrOf 0x02 0x040, addrOf 0x02 0x044] d ((d.store (seen d 0x02 0x044 w)).setTrans t) ∧
      ((d.store (seen d 0x02 0x044 w)).setTrans t).bill = { d.bill with trans := t } := by
  refine ⟨((Dev.same_setTrans _ t).rd _ _ (by decide)).trans (rd_store_req d w), ?_, ?_⟩
  · exact ((same_store_req d w).mono (k := [addrOf 0x02 0x044]) (by decide)).step (Dev.same_setTrans _ t) (by decide)
  · rw [Dev.bill_setTrans, Dev.store_bill]

end

/-- Settles O21: each request begins the transition that Table 3.5 names, which writes SB_STATE alone, and ARMED starts its
synthesizers. -/
theorem powerRequests : Obligations.PowerRequests := by
  intro s m d w x
  refine ⟨fun ha hr => ?_, fun ha hr => ?_, fun ha hr => ?_⟩
  · have hp := performs_request (w 1) (c := .reqDormant m) rfl ha hr
    rw [Dev.requestState_dormant, power_store_req] at hp
    obtain ⟨hreq, hsame, hbill⟩ := request_begins d (w 1) (if d.power = 3 ∨ d.power = 4 then .toStandby false true else .toDormant)
    refine ⟨_, hp, (Dev.rd_setTrans _ _).trans ?_, hreq.trans hr, hsame, hbill⟩
    split <;> rfl
  · have hp := performs_request (w 2) (c := .reqStandby m) rfl ha hr
    by_cases harmed : d.power = 3 ∨ d.power = 4
    · rw [Dev.requestState_standby _ ((power_store_req d (w 2)).symm ▸ harmed)] at hp
      obtain ⟨hreq, hsame, hbill⟩ := request_begins d (w 2) (.toStandby false false)
      exact ⟨_, hp, hreq.trans hr, hsame, fun _ => ⟨Dev.rd_setTrans _ _, hbill⟩, fun h => by omega⟩
    · rw [Dev.requestState_standby_stays _ ((power_store_req d (w 2)).symm ▸ harmed)] at hp
      exact ⟨_, hp, (rd_store_req d (w 2)).trans hr, (same_store_req d (w 2)).mono (by decide), fun h => absurd h harmed,
        fun _ => Dev.store_bill _ _⟩
  · have hp := performs_request (w 3) (c := .reqArmed m) rfl ha hr
    by_cases harmed : d.power = 3 ∨ d.power = 4
    · rw [Dev.requestState_armed_stays _ ((power_store_req d (w 3)).symm ▸ harmed)] at hp
      exact ⟨_, hp, (rd_store_req d (w 3)).trans hr, fun h => by omega, fun _ => ⟨Dev.store_bill _ _, same_store_req d (w 3)⟩⟩
    · rw [Dev.requestState_armed _ ((power_store_req d (w 3)).symm ▸ harmed)] at hp
      obtain ⟨hreq, hsame, hbill⟩ := request_begins d (w 3) .toArmed
      have harm := Dev.within_armAll ((d.store (x 3)).setTrans .toArmed)
      refine ⟨_, hp, (harm.rd _ _ (not_synReg _ _ (by decide) (by decide) (by decide) (by decide))).trans (hreq.trans hr),
        fun _ => ⟨?_, ?_, fun i hi hen => ?_⟩, fun h => absurd h harmed⟩
      · exact (harm.rd _ _ (not_synReg _ _ (by decide) (by decide) (by decide) (by decide))).trans (Dev.rd_setTrans _ _)
      · rw [harm.bill, hbill]
      · rw [Dev.on_armAll _ i hi]
        · exact hsame.bit 0x02 0x048 i (by decide)
        · refine (hsame.on _ _ fun h => ?_).trans hen
          have hpage := synPage_mem (6 + i)
          simp only [List.mem_cons, List.not_mem_nil, or_false] at h
          obtain h | h := h <;> exact absurd ((addrOf_inj _ _ F.PAGE_CTRL_enable.off _ (by decide) (by decide)).mp h).1 (by omega)

end Sys2Proof.Safety
end

section
/-! SUPPORT. The end of a start and of a wake: the self-test's result and the cause of the start, which both have shown since it
began, stay; the rest is what the device shows when it becomes ready. -/
namespace Sys2Proof.Machine

open Sys2Proof.Safety

/-! ## Steps that keep the self-test's result and the cause -/

/-- The bits of a register that show the self-test's result or the cause of the start. -/
def startBits (a : Nat) : Word :=
  if a = addrOf 0xF0 0x040 then 0xF else if a = addrOf 0x01 0x040 then F.RST_STAT_cause.mask else 0

/-- A step keeps the self-test's result and the cause of the start. -/
structure StartKept (d e : Dev) : Prop where
  reg : ∀ a, e.reg a &&& startBits a = d.reg a &&& startBits a

theorem startBits_page {p off : Nat} (ho : off < 65536) (hp : p ≠ 0xF0 ∧ p ≠ 0x01) : startBits (addrOf p off) = 0 := by
  unfold startBits
  rw [if_neg fun e => hp.1 ((addrOf_inj p 0xF0 off _ ho (by decide)).mp e).1,
    if_neg fun e => hp.2 ((addrOf_inj p 0x01 off _ ho (by decide)).mp e).1]

/-- What the masks of two bit sets have in common, kept apart, a write of the one leaves the other. -/
theorem written_and (r m w k : Word) (h : m &&& k = 0) : ((r &&& ~~~m) ||| (w &&& m)) &&& k = r &&& k := by
  ext i hi
  have e := congrArg (fun x : Word => x[i]) h
  simp only [BitVec.getElem_and, BitVec.ofNat_eq_ofNat, BitVec.getElem_zero] at e
  simp only [BitVec.getElem_or, BitVec.getElem_and, BitVec.getElem_not]
  cases hm : m[i] <;> cases hk : k[i] <;> simp_all

section
variable {d e f : Dev}

theorem StartKept.refl (d : Dev) : StartKept d d := ⟨fun _ => rfl⟩

theorem StartKept.trans (h : StartKept d e) (k : StartKept e f) : StartKept d f := ⟨fun a => (k.reg a).trans (h.reg a)⟩

theorem StartKept.regs (h : StartKept d e) (hr : f.regs = e.regs) (hu : f.upset = e.upset) : StartKept d f :=
  h.trans ⟨fun a => by rw [Dev.reg_congr e f a hr hu]⟩

theorem StartKept.ite {c : Prop} [Decidable c] (h : StartKept d e) (k : StartKept d f) : StartKept d (if c then e else f) := by
  split
  · exact h
  · exact k

theorem StartKept.foldDev {α : Type} {step : Dev → α → Dev} {xs : List α} (h : ∀ d, ∀ x ∈ xs, StartKept d (step d x))
    (d : Dev) : StartKept d (xs.foldl step d) := by
  induction xs generalizing d with
  | nil => exact .refl d
  | cons x xs ih =>
    exact (h d x (List.mem_cons_self ..)).trans (ih (fun d y hy => h d y (List.mem_cons_of_mem _ hy)) (step d x))

theorem StartKept.putBits {a : Nat} {m w : Word} (hm : m &&& startBits a = 0) (h : StartKept d e) :
    StartKept d (e.putBits a m w) :=
  h.trans ⟨fun b => by
    by_cases hb : b = a
    · rw [hb, Dev.reg_putBits_same, written_and _ _ _ _ hm]
    · rw [Dev.reg_putBits_other _ _ _ _ _ hb]⟩

section
variable {p v : Nat} {g : Field}

theorem StartKept.wr (hp : p ≠ 0xF0 ∧ p ≠ 0x01) (ho : g.off < 65536) (h : StartKept d e) : StartKept d (e.wr p g v) :=
  h.putBits (by rw [startBits_page ho hp]; exact BitVec.and_zero)

/-- A field of RST_STAT beside the cause, or of another register of its page. -/
theorem StartKept.wrRst (hm : g.mask &&& startBits (addrOf 0x01 g.off) = 0) (h : StartKept d e) :
    StartKept d (e.wr 0x01 g v) := h.putBits hm

end

/-- The two fields themselves. -/
theorem StartKept.post (h : StartKept d e) : e.reg (addrOf 0xF0 0x040) &&& 0xF = d.reg (addrOf 0xF0 0x040) &&& 0xF := h.reg _

theorem StartKept.cause (h : StartKept d e) : e.rd 0x01 F.RST_STAT_cause = d.rd 0x01 F.RST_STAT_cause :=
  Field.get_congr _ _ _ (h.reg (addrOf 0x01 0x040)) (by decide)

end

/-! ## What a start does -/

section
variable (d : Dev)

/-- The reload of cal fields leaves RO fields as they are (R38), the two among them. -/
theorem startKept_keptBits (a : Nat) : ~~~(keptBits (a / 65536) (a % 65536)) &&& startBits a = 0 := by
  by_cases h1 : a = addrOf 0xF0 0x040
  · subst h1
    decide +kernel
  · by_cases h2 : a = addrOf 0x01 0x040
    · subst h2
      decide +kernel
    · unfold startBits
      rw [if_neg h1, if_neg h2]
      exact BitVec.and_zero

theorem Dev.startKept_recallCal : StartKept d d.recallCal :=
  StartKept.foldDev (fun e x _ => .putBits (startKept_keptBits x.1) (.refl e)) d

theorem StartKept.synWr {d e : Dev} {i v : Nat} {f : Field} (hf : f.off + 5 * f.st < 65536) (h : StartKept d e) :
    StartKept d (e.synWr i f v) := by
  have hp := synPage_mem i
  have hm : synIndex i * f.st ≤ 5 * f.st := Nat.mul_le_mul_right _ (synIndex_le i)
  exact h.wr (by omega) (by simp only [Field.at]; omega)

theorem Dev.startKept_setLocked (i : Nat) (b : Bool) : StartKept d (d.setLocked i b) :=
  .putBits (by rw [show startBits (addrOf 0x01 0x048) = 0 by decide]; exact BitVec.and_zero) <| .synWr (by decide) <| .refl d

theorem Dev.startKept_fresh : StartKept d d.fresh.2 := .regs (.refl d) rfl rfl

theorem Dev.startKept_showRate (i : Nat) : StartKept d (d.showRate i) := by
  have hp := synPage_mem i
  unfold Dev.showRate
  refine .ite (.wr (by omega) ?_ (.refl d)) (.refl d)
  split <;> decide

theorem Dev.startKept_synLock (i band : Nat) : StartKept d (d.synLock i band) := by
  unfold Dev.synLock
  simp only
  refine .trans ?_ (Dev.startKept_showRate _ i)
  refine .synWr (by decide) <| .synWr (by decide) <| .trans ?_ (Dev.startKept_setLocked _ i true)
  refine .regs (e := Dev.synWr _ i F.SYN_COUNT_expect _) ?_ rfl rfl
  refine .synWr (by decide) <| .synWr (by decide) ?_
  have hcount : ∀ (b : Dev) (c : Prop) [Decidable c] (x y : Nat), StartKept b (if c then (x, b) else (y, b.fresh.2)).2 := by
    intro b c _ x y
    split
    · exact .refl b
    · exact b.startKept_fresh
  exact .trans (.ite (.synWr (by decide) <| .refl d) (.refl d)) (hcount _ _ _ _)

theorem StartKept.setSyn {d e : Dev} {i : Nat} {t : Syn} (h : StartKept d e) : StartKept d (e.setSyn i t) := h.regs rfl rfl

theorem Dev.startKept_startLock (i : Nat) : StartKept d (d.startLock i) := by
  unfold Dev.startLock
  simp only
  exact d.startKept_fresh.setSyn.trans (Dev.startKept_synLock _ i _)

theorem Dev.startKept_commitDone (p : Nat) (hp : p ≠ 0xF0 ∧ p ≠ 0x01) : StartKept d (d.commitDone p) := by
  unfold Dev.commitDone
  refine .ite ?_ (.refl d)
  exact .regs (.wr hp (by decide) <| .wr hp (by decide) <| .wr hp (by decide) <| .wr hp (by decide) <| .refl d) rfl rfl

theorem Dev.startKept_bindMail : StartKept d d.bindMail :=
  StartKept.foldDev (fun e p hp => by
    have hp : p ≠ 0xF0 ∧ p ≠ 0x01 := by
      simp only [List.mem_cons, List.not_mem_nil, or_false] at hp
      omega
    exact .wr hp (by decide) <| .trans (.wr hp (by decide) <| .refl e) (Dev.startKept_commitDone _ p hp)) d

theorem Dev.startKept_setSlot (b : Bool) (s : Nat) : StartKept d (d.setSlot b s) :=
  .wr (by decide) (by cases b <;> decide) <| .refl d

theorem Dev.startKept_runFrom (b fallback : Bool) : StartKept d (d.runFrom b fallback) :=
  .wrRst (by decide) <| .regs (.wr (by decide) (by decide) <| .wr (by decide) (by decide) <| .wr (by decide) (by decide) <|
    .wr (by decide) (by decide) <| .wr (by decide) (by decide) <| d.startKept_setSlot b 1) rfl rfl

theorem Dev.startKept_bootActive (okA okB : Bool) : StartKept d (d.bootActive okA okB) := by
  unfold Dev.bootActive
  refine .ite (d.startKept_runFrom _ _) <| .ite ((d.startKept_setSlot _ 0).trans (Dev.startKept_runFrom _ _ _)) ?_
  exact .wr (by decide) (by decide) <| .wrRst (by decide) <| .wr (by decide) (by decide) <| .wr (by decide) (by decide) <|
    .wr (by decide) (by decide) <| .wr (by decide) (by decide) <| .wr (by decide) (by decide) <| .refl d

theorem Dev.startKept_boot (okA okB : Bool) : StartKept d (d.boot okA okB) := by
  unfold Dev.boot Dev.bootTry
  split
  next b _ =>
    generalize (if b then okB else okA) = ok
    split_ifs
    · exact d.startKept_runFrom _ _
    · exact (d.startKept_setSlot _ 0).trans (Dev.startKept_bootActive _ _ _)
  next => exact d.startKept_bootActive _ _

end

/-! ## The device that becomes ready -/

section
variable (d : Dev)

/-- The device that comes up, before it shows that it is ready. -/
def Dev.started (d : Dev) (okA okB : Bool) : Dev :=
  (List.range 64).foldl (fun d b => d.setBankState b 0)
    (((((List.range 6).foldl Dev.startLock d).wr 0x18 F.CLK_GUARD_safe 0).bindMail.showHv).boot okA okB)

/-- What it then shows. -/
def Dev.shownReady (d : Dev) (us : Word) : Dev :=
  (((((d.wr 0x01 F.RST_READY_US us.toNat).wr 0x01 F.RST_STAT_ready 1).setPower 2).setTrans .none).wr 0x02 F.SB_STATE_REQ_req 2)

theorem Dev.comeUp_eq (us : Word) (okA okB : Bool) :
    d.comeUp us okA okB = (((d.started okA okB).shownReady us).commitPower.showMeasurement).dmStart := rfl

theorem Dev.startKept_started (okA okB : Bool) : StartKept d (d.started okA okB) := by
  have hlocks : StartKept d ((List.range 6).foldl Dev.startLock d) := StartKept.foldDev (fun e i _ => e.startKept_startLock i) d
  refine .trans ?_ (StartKept.foldDev (fun e b hb => ?_) _)
  · exact .trans (.wr (by decide) (by decide) <| .trans (.wr (by decide) (by decide) hlocks) (Dev.startKept_bindMail _))
      (Dev.startKept_boot _ okA okB)
  · have hb := List.mem_range.mp hb
    exact .wr (by omega) (by change 0x104 + b % 8 * 32 < 65536; omega) <| .refl e

theorem Dev.startKept_shownReady (us : Word) : StartKept d (d.shownReady us) :=
  .wr (by decide) (by decide) <| .wr (by decide) (by decide) <| .regs (.wr (by decide) (by decide) <| .wrRst (by decide) <|
    .wrRst (by decide) <| .refl d) rfl rfl

theorem Dev.within_setStack (n : Nat) (x : Stack) : Within (fun _ => False) d (d.setStack n x) := ⟨fun _ _ => rfl, rfl, rfl⟩

theorem Dev.within_setDm (x : DeepMem) : Within (fun _ => False) d { d with dm := x } := ⟨fun _ _ => rfl, rfl, rfl⟩

theorem Dev.within_fullTraining (n : Nat) : Within (fun _ => False) d (d.fullTraining n) := by
  unfold Dev.fullTraining
  exact d.within_setStack n _

theorem Dev.within_dmStart : Within (fun _ => False) d d.dmStart := by
  have hone : ∀ (e : Dev) (n : Nat),
      Within (fun _ => False) e ((e.setStack n { e.stack n with last := e.count }).fullTraining n) := fun e n =>
    (e.within_setStack n _).trans (Dev.within_fullTraining (e.setStack n { e.stack n with last := e.count }) n)
  have hall : Within (fun _ => False) d
      ((List.range 4).foldl (fun d s => (d.setStack s { d.stack s with last := d.count }).fullTraining s) d) :=
    Within.fold id _ _ (fun e n _ => hone e n) d
  unfold Dev.dmStart
  exact hall.trans (Dev.within_setDm _ _)

/-- What it shows stays: the rest of the start writes SB_PWR_COMMIT and page 0x11. -/
theorem Dev.within_startEnd : Within (fun a => a = addrOf 0x02 F.SB_PWR_COMMIT.off ∨ a / 65536 = 0x11) d
    (d.commitPower.showMeasurement).dmStart := by
  have hmeasure : ∀ e : Dev, Within (fun a => a / 65536 = 0x11) e e.showMeasurement := fun e => by
    unfold Dev.showMeasurement
    generalize (e.measurement (e.rd 0x11 F.SEC_MEAS_SEL_sel)).toNat = v
    refine Within.fold id _ _ (fun f k hk => (Within.refl f).wr _ _ _ ?_) e
    have hk := List.mem_range.mp hk
    exact addrOf_page 0x11 _ (by change 0x080 + k * 4 < 65536; omega)
  exact (((Within.refl d).wr _ _ _ (.inl rfl)).trans ((hmeasure _).mono fun _ => .inr)).trans
    ((Dev.within_dmStart _).mono fun _ h => h.elim)

/-- What the device shows when it is ready in STANDBY. -/
theorem Dev.shownReady_shows (us : Word) :
    (d.shownReady us).ready = true ∧ (d.shownReady us).power = 2 ∧ (d.shownReady us).rd 0x02 F.SB_STATE_changing = 0 ∧
      (d.shownReady us).rd 0x02 F.SB_STATE_REQ_req = 2 ∧ (d.shownReady us).rd 0x01 F.RST_READY_US = us.toNat ∧
      (d.shownReady us).bill.trans = .none := by
  have hr : ∀ e : Dev, SameRegs [addrOf 0x02 0x040, addrOf 0x02 0x044] e
      (((e.setPower 2).setTrans .none).wr 0x02 F.SB_STATE_REQ_req 2) := fun e =>
    (((Dev.same_wr e 0x02 2 F.SB_STATE_cur).mono (k := [addrOf 0x02 0x040]) (by decide)).step (Dev.same_setTrans _ _)
      (by decide)).step (Dev.same_wr _ 0x02 2 F.SB_STATE_REQ_req) (by decide)
  unfold Dev.ready Dev.on Dev.power Dev.shownReady
  refine ⟨?_, ?_, ?_, Dev.rd_wr_fit _ _ _ _ (by decide) (by decide), ?_, by rw [Dev.wr_bill, Dev.bill_setTrans]⟩
  · rw [(hr _).rd _ _ (by decide), Dev.rd_wr_fit _ _ _ _ (by decide) (by decide)]
    rfl
  · rw [Dev.rd_wr_off _ _ _ _ _ (by decide)]
    exact (Dev.power_setTrans _ _).trans (Dev.rd_wr_fit _ _ _ _ (by decide) (by decide))
  · rw [Dev.rd_wr_off _ _ _ _ _ (by decide)]
    exact Dev.rd_setTrans _ _
  · rw [(hr _).rd _ _ (by decide), Dev.rd_wr_off _ _ _ _ _ (by decide), Dev.rd_wr_fit _ _ _ _ (by decide) us.isLt]

theorem Dev.comeUp_shows (us : Word) (okA okB : Bool) :
    (d.comeUp us okA okB).ready = true ∧ (d.comeUp us okA okB).power = 2 ∧
      (d.comeUp us okA okB).rd 0x02 F.SB_STATE_changing = 0 ∧ (d.comeUp us okA okB).rd 0x02 F.SB_STATE_REQ_req = 2 ∧
      (d.comeUp us okA okB).rd 0x01 F.RST_READY_US = us.toNat ∧ (d.comeUp us okA okB).bill.trans = .none := by
  rw [d.comeUp_eq]
  have hend := ((d.started okA okB).shownReady us).within_startEnd
  have hshow := (d.started okA okB).shownReady_shows us
  unfold Dev.ready Dev.power Dev.on at hshow ⊢
  rwa [hend.rd _ _ (by decide), hend.rd _ _ (by decide), hend.rd _ _ (by decide), hend.rd _ _ (by decide),
    hend.rd _ _ (by decide), hend.bill]

theorem Dev.startKept_comeUp (us : Word) (okA okB : Bool) : StartKept d (d.comeUp us okA okB) := by
  rw [d.comeUp_eq]
  refine ((d.startKept_started okA okB).trans (Dev.startKept_shownReady _ us)).trans ⟨fun a => ?_⟩
  by_cases h : startBits a = 0
  · rw [h]
    exact BitVec.and_zero.trans BitVec.and_zero.symm
  · rw [(Dev.within_startEnd _).reg]
    rintro (rfl | hp)
    · exact h (by decide)
    · unfold startBits at h
      split_ifs at h with h1 h2
      · exact absurd (h1 ▸ hp) (by decide)
      · exact absurd (h2 ▸ hp) (by decide)
      · exact h rfl

end

/-! ## The end of a wake -/

section
variable (d : Dev) (post : BitVec 4)

/-- The device as a wake finds it: the self-test's result and the cause in place. -/
def Dev.woken (d : Dev) (post : BitVec 4) : Dev :=
  (({ d with bill := { d.bill with tripped := false } } : Dev).putBits (addrOf 0xF0 0x040) 0xF (post.setWidth 32)).wr 0x01
    F.RST_STAT_cause (if d.bill.tripped then 2 else 3)

theorem Dev.wakeDone_eq (us : Word) (okA okB : Bool) (hpower : d.power = 1) (htrans : d.bill.trans = .waking) :
    d.wakeDone us post okA okB = (d.woken post).reloadTime.recallCal.comeUp us okA okB := if_pos ⟨hpower, htrans⟩

theorem Dev.post_woken : (d.woken post).reg (addrOf 0xF0 0x040) &&& 0xF = post.setWidth 32 := by
  unfold Dev.woken
  rw [Dev.reg_wr_other _ _ _ _ _ (by decide), Dev.post_putBits]

theorem Dev.cause_woken : (d.woken post).rd 0x01 F.RST_STAT_cause = if d.bill.tripped then 2 else 3 :=
  Dev.rd_wr_fit _ _ _ _ (by decide) (by split <;> decide)

theorem Dev.startKept_reloadTime : StartKept d d.reloadTime := .regs (.refl d) rfl rfl

end

end Sys2Proof.Machine

namespace Sys2Proof.Safety

open Sys2Proof.Machine

theorem exec_deviceReady (us : Word) (okA okB : Bool) (s : State) :
    exec (.deviceReady us okA okB) s = onDev s fun d => d.deviceReady us okA okB := rfl
theorem exec_wakeDone (us : Word) (post : BitVec 4) (okA okB : Bool) (s : State) :
    exec (.wakeDone us post okA okB) s = onDev s fun d => d.wakeDone us post okA okB := rfl
theorem exec_xtalValid (s : State) : exec .xtalValid s = onDev s fun d => d.wr 0x04 F.AON_STAT_xtal_ok 1 := rfl

/-- Settles O20: a start and a wake both end in `comeUp`, which shows STANDBY and keeps the bits that say how it began. -/
theorem comesReady : Obligations.ComesReady := by
  intro s us post okA okB d inStandby
  refine ⟨fun hready hpower hon => ?_, fun hpower htrans => ?_, ?_⟩
  · refine ⟨d.loadCal.comeUp us okA okB, gives_onDev (exec_deviceReady us okA okB s) (if_pos ?_), rfl,
      d.loadCal.comeUp_shows us okA okB⟩
    rw [hready, hon, bne_iff_ne.mpr hpower]
    rfl
  · have hkept := ((d.woken post).startKept_reloadTime.trans (Dev.startKept_recallCal _)).trans
      (Dev.startKept_comeUp _ us okA okB)
    exact ⟨(d.woken post).reloadTime.recallCal.comeUp us okA okB,
      gives_onDev (exec_wakeDone us post okA okB s) (d.wakeDone_eq post us okA okB hpower htrans),
      Dev.comeUp_shows (d.woken post).reloadTime.recallCal us okA okB, hkept.post.trans (d.post_woken post),
      hkept.cause.trans (d.cause_woken post)⟩
  · exact ⟨_, gives_onDev (exec_xtalValid s) rfl, Dev.rd_wr_fit _ _ _ _ (by decide) (by decide), d.same_wr _ _ F.AON_STAT_xtal_ok⟩

end Sys2Proof.Safety
end

section
/-! SUPPORT. The act slots' registers, and the evaluation of an act. -/
namespace Sys2Proof.Machine

open Sys2Proof.Safety

/-! ## ACT_STAT -/

/-- The address of a slot's ACT_STAT. -/
def actStat (k : Nat) : Nat := addrOf 0x03 (0x300 + 4 * k)

theorem addrOf_actStat (f : Field) (k : Nat) (ho : f.off = 0x300) (hs : f.st = 4) : addrOf 0x03 (f.at k).off = actStat k := by
  unfold actStat Field.at
  rw [ho, hs, Nat.mul_comm]

theorem actStat_ne {j k : Nat} (h : j ≠ k) : actStat j ≠ actStat k := by
  unfold actStat addrOf
  omega

section
variable {d e : Dev} {k : Nat}

/-- A step that changes one slot's ACT_STAT alone leaves the others. -/
theorem actState_other {l : List Nat} (h : SameRegs l d e) (o : Nat) (ho : actStat o ∉ l) : e.actState o = d.actState o :=
  h.rd 0x03 (F.ACT_STAT_state.at o) (by rwa [addrOf_actStat _ _ rfl rfl])

/-- No status bit of a page changes an ACT_STAT. -/
theorem actStat_not_mem_statAddrs (p o : Nat) (ho : o < 16) : actStat o ∉ statAddrs p :=
  not_mem_statAddrs p 0x03 _ (by omega) (by omega) (fun h => absurd h (by decide))

theorem same_wr_actStat (f : Field) (v : Nat) (ho : f.off = 0x300) (hs : f.st = 4) :
    SameRegs [actStat k] d (d.wr 0x03 (f.at k) v) := by
  rw [← addrOf_actStat f k ho hs]
  exact d.same_wr 0x03 v (f.at k)

end

/-! ## What depends on the acts' page alone -/

/-- Two devices hold the same acts. -/
def SameActs (d e : Dev) : Prop := ∀ off, off < 65536 → e.reg (addrOf 0x03 off) = d.reg (addrOf 0x03 off)

section
variable {d e : Dev}

theorem SameActs.rd (h : SameActs d e) (f : Field) (k : Nat) (hk : k < 16) (hf : f.off + 15 * f.st < 65536) :
    e.rd 0x03 (f.at k) = d.rd 0x03 (f.at k) := by
  have hm : k * f.st ≤ 15 * f.st := Nat.mul_le_mul_right _ (by omega)
  simp only [Dev.rd, h _ (show (f.at k).off < 65536 by simp only [Field.at]; omega)]

theorem SameActs.actState (h : SameActs d e) (k : Nat) (hk : k < 16) : e.actState k = d.actState k :=
  h.rd F.ACT_STAT_state k hk (by decide)

theorem SameActs.liveSlots (h : SameActs d e) : e.liveSlots = d.liveSlots :=
  List.filter_congr fun k hk => by rw [h.actState k (List.mem_range.mp hk)]

theorem SameActs.runSlots (h : SameActs d e) : e.runSlots = d.runSlots :=
  List.filter_congr fun k hk => by rw [h.actState k (List.mem_range.mp hk)]

theorem SameActs.live (h : SameActs d e) (f : Field) (i : Nat) (hf : f.off + 15 * f.st < 65536) : e.live f i = d.live f i := by
  unfold Dev.live
  rw [h.liveSlots, Bool.eq_iff_iff, List.any_eq_true, List.any_eq_true]
  refine exists_congr fun k => and_congr_right fun hk => ?_
  rw [Dev.names, Dev.names, Dev.has, Dev.has, h.rd f k (List.mem_range.mp (List.mem_filter.mp hk).1) hf]

theorem Within.sameActs {A : Nat → Prop} (h : Within A d e) (hA : ∀ off, off < 65536 → ¬A (addrOf 0x03 off)) : SameActs d e :=
  fun off ho => h.reg _ (hA off ho)

end

/-! ## Banks that are kept on -/

/-- The registers of the scratchpad's clusters. -/
def PadReg (a : Nat) : Prop := 0x70 ≤ a / 65536 ∧ a / 65536 < 0x78

theorem not_padReg (p off : Nat) (ho : off < 65536) (hp : p < 0x70) : ¬PadReg (addrOf p off) := by
  intro h
  unfold PadReg at h
  rw [addrOf_page p off ho] at h
  omega

section
variable (d : Dev) (b : Nat)

theorem pwrState_off : (F.SPB_PWR_state.at (b % 8)).off = 0x104 + b % 8 * 32 := rfl
theorem spbOwner_off : (bf b F.SPB_OWN_owner).off = 0x100 + b % 8 * 32 := rfl

theorem Dev.within_setBankState (hb : b < 64) (s : Nat) : Within PadReg d (d.setBankState b s) := by
  refine (Within.refl d).wr _ _ _ ?_
  unfold PadReg
  rw [addrOf_page _ _ (by rw [pwrState_off]; omega)]
  omega

theorem Dev.bankState_setBankState (s : Nat) (hs : s < 4) : (d.setBankState b s).bankState b = s :=
  Dev.rd_wr_fit _ _ _ _ (show 24 + 2 ≤ 32 by omega) hs

theorem Dev.bankState_setBankState_other (n s : Nat) (h : n ≠ b) : (d.setBankState b s).bankState n = d.bankState n := by
  refine Dev.rd_wr_other _ _ _ _ _ _ ?_
  unfold addrOf
  rw [pwrState_off, pwrState_off]
  omega

/-- Whether R313 keeps a bank on does not depend on the banks' states. -/
theorem Dev.keptOn_setBankState (hb : b < 64) (n s : Nat) : (d.setBankState b s).keptOn n = d.keptOn n := by
  have hw := d.within_setBankState b hb s
  have hacts : SameActs d (d.setBankState b s) := hw.sameActs fun off ho => not_padReg 0x03 off ho (by decide)
  have howner : (d.setBankState b s).owner n = d.owner n := by
    refine Dev.rd_wr_other _ _ _ _ _ _ ?_
    unfold addrOf bankPage
    rw [pwrState_off, spbOwner_off]
    omega
  have hdma : (d.setBankState b s).dmaBusy = d.dmaBusy := by
    unfold Dev.dmaBusy
    rw [Bool.eq_iff_iff, List.any_eq_true, List.any_eq_true]
    refine exists_congr fun ch => and_congr_right fun hch => ?_
    have hch := List.mem_range.mp hch
    unfold Dev.on
    rw [hw.rd _ _ (not_padReg _ _ (by change 0x118 + ch % 4 * 64 < 65536; omega) (by unfold dmaPage; omega))]
  have hqueue : ∀ q, (d.setBankState b s).queue q = d.queue q := fun q => by simp only [Dev.queue, Dev.setBankState, Dev.wr_queues]
  have hcap : ∀ q, (d.setBankState b s).cap q = d.cap q := fun q => by simp only [Dev.cap, Dev.setBankState, Dev.wr_caps]
  unfold Dev.keptOn Dev.queueEmpty Dev.ceLive Dev.sqLive
  simp (disch := decide) only [howner, hdma, hqueue, hcap, hacts.live]

/-- What the waking of the kept banks does to one bank. -/
def Dev.wakeOne (d : Dev) (b : Nat) : Dev := if d.keptOn b then d.bankWake b else d

theorem Dev.wakeOne_cases : d.wakeOne b = d ∨ d.wakeOne b = d.setBankState b 0 := by
  unfold Dev.wakeOne Dev.bankWake
  split_ifs
  · exact .inr rfl
  · exact .inl rfl
  · exact .inl rfl

theorem Dev.within_wakeOne (hb : b < 64) : Within PadReg d (d.wakeOne b) := by
  rcases d.wakeOne_cases b with h | h <;> rw [h]
  · exact .refl d
  · exact d.within_setBankState b hb 0

theorem Dev.keptOn_wakeOne (hb : b < 64) (n : Nat) : (d.wakeOne b).keptOn n = d.keptOn n := by
  rcases d.wakeOne_cases b with h | h <;> rw [h]
  exact d.keptOn_setBankState b hb n 0

theorem Dev.bankState_wakeOne_other (n : Nat) (h : n ≠ b) : (d.wakeOne b).bankState n = d.bankState n := by
  rcases d.wakeOne_cases b with hc | hc <;> rw [hc]
  exact d.bankState_setBankState_other b n 0 h

/-- A bank that is kept on is ON or OFF then: it is neither in RET nor tested. -/
theorem Dev.bankState_wakeOne (h : d.keptOn b = true) : (d.wakeOne b).bankState b = 0 ∨ (d.wakeOne b).bankState b = 2 := by
  have hlt : d.bankState b < 4 := d.rd_lt _ _
  unfold Dev.wakeOne
  rw [if_pos h]
  unfold Dev.bankWake
  split
  · exact .inl (d.bankState_setBankState b 0 (by decide))
  · omega

theorem Dev.within_wakeKept : Within PadReg d d.wakeKept :=
  Within.fold id Dev.wakeOne _ (fun e b hb => e.within_wakeOne b (List.mem_range.mp hb)) d

theorem Dev.bankState_wakeKept (n : Nat) (hn : n < 64) (h : d.wakeKept.keptOn n = true) :
    d.wakeKept.bankState n = 0 ∨ d.wakeKept.bankState n = 2 :=
  foldl_establishes (step := Dev.wakeOne) (I := fun _ => True)
    (Q := fun b e => e.keptOn b = true → e.bankState b = 0 ∨ e.bankState b = 2) (List.range 64) (fun _ _ _ _ => trivial)
    (fun e b hb _ hk => e.bankState_wakeOne b ((e.keptOn_wakeOne b (List.mem_range.mp hb) b).symm.trans hk))
    (fun e b hb m hm _ hq hk => by
      rw [e.bankState_wakeOne_other b m hm]
      exact hq ((e.keptOn_wakeOne b (List.mem_range.mp hb) m).symm.trans hk))
    d trivial n (.inl (List.mem_range.mpr hn)) h

end

/-! ## Evaluation -/

section
variable (d : Dev) (k : Nat) (t : Int)

/-- The peak that ACT_STAT shows can hold the prediction. -/
def peakFits (t : Int) : Bool := decide (-128 ≤ wholeUp t) && decide (wholeUp t ≤ 127)

/-- The device with the prediction's peak shown: rounded up, or a free value where the register cannot hold it. -/
def Dev.peaked : Dev :=
  if peakFits t then d.wr 0x03 (F.ACT_STAT_peak.at k) (unsigned 8 (wholeUp t))
  else d.fresh.2.wr 0x03 (F.ACT_STAT_peak.at k) (d.fresh.1.toNat % 256)

theorem Dev.same_peaked : SameRegs [actStat k] d (d.peaked k t) := by
  unfold Dev.peaked
  split
  · exact same_wr_actStat _ _ rfl rfl
  · exact same_wr_actStat (d := d.fresh.2) _ _ rfl rfl

theorem unsigned_lt (w : Nat) (i : Int) : unsigned w i < 2 ^ w := by
  have hp : ((2 ^ w : Nat) : Int) > 0 := by exact_mod_cast Nat.two_pow_pos w
  have := Int.emod_lt_of_pos i hp
  have := Int.emod_nonneg i hp.ne'
  unfold unsigned
  omega

theorem Dev.rd_peaked (h : peakFits t = true) : (d.peaked k t).rd 0x03 (F.ACT_STAT_peak.at k) = unsigned 8 (wholeUp t) := by
  unfold Dev.peaked
  rw [if_pos h]
  exact Dev.rd_wr_fit _ _ _ _ (show 24 + 8 ≤ 32 by omega) (unsigned_lt 8 _)

/-- A refused act shows its reason. -/
def Dev.refused (r : Nat) : Dev :=
  (((d.wr 0x03 (F.ACT_STAT_state.at k) 5).wr 0x03 (F.ACT_STAT_reason.at k) r).stat 0x02 17).stat 0x03 (16 + k)

/-- An admitted act commits its power, and its banks wake. -/
def Dev.admitted : Dev := ((d.wr 0x03 (F.ACT_STAT_state.at k) 2).commitPower).wakeKept

/-- The power and the peak at which a slot is judged. -/
def Dev.judgedPower : Nat := d.committed + d.actPower k
def Dev.judgedPeak : Int := d.predict (d.judgedPower k) (d.rd 0x03 (F.ACT_DUR.at k))

/-- An evaluation shows the peak, and refuses or admits. -/
theorem Dev.evaluate_eq :
    d.evaluate k = match (d.peaked k (d.judgedPeak k)).refusal k (d.judgedPower k) (d.judgedPeak k) with
      | some r => (d.peaked k (d.judgedPeak k)).refused k r
      | none => (d.peaked k (d.judgedPeak k)).admitted k := by
  have hpeak : (let x := if -128 ≤ wholeUp (d.judgedPeak k) ∧ wholeUp (d.judgedPeak k) ≤ 127
        then (unsigned 8 (wholeUp (d.judgedPeak k)), d) else (d.fresh.1.toNat % 256, d.fresh.2)
      x.2.wr 0x03 (F.ACT_STAT_peak.at k) x.1) = d.peaked k (d.judgedPeak k) := by
    unfold Dev.peaked peakFits
    simp only [Bool.and_eq_true, decide_eq_true_eq]
    split <;> rfl
  rw [← hpeak]
  rfl

end

/-! ### A refused act -/

section
variable (d : Dev) (k r : Nat)

theorem Dev.same_refused : SameRegs (actStat k :: (statAddrs 0x02 ++ statAddrs 0x03)) d (d.refused k r) := by
  have h0 : SameRegs (actStat k :: (statAddrs 0x02 ++ statAddrs 0x03)) d
      ((d.wr 0x03 (F.ACT_STAT_state.at k) 5).wr 0x03 (F.ACT_STAT_reason.at k) r) :=
    ((same_wr_actStat F.ACT_STAT_state 5 rfl rfl).step (same_wr_actStat F.ACT_STAT_reason r rfl rfl) fun _ h => h).mono
      fun a ha => List.mem_cons.mpr (.inl (List.mem_singleton.mp ha))
  exact (h0.stat 0x02 17 fun a ha => List.mem_cons_of_mem _ (List.mem_append_left _ ha)).stat 0x03 (16 + k)
    fun a ha => List.mem_cons_of_mem _ (List.mem_append_right _ ha)

/-- The status bits leave ACT_STAT. -/
theorem Dev.rd_refused (hk : k < 16) (f : Field) (ho : f.off = 0x300) (hs : f.st = 4) :
    (d.refused k r).rd 0x03 (f.at k) =
      ((d.wr 0x03 (F.ACT_STAT_state.at k) 5).wr 0x03 (F.ACT_STAT_reason.at k) r).rd 0x03 (f.at k) := by
  have hne : ∀ p, addrOf 0x03 (f.at k).off ∉ statAddrs p := fun p => by
    rw [addrOf_actStat f k ho hs]
    exact actStat_not_mem_statAddrs p k hk
  exact ((Dev.same_stat _ 0x03 _).rd _ _ (hne _)).trans ((Dev.same_stat _ 0x02 17).rd _ _ (hne _))

theorem Dev.actState_refused (hk : k < 16) : (d.refused k r).actState k = 5 :=
  (d.rd_refused k r hk F.ACT_STAT_state rfl rfl).trans
    ((Dev.rd_wr_apart _ 0x03 (F.ACT_STAT_reason.at k) (F.ACT_STAT_state.at k) _ (show 0 + 3 ≤ 32 by omega)
      (.inr (.inl (show 0 + 3 ≤ 8 by omega)))).trans (Dev.rd_wr_fit _ _ _ _ (show 0 + 3 ≤ 32 by omega) (show 5 < 2 ^ 3 by omega)))

theorem Dev.reason_refused (hk : k < 16) (hr : r < 16) : (d.refused k r).rd 0x03 (F.ACT_STAT_reason.at k) = r :=
  (d.rd_refused k r hk F.ACT_STAT_reason rfl rfl).trans
    (Dev.rd_wr_fit _ _ _ _ (show 8 + 4 ≤ 32 by omega) hr)

theorem Dev.peak_refused (hk : k < 16) :
    (d.refused k r).rd 0x03 (F.ACT_STAT_peak.at k) = d.rd 0x03 (F.ACT_STAT_peak.at k) := by
  rw [d.rd_refused k r hk F.ACT_STAT_peak rfl rfl,
    Dev.rd_wr_apart _ 0x03 (F.ACT_STAT_reason.at k) (F.ACT_STAT_peak.at k) _ (show 24 + 8 ≤ 32 by omega)
      (.inr (.inr (show 8 + 4 ≤ 24 by omega))),
    Dev.rd_wr_apart _ 0x03 (F.ACT_STAT_state.at k) (F.ACT_STAT_peak.at k) _ (show 24 + 8 ≤ 32 by omega)
      (.inr (.inr (show 0 + 3 ≤ 24 by omega)))]

theorem Dev.bits_refused (hk : k < 16) :
    (d.refused k r).bit 0x02 0x00C 17 = true ∧ (d.refused k r).bit 0x03 0x00C (16 + k) = true :=
  ⟨((Dev.same_stat _ 0x03 _).bit 0x02 0x00C 17 (by decide)).trans (Dev.stat_bit _ 0x02 17 (by decide)),
    Dev.stat_bit _ 0x03 (16 + k) (by omega)⟩

theorem reason_ite {c : Prop} [Decidable c] {x : Nat} {y : Option Nat} (hx : x < 16) (hy : ∀ r ∈ y, r < 16) :
    ∀ r ∈ (if c then some x else y), r < 16 := by
  intro r hr
  split at hr
  · rwa [← Option.some.inj hr]
  · exact hy r hr

/-- The reasons of Table 3.13 fit their field. -/
theorem Dev.refusal_lt (p : Nat) (t : Int) (h : d.refusal k p t = some r) : r < 16 := by
  refine (?_ : ∀ r ∈ d.refusal k p t, r < 16) r h
  unfold Dev.refusal
  have hnone : ∀ r ∈ (none : Option Nat), r < 16 := fun r h => absurd h (by simp)
  exact reason_ite (by decide) <| reason_ite (by decide) <| reason_ite (by decide) <| reason_ite (by decide) <|
    reason_ite (by decide) <| reason_ite (by decide) <| reason_ite (by decide) <| reason_ite (by decide) <|
    reason_ite (by decide) <| reason_ite (by decide) <| reason_ite (by decide) <| reason_ite (by decide) <|
    reason_ite (by decide) <| reason_ite (by decide) hnone

end

/-! ### An admitted act -/

section
variable (d : Dev) (k : Nat)

theorem Dev.within_admitted : Within (fun a => PadReg a ∨ a = addrOf 0x02 F.SB_PWR_COMMIT.off)
    (d.wr 0x03 (F.ACT_STAT_state.at k) 2) (d.admitted k) :=
  ((Within.refl _).wr _ _ _ (.inr rfl)).trans ((Dev.within_wakeKept _).mono fun _ => .inl)

theorem Dev.acts_admitted : SameActs (d.wr 0x03 (F.ACT_STAT_state.at k) 2) (d.admitted k) :=
  (d.within_admitted k).sameActs fun off ho h => h.elim (not_padReg 0x03 off ho (by decide)) fun e =>
    absurd ((addrOf_inj 0x03 0x02 off _ ho (by decide)).mp e).1 (by decide)

theorem Dev.commit_admitted :
    (d.admitted k).rd 0x02 F.SB_PWR_COMMIT = (d.admitted k).committed % 2 ^ F.SB_PWR_COMMIT.w := by
  have hc : (d.admitted k).committed = (d.wr 0x03 (F.ACT_STAT_state.at k) 2).committed :=
    Dev.committed_congr ((d.within_admitted k).reg _ fun h => h.elim (not_padReg 0x02 0x048 (by decide) (by decide)) (by decide))
      (d.acts_admitted k)
  rw [hc, ← Dev.rd_commitPower]
  exact (Dev.within_wakeKept _).rd _ _ (not_padReg _ _ (by decide) (by decide))

theorem Dev.actState_admitted (hk : k < 16) : (d.admitted k).actState k = 2 :=
  ((d.acts_admitted k).actState k hk).trans (Dev.rd_wr_fit _ _ _ _ (show 0 + 3 ≤ 32 by omega) (show 2 < 2 ^ 3 by omega))

theorem Dev.peak_admitted (hk : k < 16) :
    (d.admitted k).rd 0x03 (F.ACT_STAT_peak.at k) = d.rd 0x03 (F.ACT_STAT_peak.at k) :=
  ((d.acts_admitted k).rd F.ACT_STAT_peak k hk (by decide)).trans
    (Dev.rd_wr_apart _ 0x03 (F.ACT_STAT_state.at k) (F.ACT_STAT_peak.at k) _ (show 24 + 8 ≤ 32 by omega)
      (.inr (.inr (show 0 + 3 ≤ 24 by omega))))

theorem Dev.others_admitted (o : Nat) (ho : o < 16) (h : o ≠ k) : (d.admitted k).actState o = d.actState o :=
  ((d.acts_admitted k).actState o ho).trans
    (actState_other (same_wr_actStat F.ACT_STAT_state 2 rfl rfl) o fun hm => actStat_ne h (List.mem_singleton.mp hm))

end

end Sys2Proof.Machine

namespace Sys2Proof.Safety

open Sys2Proof.Machine

theorem exec_actEvaluate (slot : Fin 16) (s : State) :
    exec (.actEvaluate slot) s = onLive s fun d => if d.evalNext slot.val then d.evaluate slot.val else d := rfl

/-- Settles O26: the peak is shown first; then the first reason that holds refuses the act, or it is admitted and the banks that
it keeps on wake. -/
theorem actIsEvaluated : Obligations.ActIsEvaluated := by
  intro s slot d k p t fits b hserv hnext
  have hk : k < 16 := slot.isLt
  have hb : SameRegs [actStat k] d b := d.same_peaked k t
  have hpeak : fits = true → b.rd 0x03 (F.ACT_STAT_peak.at k) = unsigned 8 (wholeUp t) := d.rd_peaked k t
  have hother : ∀ o, o ≠ k → b.actState o = d.actState o := fun o ho =>
    actState_other hb o fun hm => actStat_ne ho (List.mem_singleton.mp hm)
  have heval := gives_onLive (exec_actEvaluate slot s) hserv ((if_pos hnext).trans (d.evaluate_eq k))
  change Gives _ _ (match b.refusal k p t with
    | some r => b.refused k r
    | none => b.admitted k) at heval
  cases hr : b.refusal k p t with
  | none =>
    rw [hr] at heval
    exact ⟨b.admitted k, heval, fun hf => (b.peak_admitted k hk).trans (hpeak hf),
      fun o ho hne => (b.others_admitted k o ho hne).trans (hother o hne),
      fun _ => ⟨b.actState_admitted k hk, b.commit_admitted k, Dev.bankState_wakeKept _⟩, fun r h => absurd h (by simp)⟩
  | some r =>
    rw [hr] at heval
    have hsame := b.same_refused k r
    have hbits := b.bits_refused k r hk
    refine ⟨b.refused k r, heval, fun hf => (b.peak_refused k r hk).trans (hpeak hf), fun o ho hne => ?_,
      fun h => absurd h (by simp), fun r' h => ?_⟩
    · refine (actState_other hsame o fun hm => ?_).trans (hother o hne)
      rcases List.mem_cons.mp hm with h | h
      · exact actStat_ne hne h
      · exact (List.mem_append.mp h).elim (actStat_not_mem_statAddrs _ o ho) (actStat_not_mem_statAddrs _ o ho)
    · obtain rfl : r = r' := Option.some.inj h
      rw [addrOf_actStat _ _ rfl rfl]
      exact ⟨b.actState_refused k r hk, b.reason_refused k r hk (b.refusal_lt k r p t hr), hbits.1, hbits.2,
        (hb.mono fun a ha => List.mem_cons.mpr (.inl (List.mem_singleton.mp ha))).step hsame fun _ ha => ha⟩

end Sys2Proof.Safety
end

section
/-! SUPPORT. What lanes, sequencers, capture engines and outputs do of their own leaves Showbill alone: no register below page 0x17
but CLK_LOCK and SB_HK_STAT changes, nor Showbill's record, no loop goes on or off, and no raise on its way is lost. -/
namespace Sys2Proof.Machine

/-! ## Steps aside from Showbill -/

/-- A step of some engine, aside from Showbill. -/
structure Aside (d e : Dev) : Prop where
  reg : ∀ a, a / 65536 < 0x17 → a ≠ addrOf 0x01 0x048 → a ≠ addrOf 0x02 0x05C → e.reg a = d.reg a
  bill : e.bill = d.bill
  loops : ∀ i, (e.syn i).on = (d.syn i).on
  wire : ∀ r ∈ d.mw.wire, r ∈ e.mw.wire

section
variable {d e f : Dev}

theorem Aside.refl (d : Dev) : Aside d d := ⟨fun _ _ _ _ => rfl, rfl, fun _ => rfl, fun _ h => h⟩

theorem Aside.trans (h : Aside d e) (k : Aside e f) : Aside d f :=
  ⟨fun a hp h1 h2 => (k.reg a hp h1 h2).trans (h.reg a hp h1 h2), k.bill.trans h.bill, fun i => (k.loops i).trans (h.loops i),
    fun r hr => k.wire r (h.wire r hr)⟩

/-- What a record besides these takes changes none of them. -/
theorem Aside.same (h : Aside d e) (hr : f.regs = e.regs) (hu : f.upset = e.upset) (hb : f.bill = e.bill) (hs : f.syns = e.syns)
    (hm : f.mw.wire = e.mw.wire) : Aside d f :=
  h.trans ⟨fun a _ _ _ => Dev.reg_congr e f a hr hu, hb, fun i => by rw [Dev.syn_congr hs], fun r hr => hm ▸ hr⟩

theorem Aside.fold {σ α : Type} (dev : σ → Dev) (step : σ → α → σ) (xs : List α)
    (h : ∀ s, ∀ x ∈ xs, Aside (dev s) (dev (step s x))) (s : σ) : Aside (dev s) (dev (xs.foldl step s)) := by
  induction xs generalizing s with
  | nil => exact .refl _
  | cons x xs ih =>
    exact (h s x (List.mem_cons_self ..)).trans (ih (fun s y hy => h s y (List.mem_cons_of_mem _ hy)) (step s x))

theorem Aside.foldDev {α : Type} {step : Dev → α → Dev} {xs : List α} (h : ∀ d, ∀ x ∈ xs, Aside d (step d x)) (d : Dev) :
    Aside d (xs.foldl step d) := Aside.fold id step xs h d

/-- A choice between two steps. -/
theorem Aside.ite {c : Prop} [Decidable c] (h : Aside d e) (k : Aside d f) : Aside d (if c then e else f) := by
  split
  · exact h
  · exact k

section
variable {p v i n b : Nat} {g : Field} {q : Bool}

theorem Aside.putBits {a : Nat} {m w : Word} (ha : 0x17 ≤ a / 65536) (h : Aside d e) : Aside d (e.putBits a m w) :=
  h.trans ⟨fun c hc _ _ => e.reg_putBits_other a c m w (by rintro rfl; omega), rfl, fun _ => rfl, fun _ h => h⟩

theorem addrOf_page_ge (p off : Nat) : p ≤ addrOf p off / 65536 := by
  unfold addrOf
  omega

theorem Aside.wr (hp : 0x17 ≤ p) (h : Aside d e) : Aside d (e.wr p g v) := h.putBits (hp.trans (addrOf_page_ge p _))

theorem Aside.fbit (hp : 0x17 ≤ p) (h : Aside d e) : Aside d (e.fbit p g i q) := h.wr hp
theorem Aside.bump (hp : 0x17 ≤ p) (h : Aside d e) : Aside d (e.bump p g n) := h.wr hp

theorem Aside.stat (hp : 0x17 ≤ p) (h : Aside d e) : Aside d (e.stat p b) :=
  h.trans ⟨fun a ha _ _ => e.reg_stat p b a
      (by rintro rfl; have := addrOf_page_ge p 0x00C; omega) (by rintro (rfl | rfl) <;> exact absurd ha (by decide)),
    Dev.stat_bill _ _ _, fun i => by rw [Dev.syn_congr (Dev.stat_syns _ _ _)], fun r hr => by rwa [Dev.stat_mw]⟩

/-- A loop takes a record that runs or stands as the old one. -/
theorem Aside.setSyn {t : Syn} (ht : t.on = (e.syn i).on) (h : Aside d e) : Aside d (e.setSyn i t) := by
  refine h.trans ⟨fun _ _ _ _ => rfl, rfl, fun j => ?_, fun _ h => h⟩
  by_cases hj : j = i
  · rw [hj, e.syn_setSyn_same, ht]
  · rw [e.syn_setSyn_other i j t hj]

section
variable (h : Aside d e)
include h

theorem Aside.setTx {t : Tx} : Aside d (e.setTx n t) := h.same rfl rfl rfl rfl rfl
theorem Aside.setRx {t : Rx} : Aside d (e.setRx n t) := h.same rfl rfl rfl rfl rfl
theorem Aside.setSq {t : Sq} : Aside d (e.setSq n t) := h.same rfl rfl rfl rfl rfl
theorem Aside.setAwg {t : Awg} : Aside d (e.setAwg n t) := h.same rfl rfl rfl rfl rfl
theorem Aside.setCap {t : Cap} : Aside d (e.setCap n t) := h.same rfl rfl rfl rfl rfl
theorem Aside.setLane {k : Nat} {t : LaneCap} : Aside d (e.setLane n k t) := h.same rfl rfl rfl rfl rfl
theorem Aside.setBank {t : Bank} : Aside d (e.setBank n t) := h.same rfl rfl rfl rfl rfl
theorem Aside.setQueue {t : Queue} : Aside d (e.setQueue n t) := h.same rfl rfl rfl rfl rfl
theorem Aside.setNet {t : Net} : Aside d { e with net := t } := h.same rfl rfl rfl rfl rfl
theorem Aside.setAn {t : Analog} : Aside d { e with an := t } := h.same rfl rfl rfl rfl rfl
theorem Aside.emit {m : Message} : Aside d (e.emit m) := h.same rfl rfl rfl rfl rfl
theorem Aside.fresh : Aside d e.fresh.2 := h.same rfl rfl rfl rfl rfl

/-- Midway's record keeps the raises on their way. -/
theorem Aside.setMw {m : Midway} (hm : ∀ r ∈ e.mw.wire, r ∈ m.wire) : Aside d { e with mw := m } :=
  h.trans ⟨fun _ _ _ _ => rfl, rfl, fun _ => rfl, hm⟩

theorem Aside.raise {src ch : Nat} : Aside d (e.raise src ch) := h.setMw fun _ hr => List.mem_append_left _ hr

theorem Aside.raiseIf {en ev : Field} : Aside d (e.raiseIf p en ev) := by
  unfold Dev.raiseIf
  exact .ite h.raise h

end

end

/-- A register below page 0x17 that is none of the two. -/
theorem Aside.rd (h : Aside d e) (p : Nat) (g : Field) (ho : g.off < 65536) (hp : p < 0x17) (h1 : p = 0x01 → g.off ≠ 0x048)
    (h2 : p = 0x02 → g.off ≠ 0x05C) : e.rd p g = d.rd p g := by
  unfold Dev.rd
  rw [h.reg _ (by rwa [addrOf_page p _ ho])
    (fun c => by obtain ⟨hq, hf⟩ := (addrOf_inj p 0x01 _ _ ho (by decide)).mp c; exact h1 hq hf)
    (fun c => by obtain ⟨hq, hf⟩ := (addrOf_inj p 0x02 _ _ ho (by decide)).mp c; exact h2 hq hf)]

theorem Aside.sameActs (h : Aside d e) : SameActs d e := fun off ho =>
  h.reg _ (by rw [addrOf_page _ _ ho]; decide)
    (fun c => absurd ((addrOf_inj 0x03 0x01 off _ ho (by decide)).mp c).1 (by decide))
    (fun c => absurd ((addrOf_inj 0x03 0x02 off _ ho (by decide)).mp c).1 (by decide))

/-- A step that changes registers of the lanes, the sequencers and the like, and no more. -/
theorem Within.aside {A : Nat → Prop} (h : Within A d e) (hA : ∀ a, A a → 0x17 ≤ a / 65536 ∨ a = addrOf 0x01 0x048 ∨ a = addrOf 0x02 0x05C)
    (hs : e.syns = d.syns) (hm : e.mw = d.mw) : Aside d e :=
  ⟨fun a hp h1 h2 => h.reg a fun ha => by
      rcases hA a ha with h | h | h
      · omega
      · exact h1 h
      · exact h2 h,
    h.bill, fun i => by rw [Dev.syn_congr hs], fun r hr => hm ▸ hr⟩

end

/-! ## Pages -/

theorem rxPage_aside {n : Nat} : 0x17 ≤ rxPage n := by unfold rxPage; omega
theorem txPage_aside {n : Nat} : 0x17 ≤ txPage n := by unfold txPage; omega
theorem sqPage_aside {n : Nat} : 0x17 ≤ sqPage n := by unfold sqPage; omega
theorem cePage_aside {n : Nat} : 0x17 ≤ cePage n := by unfold cePage; omega
theorem trgPage_aside {n : Nat} : 0x17 ≤ trgPage n := by unfold trgPage; omega
theorem mtPage_aside {c j : Nat} : 0x17 ≤ mtPage c j := by unfold mtPage; omega
theorem queuePage_aside {q : Nat} : 0x17 ≤ queuePage q := by unfold queuePage; omega
theorem groupPage_aside {n : Nat} : 0x17 ≤ groupPage n := by unfold groupPage; omega
theorem synPage_aside {n : Nat} : 0x17 ≤ synPage n := by have := synPage_mem n; omega

end Sys2Proof.Machine
end

section
/-! SUPPORT. The lanes and the paths, aside from Showbill. -/
namespace Sys2Proof.Machine

/-! ## What a TX lane sends -/

section
variable (d : Dev) (n : Nat)

theorem Dev.aside_errAuto (blocks : Nat) : Aside d (d.errAuto n blocks).2 := by
  unfold Dev.errAuto
  simp only
  repeat' split
  all_goals exact (Aside.refl d).same rfl rfl rfl rfl rfl

theorem Dev.aside_errBlock : Aside d (d.errBlock n) := by
  have h := d.aside_errAuto n ((d.tx n).blocks + 1)
  unfold Dev.errBlock
  simp only
  split
  · exact .setTx <| .refl d
  · split
    next e => rw [e] at h; exact h.setTx
    next e => rw [e] at h; exact h.setTx

theorem Dev.aside_injectRun (bits : List Bool) : Aside d (d.injectRun n bits).2 := by
  unfold Dev.injectRun
  refine Aside.fold (fun s : List Bool × Dev => s.2) _ bits (fun s b _ => ?_) ([], d)
  simp only
  split
  · exact (s.2.aside_errBlock n).setTx
  · exact .setTx <| .refl s.2

theorem Dev.aside_countBlocks (k : Nat) : Aside d (d.countBlocks n k) := .setTx <| .refl d

theorem Dev.aside_markRun (k : Nat) : Aside d (d.markRun n k) := by
  unfold Dev.markRun
  exact (Aside.setSq <| .refl d).trans (Aside.foldDev (fun e _ _ => .raise <| .refl e) _)

theorem Dev.aside_driveOut : Aside d (d.driveOut n) := by
  unfold Dev.driveOut
  exact .ite (.setTx <| .refl d) (.emit <| .setTx <| .refl d)

theorem Dev.aside_jitterStep : Aside d (d.jitterStep n) := by
  unfold Dev.jitterStep
  exact .ite (.setTx <| .refl d) (.stat (by omega) <| .bump (by omega) <| .setTx <| .refl d)

theorem Dev.aside_jitterRun (k : Nat) : Aside d (d.jitterRun n k).2 := by
  unfold Dev.jitterRun
  simp only
  split
  · exact .setTx <| .setTx <| .refl d
  · exact (Aside.setTx <| .refl d).trans
      (Aside.fold (fun s : List Int × Dev => s.2) _ _ (fun s _ _ => s.2.aside_jitterStep n) ([], _))

theorem Dev.aside_drive (ls : List Int) : Aside d (d.drive n ls) := by
  unfold Dev.drive
  exact .ite (d.aside_jitterRun n _).setTx (d.aside_jitterRun n _).setTx.emit

theorem Dev.aside_txIdle : Aside d (d.txIdle n) := .wr (by omega) <| .setTx <| d.aside_driveOut n

theorem Dev.aside_txDrive : Aside d (d.txDrive n) := by
  unfold Dev.txDrive
  exact .ite (.setTx <| .refl d) (.refl d)

theorem Dev.aside_txExited : Aside d (d.txExited n) := by
  unfold Dev.txExited
  exact .ite (.wr (by omega) <| .setTx <| .refl d) (.refl d)

theorem Dev.aside_laneSend (bits : List Bool) : Aside d (d.laneSend n bits) := by
  unfold Dev.laneSend
  exact .ite (((d.aside_injectRun n bits).trans (Dev.aside_drive _ n _)).trans (Dev.aside_markRun _ n _))
    ((d.aside_jitterRun n _).trans (Dev.aside_countBlocks _ n _))

theorem Dev.aside_underrun (words : Nat) : Aside d (d.underrun n words) := by
  unfold Dev.underrun
  exact .ite (.refl d) (.stat sqPage_aside <| .bump sqPage_aside <| .refl d)

theorem Dev.aside_fillBits (k : Nat) : Aside d (d.fillBits n k).2 := d.aside_underrun n _

theorem Dev.aside_errRecheck (old : Dev) : Aside d (d.errRecheck old n) := by
  unfold Dev.errRecheck
  exact .ite (.stat txPage_aside <| .refl d) (.refl d)

/-! ## What a receiving lane forwards -/

theorem Dev.aside_repairOut (own : Bool) (line : List Bool) : Aside d (d.repairOut n own line).2 := by
  unfold Dev.repairOut
  simp only
  repeat' split
  all_goals exact (Aside.refl d).same rfl rfl rfl rfl rfl

theorem Dev.aside_fwdSend (own : Bool) (bits : List Bool) : Aside d (d.fwdSend n own bits) := by
  unfold Dev.fwdSend
  exact .ite ((Aside.setTx <| .refl d).trans (Dev.aside_laneSend _ _ _)) (d.aside_laneSend _ _)

theorem Dev.aside_sendBlock (own : Bool) (bits : List Bool) : Aside d (d.sendBlock n own bits) :=
  (d.aside_repairOut n own _).trans (Dev.aside_fwdSend _ _ _ _)

theorem Dev.aside_rxStore : Aside d (d.rxStore n) := by
  unfold Dev.rxStore
  exact .ite (.setRx <| .refl d) (.refl d)

theorem Dev.aside_rxFollow : Aside d (d.rxFollow n) := (Aside.setRx <| .refl d).trans (Dev.aside_errRecheck _ _ _)

theorem Dev.aside_fwdQuiet : Aside d (d.fwdQuiet n) := .setRx <| .trans (.wr rxPage_aside <| .refl d) (Dev.aside_driveOut _ _)

theorem Dev.aside_showHeld : Aside d (d.showHeld n) := by
  unfold Dev.showHeld
  exact .ite (.wr rxPage_aside <| .wr rxPage_aside <| .refl d) (.wr rxPage_aside <| .refl d)

theorem Dev.aside_sendHeld (k : Nat) : Aside d (d.sendHeld n k) :=
  ((Aside.setRx <| .refl d).trans (Aside.foldDev (fun e _ _ => e.aside_sendBlock n false _) _)).trans (Dev.aside_showHeld _ n)

theorem Dev.aside_spliceOver : Aside d (d.spliceOver n) := by
  have h := (Aside.refl d).setRx (n := n) (t := { d.rx n with lead := max 0 (d.rx n).lead }) |>.trans
    (Dev.aside_sendHeld _ n (-(d.rx n).lead).toNat)
  unfold Dev.spliceOver
  exact .ite (h.wr rxPage_aside) (.ite (h.trans (Dev.aside_fwdQuiet _ n)) h)

theorem Dev.aside_cutSplice (cause : Nat) : Aside d (d.cutSplice n cause) := by
  unfold Dev.cutSplice
  refine .ite (.ite (.trans ?_ (Dev.aside_spliceOver _ n)) ?_) (.refl d)
  all_goals exact .setRx <| .raiseIf <| .stat rxPage_aside <| .wr rxPage_aside <| .bump rxPage_aside <| .wr rxPage_aside <| .refl d

theorem Dev.aside_fwdFlush : Aside d (d.fwdFlush n) := by
  unfold Dev.fwdFlush
  refine .trans ?_ (Dev.aside_sendHeld _ n _)
  exact .ite (.refl d) ((d.aside_fillBits _ _).setRx.trans (Dev.aside_sendBlock _ n true _))

theorem Dev.aside_rxOff : Aside d (d.rxOff n) := by
  have h := (d.aside_cutSplice n 2).trans (Dev.aside_rxStore _ n)
  have hf := (h.trans (Dev.aside_fwdFlush _ n)).trans (Dev.aside_fwdQuiet _ n)
  unfold Dev.rxOff Dev.setRxState
  refine .trans (.setRx <| .wr rxPage_aside <| .wr rxPage_aside <| .wr rxPage_aside ?_) (Dev.aside_rxFollow _ n)
  exact .ite (.wr rxPage_aside <| .ite hf h) (.ite hf h)

theorem Dev.aside_rxSettle : Aside d (d.rxSettle n) := by
  unfold Dev.rxSettle Dev.setRxState
  exact .ite (.ite (.wr rxPage_aside <| .refl d) (.refl d)) (.ite (.refl d) (d.aside_rxOff n))

theorem Dev.aside_rxSettleAll : Aside d d.rxSettleAll := Aside.foldDev (fun e n _ => e.aside_rxSettle n) d

theorem Dev.aside_spliceBlock (bits : List Bool) : Aside d (d.spliceBlock n bits) := by
  have h := d.aside_sendBlock n true bits
  unfold Dev.spliceBlock
  refine .ite h ?_
  simp only
  split
  · exact .bump cePage_aside <| h.setRx.trans (Dev.aside_showHeld _ n)
  · exact h.setRx

theorem Dev.aside_spliceBits (bits : List Bool) : Aside d (d.spliceBits n bits) := by
  unfold Dev.spliceBits
  refine .ite (Aside.setRx (Aside.foldDev (fun e _ _ => e.aside_spliceBlock n _) d)) (.ite (.refl d)
    (.ite (Aside.setRx <| .refl d) ?_))
  exact ((Aside.setRx <| .refl d).trans (Dev.aside_spliceBlock _ n _)).trans (Dev.aside_spliceOver _ n)

theorem Dev.aside_fwdClear : Aside d (d.fwdClear n) :=
  .setRx <| .putBits (rxPage_aside.trans (addrOf_page_ge (rxPage n) _)) <| .refl d

end

/-! ## Paths, switches and outputs -/

section
variable (d : Dev)

theorem Dev.aside_command (k : Nat) (module : Bool) : Aside d (d.command k module) := by
  unfold Dev.command
  exact .ite (.refl d) (.ite (.setNet <| .fbit (by decide) <| .refl d)
    (.trans (.fbit (by decide) <| .setNet <| .fbit (by decide) <| .refl d) (Dev.aside_txIdle _ _)))

theorem Dev.aside_settlePaths : Aside d d.settlePaths :=
  Aside.foldDev (fun e k _ => (e.aside_command k _).trans (Dev.aside_rxSettle _ k)) d

theorem Dev.aside_showAwg : Aside d d.showAwg := Aside.foldDev (fun e k _ => by
  have h : ∀ v w x t, Aside e ((((e.wr (0x88 + k) F.AWG_STAT_active v).wr (0x88 + k) F.AWG_STAT_inj_closed w).wr (0x88 + k)
      F.AWG_STAT_inj_open x).setAwg k t) := fun v w x t => .setAwg <| .wr (by omega) <| .wr (by omega) <| .wr (by omega) <| .refl e
  exact .ite (.stat (by omega) (h _ _ _ _)) (h _ _ _ _)) d

theorem Dev.aside_openInjection : Aside d d.openInjection :=
  (Aside.foldDev (fun e _ _ => .ite (.fbit (by decide) <| .refl e) (.refl e)) d).trans (Dev.aside_showAwg _)

theorem Dev.aside_sdOut (k v : Nat) : Aside d (d.sdOut k v) := by
  unfold Dev.sdOut
  exact .ite (.wr (by decide) <| .refl d) (.setAn <| .wr (by decide) <| .refl d)

theorem Dev.aside_sdStart (ks : List Nat) : Aside d (d.sdStart ks) := by
  unfold Dev.sdStart
  exact .ite (.refl d) (.setAn <| .refl d)

theorem Dev.aside_sdEnd (ks : List Nat) : Aside d (d.sdEnd ks) := Aside.foldDev (fun e k _ => e.aside_sdOut k 0) d

theorem Dev.aside_awgUnclamp : Aside d d.awgUnclamp :=
  Aside.foldDev (fun e _ _ => .ite (.refl e) (.wr (by omega) <| .refl e)) d

theorem Dev.aside_awgStart (k : Nat) : Aside d (d.awgStart k) := .setAwg <| .refl d

end

/-! ## Synthesizers and the lanes that they serve -/

section
variable (d : Dev) (i : Nat)

theorem Dev.aside_showMoving : Aside d (d.showMoving i) := .fbit groupPage_aside <| .refl d

theorem Dev.aside_setOff (o : Int) : Aside d (d.setOff i o) :=
  .trans (.setTx <| .wr groupPage_aside <| .refl d) (Dev.aside_showMoving _ i)

theorem Dev.aside_serveLane (rate : Nat) : Aside d (d.serveLane i rate).2 := by
  have hserve : ∀ odd : Bool, Aside d (d.fbit (groupPage i) F.LG_STAT_serve (i % 4) odd) := fun odd => .fbit groupPage_aside <| .refl d
  unfold Dev.serveLane
  simp only
  split
  · exact .stat groupPage_aside <| .refl d
  next odd _ =>
    split
    · exact (hserve odd).trans (Dev.aside_setOff _ i _)
    · exact .stat groupPage_aside (hserve odd)

theorem Aside.synWr {d e : Dev} {i v : Nat} {f : Field} (h : Aside d e) : Aside d (e.synWr i f v) := h.wr synPage_aside

theorem Dev.aside_setLocked (b : Bool) : Aside d (d.setLocked i b) :=
  (d.within_setLocked i b).aside (fun a ha => by
    rcases ha with h | h | h
    · exact .inr (.inl h)
    · exact .inr (.inr h)
    · omega) rfl rfl

/-- A loop that runs searches on. -/
theorem Dev.aside_synSearch (h : (d.syn i).on = true) : Aside d (d.synSearch i) := by
  unfold Dev.synSearch
  exact .synWr <| .synWr <| .trans (.setSyn h.symm <| .refl d) (Dev.aside_setLocked _ i false)

theorem Dev.aside_showTune (t : Tune) : Aside d (d.showTune i t) := .synWr <| .synWr <| .synWr <| .refl d

/-- A retune neither starts nor stops a loop. -/
theorem Dev.aside_retune (t : Tune) : Aside d (d.retune i t) := by
  have hset : Aside d (d.setSyn i { d.syn i with tune := some t, restore := false }) := .setSyn rfl <| .refl d
  have h := hset.trans (Dev.aside_showTune _ i t)
  unfold Dev.retune
  simp only
  generalize (d.setSyn i { d.syn i with tune := some t, restore := false }).showTune i t = e at h ⊢
  split
  · exact h
  next hs =>
    have hon : (e.syn i).on = true := (h.loops i).trans (by simpa using hs)
    have hstep : Aside d (e.setSyn i { e.syn i with job := .smallStep }) := .setSyn rfl h
    exact .ite h (.ite hstep (h.trans (Dev.aside_synSearch _ i hon)))

theorem Dev.aside_goHome : Aside d (d.goHome i) := by
  unfold Dev.goHome
  exact .ite (.refl d) (.ite (.setSyn rfl <| .refl d) (d.aside_retune i _))

theorem Dev.aside_restoreLane : Aside d (d.restoreLane i) :=
  ((Aside.trans (.fbit groupPage_aside <| .refl d) (Dev.aside_setOff _ i 0)).trans (Dev.aside_goHome _ _)).trans (Dev.aside_goHome _ _)

theorem Dev.aside_abandonHandoff : Aside d (d.abandonHandoff i) := by
  unfold Dev.abandonHandoff
  split
  · exact .refl d
  · exact .stat groupPage_aside <| .fbit groupPage_aside <| .fbit groupPage_aside <| .setTx <| .refl d

theorem Dev.aside_txHome : Aside d (d.txHome i) :=
  .trans (.setTx <| .wr txPage_aside <| .refl d) (Dev.aside_errRecheck _ _ _)

end

end Sys2Proof.Machine
end

section
/-! SUPPORT. Capture engines and sequencers, aside from Showbill. -/
namespace Sys2Proof.Machine

/-! ## Queues -/

section
variable (d : Dev)

theorem Dev.aside_setBankState (b s : Nat) : Aside d (d.setBankState b s) := .wr (by omega) <| .refl d

theorem Dev.aside_bankTouch (b : Nat) : Aside d (d.bankTouch b) := by
  unfold Dev.bankTouch
  exact .ite (d.aside_setBankState b 0) (.refl d)

theorem Dev.aside_bankWake (b : Nat) : Aside d (d.bankWake b) := by
  unfold Dev.bankWake
  exact .ite (d.aside_setBankState b 0) (.refl d)

theorem Dev.aside_watermark (q before : Nat) : Aside d (d.watermark q before) := by
  unfold Dev.watermark
  exact .ite (.raiseIf <| .stat queuePage_aside <| .refl d) (.refl d)

theorem Dev.aside_qWrite (q : Nat) (es : List (BitVec 512)) : Aside d (d.qWrite q es) := by
  unfold Dev.qWrite
  exact .ite (.refl d) (Aside.foldDev (fun e _ _ => .trans (.setBank <| .refl e) (Dev.aside_bankTouch _ _)) d)

theorem Dev.aside_qPush (q : Nat) (es : List (BitVec 512)) : ∀ e ∈ d.qPush q es, Aside d e := by
  intro e he
  unfold Dev.qPush at he
  split at he
  · exact absurd he (by simp)
  · obtain rfl := Option.some.inj he
    refine .trans (.setQueue (.ite ?_ (.refl d))) (Dev.aside_watermark _ q _)
    exact (d.aside_qWrite q es).trans (Aside.foldDev (fun e b _ => e.aside_bankWake b) _)

theorem Dev.aside_qRewind (q : Nat) (es : List (BitVec 512)) : Aside d (d.qRewind q es) :=
  .bump queuePage_aside (d.aside_qWrite q _)

end

/-! ## Capture -/

theorem cePage_aside' {c : Nat} : 0x17 ≤ cePage c + 1 := by unfold cePage; omega

section
variable (d : Dev) (c : Nat)

theorem Dev.aside_putRecord (reserve : Nat) (r : Record) : ∀ e ∈ d.putRecord c reserve r, Aside d e := by
  intro e he
  unfold Dev.putRecord at he
  simp only at he
  split at he
  · exact absurd he (by simp)
  · obtain ⟨f, hf, rfl⟩ := Option.map_eq_some_iff.mp he
    exact .wr cePage_aside <| .setCap <| d.aside_qPush c _ f hf

theorem Dev.aside_putMeta (r : Record) : Aside d (d.putMeta c r).2 := by
  have h := d.aside_putRecord c 0 r
  unfold Dev.putMeta
  split
  next e he => exact h e he
  next => exact .stat cePage_aside <| .bump cePage_aside <| d.aside_qRewind c []

theorem Dev.aside_flushGap (k : Nat) : Aside d (d.flushGap c k) := by
  unfold Dev.flushGap
  split
  · exact .refl d
  · exact (Aside.setLane <| .refl d).trans (Dev.aside_putMeta _ c _)

theorem Dev.aside_dropBlocks (k n : Nat) (a b : Stamp) : Aside d (d.dropBlocks c k n a b) := by
  have h : Aside d ((d.loseBlocks c k n).stat (cePage c) 18) := .stat cePage_aside <| .setCap <| .bump cePage_aside' <| .refl d
  unfold Dev.dropBlocks
  simp only
  split
  · exact h.setLane
  · exact h.setLane.raiseIf

theorem Dev.aside_putData (k n : Nat) (r : Record) (b : Stamp) : Aside d (d.putData c k n r b).2 := by
  unfold Dev.putData
  simp only
  split
  · exact (d.aside_qRewind c []).trans (Dev.aside_dropBlocks _ c k n _ _)
  · split
    next e he =>
      have h := (d.aside_flushGap c k).trans (Dev.aside_putRecord _ c 2048 r e he)
      exact .ite (.bump cePage_aside' h) (.bump cePage_aside' h)
    next => exact d.aside_flushGap c k

theorem Dev.aside_putTrigger (seq : Option Nat) : Aside d (d.putTrigger c seq) := by
  unfold Dev.putTrigger
  split
  · exact .refl d
  next t _ =>
    have h : ∀ (e : Dev) (r : Record), Aside d e → Aside d (e.putMeta c r).2 := fun e r he => he.trans (e.aside_putMeta c r)
    refine .ite (h _ _ ?_) (.setCap <| .wr cePage_aside <| .wr cePage_aside <| h _ _ ?_)
    all_goals exact .ite (.trans (.setCap <| .refl d) (Dev.aside_flushGap _ c _)) (.setCap <| .refl d)

theorem Dev.aside_closeData (k : Nat) : Aside d (d.closeData c k) := by
  unfold Dev.closeData
  simp only
  split
  · exact .refl d
  · refine .ite ?_ ?_
    · exact (Aside.trans (.setLane <| .refl d) (Dev.aside_putData _ c k _ _ _)).trans (Dev.aside_putTrigger _ c _)
    · exact .trans (.setLane <| .refl d) (Dev.aside_putData _ c k _ _ _)

theorem Dev.aside_addData (k : Nat) (b : CapBlk) : Aside d (d.addData c k b) := by
  unfold Dev.addData
  exact .setLane <| .ite (.refl d) (d.aside_closeData c k)

theorem Dev.aside_trigUnstored (k : Nat) : Aside d (d.trigUnstored c k) := by
  unfold Dev.trigUnstored
  split
  · exact .ite (d.aside_putTrigger c _) (.refl d)
  · exact .refl d

theorem Dev.aside_closeIdle (k : Nat) : Aside d (d.closeIdle c k) := by
  unfold Dev.closeIdle
  split
  · exact .refl d
  · have h : ∀ (l : LaneCap) n r b, Aside d ((d.setLane c k l).putData c k n r b).2 := fun l n r b =>
      .trans (.setLane <| .refl d) (Dev.aside_putData _ c k _ _ _)
    exact .ite ((h _ _ _ _).trans (Dev.aside_trigUnstored _ c k)) (h _ _ _ _)

theorem Dev.aside_closeLanes : Aside d (d.closeLanes c) := Aside.foldDev (fun e k _ =>
  ((Aside.trans (.setLane <| .refl e) (Aside.foldDev (fun f b _ => f.aside_addData c k b) _)).trans
    (Dev.aside_closeData _ c k)).trans (Dev.aside_closeIdle _ c k)) d

theorem Dev.aside_capClose (reason : Nat) : Aside d (d.capClose c reason) := by
  unfold Dev.capClose
  refine .ite ?_ (.refl d)
  refine .trans (.wr cePage_aside <| .wr cePage_aside <| ?_) (Dev.aside_putMeta _ c _)
  exact (d.aside_closeLanes c).trans (Dev.aside_putTrigger _ c none)

theorem Dev.aside_capEnd (reason : Nat) : Aside d (d.capEnd c reason) := by
  have h : Aside d ((d.capClose c reason).wr (trgPage c) F.TRG_STAT_running 0) := .wr trgPage_aside <| d.aside_capClose c reason
  unfold Dev.capEnd
  exact .ite h h.setCap

theorem Dev.aside_capTrigger (from_ to_ : Nat) (cause : Cause) : Aside d (d.capTrigger c from_ to_ cause) := by
  have hshow : ∀ x y, Aside d (((((d.wr (cePage c) F.CE_STAT_triggered 1).stat (cePage c) 16).wr (cePage c) F.CE_TRIG_TS_LO x).wr
      (cePage c) F.CE_TRIG_TS_HI y).raiseIf (cePage c) F.CE_EV_trig_en F.CE_EV_trig_ev) := fun x y =>
    .raiseIf <| .wr cePage_aside <| .wr cePage_aside <| .stat cePage_aside <| .wr cePage_aside <| .refl d
  unfold Dev.capTrigger
  refine .ite (.bump cePage_aside <| .refl d) (.ite (hshow _ _) ?_)
  have hmark : ∀ (e : Dev) (t : Cap) (ks : List Nat), Aside d e → Aside d ((match cause.matcher with
      | some (_, k, t') => (e.setCap c t).setLane c k { (e.setCap c t).lane c k with trigNext := .holds t' }
      | none => ks.foldl (fun d k => d.setLane c k { d.lane c k with trigNext := .next }) (e.setCap c t))) := by
    intro e t ks he
    split
    · exact he.setCap.setLane
    · exact he.setCap.trans (Aside.foldDev (fun f k _ => .setLane <| .refl f) _)
  refine .ite (.trans ?_ (Dev.aside_putTrigger _ c none)) ?_
  all_goals exact hmark _ _ _ (.ite (.wr cePage_aside <| hshow _ _) (hshow _ _))

theorem Dev.aside_trgEnter (from_ to_ : Nat) (cause : Cause) : Aside d (d.trgEnter c from_ to_ cause) := by
  have h0 : ∀ t, Aside d ((((d.wr (trgPage c) F.TRG_STAT_state to_).wr (trgPage c) F.TRG_ACNT_count 0).wr (trgPage c)
      F.TRG_ELAPSED 0).setCap c t) := fun t => .setCap <| .wr trgPage_aside <| .wr trgPage_aside <| .wr trgPage_aside <| .refl d
  have hgate : ∀ (e : Dev) (x : Nat), Aside d e → Aside d (match x with
      | 1 => e.setCap c { e.cap c with gate := true }
      | 2 => (e.closeLanes c).setCap c { (e.closeLanes c).cap c with gate := false }
      | _ => e) := by
    intro e x he
    split
    · exact he.setCap
    · exact (he.trans (e.aside_closeLanes c)).setCap
    · exact he
  have htrig : ∀ (e : Dev) (b : Prop) [Decidable b], Aside d e → Aside d (if b then e.capTrigger c from_ to_ cause else e) :=
    fun e _ _ he => .ite (he.trans (e.aside_capTrigger c _ _ _)) he
  have hstop : ∀ (e : Dev) (b : Prop) [Decidable b], Aside d e → Aside d (if b then e.capClose c 3 else e) :=
    fun e _ _ he => .ite (he.trans (e.aside_capClose c 3)) he
  unfold Dev.trgEnter
  exact .raiseIf <| hstop _ _ <| htrig _ _ <| hgate _ _ <| h0 _

theorem Dev.aside_disableMatchers : Aside d (d.disableMatchers c) := by
  unfold Dev.disableMatchers
  exact Aside.foldDev (fun e j _ => .ite (.stat mtPage_aside <| .setCap <| .refl e) (.refl e)) d

/-- The engine's record and registers as an act that names it starts. -/
def Dev.capCleared : Dev :=
  let p := cePage c
  let d := d.setCap c { Cap.init with gate := d.on p F.CE_CFG_store_init, held := true, since := d.now }
  let d := (((d.wr p F.CE_STAT_wrapped 0).wr p F.CE_STAT_triggered 0).wr p F.CE_STAT_close 0).wr p F.CE_SEQ 0
  let d := ((d.wr p F.CE_TRIG_TILE_tile 0).wr p F.CE_TRIG_OFF_off 0).wr p F.CE_WR_TILE_tile 0
  (d.wr p F.CE_TRIG_TS_LO 0).wr p F.CE_TRIG_TS_HI 0

/-- Its state, by its region. -/
def Dev.capOpened : Dev :=
  if d.regionOk c then (d.wr (cePage c) F.CE_STAT_state 1).wr (cePage c) F.CE_WR_TILE_tile (d.rd (cePage c) F.CE_REGION_BASE_tile)
  else (d.wr (cePage c) F.CE_STAT_state 4).wr (cePage c) F.CE_STAT_close 6

theorem Dev.aside_capCleared : Aside d (d.capCleared c) :=
  .wr cePage_aside <| .wr cePage_aside <| .wr cePage_aside <| .wr cePage_aside <| .wr cePage_aside <| .wr cePage_aside <|
    .wr cePage_aside <| .wr cePage_aside <| .wr cePage_aside <| .setCap <| .refl d

theorem Dev.aside_capOpened : Aside d (d.capOpened c) := by
  unfold Dev.capOpened
  exact .ite (.wr cePage_aside <| .wr cePage_aside <| .refl d) (.wr cePage_aside <| .wr cePage_aside <| .refl d)

theorem Dev.capStart_eq : d.capStart c =
    if (((d.capCleared c).capOpened c).disableMatchers c).on (trgPage c) F.TRG_CTRL_en then
      ((((d.capCleared c).capOpened c).disableMatchers c).wr (trgPage c) F.TRG_STAT_running 1).trgEnter c 0
        ((((d.capCleared c).capOpened c).disableMatchers c).rd (trgPage c) F.TRG_CTRL_init) ⟨none⟩
    else ((d.capCleared c).capOpened c).disableMatchers c := rfl

theorem Dev.aside_capStart : Aside d (d.capStart c) := by
  have h := ((d.aside_capCleared c).trans (Dev.aside_capOpened _ c)).trans (Dev.aside_disableMatchers _ c)
  rw [d.capStart_eq]
  exact .ite (.trans (.wr trgPage_aside h) (Dev.aside_trgEnter _ c _ _ _)) h

end

/-! ## Sequencers -/

section
variable (d : Dev) (n : Nat)

theorem Dev.aside_blockEnd (free : Bool) : Aside d (d.blockEnd n free) := by
  have hfree : ∀ k, Aside d ((List.range k).foldl (fun (x : List Bool × Dev) _ => (x.1 ++ [x.2.fresh.1.getLsbD 0], x.2.fresh.2)) ([], d)).2 :=
    fun k => Aside.fold (fun x : List Bool × Dev => x.2) _ _ (fun x _ _ => .fresh <| .refl x.2) ([], d)
  unfold Dev.blockEnd
  refine .ite ?_ (.refl d)
  cases free with
  | true => exact (hfree _).trans (Dev.aside_spliceBits _ _ _)
  | false => exact (d.aside_fillBits n _).trans (Dev.aside_spliceBits _ _ _)

theorem Dev.aside_closeBracket : Aside d (d.closeBracket n) := by
  unfold Dev.closeBracket
  split
  · exact .refl d
  · have h : ∀ s t, Aside d (((d.setSq n s).wr (rxPage (fwdTx n)) F.RXL_FWD_STAT_splice 0).setRx (fwdTx n) t) := fun s t =>
      .setRx <| .wr rxPage_aside <| .setSq <| .refl d
    exact .ite ((h _ _).trans (Dev.aside_spliceOver _ _)) (h _ _)

theorem Dev.aside_showSq : Aside d (d.showSq n) := by
  unfold Dev.showSq
  exact .trans (.wr sqPage_aside <| .wr sqPage_aside <| .refl d) (Aside.foldDev (fun e _ _ => .wr sqPage_aside <| .refl e) _)

theorem Dev.aside_modSq (f : Sq → Sq) : Aside d (d.modSq n f) := (Aside.setSq <| .refl d).trans (Dev.aside_showSq _ n)

theorem Aside.setInbox {e : Dev} {p : Task → Bool} (h : Aside d e) :
    Aside d { e with mw := { e.mw with inbox := e.mw.inbox.filter p } } := h.setMw fun _ hr => hr

theorem Dev.aside_sqDisarm : Aside d (d.sqDisarm n) := by
  have h := (d.aside_closeBracket n).trans (Dev.aside_modSq _ n fun s =>
    { s with
      watches := [], landing := none, wait := none, hold := false, haltReq := false, play := none, wanted := []
      dropped := s.dropped ++ s.wanted })
  unfold Dev.sqDisarm
  exact .ite (h.setInbox.trans (Dev.aside_abandonHandoff _ n)) h.setInbox

theorem Dev.aside_sqFinish : Aside d (d.sqFinish n) := by
  have h := ((d.aside_sqDisarm n).trans (Dev.aside_modSq _ n fun s => { s with
    frames := [], marks := s.marks.filter MarkRec.out, lastSeg := none, absRate := none, stream := [], controls := 0,
    haltFill := false })).wr (g := F.SQ_LATCH_latch) (v := 0) (sqPage_aside (n := n))
  unfold Dev.sqFinish Dev.setSqState
  exact .ite h.setInbox (.wr sqPage_aside h.setInbox)

theorem Dev.aside_sqLaneIdle : Aside d (d.sqLaneIdle n) := by
  unfold Dev.sqLaneIdle
  exact .ite (d.aside_txIdle n) (.refl d)

theorem Dev.aside_sqReport (cause pc : Nat) : Aside d (d.sqReport n cause pc) :=
  .raiseIf <| .stat sqPage_aside <| .wr sqPage_aside <| .wr sqPage_aside <| .wr sqPage_aside <| .wr sqPage_aside <| .refl d

theorem Dev.aside_sqFault (cause pc : Nat) : Aside d (d.sqFault n cause pc) := by
  have h := (((d.aside_blockEnd n (cause == 10)).trans (Dev.aside_sqDisarm _ n)).trans (Dev.aside_sqLaneIdle _ n)).trans
    (Dev.aside_sqReport _ n cause pc)
  unfold Dev.sqFault
  exact .ite h (h.trans (Dev.aside_openInjection _))

theorem Dev.aside_sqBegin : Aside d (d.sqBegin n) := by
  unfold Dev.sqBegin
  refine .ite ?_ (d.aside_sqFault n 9 _)
  exact .trans (.wr sqPage_aside <| .refl d) (Dev.aside_modSq _ n _)

end

end Sys2Proof.Machine
end

section
/-! SUPPORT. Starts and ends of acts: what Showbill itself writes, and that the rest is aside from it. -/
namespace Sys2Proof.Machine

open Sys2Proof.Safety

/-! ## The engines of an act that starts -/

section
variable (d : Dev) (s n : Nat)

theorem Dev.aside_laneStart (old : Dev) : Aside d (d.laneStart old s n) := by
  unfold Dev.laneStart
  exact (Aside.wr txPage_aside <| .setTx <| d.aside_serveLane n _).trans (Dev.aside_errRecheck _ n old)

theorem Dev.aside_laneGo (timed : Bool) : Aside d (d.laneGo timed n) := by
  have hdrive : Aside d (if timed then (d.txDrive n).txExited n else d.txDrive n) :=
    .ite ((d.aside_txDrive n).trans (Dev.aside_txExited _ n)) (d.aside_txDrive n)
  unfold Dev.laneGo
  exact .ite (.ite hdrive (.setTx <| .refl d)) (.refl d)

/-- A sequencer of an act that starts; it faults where its lane has no synthesizer. -/
def Dev.sqStart (d : Dev) (n : Nat) : Dev :=
  let d := d.sqBegin n
  if n < 16 && (d.tx n).dead && d.sqState n == 3 then d.sqFault n 5 (d.rd (sqPage n) F.SQ_START_entry) else d

theorem Dev.aside_sqStart : Aside d (d.sqStart n) := by
  unfold Dev.sqStart
  exact .ite ((d.aside_sqBegin n).trans (Dev.aside_sqFault _ n _ _)) (d.aside_sqBegin n)

/-- What Showbill writes as an act starts. -/
def Dev.actBegun (d : Dev) (s : Nat) : Dev := ((d.wr 0x03 (F.ACT_STAT_state.at s) 3).raiseSys 241).showState

/-- What its engines do then. -/
def Dev.enginesStart (old d : Dev) (s : Nat) : Dev :=
  let lanes := (List.range 16).filter (d.names F.ACT_LANES_tx · s)
  let d := lanes.foldl (fun d n => d.laneStart old s n) d
  let d := (d.fwdSources s).foldl Dev.fwdClear d
  let d := ((List.range 2).filter (d.names F.ACT_ENG_ce · s)).foldl Dev.capStart d
  let d := ((List.range 4).filter (d.names F.ACT_ENG_aw · s)).foldl Dev.awgStart d
  let d := ((List.range 20).filter (d.names F.ACT_ENG_sq · s)).foldl Dev.sqStart d
  let d := lanes.foldl (Dev.laneGo · (d.rd 0x03 (F.ACT_W0_start.at s) == 1)) d
  let d := d.sdStart ((List.range 8).filter (d.names F.ACT_AUX_sd · s))
  (d.settlePaths.rxSettleAll).openInjection

theorem Dev.beginAct_eq : d.beginAct s = Dev.enginesStart d (d.actBegun s) s := rfl

theorem Dev.aside_settled : Aside d (d.settlePaths.rxSettleAll).openInjection :=
  (d.aside_settlePaths.trans (Dev.aside_rxSettleAll _)).trans (Dev.aside_openInjection _)

theorem Dev.aside_enginesStart (old : Dev) : Aside d (Dev.enginesStart old d s) := by
  unfold Dev.enginesStart
  refine .trans ?_ (Dev.aside_settled _)
  refine .trans ?_ (Dev.aside_sdStart _ _)
  refine .trans ?_ (Aside.foldDev (fun e n _ => e.aside_laneGo n _) _)
  refine .trans ?_ (Aside.foldDev (fun e n _ => e.aside_sqStart n) _)
  refine .trans ?_ (Aside.foldDev (fun e n _ => e.aside_awgStart n) _)
  refine .trans ?_ (Aside.foldDev (fun e n _ => e.aside_capStart n) _)
  refine .trans ?_ (Aside.foldDev (fun e n _ => e.aside_fwdClear n) _)
  exact Aside.foldDev (fun e n _ => e.aside_laneStart s n old) _

end

/-! ## SHOW follows the acts -/

section
variable (d : Dev) (s : Nat)

theorem Dev.same_showState : SameRegs [addrOf 0x02 0x040] d d.showState := by
  unfold Dev.showState
  split
  · exact d.same_wr 0x02 _ F.SB_STATE_cur
  · exact .refl _ d

theorem Dev.mw_showState : d.showState.mw = d.mw := by
  unfold Dev.showState
  split <;> rfl

theorem Dev.power_showState (h : d.power = 3 ∨ d.power = 4) : d.showState.power = if d.runSlots.isEmpty then 3 else 4 := by
  unfold Dev.showState
  rw [if_pos h]
  exact Dev.rd_wr_fit _ _ _ _ (by decide) (by split <;> decide)

theorem mem_runSlots {d : Dev} {k : Nat} : k ∈ d.runSlots ↔ k < 16 ∧ d.actState k = 3 := by
  rw [Dev.runSlots, List.mem_filter, List.mem_range, beq_iff_eq]

theorem mem_liveSlots {d : Dev} {k : Nat} : k ∈ d.liveSlots ↔ k < 16 ∧ (d.actState k = 2 ∨ d.actState k = 3) := by
  rw [Dev.liveSlots, List.mem_filter, List.mem_range, Bool.or_eq_true, beq_iff_eq, beq_iff_eq]

/-! ## An act that has started -/

/-- The slot's ACT_STAT and SB_STATE change. -/
theorem Dev.same_actBegun : SameRegs [actStat s, addrOf 0x02 0x040] d (d.actBegun s) := by
  have hstate : SameRegs [actStat s, addrOf 0x02 0x040] d (d.wr 0x03 (F.ACT_STAT_state.at s) 3) :=
    (same_wr_actStat F.ACT_STAT_state 3 rfl rfl).mono (by simp)
  exact (hstate.step (Dev.same_raiseSys _ 241) (by simp)).step (Dev.same_showState _) (by simp)

theorem Dev.running_wr_state : (d.wr 0x03 (F.ACT_STAT_state.at s) 3).actState s = 3 :=
  Dev.rd_wr_fit _ _ _ _ (show 0 + 3 ≤ 32 by omega) (show 3 < 2 ^ 3 by omega)

theorem actStat_ne_low (k p off : Nat) (hk : k < 16) (ho : off < 65536) (h : p = 0x03 → off < 0x300) :
    actStat k ≠ addrOf p off := by
  intro e
  obtain ⟨hp, hoff⟩ := (addrOf_inj 0x03 p _ off (by omega) ho).mp e
  have := h hp.symm
  omega

theorem Dev.actState_actBegun (hs : s < 16) : (d.actBegun s).actState s = 3 :=
  (actState_other (Dev.same_showState ((d.wr 0x03 (F.ACT_STAT_state.at s) 3).raiseSys 241)) s (by
    simp [actStat_ne_low s 0x02 0x040 hs (by decide) (by decide)])).trans (d.running_wr_state s)

theorem Dev.actState_actBegun_other (o : Nat) (ho : o < 16) (h : o ≠ s) : (d.actBegun s).actState o = d.actState o :=
  actState_other (d.same_actBegun s) o (by simp [actStat_ne h, actStat_ne_low o 0x02 0x040 ho (by decide) (by decide)])

theorem Dev.power_actBegun (hs : s < 16) (h : d.power = 3 ∨ d.power = 4) : (d.actBegun s).power = 4 := by
  have hsame : SameRegs [actStat s] d ((d.wr 0x03 (F.ACT_STAT_state.at s) 3).raiseSys 241) :=
    (same_wr_actStat F.ACT_STAT_state 3 rfl rfl).step (Dev.same_raiseSys _ 241) (by simp)
  have hpower : ((d.wr 0x03 (F.ACT_STAT_state.at s) 3).raiseSys 241).power = d.power :=
    hsame.rd 0x02 F.SB_STATE_cur (by
      rw [List.mem_singleton]
      exact (actStat_ne_low s 0x02 _ hs (by decide) (by decide)).symm)
  have hrun : s ∈ ((d.wr 0x03 (F.ACT_STAT_state.at s) 3).raiseSys 241).runSlots :=
    mem_runSlots.mpr ⟨hs, d.running_wr_state s⟩
  unfold Dev.actBegun
  rw [Dev.power_showState _ (by rwa [hpower])]
  exact if_neg (by rw [List.isEmpty_iff]; exact List.ne_nil_of_mem hrun)

/-! ## A start as a whole -/

theorem Dev.acts_beginAct : SameActs (d.actBegun s) (d.beginAct s) := by
  rw [d.beginAct_eq]
  exact (Dev.aside_enginesStart _ _ _).sameActs

theorem Dev.power_beginAct (hs : s < 16) (h : d.power = 3 ∨ d.power = 4) : (d.beginAct s).power = 4 := by
  rw [d.beginAct_eq]
  exact ((Dev.aside_enginesStart _ _ _).rd 0x02 F.SB_STATE_cur (by decide) (by decide) (by decide) (by decide)).trans
    (d.power_actBegun s hs h)

theorem Dev.wire_beginAct : ⟨241, 0, .system, 241⟩ ∈ (d.beginAct s).mw.wire := by
  rw [d.beginAct_eq]
  refine (Dev.aside_enginesStart _ _ _).wire _ ?_
  unfold Dev.actBegun
  rw [Dev.mw_showState]
  exact List.mem_append_right _ (List.mem_singleton_self _)

end

end Sys2Proof.Machine
end

section
/-! SUPPORT. The end of an act: what Showbill itself writes, and that the rest is aside from it. -/
namespace Sys2Proof.Machine

open Sys2Proof.Safety

/-! ## The stages of an end -/

section
variable (d : Dev) (s cause : Nat)

/-- The captures of an act that runs close first. -/
def Dev.capturesEnd : Dev :=
  if d.actState s == 3 then
    ((List.range 2).filter (d.names F.ACT_ENG_ce · s)).foldl (fun d c => d.capEnd c (if cause = 3 then 5 else 1)) d
  else d

/-- What Showbill shows of the end. -/
def Dev.endShown : Dev :=
  (((d.wr 0x03 (F.ACT_STAT_state.at s) (if cause ≤ 1 then 4 else 6)).wr 0x03 (F.ACT_STAT_end.at s) cause).stat 0x03 (16 + s)).raiseSys 242

/-- The slot waits for no path and no event any more. -/
def Dev.unqueued : Dev := { d with
  bill := { d.bill with pathWait := withBit d.bill.pathWait s false }
  mw := { d.mw with inbox := d.mw.inbox.filter (· != .actStart s) } }

/-- A lane of an ended act returns to the rate, format and serving synthesizer of its page. -/
def Dev.laneHome (old d : Dev) (n : Nat) : Dev :=
  let d := d.restoreLane n
  ((d.setTx n { d.tx n with lost := false, dead := false, quiet := false }).txHome n).errRecheck old n

/-- The engines of an act that ran stop. `old` is the device before the end. -/
def Dev.enginesEnd (old d : Dev) (s : Nat) : Dev :=
  let lanes := (List.range 16).filter (old.names F.ACT_LANES_tx · s)
  if !(old.actState s == 3) then d else
    let d := lanes.foldl Dev.txIdle d
    let d := ((List.range 20).filter (d.names F.ACT_ENG_sq · s)).foldl Dev.sqFinish d
    let d := lanes.foldl Dev.abandonHandoff d
    let d := d.sdEnd ((List.range 8).filter (d.names F.ACT_AUX_sd · s))
    let d := if (List.range 4).any (d.names F.ACT_ENG_aw · s) then d.awgUnclamp else d
    let d := (old.fwdSources s).foldl Dev.fwdClear d
    lanes.foldl (Dev.laneHome old) d

/-- The commitment, SHOW, the paths, the receivers and the injection switches follow. -/
def Dev.endSettled : Dev := ((d.commitPower.showState.settlePaths).rxSettleAll).openInjection

theorem Dev.endAct_eq :
    d.endAct s cause = (Dev.enginesEnd d (((d.capturesEnd s cause).endShown s cause).unqueued s) s).endSettled := rfl

theorem Dev.aside_capturesEnd : Aside d (d.capturesEnd s cause) := by
  unfold Dev.capturesEnd
  exact .ite (Aside.foldDev (fun e c _ => e.aside_capEnd c _) d) (.refl d)

theorem Dev.aside_laneHome (old : Dev) (n : Nat) : Aside d (Dev.laneHome old d n) := by
  have hset : Aside d ((d.restoreLane n).setTx n { (d.restoreLane n).tx n with lost := false, dead := false, quiet := false }) :=
    (d.aside_restoreLane n).setTx
  exact (hset.trans (Dev.aside_txHome _ n)).trans (Dev.aside_errRecheck _ n old)

theorem Dev.aside_enginesEnd (old : Dev) : Aside d (Dev.enginesEnd old d s) := by
  unfold Dev.enginesEnd
  refine .ite (.refl d) ?_
  refine .trans ?_ (Aside.foldDev (fun e n _ => e.aside_laneHome old n) _)
  refine .trans ?_ (Aside.foldDev (fun e n _ => e.aside_fwdClear n) _)
  refine .trans ?_ (.ite (Dev.aside_awgUnclamp _) (.refl _))
  refine .trans ?_ (Dev.aside_sdEnd _ _)
  refine .trans ?_ (Aside.foldDev (fun e n _ => e.aside_abandonHandoff n) _)
  refine .trans ?_ (Aside.foldDev (fun e n _ => e.aside_sqFinish n) _)
  exact Aside.foldDev (fun e n _ => e.aside_txIdle n) d

/-! ## What they leave -/

/-- The registers that the end of a slot may change. -/
def EndReg (s a : Nat) : Prop :=
  a = actStat s ∨ a = addrOf 0x03 0x00C ∨ a = addrOf 0x02 0x040 ∨ a = addrOf 0x02 0x054 ∨ a = addrOf 0x01 0x048 ∨
    a = addrOf 0x02 0x05C ∨ 0x17 ≤ a / 65536

theorem not_endReg (p off : Nat) (hs : s < 16) (ho : off < 65536) (hp : p < 0x17) (h1 : p = 0x01 → off ≠ 0x048)
    (h2 : p = 0x02 → off ≠ 0x05C ∧ off ≠ 0x040 ∧ off ≠ 0x054) (h3 : p = 0x03 → off ≠ 0x00C ∧ off ≠ 0x300 + 4 * s) :
    ¬EndReg s (addrOf p off) := by
  rintro (h | h | h | h | h | h | h)
  · obtain ⟨hp, hf⟩ := (addrOf_inj p 0x03 off _ ho (by omega)).mp h
    exact (h3 hp).2 hf
  · obtain ⟨hp, hf⟩ := (addrOf_inj p 0x03 off _ ho (by decide)).mp h
    exact (h3 hp).1 hf
  · obtain ⟨hp, hf⟩ := (addrOf_inj p 0x02 off _ ho (by decide)).mp h
    exact (h2 hp).2.1 hf
  · obtain ⟨hp, hf⟩ := (addrOf_inj p 0x02 off _ ho (by decide)).mp h
    exact (h2 hp).2.2 hf
  · obtain ⟨hp, hf⟩ := (addrOf_inj p 0x01 off _ ho (by decide)).mp h
    exact h1 hp hf
  · obtain ⟨hp, hf⟩ := (addrOf_inj p 0x02 off _ ho (by decide)).mp h
    exact (h2 hp).1 hf
  · rw [addrOf_page p off ho] at h
    omega

/-- No other slot's ACT_STAT is among them. -/
theorem not_endReg_actStat (o : Nat) (ho : o < 16) (hs : s < 16) (h : o ≠ s) : ¬EndReg s (actStat o) :=
  not_endReg s 0x03 _ hs (by omega) (by decide) (fun h => absurd h (by decide)) (fun h => absurd h (by decide))
    fun _ => ⟨by omega, by omega⟩

theorem Aside.reg_end {d e : Dev} (h : Aside d e) (a : Nat) (ha : ¬EndReg s a ∨ a = actStat s ∨ a = addrOf 0x03 0x00C ∨ a = addrOf 0x02 0x040)
    (hs : s < 16) : e.reg a = d.reg a := by
  have key : ∀ p off, a = addrOf p off → off < 65536 → p < 0x17 → (p = 0x01 → off ≠ 0x048) → (p = 0x02 → off ≠ 0x05C) →
      e.reg a = d.reg a := fun p off he ho hp h1 h2 => by
    rw [he]
    exact h.reg _ (by rwa [addrOf_page p _ ho])
      (fun c => by obtain ⟨hq, hf⟩ := (addrOf_inj p 0x01 _ _ ho (by decide)).mp c; exact h1 hq hf)
      (fun c => by obtain ⟨hq, hf⟩ := (addrOf_inj p 0x02 _ _ ho (by decide)).mp c; exact h2 hq hf)
  rcases ha with ha | ha | ha | ha
  · unfold EndReg at ha
    exact h.reg a (by omega) (by omega) (by omega)
  · exact key 0x03 _ ha (by omega) (by decide) (fun h => absurd h (by decide)) (fun h => absurd h (by decide))
  · exact key _ _ ha (by decide) (by decide) (by decide) (by decide)
  · exact key _ _ ha (by decide) (by decide) (by decide) (by decide)

theorem Dev.reg_endShown (a : Nat) (h : ¬EndReg s a) : (d.endShown s cause).reg a = d.reg a := by
  unfold EndReg at h
  have hstat : addrOf 0x03 (F.ACT_STAT_state.at s).off = actStat s := addrOf_actStat _ _ rfl rfl
  have hend : addrOf 0x03 (F.ACT_STAT_end.at s).off = actStat s := addrOf_actStat _ _ rfl rfl
  unfold Dev.endShown
  rw [Dev.reg_raiseSys, Dev.reg_stat _ _ _ _ (by omega) (by
      rintro (e | e) <;> (subst e; exact absurd h (by simp [F.MSIX_PBA_LO, F.MSIX_PBA_HI, addrOf]))),
    Dev.reg_wr_other _ _ _ _ _ (by omega), Dev.reg_wr_other _ _ _ _ _ (by omega)]

/-- After the end is shown, SB_STATE.cur and the commitment change, and what is aside from Showbill. -/
theorem Dev.reg_endSettled (hs : s < 16) (a : Nat) (ha : ¬EndReg s a ∨ a = actStat s ∨ a = addrOf 0x03 0x00C) :
    d.endSettled.reg a = d.reg a := by
  have h2 : a ≠ addrOf 0x02 0x040 ∧ a ≠ addrOf 0x02 0x054 := by
    unfold EndReg actStat at ha
    unfold addrOf at *
    omega
  have hshow : SameRegs [addrOf 0x02 0x040] d.commitPower d.commitPower.showState := Dev.same_showState _
  unfold Dev.endSettled
  rw [(Dev.aside_settled _).reg_end s a (ha.imp_right fun h => h.imp_right .inl) hs, hshow a (by simp [h2.1]),
    d.reg_commitPower a h2.2]

/-- So what is shown is shown at the end. -/
theorem Dev.reg_endAct_shown (hs : s < 16) (a : Nat) (ha : ¬EndReg s a ∨ a = actStat s ∨ a = addrOf 0x03 0x00C) :
    (d.endAct s cause).reg a = ((d.capturesEnd s cause).endShown s cause).reg a := by
  rw [d.endAct_eq, Dev.reg_endSettled _ s hs a ha,
    (Dev.aside_enginesEnd _ s d).reg_end s a (ha.imp_right fun h => h.imp_right .inl) hs]
  exact Dev.reg_congr _ _ a rfl rfl

theorem Dev.reg_endAct (hs : s < 16) (a : Nat) (h : ¬EndReg s a) : (d.endAct s cause).reg a = d.reg a := by
  rw [d.reg_endAct_shown s cause hs a (.inl h), Dev.reg_endShown _ s cause a h,
    (d.aside_capturesEnd s cause).reg_end s a (.inl h) hs]

theorem Dev.rd_endAct_shown (hs : s < 16) (f : Field) (ho : f.off = 0x300) (hf : f.st = 4) :
    (d.endAct s cause).rd 0x03 (f.at s) = ((d.capturesEnd s cause).endShown s cause).rd 0x03 (f.at s) := by
  unfold Dev.rd
  rw [d.reg_endAct_shown s cause hs _ (.inr (.inl (addrOf_actStat f s ho hf)))]

theorem Dev.rd_endShown (hs : s < 16) (f : Field) (ho : f.off = 0x300) (hf : f.st = 4) :
    (d.endShown s cause).rd 0x03 (f.at s) =
      ((d.wr 0x03 (F.ACT_STAT_state.at s) (if cause ≤ 1 then 4 else 6)).wr 0x03 (F.ACT_STAT_end.at s) cause).rd 0x03 (f.at s) :=
  ((Dev.same_stat _ 0x03 _).rd _ _ (by rw [addrOf_actStat f s ho hf]; exact actStat_not_mem_statAddrs 0x03 s hs))

theorem Dev.actState_endAct (hs : s < 16) : (d.endAct s cause).actState s = if cause ≤ 1 then 4 else 6 :=
  (d.rd_endAct_shown s cause hs F.ACT_STAT_state rfl rfl).trans <|
    (Dev.rd_endShown _ s cause hs F.ACT_STAT_state rfl rfl).trans <|
    (Dev.rd_wr_apart _ 0x03 (F.ACT_STAT_end.at s) (F.ACT_STAT_state.at s) _ (show 0 + 3 ≤ 32 by omega)
      (.inr (.inl (show 0 + 3 ≤ 12 by omega)))).trans <|
    Dev.rd_wr_fit _ _ _ _ (show 0 + 3 ≤ 32 by omega) (show (if cause ≤ 1 then 4 else 6) < 2 ^ 3 by split <;> omega)

theorem Dev.end_endAct (hs : s < 16) (hc : cause < 4) : (d.endAct s cause).rd 0x03 (F.ACT_STAT_end.at s) = cause :=
  (d.rd_endAct_shown s cause hs F.ACT_STAT_end rfl rfl).trans <|
    (Dev.rd_endShown _ s cause hs F.ACT_STAT_end rfl rfl).trans <| Dev.rd_wr_fit _ _ _ _ (show 12 + 2 ≤ 32 by omega) hc

theorem Dev.actState_endAct_other (hs : s < 16) (o : Nat) (ho : o < 16) (h : o ≠ s) :
    (d.endAct s cause).actState o = d.actState o := by
  unfold Dev.actState Dev.rd
  rw [addrOf_actStat _ _ rfl rfl, d.reg_endAct s cause hs _ (not_endReg_actStat s o ho hs h)]

/-! ### Its status bit and its event -/

theorem Dev.reg_status_endAct (hs : s < 16) :
    (d.endAct s cause).reg (addrOf 0x03 0x00C) = d.reg (addrOf 0x03 0x00C) ||| BitVec.twoPow 32 (16 + s) := by
  rw [d.reg_endAct_shown s cause hs _ (.inr (.inr rfl))]
  unfold Dev.endShown
  rw [Dev.reg_raiseSys, Dev.stat, Dev.reg_statW_same _ _ _ (not_isPba_stat _), Dev.reg_wr_other, Dev.reg_wr_other,
    (d.aside_capturesEnd s cause).reg_end s _ (.inr (.inr (.inl rfl))) hs]
  all_goals
    rw [addrOf_actStat _ _ rfl rfl]
    exact (actStat_ne_low s 0x03 0x00C hs (by decide) (by decide)).symm

theorem Dev.bit_endAct (hs : s < 16) : (d.endAct s cause).bit 0x03 0x00C (16 + s) = true := by
  unfold Dev.bit
  rw [d.reg_status_endAct s cause hs]
  simp [show 16 + s < 32 by omega]

theorem Dev.bit_endAct_stays (hs : s < 16) (i : Nat) (h : d.bit 0x03 0x00C i = true) :
    (d.endAct s cause).bit 0x03 0x00C i = true := by
  unfold Dev.bit at h ⊢
  rw [d.reg_status_endAct s cause hs]
  simp [h]

theorem Dev.wire_endAct : ⟨242, 0, .system, 242⟩ ∈ (d.endAct s cause).mw.wire := by
  rw [d.endAct_eq]
  unfold Dev.endSettled
  refine (Dev.aside_settled _).wire _ ?_
  rw [Dev.mw_showState, Dev.commitPower, Dev.wr_mw]
  exact (Dev.aside_enginesEnd _ s d).wire _ (List.mem_append_right _ (List.mem_singleton_self _))

/-! ### SHOW ends with the last act that runs -/

/-- The device as SHOW finds it. -/
def Dev.endedBefore : Dev := (Dev.enginesEnd d (((d.capturesEnd s cause).endShown s cause).unqueued s) s).commitPower

theorem Dev.aside_endAct : Aside (d.endedBefore s cause).showState (d.endAct s cause) := Dev.aside_settled _

theorem Dev.power_endShown (hs : s < 16) : (d.endShown s cause).power = d.power := by
  unfold Dev.power Dev.rd Dev.endShown
  rw [Dev.reg_raiseSys, Dev.reg_stat _ _ _ _ (by decide) (by unfold isPba; decide), Dev.reg_wr_other, Dev.reg_wr_other]
  all_goals
    rw [addrOf_actStat _ _ rfl rfl]
    exact (actStat_ne_low s 0x02 0x040 hs (by decide) (by decide)).symm

theorem Aside.power {d e : Dev} (h : Aside d e) : e.power = d.power :=
  h.rd 0x02 F.SB_STATE_cur (by decide) (by decide) (by decide) (by decide)

theorem Dev.power_commitPower : d.commitPower.power = d.power := by
  unfold Dev.power Dev.rd
  rw [d.reg_commitPower _ (by decide)]

theorem Dev.power_endedBefore (hs : s < 16) : (d.endedBefore s cause).power = d.power := by
  unfold Dev.endedBefore
  rw [Dev.power_commitPower, (Dev.aside_enginesEnd _ s d).power, ← (d.aside_capturesEnd s cause).power,
    ← Dev.power_endShown (d.capturesEnd s cause) s cause hs]
  exact congrArg F.SB_STATE_cur.get (Dev.reg_congr _ _ _ rfl rfl)

theorem Dev.acts_endedBefore : SameActs (d.endedBefore s cause) (d.endAct s cause) := fun off ho => by
  rw [(d.aside_endAct s cause).sameActs off ho, Dev.same_showState _ _ (by
    rw [List.mem_singleton]
    exact fun e => absurd ((addrOf_inj 0x03 0x02 off _ ho (by decide)).mp e).1 (by decide))]

theorem Dev.power_endAct (hs : s < 16) (h : d.power = 3 ∨ d.power = 4) :
    (d.endAct s cause).power = if (d.endAct s cause).runSlots.isEmpty then 3 else 4 := by
  rw [(d.aside_endAct s cause).power, Dev.power_showState _ (by rwa [d.power_endedBefore s cause hs]),
    (d.acts_endedBefore s cause).runSlots]

theorem Dev.runSlots_endAct_last (hs : s < 16) (hlast : ∀ o, o < 16 → o ≠ s → d.actState o ≠ 3) :
    (d.endAct s cause).runSlots = [] := by
  rw [List.eq_nil_iff_forall_not_mem]
  intro o ho
  obtain ⟨ho16, ho⟩ := mem_runSlots.mp ho
  by_cases e : o = s
  · rw [e, d.actState_endAct s cause hs] at ho
    split at ho <;> omega
  · exact hlast o ho16 e ((d.actState_endAct_other s cause hs o ho16 e).symm.trans ho)

end

/-! ## An act starts -/

section
variable (d u : Dev) (s : Nat)

/-- A start, and its slot waits for no path any more. -/
def Dev.actStarts : Dev := { u.beginAct s with bill := { (u.beginAct s).bill with pathWait := withBit (u.beginAct s).bill.pathWait s false } }

/-- When a start is due: at once, at the count, on the event, or, for an act that forwards, once its paths are commanded. -/
theorem Dev.startAct_eq (hadm : d.actState s = 2) (hmoved : d.forwards s = false ∨ d.bill.pathWait.testBit s = true)
    (hdue : (d.rd 0x03 (F.ACT_W0_start.at s) = 0 ∧ u = d) ∨
      (d.rd 0x03 (F.ACT_W0_start.at s) = 1 ∧ u = d.reachTime (d.startCount s)) ∨
      (d.rd 0x03 (F.ACT_W0_start.at s) = 2 ∧ d.forwards s = false ∧ d.startEvent s = some u) ∨
      (d.rd 0x03 (F.ACT_W0_start.at s) = 2 ∧ d.forwards s = true ∧ u = d)) :
    d.startAct s = u.actStarts s := by
  have hm : (!d.forwards s || d.bill.pathWait.testBit s) = true := by
    rcases hmoved with h | h <;> simp [h]
  unfold Dev.startAct
  rw [if_pos hadm]
  obtain ⟨h, rfl⟩ | ⟨h, rfl⟩ | ⟨h, hf, he⟩ | ⟨h, hf, rfl⟩ := hdue <;> simp only [h]
  · exact if_pos hm
  · exact if_pos hm
  · rw [if_neg (by simp [hf]), he]
    rfl
  · rw [if_pos hf, if_pos hm]
    rfl

theorem Dev.actStarts_shows (hs : s < 16) :
    (u.actStarts s).actState s = 3 ∧ (∀ o, o < 16 → o ≠ s → (u.actStarts s).actState o = u.actState o) ∧
      (u.power = 3 ∨ u.power = 4 → (u.actStarts s).power = 4) ∧ ⟨241, 0, .system, 241⟩ ∈ (u.actStarts s).mw.wire ∧
      (u.actStarts s).bill.pathWait.testBit s = false := by
  have hbegin := u.acts_beginAct s
  refine ⟨(hbegin.actState s hs).trans (u.actState_actBegun s hs),
    fun o ho hne => (hbegin.actState o ho).trans (u.actState_actBegun_other s o ho hne), u.power_beginAct s hs,
    u.wire_beginAct s, ?_⟩
  change (withBit (u.beginAct s).bill.pathWait s false).testBit s = false
  rw [withBit_testBit, if_pos rfl]

end

end Sys2Proof.Machine

namespace Sys2Proof.Safety

open Sys2Proof.Machine

theorem exec_actStart (slot : Fin 16) (s : State) : exec (.actStart slot) s = onLive s fun d => d.startAct slot.val := rfl
theorem exec_actDurationExpiry (slot : Fin 16) (s : State) : exec (.actDurationExpiry slot) s = onLive s fun d =>
    if d.actState slot.val = 3 ∧ d.on 0x03 (F.ACT_DUR.at slot.val) then d.endAct slot.val 0 else d := rfl

/-- Settles O28: Showbill's own writes show the start and the end, and the engines that follow stay aside from them. -/
theorem actsStartAndEnd : Obligations.ActsStartAndEnd := by
  intro s slot u d k start hserv
  have hk : k < 16 := slot.isLt
  refine ⟨fun hadm hmoved hdue => ?_, fun hrun hdur => ?_⟩
  · exact ⟨u.actStarts k, gives_onLive (exec_actStart slot s) hserv (d.startAct_eq u k hadm hmoved hdue), u.actStarts_shows k hk⟩
  · refine ⟨d.endAct k 0, gives_onLive (exec_actDurationExpiry slot s) hserv (if_pos ⟨hrun, hdur⟩),
      d.actState_endAct k 0 hk, d.end_endAct k 0 hk (by decide), d.actState_endAct_other k 0 hk, d.bit_endAct k 0 hk,
      d.wire_endAct k 0, fun hlast hshow => ?_⟩
    rw [d.power_endAct k 0 hk (.inr hshow), d.runSlots_endAct_last k 0 hk hlast]
    rfl

end Sys2Proof.Safety
end

section
/-! SUPPORT. Submits, aborts and the clearing of an emergency: what each writes. -/
namespace Sys2Proof.Machine

open Sys2Proof.Safety

section
variable (d : Dev) (k : Nat)

/-! ## Submits -/

theorem Dev.same_submit : SameRegs [actStat k] d (d.submit k) :=
  (((same_wr_actStat F.ACT_STAT_state 1 rfl rfl).step (same_wr_actStat F.ACT_STAT_reason 0 rfl rfl) fun _ h => h).step
    (same_wr_actStat F.ACT_STAT_end 0 rfl rfl) fun _ h => h).step (same_wr_actStat F.ACT_STAT_peak 0 rfl rfl) fun _ h => h

theorem Dev.submit_shows : (d.submit k).actState k = 1 ∧ (d.submit k).rd 0x03 (F.ACT_STAT_reason.at k) = 0 ∧
    (d.submit k).rd 0x03 (F.ACT_STAT_end.at k) = 0 ∧ (d.submit k).rd 0x03 (F.ACT_STAT_peak.at k) = 0 := by
  have below (e : Dev) (f g : Field) (v : Nat) (hg : g.lo + g.w ≤ f.lo) (hf : f.lo ≤ 32) :
      (e.wr 0x03 (f.at k) v).rd 0x03 (g.at k) = e.rd 0x03 (g.at k) :=
    e.rd_wr_apart 0x03 (f.at k) (g.at k) v (hg.trans hf) (.inr (.inl hg))
  have same (e : Dev) (f : Field) (hf : f.lo + f.w ≤ 32) : (e.wr 0x03 (f.at k) 0).rd 0x03 (f.at k) = 0 :=
    e.rd_wr_fit 0x03 (f.at k) 0 hf (Nat.two_pow_pos _)
  unfold Dev.submit Dev.actState
  refine ⟨?_, ?_, ?_, same _ F.ACT_STAT_peak (by decide)⟩
  · rw [below _ F.ACT_STAT_peak F.ACT_STAT_state _ (by decide) (by decide), below _ F.ACT_STAT_end F.ACT_STAT_state _ (by decide)
      (by decide), below _ F.ACT_STAT_reason F.ACT_STAT_state _ (by decide) (by decide)]
    exact Dev.rd_wr_fit _ _ _ _ (show 0 + 3 ≤ 32 by omega) (show 1 < 2 ^ 3 by omega)
  · rw [below _ F.ACT_STAT_peak F.ACT_STAT_reason _ (by decide) (by decide), below _ F.ACT_STAT_end F.ACT_STAT_reason _ (by decide)
      (by decide)]
    exact same _ F.ACT_STAT_reason (by decide)
  · rw [below _ F.ACT_STAT_peak F.ACT_STAT_end _ (by decide) (by decide)]
    exact same _ F.ACT_STAT_end (by decide)

/-! ## Ends of several slots -/

/-- A slot whose act has ended with a cause from 2 on. -/
def EndedAs (cause k : Nat) (d : Dev) : Prop :=
  d.actState k = 6 ∧ d.rd 0x03 (F.ACT_STAT_end.at k) = cause ∧ d.bit 0x03 0x00C (16 + k) = true

theorem endedAs_endAct_other {s cause : Nat} (hs : s < 16) (hk : k < 16) (h : k ≠ s) (hd : EndedAs cause k d) :
    EndedAs cause k (d.endAct s cause) := by
  obtain ⟨hstate, hend, hbit⟩ := hd
  refine ⟨(d.actState_endAct_other s cause hs k hk h).trans hstate, ?_, d.bit_endAct_stays s cause hs _ hbit⟩
  rw [Dev.rd, addrOf_actStat _ _ rfl rfl, d.reg_endAct s cause hs _ (not_endReg_actStat s k hk hs h),
    ← addrOf_actStat F.ACT_STAT_end k rfl rfl]
  exact hend

/-- Some slots end, each with the same cause. -/
def Dev.endAll (d : Dev) (ks : List Nat) (cause : Nat) : Dev := ks.foldl (fun d s => d.endAct s cause) d

section
variable (cause : Nat) (ks : List Nat) (hks : ∀ s ∈ ks, s < 16)
include hks

/-- Each of them ends, whatever the others do. -/
theorem Dev.endedAs_endAll (h1 : 1 < cause) (h4 : cause < 4) (hk : k ∈ ks) : EndedAs cause k (d.endAll ks cause) :=
  foldl_establishes (I := fun _ => True) (Q := fun o e => o < 16 → EndedAs cause o e) ks (fun _ _ _ _ => trivial)
    (fun e s hs _ _ => ⟨(e.actState_endAct s cause (hks s hs)).trans (if_neg (by omega)), e.end_endAct s cause (hks s hs) h4,
      e.bit_endAct s cause (hks s hs)⟩)
    (fun e s hs o ho _ hq ho16 => endedAs_endAct_other e o (hks s hs) ho16 ho (hq ho16))
    d trivial k (.inl hk) (hks k hk)

theorem Dev.reg_endAll (a : Nat) (h : ∀ s ∈ ks, ¬EndReg s a) : (d.endAll ks cause).reg a = d.reg a :=
  foldl_keeps (step := fun d s => d.endAct s cause) (·.reg a) ks (fun e s hs => e.reg_endAct s cause (hks s hs) a (h s hs)) d

theorem Dev.actState_endAll_other (hk : k < 16) (h : k ∉ ks) : (d.endAll ks cause).actState k = d.actState k := by
  unfold Dev.actState Dev.rd
  rw [addrOf_actStat _ _ rfl rfl, d.reg_endAll cause ks hks _ fun s hs =>
    not_endReg_actStat s k hk (hks s hs) fun e => h (e ▸ hs)]

end

/-- An abort ends the live acts of its mask, and no other. -/
theorem Dev.actState_abortActs (mask : Nat) (hk : k < 16) :
    (d.abortActs mask).actState k = (if mask.testBit k && (d.actState k == 2 || d.actState k == 3) then 6 else d.actState k) ∧
      ((mask.testBit k && (d.actState k == 2 || d.actState k == 3)) = true →
        (d.abortActs mask).rd 0x03 (F.ACT_STAT_end.at k) = 2 ∧ (d.abortActs mask).bit 0x03 0x00C (16 + k) = true) := by
  have hks : ∀ s ∈ d.liveSlots.filter mask.testBit, s < 16 := fun s hs => (mem_liveSlots.mp (List.mem_filter.mp hs).1).1
  have hmem : k ∈ d.liveSlots.filter mask.testBit ↔ (mask.testBit k && (d.actState k == 2 || d.actState k == 3)) = true := by
    rw [List.mem_filter, mem_liveSlots, Bool.and_eq_true, Bool.or_eq_true, beq_iff_eq, beq_iff_eq, and_comm]
    exact and_congr_right fun _ => and_iff_right hk
  change (d.endAll (d.liveSlots.filter mask.testBit) 2).actState k = _ ∧ (_ → (d.endAll (d.liveSlots.filter mask.testBit) 2).rd _ _ = _ ∧ _)
  by_cases h : k ∈ d.liveSlots.filter mask.testBit
  · obtain ⟨hstate, hend, hbit⟩ := d.endedAs_endAll k 2 _ hks (by decide) (by decide) h
    exact ⟨hstate.trans (if_pos (hmem.mp h)).symm, fun _ => ⟨hend, hbit⟩⟩
  · exact ⟨(d.actState_endAll_other k 2 _ hks hk h).trans (if_neg (hmem.not.mp h)).symm, fun hc => absurd (hmem.mpr hc) h⟩

/-! ## The clearing of an emergency -/

def Dev.emergCleared : Dev := (d.wr 0x02 F.SB_EMERG_latched 0).wr 0x02 F.SB_EMERG_cause 0

theorem Dev.same_emergCleared : SameRegs [addrOf 0x02 0x060] d d.emergCleared :=
  (d.same_wr 0x02 0 F.SB_EMERG_latched).step (Dev.same_wr _ 0x02 0 F.SB_EMERG_cause) fun _ h => h

theorem Dev.emergCleared_shows :
    d.emergCleared.rd 0x02 F.SB_EMERG_latched = 0 ∧ d.emergCleared.rd 0x02 F.SB_EMERG_cause = 0 := by
  unfold Dev.emergCleared
  rw [Dev.rd_wr_disjoint _ _ F.SB_EMERG_cause F.SB_EMERG_latched _ rfl (by decide) (by decide)]
  exact ⟨Dev.rd_wr_fit _ _ _ _ (by decide) (by decide), Dev.rd_wr_fit _ _ _ _ (by decide) (by decide)⟩

end

end Sys2Proof.Machine

namespace Sys2Proof.Safety

open Sys2Proof.Machine

theorem exec_sbSubmit (w : BusWrite) (s : State) : exec (.sbSubmit w) s = onDev s fun d => d.writeAt 0x02 0x068 w := rfl
theorem exec_sbAbort (w : BusWrite) (s : State) : exec (.sbAbort w) s = onDev s fun d => d.writeAt 0x02 0x06C w := rfl
theorem exec_emergClear (w : BusWrite) (s : State) : exec (.emergClear w) s = onDev s fun d => d.writeAt 0x02 0x060 w := rfl

/-- Settles O25: the two command registers store nothing, so their effects are all that a write leaves. -/
theorem actWrites : Obligations.ActWrites := by
  intro s w d
  refine ⟨fun ha => ?_, fun ha => ?_, fun ha hclear => ?_⟩
  · intro k
    have hstore : SameRegs [] d (d.store (seen d 0x02 0x068 w)) := d.same_store_command 0x02 0x068 w F.SB_SUBMIT_slot rfl rfl
    obtain ⟨hstate, hreason, hend, hpeak⟩ := (d.store (seen d 0x02 0x068 w)).submit_shows k
    refine ⟨(d.store (seen d 0x02 0x068 w)).submit k, performs_block (exec_sbSubmit w s) (by decide) (by decide) ha (by decide)
      (by decide) rfl, hstate, hreason, hend, hpeak, ?_⟩
    rw [addrOf_actStat _ _ rfl rfl]
    exact (hstore.mono (by simp)).step (Dev.same_submit _ k) fun _ h => h
  · have hstore : SameRegs [] d (d.store (seen d 0x02 0x06C w)) := d.same_store_command 0x02 0x06C w F.SB_ABORT_mask rfl rfl
    refine ⟨(d.store (seen d 0x02 0x06C w)).abortActs ((seen d 0x02 0x06C w).cmd F.SB_ABORT_mask),
      performs_block (exec_sbAbort w s) (by decide) (by decide) ha (by decide) (by decide) rfl, fun k hk => ?_⟩
    rw [← actState_other hstore k (by simp)]
    exact Dev.actState_abortActs _ k _ hk
  · refine ⟨(d.store (seen d 0x02 0x060 w)).emergCleared, performs_block (exec_emergClear w s) (by decide) (by decide) ha
      (by decide) (by decide) (if_pos hclear), (Dev.emergCleared_shows _).1, (Dev.emergCleared_shows _).2, ?_⟩
    exact (d.same_store (seen d 0x02 0x060 w)).step (Dev.same_emergCleared _) fun _ h => h

end Sys2Proof.Safety
end

section
/-! SUPPORT. Entries into STANDBY and ARMED, and the beginning of a wake. -/
namespace Sys2Proof.Machine

open Sys2Proof.Safety

/-! ## What neither Showbill's record nor its registers see -/

/-- A step that leaves the registers below page 0x17 but CLK_LOCK and SB_HK_STAT, and Showbill's record. -/
structure Beside (d e : Dev) : Prop where
  reg : ∀ a, a / 65536 < 0x17 → a ≠ addrOf 0x01 0x048 → a ≠ addrOf 0x02 0x05C → e.reg a = d.reg a
  bill : e.bill = d.bill

section
variable {d e f : Dev}

theorem Beside.trans (h : Beside d e) (k : Beside e f) : Beside d f :=
  ⟨fun a hp h1 h2 => (k.reg a hp h1 h2).trans (h.reg a hp h1 h2), k.bill.trans h.bill⟩

theorem Aside.beside (h : Aside d e) : Beside d e := ⟨h.reg, h.bill⟩

theorem Within.beside {A : Nat → Prop} (h : Within A d e)
    (hA : ∀ a, A a → 0x17 ≤ a / 65536 ∨ a = addrOf 0x01 0x048 ∨ a = addrOf 0x02 0x05C) : Beside d e :=
  ⟨fun a hp h1 h2 => h.reg a fun ha => by
      rcases hA a ha with h | h | h
      · omega
      · exact h1 h
      · exact h2 h,
    h.bill⟩

theorem synReg_beside (a : Nat) (h : SynReg a) : 0x17 ≤ a / 65536 ∨ a = addrOf 0x01 0x048 ∨ a = addrOf 0x02 0x05C := by
  rcases h with h | h | h
  · exact .inr (.inl h)
  · exact .inr (.inr h)
  · exact .inl (by omega)

theorem searchReg_beside (a : Nat) (h : SearchReg a) : 0x17 ≤ a / 65536 ∨ a = addrOf 0x01 0x048 ∨ a = addrOf 0x02 0x05C := by
  rcases h with h | h
  · exact synReg_beside a h
  · exact .inl (by rw [h]; decide)

theorem Beside.rd (h : Beside d e) (p : Nat) (g : Field) (ho : g.off < 65536) (hp : p < 0x17) (h1 : p = 0x01 → g.off ≠ 0x048)
    (h2 : p = 0x02 → g.off ≠ 0x05C) : e.rd p g = d.rd p g := by
  unfold Dev.rd
  rw [h.reg _ (by rwa [addrOf_page p _ ho])
    (fun c => by obtain ⟨hq, hf⟩ := (addrOf_inj p 0x01 _ _ ho (by decide)).mp c; exact h1 hq hf)
    (fun c => by obtain ⟨hq, hf⟩ := (addrOf_inj p 0x02 _ _ ho (by decide)).mp c; exact h2 hq hf)]

theorem Beside.power (h : Beside d e) : e.power = d.power := h.rd 0x02 F.SB_STATE_cur (by decide) (by decide) (by decide) (by decide)

end

/-! ## The synthesizers and receivers go off -/

section
variable (d : Dev)

theorem Dev.within_synStops (d : Dev) : Within SynReg d ((List.range 9).foldl (fun d i => d.synStop (6 + i)) d) :=
  Within.fold id _ _ (fun e i _ => e.within_synStop (6 + i)) d

theorem Dev.beside_quiesce : Beside d d.quiesce :=
  (d.within_synStops.beside synReg_beside).trans (Dev.aside_rxSettleAll _).beside

/-- The lane and AWG synthesizers are off then. -/
theorem Dev.on_quiesce (i : Nat) (hi : i < 9) : (d.quiesce.syn (6 + i)).on = false := by
  refine ((Dev.aside_rxSettleAll _).loops (6 + i)).trans ?_
  exact foldl_establishes (step := fun d i => d.synStop (6 + i)) (I := fun _ => True) (Q := fun j e => (e.syn (6 + j)).on = false)
    (List.range 9) (fun _ _ _ _ => trivial) (fun e j _ _ => e.on_synStop (6 + j))
    (fun e j _ k hk _ hoff => by rw [e.syn_synStop_other (6 + j) (6 + k) (by omega), hoff]) d trivial i
    (.inl (List.mem_range.mpr hi))

/-- A search of a faulted CS loop. -/
def Dev.csRetryOne (d : Dev) (c : Nat) : Dev :=
  if d.has 0x18 F.CLK_GUARD_cs_fault c then (d.wr 0x18 F.CLK_GUARD_safe 1).synSearch c else d

theorem Dev.beside_csRetry : Beside d d.csRetry := by
  have hone (e : Dev) (c : Nat) : Within SearchReg e (e.csRetryOne c) := by
    unfold Dev.csRetryOne
    split
    · exact e.within_guardedSearch c
    · exact .refl e
  exact (Within.fold id Dev.csRetryOne (List.range 2) (fun e c _ => hone e c) d).beside searchReg_beside

theorem Dev.syn_csRetry (j : Nat) (hj : 2 ≤ j) : d.csRetry.syn j = d.syn j :=
  foldl_keeps (step := Dev.csRetryOne) (·.syn j) (List.range 2) (fun e c hc => by
    have hc := List.mem_range.mp hc
    unfold Dev.csRetryOne
    split
    · rw [Dev.syn_synSearch, Dev.syn_setSyn_other _ c j _ (by omega)]
      exact Dev.syn_congr (Dev.wr_syns _ _ _ _) j
    · rfl) d

/-! ## STANDBY -/

section
variable (t : Trans)

/-- STANDBY is reached, before the transition that follows it. -/
def Dev.stoodBy : Dev := ((d.setPower 2).quiesce).csRetry

theorem Dev.beside_stoodBy : Beside (d.setPower 2) d.stoodBy := (Dev.beside_quiesce _).trans (Dev.beside_csRetry _)

theorem Dev.enterStandby_eq (own dormant : Bool) : d.enterStandby own dormant =
    if own then (d.stoodBy.setTrans (if dormant then .toDormant else .none)).wr 0x02 F.SB_STATE_REQ_req 2
    else d.stoodBy.setTrans (if dormant then .toDormant else .none) := rfl

theorem Dev.power_stoodBy : d.stoodBy.power = 2 :=
  d.beside_stoodBy.power.trans (Dev.rd_wr_fit _ _ _ _ (by decide) (by decide))

theorem Dev.on_stoodBy (i : Nat) (hi : i < 9) : (d.stoodBy.syn (6 + i)).on = false := by
  unfold Dev.stoodBy
  rw [Dev.syn_csRetry _ (6 + i) (by omega), Dev.on_quiesce _ i hi]

theorem Dev.enterStandby_shows (own dormant : Bool) :
    (d.enterStandby own dormant).power = 2 ∧
      (d.enterStandby own dormant).bill.trans = (if dormant then .toDormant else .none) ∧
      (d.enterStandby own dormant).rd 0x02 F.SB_STATE_changing = dormant.toNat ∧
      (own = true → (d.enterStandby own dormant).rd 0x02 F.SB_STATE_REQ_req = 2) ∧
      ∀ i, i < 9 → ((d.enterStandby own dormant).syn (6 + i)).on = false := by
  generalize ht : (if dormant then Trans.toDormant else .none) = t
  have hnat : (decide (t ≠ Trans.none)).toNat = dormant.toNat := by
    subst ht
    cases dormant <;> rfl
  have hpower := (d.stoodBy.power_setTrans t).trans d.power_stoodBy
  have hchange := (d.stoodBy.rd_setTrans t).trans hnat
  have hbill : (d.stoodBy.setTrans t).bill.trans = t := by rw [Dev.bill_setTrans]
  have hoff (i : Nat) (hi : i < 9) : ((d.stoodBy.setTrans t).syn (6 + i)).on = false := by
    rw [Dev.syn_setTrans, d.on_stoodBy i hi]
  rw [d.enterStandby_eq, ht]
  cases own with
  | false => exact ⟨hpower, hbill, hchange, fun h => absurd h (by decide), hoff⟩
  | true =>
    exact ⟨(Dev.rd_wr_off _ _ _ _ _ (by decide)).trans hpower, hbill, (Dev.rd_wr_off _ _ _ _ _ (by decide)).trans hchange,
      fun _ => Dev.rd_wr_fit _ _ _ _ (by decide) (by decide), hoff⟩

end

/-! ## ARMED -/

theorem Dev.enterArmed_shows :
    d.enterArmed.power = 3 ∧ d.enterArmed.rd 0x02 F.SB_STATE_changing = 0 ∧ d.enterArmed.bill.trans = .none ∧
      ∀ i, i < 9 → d.on (synPage (6 + i)) F.PAGE_CTRL_enable = true → (d.enterArmed.syn (6 + i)).on = d.bit 0x02 0x048 i := by
  have hbefore : SameRegs [addrOf 0x02 0x040] d ((d.setTrans .none).setPower 3) :=
    (d.same_setTrans .none).step (Dev.same_wr _ 0x02 3 F.SB_STATE_cur) fun _ h => h
  have hafter : Beside ((d.setTrans .none).setPower 3) d.enterArmed :=
    ((Dev.within_armAll _).beside synReg_beside).trans (Dev.aside_rxSettleAll _).beside
  refine ⟨hafter.power.trans (Dev.rd_wr_fit _ _ _ _ (by decide) (by decide)), ?_, ?_, fun i hi hen => ?_⟩
  · rw [hafter.rd _ _ (by decide) (by decide) (by decide) (by decide)]
    exact (Dev.rd_wr_disjoint _ _ F.SB_STATE_cur F.SB_STATE_changing _ rfl (by decide) (by decide)).trans (d.rd_setTrans .none)
  · rw [hafter.bill]
    exact congrArg Bill.trans ((Dev.wr_bill _ _ _ _).trans (d.bill_setTrans .none))
  · refine ((Dev.aside_rxSettleAll _).loops (6 + i)).trans ?_
    have hp := synPage_mem (6 + i)
    rw [Dev.on_armAll _ i hi, hbefore.bit 0x02 0x048 i (by decide)]
    rw [hbefore.on _ _ (by
      rw [List.mem_singleton]
      exact fun e => absurd ((addrOf_inj _ 0x02 _ _ (by decide) (by decide)).mp e).1 (by omega)), hen]

/-! ## A wake begins -/

section
variable (src : BitVec 8)

/-- What a wake shows before the searches. -/
def Dev.wakeShown : Dev :=
  (({ d with bill := { d.bill with wakeHeld := 0 } } : Dev).wr 0x04 F.AON_STAT_wake_src src.toNat).setTrans .waking

theorem Dev.beside_wakeBegin : Beside (d.wakeShown src) (d.wakeBegin src) := (Dev.within_csSearch _).beside searchReg_beside

theorem Dev.bill_wakeShown : (d.wakeShown src).bill = { d.bill with wakeHeld := 0, trans := .waking } := by
  unfold Dev.wakeShown
  rw [Dev.bill_setTrans, Dev.wr_bill]

theorem Dev.same_wakeShown : SameRegs [addrOf 0x04 F.AON_STAT_wake_src.off, addrOf 0x02 0x040] d (d.wakeShown src) :=
  ((Dev.same_wr ({ d with bill := { d.bill with wakeHeld := 0 } } : Dev) 0x04 src.toNat F.AON_STAT_wake_src).mono (by simp)).step
    (Dev.same_setTrans _ .waking) (by simp)

theorem Dev.power_wakeBegin : (d.wakeBegin src).power = d.power :=
  (d.beside_wakeBegin src).power.trans ((Dev.power_setTrans _ _).trans (Dev.rd_wr_other _ _ _ _ _ _ (by decide)))

theorem Dev.wakeBegin_shows :
    (d.wakeBegin src).bill.trans = .waking ∧ (d.wakeBegin src).bill.wakeHeld = 0 ∧
      (d.wakeBegin src).rd 0x04 F.AON_STAT_wake_src = src.toNat ∧ (d.wakeBegin src).rd 0x02 F.SB_STATE_changing = 1 ∧
      ((d.wakeBegin src).syn 0).job = .search ∧ ((d.wakeBegin src).syn 1).job = .search := by
  have h := d.beside_wakeBegin src
  have hbill := h.bill.trans (d.bill_wakeShown src)
  refine ⟨by rw [hbill], by rw [hbill], ?_, ?_, Dev.job_csSearch _ 0 (by decide), Dev.job_csSearch _ 1 (by decide)⟩
  · rw [h.rd _ _ (by decide) (by decide) (by decide) (by decide)]
    exact ((Dev.same_setTrans _ _).rd 0x04 F.AON_STAT_wake_src (by decide)).trans
      (Dev.rd_wr_fit _ _ _ _ (by decide) src.isLt)
  · rw [h.rd _ _ (by decide) (by decide) (by decide) (by decide)]
    exact Dev.rd_setTrans _ _

end

end

end Sys2Proof.Machine
end

section
/-! SUPPORT. DORMANT: what the device keeps, what memory keeps, and what follows at once. -/
namespace Sys2Proof.Machine

open Sys2Proof.Safety

/-! ## Tables by key -/

section
variable {α : Type}

theorem tabGet_default (d e : Nat → α) (t : Tab α) (k : Nat) (h : d k = e k) : tabGet d t k = tabGet e t k := by
  induction t with
  | nil => exact h
  | cons x r ih =>
    obtain ⟨j, v⟩ := x
    simp only [tabGet]
    rw [ih]

/-- A table that keeps the entries of some keys. -/
theorem tabGet_filter (d : Nat → α) (t : Tab α) (p : Nat → Bool) (k : Nat) :
    tabGet d (t.filter fun x => p x.1) k = if p k then tabGet d t k else d k := by
  induction t with
  | nil => simp [tabGet]
  | cons x r ih =>
    obtain ⟨j, v⟩ := x
    by_cases hj : j = k
    · subst hj
      by_cases hp : p j = true
      · rw [List.filter_cons_of_pos (p := fun x : Nat × α => p x.1) hp, if_pos hp]
        simp only [tabGet, if_true]
      · rw [List.filter_cons_of_neg (p := fun x : Nat × α => p x.1) hp, ih, if_neg hp, if_neg hp]
    · have htail : tabGet d ((j, v) :: r) k = tabGet d r k := by simp only [tabGet, if_neg hj]
      by_cases hp : p j = true
      · rw [List.filter_cons_of_pos (p := fun x : Nat × α => p x.1) hp, htail, ← ih]
        simp only [tabGet, if_neg hj]
      · rw [List.filter_cons_of_neg (p := fun x : Nat × α => p x.1) hp, htail, ih]

/-- A table written over another reads as itself where it lists a key, and as the other elsewhere. -/
theorem tabGet_over [DecidableEq α] (d : Nat → α) (keep : List (Nat × α)) (base : Tab α) (k : Nat) :
    tabGet d (keep.foldr (fun x t => tabSet d t x.1 x.2) base) k = tabGet (tabGet d base) keep k := by
  induction keep with
  | nil => rfl
  | cons x r ih =>
    obtain ⟨j, v⟩ := x
    rw [List.foldr_cons]
    by_cases hj : j = k
    · subst hj
      rw [tabGet_tabSet_same]
      simp only [tabGet, if_true]
    · rw [tabGet_tabSet_other _ _ _ _ _ (Ne.symm hj), ih]
      simp only [tabGet, if_neg hj]

end

theorem tabGet_keepAon (aon rest : Tab Word) (a : Nat) :
    tabGet resetWord (keepAon aon rest) a = tabGet resetWord (if aonPage a then aon else rest) a := by
  unfold keepAon
  rw [tabGet_over, tabGet_filter]
  by_cases h : aonPage a = true
  · rw [if_pos h, if_pos h]
    exact tabGet_default _ _ _ _ ((tabGet_filter resetWord rest (fun k => !aonPage k) a).trans (by simp [h]))
  · rw [if_neg h, if_neg h]
    exact (tabGet_filter resetWord rest (fun k => !aonPage k) a).trans (by simp [h])

/-! ## The device asleep -/

section
variable (d : Dev) (retain : Nat)

/-- What DORMANT keeps of the device. -/
def Dev.asleepKept : Dev :=
  { d.wiped with
    regs := keepAon d.regs d.wiped.regs
    upset := d.upset.filter fun x => aonPage x.1
    rtc := d.rtc, rtcFrac := d.rtcFrac, bill := d.bill
    tiles := d.tiles.filter fun x => d.survives retain x.1
    dm := { DeepMem.init with flips := d.dm.flips.filter fun x => d.survives retain (x.1 / 4096) }
    sec := { d.wiped.sec with loaded := d.sec.loaded, overrideEver := d.sec.overrideEver, mcResets := d.sec.mcResets } }

/-- What it then shows of the banks, the counts since RESET_N and deep memory. -/
def Dev.asleepShown (d e : Dev) (retain : Nat) : Dev :=
  let e := (List.range 64).foldl (fun e b => e.setBankState b 2) e
  let e := (e.wr 0x10 F.SEC_VCOUNT (d.rd 0x10 F.SEC_VCOUNT)).wr 0x10 F.SEC_DEBUG_ever (d.rd 0x10 F.SEC_DEBUG_ever)
  let e := (e.wr 0x10 F.SEC_DEBUG_by (d.rd 0x10 F.SEC_DEBUG_by)).wr 0x98 F.CAL_STAT_reload (d.rd 0x98 F.CAL_STAT_reload)
  e.wr 0x60 F.DM_STAT_clearing (decide (retain ≠ 0xFFFFFFFF)).toNat

theorem Dev.asleep_eq : d.asleep retain = d.asleepShown (d.asleepKept retain) retain := rfl

theorem Dev.reg_asleepKept (a : Nat) : (d.asleepKept retain).reg a = if aonPage a then d.reg a else d.wiped.reg a := by
  unfold Dev.reg Dev.raw
  change tabGet resetWord (keepAon d.regs d.wiped.regs) a ^^^ _ = _
  rw [tabGet_keepAon, show (d.asleepKept retain).upset = d.upset.filter fun x => aonPage x.1 from rfl, tabGet_filter]
  by_cases h : aonPage a = true
  · simp only [if_pos h]
  · simp only [if_neg h, d.upset_wiped]
    rfl

theorem Dev.within_asleepShown (e : Dev) : Within (fun a => 0x10 ≤ a / 65536) e (d.asleepShown e retain) := by
  have hbanks : Within (fun a => 0x10 ≤ a / 65536) e ((List.range 64).foldl (fun e b => e.setBankState b 2) e) :=
    Within.fold id _ _ (fun e b hb => (e.within_setBankState b (List.mem_range.mp hb) 2).mono fun a ha => by
      unfold PadReg at ha
      omega) e
  exact ((((hbanks.wr 0x10 _ _ (by decide)).wr 0x10 _ _ (by decide)).wr 0x10 _ _ (by decide)).wr 0x98 _ _ (by decide)).wr 0x60 _ _
    (by decide)

theorem Dev.rtc_asleepShown (e : Dev) : (d.asleepShown e retain).rtc = e.rtc := by
  unfold Dev.asleepShown
  simp only [Dev.wr_rtc]
  exact foldl_keeps (step := fun e b => e.setBankState b 2) Dev.rtc _ (fun e b _ => Dev.wr_rtc e _ _ _) e

/-- Pages 0x02 to 0x05 are as they were. -/
theorem Dev.reg_asleep (p off : Nat) (ho : off < 65536) (h1 : 2 ≤ p) (h2 : p ≤ 5) :
    (d.asleep retain).reg (addrOf p off) = d.reg (addrOf p off) := by
  have hp := addrOf_page p off ho
  rw [d.asleep_eq, (d.within_asleepShown retain _).reg _ (by rw [hp]; omega), d.reg_asleepKept,
    if_pos (by unfold aonPage; rw [hp, decide_eq_true h1, decide_eq_true h2]; rfl)]

theorem Dev.rd_asleep (p : Nat) (f : Field) (ho : f.off < 65536) (h1 : 2 ≤ p) (h2 : p ≤ 5) :
    (d.asleep retain).rd p f = d.rd p f := by
  unfold Dev.rd
  rw [d.reg_asleep retain p _ ho h1 h2]

theorem Dev.bill_asleep : (d.asleep retain).bill = d.bill := by
  rw [d.asleep_eq]
  exact (d.within_asleepShown retain _).bill

theorem Dev.rtc_asleep : (d.asleep retain).rtc = d.rtc := by
  rw [d.asleep_eq, d.rtc_asleepShown]
  rfl

/-- The device is not ready. -/
theorem Dev.ready_asleep : (d.asleep retain).ready = false := by
  refine Dev.ready_of_reset _ ?_
  rw [d.asleep_eq, (d.within_asleepShown retain _).reg _ (by decide), d.reg_asleepKept, if_neg (by decide),
    d.reg_wiped_low _ _ (by decide) (by decide)]

/-! ## DORMANT reached -/

/-- DORMANT, before a wake that starts at once. -/
def Dev.slept : Dev := ((d.asleep retain).setPower 1).setTrans .none

/-- The sources of a wake that starts at once. -/
def Dev.wakesAtOnce : BitVec 8 := d.bill.wakeHeld ||| (if (d.slept retain).alarm then 2 else 0)

theorem sleepNow_eq (m : Mem) : sleepNow d m retain =
    (if d.wakesAtOnce retain = 0 then d.slept retain else (d.slept retain).wakeBegin (d.wakesAtOnce retain), m.asleep d retain) := rfl

theorem Dev.same_slept : SameRegs [addrOf 0x02 0x040] (d.asleep retain) (d.slept retain) :=
  (Dev.same_wr _ 0x02 1 F.SB_STATE_cur).step (Dev.same_setTrans _ .none) fun _ h => h

theorem Dev.bill_slept : (d.slept retain).bill = { d.bill with trans := .none } := by
  unfold Dev.slept
  rw [Dev.bill_setTrans, Dev.setPower, Dev.wr_bill, Dev.bill_asleep]

theorem Dev.power_slept : (d.slept retain).power = 1 :=
  (Dev.power_setTrans _ _).trans (Dev.rd_wr_fit _ _ _ _ (by decide) (by decide))

theorem Dev.rd_slept (p : Nat) (f : Field) (ho : f.off < 65536) (h1 : 2 ≤ p) (h2 : p ≤ 5) (h : p = 0x02 → f.off ≠ 0x040) :
    (d.slept retain).rd p f = d.rd p f := by
  rw [← d.rd_asleep retain p f ho h1 h2]
  refine (d.same_slept retain).rd p f fun hm => ?_
  obtain ⟨hp, hf⟩ := (addrOf_inj p 0x02 _ _ ho (by decide)).mp (List.mem_singleton.mp hm)
  exact h hp hf

theorem Dev.rtc_setTrans (t : Trans) : (d.setTrans t).rtc = d.rtc := Dev.wr_rtc _ _ _ _

/-- The alarm is as it was. -/
theorem Dev.alarm_slept : (d.slept retain).alarm = d.alarm := by
  have hrtc : (d.slept retain).rtc = d.rtc := by
    unfold Dev.slept
    rw [Dev.rtc_setTrans, Dev.setPower, Dev.wr_rtc, d.rtc_asleep retain]
  unfold Dev.alarm Dev.on
  rw [d.rd_slept retain 0x04 F.AON_WAKE_EN_rtc (by decide) (by decide) (by decide) (by decide),
    d.rd_slept retain 0x04 F.AON_ALARM_LO (by decide) (by decide) (by decide) (by decide),
    d.rd_slept retain 0x04 F.AON_ALARM_HI (by decide) (by decide) (by decide) (by decide), hrtc]

theorem Dev.wakesAtOnce_none (hheld : d.bill.wakeHeld = 0) (halarm : d.alarm = false) : d.wakesAtOnce retain = 0 := by
  unfold Dev.wakesAtOnce
  rw [hheld, d.alarm_slept, halarm]
  rfl

theorem Dev.wakesAtOnce_held (hheld : d.bill.wakeHeld ≠ 0) : d.wakesAtOnce retain ≠ 0 := fun h =>
  hheld (BitVec.or_eq_zero_iff.mp h).1

/-- The device in DORMANT, waking at once or not. -/
def Dev.dormantDev : Dev :=
  if d.wakesAtOnce retain = 0 then d.slept retain else (d.slept retain).wakeBegin (d.wakesAtOnce retain)

theorem Dev.power_dormantDev : (d.dormantDev retain).power = 1 := by
  unfold Dev.dormantDev
  split
  · exact d.power_slept retain
  · exact (Dev.power_wakeBegin _ _).trans (d.power_slept retain)

/-! ## Wake sources that fire -/

section
variable (src : BitVec 8) (h : d.fired src ≠ 0)
include h

theorem Dev.wakeEvent_dormant (ht : d.bill.trans = .none) (hp : d.power = 1) : d.wakeEvent src = d.wakeBegin (d.fired src) := by
  simp only [Dev.wakeEvent, if_neg h, ht, if_pos hp]

theorem Dev.wakeEvent_falling (ht : d.bill.trans = .toDormant) :
    d.wakeEvent src = { d with bill := { d.bill with wakeHeld := d.bill.wakeHeld ||| d.fired src } } := by
  simp only [Dev.wakeEvent, if_neg h, ht]

end

/-! ## What memory keeps -/

theorem tileByte_asleep (m : Mem) (a : Nat) :
    tileByte (m.asleep d retain) a = if d.survives retain (a / 4096) then tileByte m a else 0 :=
  tabGet_filter (fun _ => (0 : Byte)) m.tiles (fun k => d.survives retain (k / 4096)) a

end

end Sys2Proof.Machine

namespace Sys2Proof.Safety

open Sys2Proof.Machine

theorem exec_dormantEntered (s : State) : exec .dormantEntered s = onBoth s dormant := rfl
theorem exec_standbyEntered (s : State) : exec .standbyEntered s = onDev s fun d =>
    match d.bill.trans with
    | .toStandby own dormant => d.enterStandby own dormant
    | _ => d := rfl
theorem exec_armedEntered (s : State) : exec .armedEntered s = onDev s fun d =>
    match d.bill.trans with
    | .toArmed => d.enterArmed
    | _ => d := rfl
theorem exec_wake (src : BitVec 8) (s : State) : exec (.wake src) s = onDev s fun d => d.wakeEvent src := rfl
theorem exec_armIdleExpiry (s : State) : exec .armIdleExpiry s = onDev s fun d =>
    if d.power = 3 ∧ d.bill.trans = .none ∧ !d.anyLive ∧ d.on 0x02 F.SB_ARM_IDLE_ms then d.setTrans (.toStandby true false) else d := rfl

/-- Settles O22: each transition's end is one entry, and DORMANT keeps by address what it keeps. -/
theorem powerEntries : Obligations.PowerEntries := by
  intro s own goOn src d keep hit
  refine ⟨fun ht => ?_, fun ht => ?_, fun ht => ?_, fun hhit ht hp => ?_, fun hhit ht => ?_, fun hp ht hlive hidle => ?_⟩
  · refine ⟨d.dormantDev keep, s.mem.asleep d keep, gives_onBoth (exec_dormantEntered s) ((if_pos ht).trans (sleepNow_eq d keep s.mem)),
      d.power_dormantDev keep, rfl, tileByte_asleep d keep s.mem, fun hheld halarm => ?_, fun hheld => ?_⟩
    · unfold Dev.dormantDev
      rw [if_pos (d.wakesAtOnce_none keep hheld halarm)]
      exact ⟨Dev.rd_setTrans _ _, by rw [d.bill_slept]⟩
    · unfold Dev.dormantDev
      rw [if_neg (d.wakesAtOnce_held keep hheld)]
      obtain ⟨htrans, hno, -, -, hjob, -⟩ := Dev.wakeBegin_shows (d.slept keep) (d.wakesAtOnce keep)
      exact ⟨htrans, hno, hjob⟩
  · have he : (match d.bill.trans with
        | .toStandby own dormant => d.enterStandby own dormant
        | _ => d) = d.enterStandby own goOn := by rw [ht]
    exact ⟨d.enterStandby own goOn, gives_onDev (exec_standbyEntered s) he, rfl, d.enterStandby_shows own goOn⟩
  · have he : (match d.bill.trans with
        | .toArmed => d.enterArmed
        | _ => d) = d.enterArmed := by rw [ht]
    exact ⟨d.enterArmed, gives_onDev (exec_armedEntered s) he, d.enterArmed_shows⟩
  · exact ⟨d.wakeBegin hit, gives_onDev (exec_wake src s) (d.wakeEvent_dormant src hhit ht hp), d.wakeBegin_shows hit⟩
  · exact ⟨_, gives_onDev (exec_wake src s) (d.wakeEvent_falling src hhit ht), rfl⟩
  · have hidle : d.power = 3 ∧ d.bill.trans = .none ∧ (!d.anyLive) = true ∧ d.on 0x02 F.SB_ARM_IDLE_ms = true :=
      ⟨hp, ht, by rw [hlive]; rfl, hidle⟩
    exact ⟨d.setTrans (.toStandby true false), gives_onDev (exec_armIdleExpiry s) (if_pos hidle),
      d.bill_setTrans _, d.rd_setTrans _, d.same_setTrans _⟩

end Sys2Proof.Safety
end

section
/-! SUPPORT. What a sample of the sensors shows. -/
namespace Sys2Proof.Machine

open Sys2Proof.Safety

section
variable (d : Dev) (tc tj sensor power : Nat)

/-! ## The prediction of THERM_PRED -/

/-- The prediction in sixteenths of a degree. -/
def Dev.predicted : Int := roundAway ((d.caseTemp + (d.rise d.committed : Nat)) * 16) 10000

theorem Dev.showPred_eq : d.showPred =
    if -32768 ≤ d.predicted ∧ d.predicted ≤ 32767 then d.wr 0x05 F.THERM_PRED (unsigned 16 d.predicted)
    else d.fresh.2.wr 0x05 F.THERM_PRED (d.fresh.1.toNat % 65536) := rfl

theorem Dev.same_showPred : SameRegs [addrOf 0x05 F.THERM_PRED.off] d d.showPred := by
  rw [d.showPred_eq]
  split
  · exact d.same_wr 0x05 _ F.THERM_PRED
  · exact d.fresh.2.same_wr 0x05 _ F.THERM_PRED

theorem Dev.rd_showPred (h1 : -32768 ≤ d.predicted) (h2 : d.predicted ≤ 32767) :
    d.showPred.rd 0x05 F.THERM_PRED = unsigned 16 d.predicted := by
  rw [d.showPred_eq, if_pos ⟨h1, h2⟩]
  exact Dev.rd_wr_fit _ _ _ _ (by decide) (unsigned_lt 16 _)

theorem committed_of_sameRegs {l : List Nat} {d e : Dev} (h : SameRegs l d e) (h2 : addrOf 0x02 0x048 ∉ l)
    (h3 : ∀ off, off < 65536 → addrOf 0x03 off ∉ l) : e.committed = d.committed :=
  Dev.committed_congr (h _ h2) fun off ho => h _ (h3 off ho)

/-- The registers on which a prediction depends stay. -/
theorem predicted_of_sameRegs {l : List Nat} {d e : Dev} (h : SameRegs l d e) (htc : addrOf 0x05 0x040 ∉ l)
    (htheta : addrOf 0x05 0x048 ∉ l) (hnow : addrOf 0x02 0x050 ∉ l) (h2 : addrOf 0x02 0x048 ∉ l)
    (h3 : ∀ off, off < 65536 → addrOf 0x03 off ∉ l) : e.predicted = d.predicted := by
  unfold Dev.predicted Dev.caseTemp Dev.rise
  rw [committed_of_sameRegs h h2 h3, h.rd 0x05 F.THERM_TC htc, h.rd 0x05 F.THERM_THETA htheta, h.rd 0x02 F.SB_PWR_NOW hnow]

/-! ## The registers of a sample -/

/-- The four values and the band, before the prediction. -/
def Dev.measured : Dev :=
  let d := (d.wr 0x05 F.THERM_TC tc).wr 0x05 F.THERM_TJ_MAX_temp tj
  let d := (d.wr 0x05 F.THERM_TJ_MAX_sensor sensor).wr 0x02 F.SB_PWR_NOW power
  d.wr 0x05 F.THERM_STAT_band (bandOf d.caseTemp)

/-- The four values of a sample show. -/
structure ShowsSample (e : Dev) (tc tj sensor power : Nat) : Prop where
  tc : e.rd 0x05 F.THERM_TC = tc
  tj : e.rd 0x05 F.THERM_TJ_MAX_temp = tj
  sensor : e.rd 0x05 F.THERM_TJ_MAX_sensor = sensor
  power : e.rd 0x02 F.SB_PWR_NOW = power

/-- They show on as long as their registers stay. -/
theorem ShowsSample.congr {tc tj sensor power : Nat} {d e : Dev} (h : ShowsSample d tc tj sensor power)
    (h1 : e.reg (addrOf 0x05 0x040) = d.reg (addrOf 0x05 0x040)) (h2 : e.reg (addrOf 0x05 0x044) = d.reg (addrOf 0x05 0x044))
    (h3 : e.reg (addrOf 0x02 0x050) = d.reg (addrOf 0x02 0x050)) : ShowsSample e tc tj sensor power :=
  ⟨(congrArg F.THERM_TC.get h1).trans h.tc, (congrArg F.THERM_TJ_MAX_temp.get h2).trans h.tj,
    (congrArg F.THERM_TJ_MAX_sensor.get h2).trans h.sensor, (congrArg F.SB_PWR_NOW.get h3).trans h.power⟩

theorem bandOf_lt (t : Int) : bandOf t < 4 := by
  unfold bandOf
  split_ifs <;> decide

theorem Dev.same_measured :
    SameRegs [addrOf 0x05 0x040, addrOf 0x05 0x044, addrOf 0x02 0x050, addrOf 0x05 0x050] d (d.measured tc tj sensor power) :=
  (((((d.same_wr 0x05 tc F.THERM_TC).mono (by decide)).step (Dev.same_wr _ 0x05 tj F.THERM_TJ_MAX_temp) (by decide)).step
    (Dev.same_wr _ 0x05 sensor F.THERM_TJ_MAX_sensor) (by decide)).step (Dev.same_wr _ 0x02 power F.SB_PWR_NOW) (by decide)).step
    (Dev.same_wr _ 0x05 _ F.THERM_STAT_band) (by decide)

theorem Dev.measured_shows (h1 : tc < 2 ^ 16) (h2 : tj < 2 ^ 16) (h3 : sensor < 2 ^ 8) (h4 : power < 2 ^ 12) :
    ShowsSample (d.measured tc tj sensor power) tc tj sensor power := by
  unfold Dev.measured
  refine ⟨?_, ?_, ?_, ?_⟩
  · rw [Dev.rd_wr_off _ _ _ _ _ (by decide), Dev.rd_wr_other _ _ _ _ _ _ (by decide), Dev.rd_wr_off _ _ _ _ _ (by decide),
      Dev.rd_wr_off _ _ _ _ _ (by decide), Dev.rd_wr_fit _ _ _ _ (by decide) h1]
  · rw [Dev.rd_wr_off _ _ _ _ _ (by decide), Dev.rd_wr_other _ _ _ _ _ _ (by decide),
      Dev.rd_wr_disjoint _ _ F.THERM_TJ_MAX_sensor F.THERM_TJ_MAX_temp _ rfl (by decide) (by decide),
      Dev.rd_wr_fit _ _ _ _ (by decide) h2]
  · rw [Dev.rd_wr_off _ _ _ _ _ (by decide), Dev.rd_wr_other _ _ _ _ _ _ (by decide), Dev.rd_wr_fit _ _ _ _ (by decide) h3]
  · rw [Dev.rd_wr_other _ _ _ _ _ _ (by decide), Dev.rd_wr_fit _ _ _ _ (by decide) h4]

theorem Dev.band_measured : (d.measured tc tj sensor power).rd 0x05 F.THERM_STAT_band =
    bandOf (d.measured tc tj sensor power).caseTemp := by
  have hcase (e : Dev) (v : Nat) : (e.wr 0x05 F.THERM_STAT_band v).caseTemp = e.caseTemp := by
    unfold Dev.caseTemp
    rw [Dev.rd_wr_off _ _ _ _ _ (by decide)]
  unfold Dev.measured
  rw [hcase]
  exact Dev.rd_wr_fit _ _ _ _ (by decide) (bandOf_lt _)

theorem Dev.sampleRegs_eq : d.sampleRegs tc tj sensor power = (d.measured tc tj sensor power).showPred := rfl

/-! ## A new spell -/

theorem Dev.same_modelCheck : SameRegs (addrOf 0x05 0x050 :: statAddrs 0x02) d d.modelCheck := by
  have hspell : SameRegs (addrOf 0x05 0x050 :: statAddrs 0x02) d
      (((d.wr 0x05 F.THERM_STAT_model_exceed 1).stat 0x02 20).raiseSys 243) :=
    (((d.same_wr 0x05 1 F.THERM_STAT_model_exceed).mono (by decide)).stat 0x02 20 fun a ha => List.mem_cons_of_mem _ ha).step
      (Dev.same_raiseSys _ 243) (by simp)
  have hif : SameRegs (addrOf 0x05 0x050 :: statAddrs 0x02) d
      (if d.exceeds && !d.bill.exceeding then ((d.wr 0x05 F.THERM_STAT_model_exceed 1).stat 0x02 20).raiseSys 243 else d) := by
    split
    · exact hspell
    · exact .refl _ d
  exact fun a ha => (Dev.reg_congr _ _ a rfl rfl).trans (hif a ha)

theorem Dev.band_modelCheck : d.modelCheck.rd 0x05 F.THERM_STAT_band = d.rd 0x05 F.THERM_STAT_band := by
  have hspell : (((d.wr 0x05 F.THERM_STAT_model_exceed 1).stat 0x02 20).raiseSys 243).rd 0x05 F.THERM_STAT_band =
      d.rd 0x05 F.THERM_STAT_band := by
    rw [Dev.rd_raiseSys, (Dev.same_stat _ 0x02 20).rd _ _ (by decide),
      Dev.rd_wr_disjoint _ _ F.THERM_STAT_model_exceed F.THERM_STAT_band _ rfl (by decide) (by decide)]
  have hif : (if d.exceeds && !d.bill.exceeding then ((d.wr 0x05 F.THERM_STAT_model_exceed 1).stat 0x02 20).raiseSys 243
      else d).rd 0x05 F.THERM_STAT_band = d.rd 0x05 F.THERM_STAT_band := by
    split
    · exact hspell
    · rfl
  exact (congrArg F.THERM_STAT_band.get (Dev.reg_congr _ _ _ rfl rfl)).trans hif

/-! ## A sample -/

/-- The registers and the spell of a sample, before an emergency. -/
def Dev.sampled : Dev := (d.sampleRegs tc tj sensor power).modelCheck

/-- After the four values and the band, the prediction and a spell's bits change. -/
theorem Dev.same_measured_sampled :
    SameRegs ([addrOf 0x05 F.THERM_PRED.off, addrOf 0x05 0x050] ++ statAddrs 0x02) (d.measured tc tj sensor power)
      (d.sampled tc tj sensor power) := by
  unfold Dev.sampled
  rw [d.sampleRegs_eq]
  exact ((Dev.same_showPred _).mono (by simp)).step (Dev.same_modelCheck _) fun a ha => by
    simp only [List.mem_cons, List.mem_append, List.not_mem_nil, or_false] at ha ⊢
    tauto

theorem Dev.same_sampled :
    SameRegs ([addrOf 0x05 F.THERM_TC.off, addrOf 0x05 F.THERM_TJ_MAX_temp.off, addrOf 0x02 F.SB_PWR_NOW.off,
      addrOf 0x05 F.THERM_STAT_band.off, addrOf 0x05 F.THERM_PRED.off] ++ statAddrs 0x02) d (d.sampled tc tj sensor power) :=
  ((d.same_measured tc tj sensor power).mono (by decide)).step (d.same_measured_sampled tc tj sensor power) (by decide)

theorem Dev.sampled_shows (h1 : tc < 2 ^ 16) (h2 : tj < 2 ^ 16) (h3 : sensor < 2 ^ 8) (h4 : power < 2 ^ 12) :
    ShowsSample (d.sampled tc tj sensor power) tc tj sensor power := by
  have h := d.same_measured_sampled tc tj sensor power
  exact (d.measured_shows tc tj sensor power h1 h2 h3 h4).congr (h _ (by decide)) (h _ (by decide)) (h _ (by decide))

theorem Dev.band_sampled : (d.sampled tc tj sensor power).rd 0x05 F.THERM_STAT_band =
    bandOf (d.sampled tc tj sensor power).caseTemp := by
  have hcase : (d.sampled tc tj sensor power).caseTemp = (d.measured tc tj sensor power).caseTemp := by
    unfold Dev.caseTemp
    rw [(d.same_measured_sampled tc tj sensor power).rd _ _ (by decide)]
  rw [hcase, ← d.band_measured]
  unfold Dev.sampled
  rw [Dev.band_modelCheck, d.sampleRegs_eq, (Dev.same_showPred _).rd _ _ (by decide)]

/-- What the sample predicts is what THERM_PRED shows. -/
theorem Dev.pred_sampled (hlo : -32768 ≤ (d.sampled tc tj sensor power).predicted)
    (hhi : (d.sampled tc tj sensor power).predicted ≤ 32767) :
    (d.sampled tc tj sensor power).rd 0x05 F.THERM_PRED = unsigned 16 (d.sampled tc tj sensor power).predicted := by
  have hpred : (d.sampled tc tj sensor power).predicted = (d.measured tc tj sensor power).predicted :=
    predicted_of_sameRegs (d.same_measured_sampled tc tj sensor power) (by decide) (by decide) (by decide) (by decide) fun off ho hm => by
      rcases List.mem_append.mp hm with hm | hm
      · rcases List.mem_cons.mp hm with e | hm
        · exact absurd ((addrOf_inj 0x03 0x05 off _ ho (by decide)).mp e).1 (by decide)
        · exact absurd ((addrOf_inj 0x03 0x05 off _ ho (by decide)).mp (List.mem_singleton.mp hm)).1 (by decide)
      · simp only [statAddrs, List.mem_cons, List.not_mem_nil, or_false, addrOf] at hm
        omega
  rw [hpred] at hlo hhi ⊢
  rw [← Dev.rd_showPred _ hlo hhi]
  unfold Dev.sampled
  rw [(Dev.same_modelCheck _).rd _ _ (by decide), d.sampleRegs_eq]

theorem Dev.sample_eq (h : d.serving = true) : d.sample tc tj sensor power =
    match (d.sampled tc tj sensor power).heatCause with
    | some c => (d.sampled tc tj sensor power).emergency c
    | none => d.sampled tc tj sensor power := by
  have hs : ¬(!d.serving) = true := by rw [h]; decide
  exact if_neg hs

/-- The causes of an emergency that a sample calls for. -/
theorem Dev.heatCause_lt (c : Nat) (h : d.heatCause = some c) : c < 8 := by
  unfold Dev.heatCause at h
  split_ifs at h <;> (obtain rfl := Option.some.inj h; decide)

theorem Dev.latched_sampled : (d.sampled tc tj sensor power).on 0x02 F.SB_EMERG_latched = d.on 0x02 F.SB_EMERG_latched :=
  (d.same_sampled tc tj sensor power).on _ _ (by decide)

theorem Dev.power_sampled : (d.sampled tc tj sensor power).power = d.power :=
  (d.same_sampled tc tj sensor power).rd 0x02 F.SB_STATE_cur (by decide)

end

end Sys2Proof.Machine
end

section
/-! SUPPORT. An emergency: its stages and what each leaves. -/
namespace Sys2Proof.Machine

open Sys2Proof.Safety

/-! ## The stages -/

section
variable (d : Dev) (cause : Nat)

/-- A sideband channel leaves its range. -/
def Dev.sdRest (d : Dev) (k : Nat) : Dev :=
  let d := if d.rd 0x8C (F.SD_CTRL_range.at k) = 0 then d else d.sdChanged k
  (d.sdOut k 0).wr 0x8C (F.SD_CTRL_range.at k) 0

/-- The lanes, the sideband channels and the reference outputs go quiet. -/
def Dev.outputsOff : Dev :=
  (List.range 4).foldl (fun d n => d.wr 0x18 (F.REFOUT_src.at n) 0)
    ((List.range 8).foldl Dev.sdRest ((List.range 16).foldl Dev.txIdle d))

/-- The mode returns to 0. -/
def Dev.modeDropped : Dev :=
  let d := d.wr 0x00 F.GLB_MODE_mode 0
  if d.mode ≠ 0 ∨ d.on 0x00 F.GLB_MODE_STAT_changing then d.startMode 0 else d

/-- STANDBY is reached, or stays. -/
def Dev.standsBy : Dev :=
  if d.power = 3 ∨ d.power = 4 then d.enterStandby true false else (d.quiesce.setTrans .none).wr 0x02 F.SB_STATE_REQ_req 2

/-- The emergency shows. -/
def Dev.declared : Dev :=
  let d : Dev := { d with bill := { d.bill with wakeHeld := 0 } }
  ((d.wr 0x02 F.SB_EMERG_latched 1).wr 0x02 F.SB_EMERG_cause cause).stat 0x02 18

/-- Its event and its notification leave. -/
def Dev.emergencyTold : Dev :=
  let d := d.raiseSys 244
  if d.rd 0x01 F.RST_STAT_boot = 2 then d
  else { d with mail := { d.mail with notes := d.mail.notes ++ [(0x8001, d.reg (addrOf 0x02 0x060))] } }

theorem Dev.emergency_eq (h : d.on 0x02 F.SB_EMERG_latched = false) : d.emergency cause =
    (((((d.endAll d.liveSlots 3).outputsOff).modeDropped).standsBy).declared cause).emergencyTold := by
  unfold Dev.emergency
  rw [if_neg (by rw [h]; decide)]
  rfl

/-! ## The registers of an emergency -/

/-- The registers that it may change once the acts have ended. -/
def EmergReg (a : Nat) : Prop :=
  a = addrOf 0x00 0x040 ∨ a = addrOf 0x00 0x044 ∨ a = addrOf 0x02 0x00C ∨ a = addrOf 0x02 0x040 ∨ a = addrOf 0x02 0x044 ∨
    a = addrOf 0x02 0x060 ∨ a = addrOf 0x01 0x048 ∨ a = addrOf 0x02 0x05C ∨ 0x17 ≤ a / 65536

/-- A step of an emergency. -/
def EmergKept (d e : Dev) : Prop := ∀ a, ¬EmergReg a → e.reg a = d.reg a

theorem EmergKept.trans {d e f : Dev} (h : EmergKept d e) (k : EmergKept e f) : EmergKept d f :=
  fun a ha => (k a ha).trans (h a ha)

theorem Beside.emergKept {d e : Dev} (h : Beside d e) : EmergKept d e := fun a ha => by
  unfold EmergReg at ha
  exact h.reg a (by omega) (by omega) (by omega)

theorem emergKept_of_sameRegs {l : List Nat} {d e : Dev} (h : SameRegs l d e) (hl : ∀ a ∈ l, EmergReg a) : EmergKept d e :=
  fun a ha => h a fun hm => ha (hl a hm)

theorem emergReg_statAddrs : ∀ a ∈ statAddrs 0x02, EmergReg a := by
  unfold statAddrs EmergReg addrOf
  simp only [List.mem_cons, List.not_mem_nil, or_false]
  omega

theorem emergReg_mem (a : Nat) (h : a ∈ [addrOf 0x00 0x040, addrOf 0x00 0x044, addrOf 0x02 0x040, addrOf 0x02 0x044, addrOf 0x02 0x060]) :
    EmergReg a := by
  simp only [List.mem_cons, List.not_mem_nil, or_false] at h
  unfold EmergReg
  omega

theorem not_emergReg_acts (off : Nat) (ho : off < 65536) : ¬EmergReg (addrOf 0x03 off) := by
  unfold EmergReg addrOf
  omega

theorem emergKept_wr (p v : Nat) (f : Field)
    (h : addrOf p f.off ∈ [addrOf 0x00 0x040, addrOf 0x00 0x044, addrOf 0x02 0x040, addrOf 0x02 0x044, addrOf 0x02 0x060]) :
    EmergKept d (d.wr p f v) :=
  emergKept_of_sameRegs (d.same_wr p v f) fun a ha => emergReg_mem a (List.mem_singleton.mp ha ▸ h)

/-! ## Each stage -/

theorem Dev.aside_sdRest (k : Nat) : Aside d (d.sdRest k) := by
  have hchanged : Aside d (if d.rd 0x8C (F.SD_CTRL_range.at k) = 0 then d else d.sdChanged k) := .ite (.refl d) (.setAn <| .refl d)
  exact Aside.wr (p := 0x8C) (by decide) (hchanged.trans (Dev.aside_sdOut _ k 0))

theorem Dev.aside_outputsOff : Aside d d.outputsOff :=
  ((Aside.foldDev (fun e n _ => e.aside_txIdle n) d).trans (Aside.foldDev (fun e k _ => e.aside_sdRest k) _)).trans
    (Aside.foldDev (fun e n _ => Aside.wr (p := 0x18) (by decide) (.refl e)) _)

theorem Dev.emergKept_startMode (to_ : Nat) : EmergKept d (d.startMode to_) := by
  have hbegun : EmergKept d (d.modeBegun to_) := fun a ha =>
    (Dev.reg_congr _ _ a rfl rfl).trans (emergKept_wr d 0x00 1 F.GLB_MODE_STAT_changing (by decide) a ha)
  rw [d.startMode_eq]
  exact hbegun.trans (Dev.aside_settlePaths _).beside.emergKept

theorem Dev.emergKept_modeDropped : EmergKept d d.modeDropped := by
  have hwr := emergKept_wr d 0x00 0 F.GLB_MODE_mode (by decide)
  unfold Dev.modeDropped
  simp only
  split
  · exact hwr.trans (Dev.emergKept_startMode _ 0)
  · exact hwr

theorem Dev.rd_mode_modeDropped : d.modeDropped.rd 0x00 F.GLB_MODE_mode = 0 := by
  have hwr : (d.wr 0x00 F.GLB_MODE_mode 0).rd 0x00 F.GLB_MODE_mode = 0 := Dev.rd_wr_fit _ _ _ _ (by decide) (by decide)
  unfold Dev.modeDropped
  simp only
  split
  · rw [Dev.rd_mode_startMode, hwr]
  · exact hwr

theorem Dev.power_modeDropped : d.modeDropped.power = d.power := by
  have hwr : (d.wr 0x00 F.GLB_MODE_mode 0).power = d.power := Dev.rd_wr_other _ _ _ _ _ _ (by decide)
  have hstart (e : Dev) : (e.startMode 0).power = e.power := by
    rw [e.startMode_eq, (Dev.aside_settlePaths _).power]
    exact (congrArg F.SB_STATE_cur.get (Dev.reg_congr (e.wr 0x00 F.GLB_MODE_STAT_changing 1) _ _ rfl rfl)).trans
      (Dev.rd_wr_other _ _ _ _ _ _ (by decide))
  unfold Dev.modeDropped
  simp only
  split
  · rw [hstart, hwr]
  · exact hwr

/-- What reaching STANDBY leaves of the mode. -/
theorem Dev.standsBy_keeps : EmergKept d d.standsBy ∧ d.standsBy.rd 0x00 F.GLB_MODE_mode = d.rd 0x00 F.GLB_MODE_mode := by
  have hend (e : Dev) (t : Trans) : SameRegs [addrOf 0x02 0x040, addrOf 0x02 0x044] e ((e.setTrans t).wr 0x02 F.SB_STATE_REQ_req 2) :=
    ((e.same_setTrans t).mono (by simp)).step (Dev.same_wr _ 0x02 2 F.SB_STATE_REQ_req) (by simp [F.SB_STATE_REQ_req])
  have hendKept (e : Dev) (t : Trans) : EmergKept e ((e.setTrans t).wr 0x02 F.SB_STATE_REQ_req 2) :=
    emergKept_of_sameRegs (hend e t) fun a ha => emergReg_mem a (by
      simp only [List.mem_cons, List.not_mem_nil, or_false] at ha ⊢
      tauto)
  have hpower : EmergKept d (d.setPower 2) := emergKept_wr d 0x02 2 F.SB_STATE_cur (by decide)
  unfold Dev.standsBy
  split
  · rw [d.enterStandby_eq, if_pos rfl]
    refine ⟨(hpower.trans d.beside_stoodBy.emergKept).trans (hendKept _ _), ?_⟩
    rw [(hend _ _).rd _ _ (by decide), d.beside_stoodBy.rd _ _ (by decide) (by decide) (by decide) (by decide)]
    exact Dev.rd_wr_other _ _ _ _ _ _ (by decide)
  · refine ⟨d.beside_quiesce.emergKept.trans (hendKept _ _), ?_⟩
    rw [(hend _ _).rd _ _ (by decide), d.beside_quiesce.rd _ _ (by decide) (by decide) (by decide) (by decide)]

theorem Dev.standsBy_shows : d.standsBy.rd 0x02 F.SB_STATE_REQ_req = 2 ∧ (d.power = 3 ∨ d.power = 4 → d.standsBy.power = 2) := by
  unfold Dev.standsBy
  split
  · obtain ⟨hpower, -, -, hreq, -⟩ := d.enterStandby_shows true false
    exact ⟨hreq rfl, fun _ => hpower⟩
  next h => exact ⟨Dev.rd_wr_fit _ _ _ _ (by decide) (by decide), fun hc => absurd hc h⟩

theorem Dev.same_declared : SameRegs (addrOf 0x02 0x060 :: statAddrs 0x02) d (d.declared cause) := by
  have hlatch : SameRegs (addrOf 0x02 0x060 :: statAddrs 0x02) d
      (({ d with bill := { d.bill with wakeHeld := 0 } } : Dev).wr 0x02 F.SB_EMERG_latched 1) :=
    (Dev.same_wr ({ d with bill := { d.bill with wakeHeld := 0 } } : Dev) 0x02 1 F.SB_EMERG_latched).mono (by decide)
  exact (hlatch.step (Dev.same_wr _ 0x02 cause F.SB_EMERG_cause) (by decide)).stat 0x02 18 fun a ha => List.mem_cons_of_mem _ ha

theorem Dev.declared_shows (hc : cause < 8) :
    (d.declared cause).rd 0x02 F.SB_EMERG_latched = 1 ∧ (d.declared cause).rd 0x02 F.SB_EMERG_cause = cause ∧
      (d.declared cause).bit 0x02 0x00C 18 = true := by
  unfold Dev.declared
  refine ⟨?_, ?_, Dev.stat_bit _ 0x02 18 (by decide)⟩
  · rw [(Dev.same_stat _ 0x02 18).rd _ _ (by decide),
      Dev.rd_wr_disjoint _ _ F.SB_EMERG_cause F.SB_EMERG_latched _ rfl (by decide) (by decide),
      Dev.rd_wr_fit _ _ _ _ (by decide) (by decide)]
  · rw [(Dev.same_stat _ 0x02 18).rd _ _ (by decide), Dev.rd_wr_fit _ _ _ _ (by decide) hc]

theorem Dev.reg_emergencyTold (a : Nat) : d.emergencyTold.reg a = d.reg a := by
  unfold Dev.emergencyTold
  simp only
  split <;> rfl

end

/-! ## The acts that it ends -/

section
variable (d : Dev)

theorem Dev.live_lt (s : Nat) (hs : s ∈ d.liveSlots) : s < 16 := (mem_liveSlots.mp hs).1

/-- No act is live once all have ended. -/
theorem Dev.liveSlots_endAll : (d.endAll d.liveSlots 3).liveSlots = [] := by
  rw [List.eq_nil_iff_forall_not_mem]
  intro k hk
  obtain ⟨hk16, hlive⟩ := mem_liveSlots.mp hk
  by_cases h : k ∈ d.liveSlots
  · obtain ⟨hstate, -, -⟩ := d.endedAs_endAll k 3 _ d.live_lt (by decide) (by decide) h
    omega
  · rw [d.actState_endAll_other k 3 _ d.live_lt hk16 h] at hlive
    exact h (mem_liveSlots.mpr ⟨hk16, hlive⟩)

/-- The state stays ARMED or SHOW while acts end. -/
theorem Dev.power_endAll (cause : Nat) (ks : List Nat) (hks : ∀ s ∈ ks, s < 16) (h : d.power = 3 ∨ d.power = 4) :
    (d.endAll ks cause).power = 3 ∨ (d.endAll ks cause).power = 4 := by
  induction ks generalizing d with
  | nil => exact h
  | cons k ks ih =>
    refine ih (d.endAct k cause) (fun s hs => hks s (List.mem_cons_of_mem _ hs)) ?_
    rw [d.power_endAct k cause (hks k (List.mem_cons_self ..)) h]
    split <;> simp

/-- A register that no slot's end changes. -/
theorem Dev.reg_endLive (p off : Nat) (ho : off < 65536) (hp : p < 0x17) (h1 : p = 0x01 → off ≠ 0x048)
    (h2 : p = 0x02 → off ≠ 0x05C ∧ off ≠ 0x040 ∧ off ≠ 0x054) (h3 : p ≠ 0x03) :
    (d.endAll d.liveSlots 3).reg (addrOf p off) = d.reg (addrOf p off) :=
  d.reg_endAll 3 _ d.live_lt _ fun s hs => not_endReg s p off (d.live_lt s hs) ho hp h1 h2 fun h => absurd h h3

end

/-! ## An emergency as a whole -/

section
variable (d : Dev) (cause : Nat) (h : d.on 0x02 F.SB_EMERG_latched = false)
include h

/-- The device as the emergency finds it once the acts have ended. -/
theorem Dev.emergKept_emergency : EmergKept (d.endAll d.liveSlots 3) (d.emergency cause) := fun a ha => by
  rw [d.emergency_eq cause h, Dev.reg_emergencyTold,
    emergKept_of_sameRegs (Dev.same_declared _ cause) (fun b hb => (List.mem_cons.mp hb).elim
      (fun e => emergReg_mem b (by rw [e]; decide)) (emergReg_statAddrs b)) a ha,
    (Dev.standsBy_keeps _).1 a ha, Dev.emergKept_modeDropped _ a ha, (Dev.aside_outputsOff _).beside.emergKept a ha]

theorem Dev.anyLive_emergency : (d.emergency cause).anyLive = false := by
  have hacts : SameActs (d.endAll d.liveSlots 3) (d.emergency cause) := fun off ho =>
    d.emergKept_emergency cause h _ (not_emergReg_acts off ho)
  unfold Dev.anyLive
  rw [hacts.liveSlots, d.liveSlots_endAll]
  rfl

theorem Dev.rd_emergency_declared (p : Nat) (f : Field) (hf : addrOf p f.off ∉ addrOf 0x02 0x060 :: statAddrs 0x02) :
    (d.emergency cause).rd p f = ((((d.endAll d.liveSlots 3).outputsOff).modeDropped).standsBy).rd p f := by
  rw [d.emergency_eq cause h]
  exact (congrArg f.get (Dev.reg_emergencyTold _ _)).trans ((Dev.same_declared _ cause).rd p f hf)

/-- What an emergency shows. -/
theorem Dev.emergency_shows (hc : cause < 8) :
    (d.emergency cause).rd 0x02 F.SB_EMERG_latched = 1 ∧ (d.emergency cause).rd 0x02 F.SB_EMERG_cause = cause ∧
      (d.emergency cause).bit 0x02 0x00C 18 = true := by
  obtain ⟨hlatched, hcause, hbit⟩ :=
    Dev.declared_shows ((((d.endAll d.liveSlots 3).outputsOff).modeDropped).standsBy) cause hc
  rw [d.emergency_eq cause h]
  exact ⟨(congrArg F.SB_EMERG_latched.get (Dev.reg_emergencyTold _ _)).trans hlatched,
    (congrArg F.SB_EMERG_cause.get (Dev.reg_emergencyTold _ _)).trans hcause,
    (congrArg (fun w : Word => w.getLsbD 18) (Dev.reg_emergencyTold _ _)).trans hbit⟩

/-- It leaves mode 0 and STANDBY. -/
theorem Dev.emergency_quiet :
    (d.emergency cause).rd 0x00 F.GLB_MODE_mode = 0 ∧ (d.emergency cause).rd 0x02 F.SB_STATE_REQ_req = 2 ∧
      (d.power = 3 ∨ d.power = 4 → (d.emergency cause).power = 2) := by
  refine ⟨?_, ?_, fun hp => ?_⟩
  · rw [d.rd_emergency_declared cause h _ _ (by decide), (Dev.standsBy_keeps _).2, Dev.rd_mode_modeDropped]
  · rw [d.rd_emergency_declared cause h _ _ (by decide), (Dev.standsBy_shows _).1]
  · have harmed := d.power_endAll 3 _ d.live_lt hp
    refine (d.rd_emergency_declared cause h 0x02 F.SB_STATE_cur (by decide)).trans ((Dev.standsBy_shows _).2 ?_)
    rw [Dev.power_modeDropped, (Dev.aside_outputsOff _).power]
    exact harmed

end

end Sys2Proof.Machine
end

section
/-! SUPPORT. The analog trip and housekeeping. -/
namespace Sys2Proof.Machine

open Sys2Proof.Safety

/-! ## The analog trip -/

section
variable (d : Dev)

/-- The emergency that the trip latches, where none is. -/
def Dev.tripLatched : Dev :=
  if d.on 0x02 F.SB_EMERG_latched then d
  else ((d.tripActs.wr 0x02 F.SB_EMERG_latched 1).wr 0x02 F.SB_EMERG_cause 2).statSilent 0x02 18

/-- The device that the trip sends into DORMANT. -/
def Dev.tripFound : Dev :=
  ({ d.tripLatched with bill := { d.tripLatched.bill with tripped := true, pathWait := 0, exceeding := false } } : Dev).commitPower

theorem trip_eq (m : Mem) (h : d.serving = true) : trip d m = (d.tripFound.dormantDev 0, m.asleep d.tripFound 0) := by
  have hready : d.ready = true := by
    unfold Dev.serving at h
    exact (Bool.and_eq_true_iff.mp h).1
  unfold trip
  rw [hready]
  exact sleepNow_eq d.tripFound 0 m

theorem Dev.reg_tripFound (a : Nat) (h : a ≠ addrOf 0x02 F.SB_PWR_COMMIT.off) : d.tripFound.reg a = d.tripLatched.reg a :=
  (Dev.reg_commitPower _ a h).trans (Dev.reg_congr _ _ a rfl rfl)

theorem Dev.tripped_tripFound : d.tripFound.bill.tripped = true := by
  unfold Dev.tripFound Dev.commitPower
  rw [Dev.wr_bill]

theorem Dev.rd_tripLatched :
    d.tripLatched.rd 0x02 F.SB_EMERG_latched = 1 ∧
      d.tripLatched.rd 0x02 F.SB_EMERG_cause = if d.on 0x02 F.SB_EMERG_latched then d.rd 0x02 F.SB_EMERG_cause else 2 := by
  have hsilent (e : Dev) (f : Field) (hf : addrOf 0x02 f.off ≠ addrOf 0x02 0x00C) : (e.statSilent 0x02 18).rd 0x02 f = e.rd 0x02 f :=
    congrArg f.get (e.reg_putBits_other _ _ _ _ hf)
  unfold Dev.tripLatched
  by_cases h : d.on 0x02 F.SB_EMERG_latched = true
  · rw [if_pos h, if_pos h]
    have hlt : d.rd 0x02 F.SB_EMERG_latched < 2 := d.rd_lt _ _
    have hne : d.rd 0x02 F.SB_EMERG_latched ≠ 0 := bne_iff_ne.mp h
    exact ⟨by omega, rfl⟩
  · rw [if_neg h, if_neg h, hsilent _ _ (by decide), hsilent _ _ (by decide),
      Dev.rd_wr_disjoint _ _ F.SB_EMERG_cause F.SB_EMERG_latched _ rfl (by decide) (by decide)]
    exact ⟨Dev.rd_wr_fit _ _ _ _ (by decide) (by decide), Dev.rd_wr_fit _ _ _ _ (by decide) (by decide)⟩

/-! ## What DORMANT leaves of Showbill -/

section
variable (retain : Nat)

theorem Dev.rd_dormantDev (f : Field) (ho : f.off < 65536) (h1 : f.off ≠ 0x040) (h2 : f.off ≠ 0x05C) :
    (d.dormantDev retain).rd 0x02 f = d.rd 0x02 f := by
  have hslept := d.rd_slept retain 0x02 f ho (by decide) (by decide) fun _ => h1
  unfold Dev.dormantDev
  split
  · exact hslept
  · rw [(Dev.beside_wakeBegin _ _).rd 0x02 f ho (by decide) (fun h => absurd h (by decide)) fun _ => h2,
      (Dev.same_wakeShown _ _).rd 0x02 f fun hm => by
        rcases List.mem_cons.mp hm with e | e
        · exact absurd ((addrOf_inj 0x02 0x04 _ _ ho (by decide)).mp e).1 (by decide)
        · exact h1 ((addrOf_inj 0x02 0x02 _ _ ho (by decide)).mp (List.mem_singleton.mp e)).2]
    exact hslept

theorem Dev.tripped_dormantDev : (d.dormantDev retain).bill.tripped = d.bill.tripped := by
  unfold Dev.dormantDev
  split
  · rw [d.bill_slept]
  · rw [(Dev.beside_wakeBegin _ _).bill, Dev.bill_wakeShown, d.bill_slept]

theorem Dev.ready_dormantDev : (d.dormantDev retain).ready = false := by
  have hslept : (d.slept retain).ready = false :=
    ((d.same_slept retain).on 0x01 F.RST_STAT_ready (by decide)).trans (d.ready_asleep retain)
  unfold Dev.dormantDev
  split
  · exact hslept
  · rw [← hslept]
    unfold Dev.ready Dev.on
    rw [(Dev.beside_wakeBegin _ _).rd _ _ (by decide) (by decide) (by decide) (by decide),
      (Dev.same_wakeShown _ _).rd _ _ (by decide)]

end

/-- With no eighth kept, no byte is. -/
theorem asleep_none (m : Mem) : m.asleep d 0 = Mem.reset := by
  have hnone : (m.tiles.filter fun x => d.survives 0 (x.1 / 4096)) = [] :=
    List.filter_eq_nil_iff.mpr fun x _ => by
      unfold Dev.survives eighthKept
      rw [Nat.zero_testBit]
      decide
  unfold Mem.asleep
  rw [hnone]
  rfl

end

/-! ## Overdue tasks -/

section
variable (d : Dev) (task res : Nat)

/-- The bank or synthesizer of an overdue task. -/
def Dev.late : Dev :=
  match task with
  | 1 => { d with bill := { d.bill with lateBanks := withBit d.bill.lateBanks res true } }
  | 2 => if res < 9 then { d with bill := { d.bill with lateSynths := withBit d.bill.lateSynths res true } } else d
  | _ => d

theorem Dev.overdue_eq : d.overdue task res = ((d.late task res).fbit 0x02 F.SB_HK_STAT_overdue task true).stat 0x02 19 := rfl

theorem Dev.reg_late (a : Nat) : (d.late task res).reg a = d.reg a := by
  unfold Dev.late
  split
  · rfl
  · split <;> rfl
  · rfl

theorem Dev.same_overdue : SameRegs (addrOf 0x02 F.SB_HK_STAT_overdue.off :: statAddrs 0x02) d (d.overdue task res) := by
  have hlate : SameRegs (addrOf 0x02 F.SB_HK_STAT_overdue.off :: statAddrs 0x02) d (d.late task res) := fun a _ => d.reg_late task res a
  rw [d.overdue_eq]
  exact (hlate.step (Dev.same_fbit _ 0x02 task F.SB_HK_STAT_overdue true) (by simp)).stat 0x02 19 fun a ha => List.mem_cons_of_mem _ ha

theorem Dev.overdue_shows (h : task < 5) :
    (d.overdue task res).has 0x02 F.SB_HK_STAT_overdue task = true ∧ (d.overdue task res).bit 0x02 0x00C 19 = true := by
  rw [d.overdue_eq]
  refine ⟨?_, Dev.stat_bit _ 0x02 19 (by decide)⟩
  rw [(Dev.same_stat _ 0x02 19).has _ _ _ (by decide), Dev.has_fbit _ _ _ _ _ _ (by decide) h, if_pos rfl]

theorem Dev.bill_overdue : (d.overdue task res).bill = (d.late task res).bill := by
  rw [d.overdue_eq, Dev.stat_bill]
  exact Dev.wr_bill _ _ _ _

theorem Dev.lateBanks_overdue : (d.overdue 1 res).bill.lateBanks.testBit res = true := by
  rw [d.bill_overdue]
  exact (withBit_testBit _ _ _ _).trans (if_pos rfl)

theorem Dev.lateSynths_overdue (h : res < 9) : (d.overdue 2 res).bill.lateSynths.testBit res = true := by
  rw [d.bill_overdue, show d.late 2 res = { d with bill := { d.bill with lateSynths := withBit d.bill.lateSynths res true } } from if_pos h]
  exact (withBit_testBit _ _ _ _).trans (if_pos rfl)

/-! ## Tasks that have run -/

theorem Dev.hkRan_synth : d.hkRan 2 res =
    ({ d with bill := { d.bill with lateSynths := withBit d.bill.lateSynths res false } } : Dev).fbit 0x02 F.SB_HK_STAT_overdue 2
      (withBit d.bill.lateSynths res false != 0) := rfl

theorem Dev.hkRan_offset : d.hkRan 4 0 = d.fbit 0x02 F.SB_HK_STAT_overdue 4 false := rfl

theorem Dev.hkRan_synth_shows :
    (d.hkRan 2 res).bill.lateSynths.testBit res = false ∧
      (d.hkRan 2 res).has 0x02 F.SB_HK_STAT_overdue 2 = ((d.hkRan 2 res).bill.lateSynths != 0) := by
  have hbill : (d.hkRan 2 res).bill.lateSynths = withBit d.bill.lateSynths res false := by
    rw [d.hkRan_synth, Dev.fbit, Dev.wr_bill]
  rw [hbill]
  refine ⟨(withBit_testBit _ _ _ _).trans (if_pos rfl), ?_⟩
  rw [d.hkRan_synth, Dev.has_fbit _ _ _ _ _ _ (by decide) (by decide), if_pos rfl]

end

/-! ## Recalibrations -/

section
variable (d : Dev) (i : Nat)

theorem recal_off (i : Nat) : (F.SYN_STAT_recal.at (synIndex i)).off < 65536 := by
  have h : synIndex i * F.SYN_STAT_recal.st ≤ 5 * F.SYN_STAT_recal.st := Nat.mul_le_mul_right _ (synIndex_le i)
  have h5 : F.SYN_STAT_recal.off + 5 * F.SYN_STAT_recal.st < 65536 := by decide
  simp only [Field.at]
  omega

/-- SB_HK_STAT lies apart from the synthesizers. -/
theorem recal_ne (i : Nat) : addrOf (synPage i) (F.SYN_STAT_recal.at (synIndex i)).off ≠ addrOf 0x02 0x05C := fun e => by
  have hp := synPage_mem i
  have := ((addrOf_inj (synPage i) 0x02 _ _ (recal_off i) (by decide)).mp e).1
  omega

theorem synOn_of_same {e : Dev} (h : SameRegs [addrOf 0x02 0x05C] d e) : e.synOn i F.SYN_STAT_recal = d.synOn i F.SYN_STAT_recal :=
  h.on (synPage i) (F.SYN_STAT_recal.at (synIndex i)) fun hm => recal_ne i (List.mem_singleton.mp hm)

theorem Dev.same_showRecal : SameRegs [addrOf 0x02 0x05C] d d.showRecal := d.same_fbit 0x02 2 F.SB_HK_STAT_running _

theorem Dev.synOn_synWr (v : Nat) (hv : v < 2) : (d.synWr i F.SYN_STAT_recal v).synOn i F.SYN_STAT_recal = (v != 0) := by
  have hrd : (d.synWr i F.SYN_STAT_recal v).synRd i F.SYN_STAT_recal = v :=
    d.rd_wr_fit (synPage i) (F.SYN_STAT_recal.at (synIndex i)) v (show F.SYN_STAT_recal.lo + F.SYN_STAT_recal.w ≤ 32 by decide) hv
  unfold Dev.synOn
  rw [hrd]

/-- A recalibration starts. -/
theorem Dev.recal_start (hoff : d.synOn (6 + i) F.SYN_STAT_recal = false) (hserv : d.serving = true)
    (hen : d.has 0x02 F.SB_HK_CTRL_en 2 = true) (hplays : d.playsOn (6 + i) = false) :
    d.recal i = (d.synWr (6 + i) F.SYN_STAT_recal 1).showRecal := by
  unfold Dev.recal
  simp [hoff, hserv, hen, hplays]

theorem Dev.recal_end (hon : d.synOn (6 + i) F.SYN_STAT_recal = true) :
    d.recal i = ((d.synWr (6 + i) F.SYN_STAT_recal 0).showRecal).hkRan 2 i := by
  unfold Dev.recal Dev.endRecal
  simp only [hon, if_true]

theorem Dev.recal_stays (hoff : d.synOn (6 + i) F.SYN_STAT_recal = false)
    (h : d.has 0x02 F.SB_HK_CTRL_en 2 = false ∨ d.playsOn (6 + i) = true) : d.recal i = d := by
  unfold Dev.recal
  rcases h with h | h <;> simp [hoff, h]

theorem Dev.recal_start_shows (hi : i < 9) :
    ((d.synWr (6 + i) F.SYN_STAT_recal 1).showRecal).synOn (6 + i) F.SYN_STAT_recal = true ∧
      ((d.synWr (6 + i) F.SYN_STAT_recal 1).showRecal).has 0x02 F.SB_HK_STAT_running 2 = true := by
  have hon := d.synOn_synWr (6 + i) 1 (by decide)
  refine ⟨(synOn_of_same _ (6 + i) (Dev.same_showRecal _)).trans hon, ?_⟩
  unfold Dev.showRecal
  rw [Dev.has_fbit _ _ _ _ _ _ (by decide) (by decide), if_pos rfl, List.any_eq_true]
  exact ⟨i, List.mem_range.mpr hi, hon⟩

theorem Dev.recal_end_shows :
    (((d.synWr (6 + i) F.SYN_STAT_recal 0).showRecal).hkRan 2 i).synOn (6 + i) F.SYN_STAT_recal = false := by
  have hran (e : Dev) : SameRegs [addrOf 0x02 0x05C] e (e.hkRan 2 i) :=
    Dev.same_fbit ({ e with bill := { e.bill with lateSynths := withBit e.bill.lateSynths i false } } : Dev) 0x02 2
      F.SB_HK_STAT_overdue _
  exact (synOn_of_same _ (6 + i) (hran _)).trans ((synOn_of_same _ (6 + i) (Dev.same_showRecal _)).trans
    (d.synOn_synWr (6 + i) 0 (by decide)))

theorem Dev.offsetCheck_run (hserv : d.serving = true) (h : d.has 0x02 F.SB_HK_CTRL_en 4 = true) :
    d.offsetCheck = d.fbit 0x02 F.SB_HK_STAT_overdue 4 false := by
  unfold Dev.offsetCheck
  rw [hserv, h]
  exact d.hkRan_offset

theorem Dev.offsetCheck_stays (h : d.has 0x02 F.SB_HK_CTRL_en 4 = false) : d.offsetCheck = d := by
  unfold Dev.offsetCheck
  rw [h, Bool.and_false]
  rfl

end

end Sys2Proof.Machine

namespace Sys2Proof.Safety

open Sys2Proof.Machine

theorem exec_sensorSample (tc tj : BitVec 16) (sensor : BitVec 8) (power : BitVec 12) (s : State) :
    exec (.sensorSample tc tj sensor power) s = onDev s fun d => d.sample tc.toNat tj.toNat sensor.toNat power.toNat := rfl
theorem exec_thermalTrip (s : State) : exec .thermalTrip s = onBoth s trip := rfl
theorem exec_hkOverdue (task : Fin 5) (res : Fin 64) (s : State) :
    exec (.hkOverdue task res) s = onLive s fun d => d.overdue task.val res.val := rfl
theorem exec_synthRecal (i : Fin 9) (s : State) : exec (.synthRecal i) s = onDev s fun d => d.recal i.val := rfl
theorem exec_thermalOffsetCheck (s : State) : exec .thermalOffsetCheck s = onDev s fun d => d.offsetCheck := rfl

/-- Settles O29: a sample's registers stay through an emergency, the trip falls asleep with nothing kept, and housekeeping writes
its own two fields. -/
theorem heatAndHousekeeping : Obligations.HeatAndHousekeeping := by
  intro s tc tj sensor power task res i d b t shows hserv
  have hsample := d.sampled_shows tc.toNat tj.toNat sensor.toNat power.toNat tc.isLt tj.isLt sensor.isLt power.isLt
  have hcall : d.sample tc.toNat tj.toNat sensor.toNat power.toNat = match b.heatCause with
      | some c => b.emergency c
      | none => b := d.sample_eq _ _ _ _ hserv
  have hlatched : b.on 0x02 F.SB_EMERG_latched = d.on 0x02 F.SB_EMERG_latched := d.latched_sampled _ _ _ _
  refine ⟨fun hquiet => ?_, fun c hc hno => ?_, ?_, ?_, fun hen hplays hoff => ?_, fun hon => ?_, fun hstays hoff => ?_, fun hen => ?_,
    fun hen => ?_⟩
  · have he : d.sample tc.toNat tj.toNat sensor.toNat power.toNat = b := by
      rw [hcall]
      cases hc : b.heatCause with
      | none => rfl
      | some c => exact if_pos (hlatched.trans (hquiet.resolve_left (by rw [hc]; simp)))
    exact ⟨b, gives_onDev (exec_sensorSample tc tj sensor power s) he, ⟨hsample.tc, hsample.tj, hsample.sensor, hsample.power⟩,
      d.band_sampled _ _ _ _, d.pred_sampled _ _ _ _, d.same_sampled _ _ _ _⟩
  · have hoff : b.on 0x02 F.SB_EMERG_latched = false := hlatched.trans hno
    have he : d.sample tc.toNat tj.toNat sensor.toNat power.toNat = b.emergency c := by rw [hcall, hc]
    have hkept (p off : Nat) (ho : off < 65536) (hp : p < 0x17) (hk : ¬EmergReg (addrOf p off)) (h1 : p = 0x01 → off ≠ 0x048)
        (h2 : p = 0x02 → off ≠ 0x05C ∧ off ≠ 0x040 ∧ off ≠ 0x054) (h3 : p ≠ 0x03) :
        (b.emergency c).reg (addrOf p off) = b.reg (addrOf p off) :=
      (b.emergKept_emergency c hoff _ hk).trans (b.reg_endLive p off ho hp h1 h2 h3)
    have hshow : ShowsSample (b.emergency c) tc.toNat tj.toNat sensor.toNat power.toNat := hsample.congr
      (hkept 0x05 0x040 (by decide) (by decide) (by unfold EmergReg; decide) (by decide) (by decide) (by decide))
      (hkept 0x05 0x044 (by decide) (by decide) (by unfold EmergReg; decide) (by decide) (by decide) (by decide))
      (hkept 0x02 0x050 (by decide) (by decide) (by unfold EmergReg; decide) (by decide) (by decide) (by decide))
    obtain ⟨hlatch, hcause, hbit⟩ := b.emergency_shows c hoff (b.heatCause_lt c hc)
    obtain ⟨hmode, hreq, hpower⟩ := b.emergency_quiet c hoff
    exact ⟨b.emergency c, gives_onDev (exec_sensorSample tc tj sensor power s) he,
      ⟨hshow.tc, hshow.tj, hshow.sensor, hshow.power⟩, hlatch, hcause, hbit, b.anyLive_emergency c hoff, hmode, hreq,
      fun hp => hpower (by rwa [show b.power = d.power from d.power_sampled _ _ _ _])⟩
  · have htrip : trip d s.mem = (d.tripFound.dormantDev 0, Mem.reset) := by rw [trip_eq d s.mem hserv, asleep_none]
    obtain ⟨hlatch, hcause⟩ := d.rd_tripLatched
    have hfound (f : Field) (ho : f.off = 0x060) : (d.tripFound.dormantDev 0).rd 0x02 f = d.tripLatched.rd 0x02 f := by
      rw [Dev.rd_dormantDev _ 0 f (by omega) (by omega) (by omega)]
      exact congrArg f.get (d.reg_tripFound _ (by rw [ho]; decide))
    exact ⟨d.tripFound.dormantDev 0, gives_onBoth (exec_thermalTrip s) htrip, Dev.power_dormantDev _ 0,
      (hfound F.SB_EMERG_latched rfl).trans hlatch, (hfound F.SB_EMERG_cause rfl).trans hcause,
      (Dev.tripped_dormantDev _ 0).trans d.tripped_tripFound, Dev.ready_dormantDev _ 0⟩
  · obtain ⟨hhas, hbit⟩ := d.overdue_shows task.val res.val task.isLt
    refine ⟨d.overdue task.val res.val, gives_onLive (exec_hkOverdue task res s) hserv rfl, hhas, hbit,
      d.same_overdue task.val res.val, fun h => ?_, fun h hlt => ?_⟩
    · rw [h]
      exact d.lateBanks_overdue res.val
    · rw [h]
      exact d.lateSynths_overdue res.val hlt
  · exact ⟨_, gives_onDev (exec_synthRecal i s) (d.recal_start i.val hoff hserv hen hplays), d.recal_start_shows i.val i.isLt⟩
  · exact ⟨_, gives_onDev (exec_synthRecal i s) (d.recal_end i.val hon), d.recal_end_shows i.val, Dev.hkRan_synth_shows _ i.val⟩
  · exact gives_onDev (exec_synthRecal i s) (d.recal_stays i.val hoff hstays)
  · refine ⟨_, gives_onDev (exec_thermalOffsetCheck s) (d.offsetCheck_run hserv hen), ?_, d.same_fbit _ _ _ _⟩
    rw [Dev.has_fbit _ _ _ _ _ _ (by decide) (by decide), if_pos rfl]
  · exact gives_onDev (exec_thermalOffsetCheck s) (d.offsetCheck_stays hen)

end Sys2Proof.Safety
end

section
/-! SUPPORT. The sequencers' own bookkeeping: what their registers show, where execution goes on, a fault and a halt, and the entry
that executes. -/
namespace Sys2Proof.Machine

open Sys2Proof.Safety

/-! ## Records under the updates of registers and of other records -/

theorem Dev.sq_congr {d e : Dev} (h : e.sqs = d.sqs) (m : Nat) : e.sq m = d.sq m := by simp only [Dev.sq, h]
theorem Dev.tx_congr {d e : Dev} (h : e.txs = d.txs) (m : Nat) : e.tx m = d.tx m := by simp only [Dev.tx, h]
theorem Dev.rx_congr {d e : Dev} (h : e.rxs = d.rxs) (m : Nat) : e.rx m = d.rx m := by simp only [Dev.rx, h]

/-- A step changes registers and no record. -/
def OnlyRegs (d e : Dev) : Prop := ∃ r u, e = { d with regs := r, upset := u }

theorem OnlyRegs.refl (d : Dev) : OnlyRegs d d := ⟨_, _, rfl⟩

theorem OnlyRegs.wr {d e : Dev} (h : OnlyRegs d e) (p v : Nat) (f : Field) : OnlyRegs d (e.wr p f v) := by
  obtain ⟨r, u, rfl⟩ := h
  exact ⟨_, _, rfl⟩

theorem OnlyRegs.fold {α : Type} {d e : Dev} (step : Dev → α → Dev) (xs : List α)
    (hs : ∀ d e x, OnlyRegs d e → OnlyRegs d (step e x)) (h : OnlyRegs d e) : OnlyRegs d (xs.foldl step e) := by
  induction xs generalizing e with
  | nil => exact h
  | cons x xs ih => exact ih (hs d e x h)

section
variable (d : Dev) (p v m : Nat) (f : Field)

@[simp] theorem Dev.sq_wr : (d.wr p f v).sq m = d.sq m := rfl
@[simp] theorem Dev.sq_fbit (i : Nat) (b : Bool) : (d.fbit p f i b).sq m = d.sq m := rfl
@[simp] theorem Dev.sq_setTx (t : Tx) : (d.setTx v t).sq m = d.sq m := rfl
@[simp] theorem Dev.sq_setRx (t : Rx) : (d.setRx v t).sq m = d.sq m := rfl
@[simp] theorem Dev.sq_stat : (d.stat p v).sq m = d.sq m := Dev.sq_congr (Dev.stat_sqs d p v) m
@[simp] theorem Dev.sq_raiseIf (g : Field) : (d.raiseIf p f g).sq m = d.sq m := by
  unfold Dev.raiseIf
  split <;> rfl

@[simp] theorem Dev.sq_setSqState : (d.setSqState p v).sq m = d.sq m := rfl

end

/-! ## What the registers show -/

/-- The registers that follow a sequencer's stack and watches. -/
def sqShown (n : Nat) : List Nat := addrOf (sqPage n) 0x044 :: (List.range 8).map fun k => addrOf (sqPage n) (0x0B0 + k * 4)

theorem not_mem_sqShown (n p off : Nat) (ho : off < 65536)
    (h : p ≠ sqPage n ∨ off ≠ 0x044 ∧ (off < 0x0B0 ∨ 0x0D0 ≤ off)) : addrOf p off ∉ sqShown n := by
  simp only [sqShown, List.mem_cons, List.mem_map, List.mem_range, not_or, not_exists, not_and, addrOf]
  refine ⟨by omega, fun k hk => by omega⟩

section
variable (d : Dev) (n : Nat)

theorem Dev.same_showSq : SameRegs (sqShown n) d (d.showSq n) := by
  have hstat : addrOf (sqPage n) 0x044 ∈ sqShown n := List.mem_cons_self ..
  unfold Dev.showSq
  refine SameRegs.step (((SameRegs.refl (sqShown n) d).wr _ _ _ hstat).wr _ _ _ hstat)
    (SameRegs.fold (sqShown n) _ _ (fun e k hk => (SameRegs.refl _ e).wr _ _ _ ?_) _) fun _ ha => ha
  exact List.mem_cons_of_mem _ (List.mem_map.mpr ⟨k, hk, rfl⟩)

theorem Dev.onlyRegs_showSq : OnlyRegs d (d.showSq n) := by
  unfold Dev.showSq
  exact .fold _ _ (fun _ _ _ h => h.wr _ _ _) (((OnlyRegs.refl d).wr _ _ _).wr _ _ _)

/-- SQ_STAT's fields but depth and watches stay. -/
theorem Dev.rd_showSq_stat (f : Field) (ho : f.off = 0x044) (hf : f.lo + f.w ≤ 8 ∨ 12 ≤ f.lo ∧ f.lo + f.w ≤ 28) :
    (d.showSq n).rd (sqPage n) f = d.rd (sqPage n) f := by
  have hfold : ∀ (s : Nat → Nat) (l : List Nat) (e : Dev),
      (l.foldl (fun (e : Dev) k => e.wr (sqPage n) (F.SQ_LOOPd.at k) (s k)) e).rd (sqPage n) f = e.rd (sqPage n) f := by
    intro s l
    induction l with
    | nil => exact fun _ => rfl
    | cons k l ih => exact fun e => (ih _).trans (e.rd_wr_off _ _ _ _ (by simp only [ho, Field.at, F.SQ_LOOPd]; omega))
  unfold Dev.showSq
  refine (hfold _ _ _).trans ?_
  rw [Dev.rd_wr_apart _ _ F.SQ_STAT_watches f _ (by omega) (by simp only [F.SQ_STAT_watches]; omega),
    Dev.rd_wr_apart _ _ F.SQ_STAT_depth f _ (by omega) (by simp only [F.SQ_STAT_depth]; omega)]

@[simp] theorem Dev.sq_showSq (m : Nat) : (d.showSq n).sq m = d.sq m := by
  obtain ⟨r, u, h⟩ := d.onlyRegs_showSq n
  rw [h]
  rfl

theorem Dev.sqState_showSq : (d.showSq n).sqState n = d.sqState n := d.rd_showSq_stat n F.SQ_STAT_state rfl (by decide)

@[simp] theorem Dev.sq_modSq (f : Sq → Sq) : (d.modSq n f).sq n = f (d.sq n) := by
  unfold Dev.modSq
  rw [Dev.sq_showSq, Dev.setSq_sq]

theorem Dev.sqState_setSqState (s : Nat) (hs : s < 8) : (d.setSqState n s).sqState n = s :=
  d.rd_wr_fit _ F.SQ_STAT_state s (by decide) hs

/-- The look-ahead changes what the sequencer holds and asks for of its tiles. -/
theorem Dev.sqAhead_eq : ∃ st wa dr, d.sqAhead n = d.setSq n { d.sq n with stream := st, wanted := wa, dropped := dr } := by
  unfold Dev.sqAhead
  simp only
  exact ⟨_, _, _, rfl⟩

end

/-! ## Execution goes on -/

/-- Execution of sequencer `n` goes on at `pc` with the record `t`, but for its tiles: no register changes but those that show the
stack and the watches, and no record but the sequencers'. -/
structure GoesOn (n pc : Nat) (t : Sq) (d e : Dev) : Prop where
  pc : (e.sq n).pc = pc
  play : (e.sq n).play = t.play
  frames : (e.sq n).frames = t.frames
  watches : (e.sq n).watches = t.watches
  marks : (e.sq n).marks = t.marks
  landing : (e.sq n).landing = t.landing
  wait : (e.sq n).wait = t.wait
  bracket : (e.sq n).bracket = t.bracket
  absRate : (e.sq n).absRate = t.absRate
  lastSeg : (e.sq n).lastSeg = t.lastSeg
  state : e.sqState n = d.sqState n
  regs : SameRegs (sqShown n) d e
  rest : ∃ r u s, e = { d with regs := r, upset := u, sqs := s }

theorem GoesOn.tx {n pc : Nat} {t : Sq} {d e : Dev} (h : GoesOn n pc t d e) (m : Nat) : e.tx m = d.tx m := by
  obtain ⟨r, u, s, rfl⟩ := h.rest
  rfl

section
variable (d : Dev) (n pc : Nat)

theorem Dev.sqGo_eq (h : pc < 2048 ∨ (d.sq n).play ≠ none) :
    d.sqGo n pc = ((d.setSq n { d.sq n with pc := pc }).showSq n).sqAhead n := by
  unfold Dev.sqGo
  refine if_neg ?_
  simp only [Bool.and_eq_true, decide_eq_true_eq, Option.isNone_iff_eq_none, not_and_or]
  exact h.imp_left (by omega)

/-- Execution goes on with the record that the sequencer had. -/
theorem Dev.goesOn (h : pc < 2048 ∨ (d.sq n).play ≠ none) : GoesOn n pc (d.sq n) d (d.sqGo n pc) := by
  obtain ⟨r, u, hshow⟩ := (d.setSq n { d.sq n with pc := pc }).onlyRegs_showSq n
  have hsq : ((d.setSq n { d.sq n with pc := pc }).showSq n).sq n = { d.sq n with pc := pc } := by
    rw [Dev.sq_showSq, Dev.setSq_sq]
  rw [Dev.sqGo_eq _ n pc h]
  obtain ⟨st, wa, dr, hahead⟩ := ((d.setSq n { d.sq n with pc := pc }).showSq n).sqAhead_eq n
  rw [hahead, hsq]
  constructor
  case state => exact Dev.sqState_showSq _ n
  case regs => exact Dev.same_showSq _ n
  case rest => rw [hshow]; exact ⟨_, _, _, rfl⟩
  all_goals rw [Dev.setSq_sq]

/-- Execution goes on with the record that is set. -/
theorem Dev.goesOn_setSq (t : Sq) (h : pc < 2048 ∨ t.play ≠ none) : GoesOn n pc t d ((d.setSq n t).sqGo n pc) := by
  have hg := (d.setSq n t).goesOn n pc (by rwa [Dev.setSq_sq])
  rw [Dev.setSq_sq] at hg
  obtain ⟨r, u, s, hrest⟩ := hg.rest
  exact { hg with state := hg.state, regs := hg.regs, rest := ⟨r, u, s, hrest⟩ }

end

end Sys2Proof.Machine
end

section
/-! SUPPORT. The commit point of an entry, faults and halts of a sequencer. -/
namespace Sys2Proof.Machine

open Sys2Proof.Safety

section
variable (d : Dev) (n : Nat)

/-! ## The commit point -/

/-- A record past its commit point: the innermost frame's first entry has executed. -/
def entered (s : Sq) : Sq :=
  { s with
    frames := match s.frames with
      | f :: r => (if f.start = s.pc then { f with fresh := false } else f) :: r
      | [] => []
    controls := s.controls + 1 }

theorem Dev.sqEnter_eq : d.sqEnter n = (d.setSq n (entered (d.sq n))).wr (sqPage n) F.SQ_STAT_pc (d.sq n).pc := by
  unfold Dev.sqEnter entered
  rfl

@[simp] theorem Dev.sq_sqEnter : (d.sqEnter n).sq n = entered (d.sq n) := by rw [Dev.sqEnter_eq, Dev.sq_wr, Dev.setSq_sq]

theorem length_frames_entered (s : Sq) : (entered s).frames.length = s.frames.length := by
  unfold entered
  cases s.frames <;> rfl

/-- The commit point changes SQ_STAT.pc alone. -/
theorem Dev.rd_sqEnter (p : Nat) (f : Field) (ho : f.off < 65536) (hf : f.lo + f.w ≤ 32) (h : f.off ≠ 0x044 ∨ f.lo + f.w ≤ 16 ∨ 27 ≤ f.lo) :
    (d.sqEnter n).rd p f = d.rd p f := by
  rw [Dev.sqEnter_eq]
  by_cases hp : p = sqPage n
  · subst hp
    exact Dev.rd_wr_apart _ _ _ _ _ hf h
  · exact Dev.rd_wr_other _ _ _ _ _ _ fun c => hp ((addrOf_inj _ _ _ _ ho (by decide)).mp c).1

theorem Dev.sqState_sqEnter : (d.sqEnter n).sqState n = d.sqState n := d.rd_sqEnter n _ _ (by decide) (by decide) (by decide)

/-! ## Faults -/

/-- What a halt or a fault leaves of a sequencer's record. -/
def disarmed (s : Sq) : Sq :=
  { s with
    watches := [], landing := none, wait := none, hold := false, haltReq := false, play := none, wanted := []
    dropped := s.dropped ++ s.wanted }

@[simp] theorem Dev.sq_abandonHandoff (i m : Nat) : (d.abandonHandoff i).sq m = d.sq m := by
  unfold Dev.abandonHandoff
  split
  · rfl
  · simp only [Dev.sq_stat, Dev.sq_fbit, Dev.sq_setTx]

@[simp] theorem Dev.sq_sqDisarm : (d.sqDisarm n).sq n = disarmed ((d.closeBracket n).sq n) := by
  have h (e : Dev) (he : e.sqs = ((d.closeBracket n).modSq n disarmed).sqs) : e.sq n = disarmed ((d.closeBracket n).sq n) :=
    (Dev.sq_congr he n).trans (Dev.sq_modSq _ n disarmed)
  unfold Dev.sqDisarm
  simp only
  split
  · rw [Dev.sq_abandonHandoff]
    exact h _ rfl
  · exact h _ rfl

theorem Dev.sqs_txIdle : (d.txIdle n).sqs = d.sqs := by
  unfold Dev.txIdle Dev.driveOut
  simp only
  split <;> rfl

@[simp] theorem Dev.sq_sqLaneIdle (m : Nat) : (d.sqLaneIdle n).sq m = d.sq m := by
  unfold Dev.sqLaneIdle
  split
  · exact Dev.sq_congr (d.sqs_txIdle n) m
  · rfl

/-- The registers that a fault with cause `c` at entry `i` shows. -/
structure ShowsFault (n c i : Nat) (e : Dev) : Prop where
  state : e.sqState n = 6
  cause : e.rd (sqPage n) F.SQ_STAT_cause = c
  faultCause : e.rd (sqPage n) F.SQ_FAULT_cause = c
  faultPc : e.rd (sqPage n) F.SQ_FAULT_pc = i
  bit : e.bit (sqPage n) 0x00C 17 = true

/-- Registers of a sequencer's page that a step leaves alone show the fault on. -/
theorem ShowsFault.keep {n c i : Nat} {d e : Dev} (h : ShowsFault n c i d)
    (hk : ∀ off, off < 65536 → e.reg (addrOf (sqPage n) off) = d.reg (addrOf (sqPage n) off)) : ShowsFault n c i e := by
  have hrd (f : Field) (ho : f.off < 65536) : e.rd (sqPage n) f = d.rd (sqPage n) f := by unfold Dev.rd; rw [hk _ ho]
  refine ⟨(hrd _ (by decide)).trans h.state, (hrd _ (by decide)).trans h.cause, (hrd _ (by decide)).trans h.faultCause,
    (hrd _ (by decide)).trans h.faultPc, ?_⟩
  unfold Dev.bit
  rw [hk _ (by decide)]
  exact h.bit

theorem not_mem_statAddrs_sq (m off : Nat) (ho : off < 65536) (h : off ≠ 0x00C) : addrOf (sqPage m) off ∉ statAddrs (sqPage n) :=
  not_mem_statAddrs _ _ off ho h fun hp => by unfold sqPage at hp; omega

@[simp] theorem Dev.sq_sqReport (c i m : Nat) : (d.sqReport n c i).sq m = d.sq m := by
  unfold Dev.sqReport
  simp only [Dev.sq_raiseIf, Dev.sq_stat, Dev.sq_wr, Dev.sq_setSqState]

theorem Dev.sqReport_shows (c i : Nat) (hc : c < 16) : ShowsFault n c (i % 2048) (d.sqReport n c i) := by
  have hkeep (e : Dev) (en ev f : Field) (ho : f.off < 65536) (h : f.off ≠ 0x00C) :
      ((e.stat (sqPage n) 17).raiseIf (sqPage n) en ev).rd (sqPage n) f = e.rd (sqPage n) f :=
    ((Dev.same_raiseIf _ _ en ev).rd _ f List.not_mem_nil).trans
      ((e.same_stat (sqPage n) 17).rd _ f (not_mem_statAddrs_sq n n _ ho h))
  unfold Dev.sqReport
  refine ⟨?_, ?_, ?_, ?_, ?_⟩
  · refine (hkeep _ _ _ _ (by decide) (by decide)).trans ?_
    rw [Dev.rd_wr_off _ _ _ _ _ (by decide), Dev.rd_wr_off _ _ _ _ _ (by decide),
      Dev.rd_wr_apart _ _ _ _ _ (by decide) (by decide)]
    exact Dev.sqState_setSqState _ n 6 (by decide)
  · refine (hkeep _ _ _ _ (by decide) (by decide)).trans ?_
    rw [Dev.rd_wr_off _ _ _ _ _ (by decide), Dev.rd_wr_off _ _ _ _ _ (by decide)]
    exact Dev.rd_wr_fit _ _ _ _ (by decide) hc
  · refine (hkeep _ _ _ _ (by decide) (by decide)).trans ?_
    rw [Dev.rd_wr_apart _ _ _ _ _ (by decide) (by decide)]
    exact Dev.rd_wr_fit _ _ _ _ (by decide) hc
  · exact (hkeep _ _ _ _ (by decide) (by decide)).trans (Dev.rd_wr_same _ _ _ _ (by decide))
  · exact ((Dev.same_raiseIf _ _ _ _).bit _ _ _ List.not_mem_nil).trans (Dev.stat_bit _ _ 17 (by decide))

theorem Dev.sqs_openInjection : d.openInjection.sqs = d.sqs := by
  refine (foldl_keeps Dev.sqs _ (fun e k _ => ?_) _).trans (foldl_keeps Dev.sqs _ (fun e k _ => ?_) d)
  · simp only
    split
    · exact Dev.stat_sqs _ _ _
    · rfl
  · split <;> rfl

/-- No register on a sequencer's page is one of the injection switches. -/
theorem not_injReg_sq (n off : Nat) (hn : n < 20) (ho : off < 65536) : ¬InjReg (addrOf (sqPage n) off) := by
  have hpage : sqPage n < 0x54 ∧ 0x40 ≤ sqPage n := by unfold sqPage; omega
  have hne (p o : Nat) (hp : p < 0x40 ∨ 0x54 ≤ p) (ho' : o < 65536) : addrOf (sqPage n) off ≠ addrOf p o := fun e => by
    have := ((addrOf_inj _ _ _ _ ho ho').mp e).1
    omega
  rintro ((e | e) | e | e)
  · exact hne 0x17 _ (by omega) (by decide) e
  · exact hne 0x17 _ (by omega) (by decide) e
  · exact hne 0x92 _ (by omega) (by decide) e
  · rw [addrOf_page _ off ho] at e
    omega

/-- A fault disarms its sequencer and shows itself. -/
theorem Dev.sqFault_shows (c i : Nat) (hn : n < 20) (hc : c < 16) :
    ShowsFault n c (i % 2048) (d.sqFault n c i) ∧
      (d.sqFault n c i).sq n = disarmed (((d.blockEnd n (c == 10)).closeBracket n).sq n) := by
  have hreport := Dev.sqReport_shows (((d.blockEnd n (c == 10)).sqDisarm n).sqLaneIdle n) n c i hc
  have hsq : ((((d.blockEnd n (c == 10)).sqDisarm n).sqLaneIdle n).sqReport n c i).sq n =
      disarmed (((d.blockEnd n (c == 10)).closeBracket n).sq n) := by
    rw [Dev.sq_sqReport, Dev.sq_sqLaneIdle, Dev.sq_sqDisarm]
  unfold Dev.sqFault
  simp only
  split
  · exact ⟨hreport, hsq⟩
  · exact ⟨hreport.keep fun off ho => (Dev.within_openInjection _).reg _ (not_injReg_sq n off hn ho),
      (Dev.sq_congr (Dev.sqs_openInjection _) n).trans hsq⟩

/-! ## Halts -/

theorem Dev.reg_driveOut (a : Nat) : (d.driveOut n).reg a = d.reg a := by
  unfold Dev.driveOut
  simp only
  split <;> rfl

theorem Dev.reg_txIdle (a : Nat) (h : a ≠ addrOf (0x20 + n) 0x440) : (d.txIdle n).reg a = d.reg a :=
  (Dev.reg_wr_other _ _ _ F.TXL_STAT_idle _ h).trans (d.reg_driveOut n a)

/-- Electrical idle shows on the lane's own page. -/
theorem Dev.reg_sqLaneIdle (off : Nat) (ho : off < 65536) :
    (d.sqLaneIdle n).reg (addrOf (sqPage n) off) = d.reg (addrOf (sqPage n) off) := by
  unfold Dev.sqLaneIdle
  split
  · exact d.reg_txIdle n _ fun e => by
      have := ((addrOf_inj _ _ _ _ ho (by decide)).mp e).1
      unfold sqPage at this
      omega
  · rfl

/-- A halt disarms its sequencer, and shows state HALTED and the halt bit. -/
structure Halted (n : Nat) (e : Dev) : Prop where
  state : e.sqState n = 5
  bit : e.bit (sqPage n) 0x00C 16 = true
  watches : (e.sq n).watches = []
  wait : (e.sq n).wait = none

theorem Halted.sqLaneIdle {n : Nat} {e : Dev} (h : Halted n e) : Halted n (e.sqLaneIdle n) where
  state := (congrArg F.SQ_STAT_state.get (e.reg_sqLaneIdle n _ (by decide))).trans h.state
  bit := by
    unfold Dev.bit
    rw [e.reg_sqLaneIdle n _ (by decide)]
    exact h.bit
  watches := by rw [Dev.sq_sqLaneIdle, h.watches]
  wait := by rw [Dev.sq_sqLaneIdle, h.wait]

/-- The registers and the event of a halt. -/
def Dev.haltShown : Dev :=
  ((d.setSqState n 5).stat (sqPage n) 16).raiseIf (sqPage n) F.SQ_EVOUT_halt_en F.SQ_EVOUT_halt_ev

theorem Dev.haltShown_halted (hwatches : (d.sq n).watches = []) (hwait : (d.sq n).wait = none) : Halted n (d.haltShown n) where
  state := ((Dev.same_raiseIf _ _ _ _).rd _ _ List.not_mem_nil).trans
    (((Dev.same_stat _ (sqPage n) 16).rd _ _ (not_mem_statAddrs_sq n n _ (by decide) (by decide))).trans
      (d.sqState_setSqState n 5 (by decide)))
  bit := ((Dev.same_raiseIf _ _ _ _).bit _ _ _ List.not_mem_nil).trans (Dev.stat_bit _ _ 16 (by decide))
  watches := by simp only [Dev.haltShown, Dev.sq_raiseIf, Dev.sq_stat, Dev.sq_setSqState, hwatches]
  wait := by simp only [Dev.haltShown, Dev.sq_raiseIf, Dev.sq_stat, Dev.sq_setSqState, hwait]

theorem Dev.sqHalt_halted (fill : Bool) : Halted n (d.sqHalt n fill) := by
  have hshown := ((d.blockEnd n false).sqDisarm n).haltShown_halted n (by rw [Dev.sq_sqDisarm]; rfl) (by rw [Dev.sq_sqDisarm]; rfl)
  have hset (b : Bool) (e : Dev) (h : Halted n e) : Halted n (e.setSq n { e.sq n with haltFill := b }) :=
    ⟨h.state, h.bit, by rw [Dev.setSq_sq]; exact h.watches, by rw [Dev.setSq_sq]; exact h.wait⟩
  unfold Dev.sqHalt
  simp only
  split
  · exact hset _ _ hshown
  · exact (hset _ _ hshown).sqLaneIdle

end

end Sys2Proof.Machine
end

section
/-! SUPPORT. Sequencers: faults, and where execution goes on. -/
namespace Sys2Proof.Safety

open Sys2Proof.Machine

/-- Settles O30: a fault reports itself after it has disarmed the sequencer, and what follows touches neither. -/
theorem sequencerFaults : Obligations.SequencerFaults := by
  intro d n cause pc hn hcause hpc e
  obtain ⟨hshow, hsq⟩ := d.sqFault_shows n cause pc hn hcause
  rw [Nat.mod_eq_of_lt hpc] at hshow
  refine ⟨hshow.state, hshow.cause, hshow.faultCause, hshow.faultPc, hshow.bit, ?_, ?_, ?_⟩ <;> rw [hsq] <;> rfl

/-- Settles O32: the index is all that going on changes of what the statement names, and a commit point shows its own. -/
theorem executionGoesOn : Obligations.ExecutionGoesOn := by
  intro d n pc hn
  refine ⟨fun h => ?_, fun hpc hplay => ?_, ?_, ?_, ?_, ?_, ?_⟩
  · have hg := d.goesOn n pc h
    obtain ⟨r, u, s, hrest⟩ := hg.rest
    exact ⟨hg.pc, hg.play, hg.frames, hg.watches, hg.marks, hg.state, by rw [hrest]⟩
  · have he : d.sqGo n pc = d.sqFault n 11 2047 := by
      unfold Dev.sqGo
      rw [hplay]
      simp [hpc]
    obtain ⟨hshow, -⟩ := d.sqFault_shows n 11 2047 hn (by decide)
    rw [he]
    exact ⟨hshow.state, hshow.faultCause⟩
  · rw [Dev.sqEnter_eq]
    exact Dev.rd_wr_same _ _ _ _ (by decide)
  · rw [Dev.sq_sqEnter]; rfl
  · rw [Dev.sq_sqEnter, length_frames_entered]
  · rw [Dev.sq_sqEnter]; rfl
  · rw [Dev.sq_sqEnter]; rfl

end Sys2Proof.Safety
end

section
/-! SUPPORT. The entries of a program: the one that executes, loops and jumps, watches, waits and marks. -/
namespace Sys2Proof.Machine

open Sys2Proof.Safety

theorem eb_lt (e : BitVec 128) (hi lo : Nat) : eb e hi lo < 2 ^ (hi + 1 - lo) := Nat.mod_lt _ (Nat.two_pow_pos _)

/-- The entry at the present index executes: it has the opcode, and the play before it is over. -/
structure Executes (d : Dev) (n op : Nat) (e : BitVec 128) : Prop where
  entry : d.sqAt n op = some e
  played : ((d.playOn n).sq n).play = none
  runs : (d.playOn n).sqState n = 3

/-- The device at the commit point of the entry that executes. -/
def Dev.reached (d : Dev) (n : Nat) : Dev := (d.playOn n).sqEnter n

section
variable {d : Dev} {n op : Nat} {e : BitVec 128}

theorem Executes.run (h : Executes d n op e) {ok : BitVec 128 → Bool} (hok : ok e = true) (f : Dev → BitVec 128 → Dev) :
    d.sqRun n op ok f = f (d.playOn n) e := by
  unfold Dev.sqRun
  simp only [h.entry, Option.filter_some, hok, if_true, h.played, h.runs, Option.isNone_none, BEq.rfl, Bool.and_self]

theorem Dev.pc_reached : ((d.reached n).sq n).pc = ((d.playOn n).sq n).pc := by
  unfold Dev.reached
  rw [Dev.sq_sqEnter]
  rfl

theorem Executes.sqState_reached (h : Executes d n op e) : (d.reached n).sqState n = 3 :=
  (Dev.sqState_sqEnter _ n).trans h.runs

/-! ## Loops (R109, R110) -/

/-- The count that a LOOP entry gives its frame (R109). -/
def Dev.loopCount (d : Dev) (n : Nat) (e : BitVec 128) : Word :=
  if eb e 123 123 = 0 then BitVec.ofNat 32 (eb e 31 0) else d.reg (addrOf (sqPage n) (0x70 + 4 * eb e 122 121))

theorem Executes.sqLoop_pushes (h : Executes d n 2 e) (hroom : ((d.reached n).sq n).frames.length < 8) :
    d.sqLoop n = ((d.reached n).setSq n { (d.reached n).sq n with
      frames := ⟨(d.reached n).loopCount n e, ((d.reached n).sq n).pc + 1, 0, true⟩ :: ((d.reached n).sq n).frames }).sqGo n
        (((d.reached n).sq n).pc + 1) := by
  unfold Dev.sqLoop
  rw [h.run rfl]
  exact if_neg (Nat.not_le.mpr hroom)

theorem Executes.sqLoop_faults (h : Executes d n 2 e) (hfull : 8 ≤ ((d.reached n).sq n).frames.length) :
    d.sqLoop n = (d.reached n).sqFault n 2 ((d.reached n).sq n).pc := by
  unfold Dev.sqLoop
  rw [h.run rfl]
  exact if_pos hfull

section
variable {f : LoopFrame} (r : List LoopFrame)

theorem endloop_last (h : f.left = 1) : endloop f r = (none, r) := by
  unfold endloop
  rw [h]
  rfl

theorem endloop_endless (h : f.left = 0) : endloop f r = (some f.start, { f with seen := 0, fresh := true } :: r) := if_pos h

theorem endloop_again (h0 : f.left ≠ 0) (h1 : f.left ≠ 1) :
    endloop f r = (some f.start, { f with left := f.left - 1, seen := 0, fresh := true } :: r) :=
  (if_neg h0).trans (if_neg h1)

end

/-- The break condition of an ENDLOOP entry with frame `f` (R110). -/
def Dev.breaks (d : Dev) (n : Nat) (e : BitVec 128) (f : LoopFrame) : Bool :=
  eb e 123 122 == 1 && (if condLatch (eb e 120 112) then d.latchCond n (eb e 120 112) else f.seen.getLsbD (eb e 120 112))

theorem Executes.sqEndloop_eq (h : Executes d n 3 e) :
    d.sqEndloop n = match ((d.reached n).sq n).frames with
      | [] => (d.reached n).sqFault n 3 ((d.reached n).sq n).pc
      | f :: r =>
        if (d.reached n).breaks n e f then
          (((d.reached n).consume n (eb e 120 112)).setSq n { (d.reached n).sq n with frames := r }).sqGo n
            (((d.reached n).sq n).pc + 1)
        else ((d.reached n).setSq n { (d.reached n).sq n with frames := (endloop f r).2 }).sqGo n
          ((endloop f r).1.getD (((d.reached n).sq n).pc + 1)) := by
  unfold Dev.sqEndloop
  rw [h.run rfl]
  rfl

/-! ## Latches (R107) -/

theorem Dev.latch_setLatch (d : Dev) (n k j : Nat) (b : Bool) (hj : j < 4) :
    (d.setLatch n k b).latch n j = if j = k then b else d.latch n j := d.has_fbit _ _ _ _ _ (by decide) hj

theorem Dev.consume_true {c : Nat} (h : d.latchCond n c = true) : d.consume n c = d.setLatch n (c % 4) false := if_pos h

@[simp] theorem Dev.sq_consume (d : Dev) (n c m : Nat) : (d.consume n c).sq m = d.sq m := by
  unfold Dev.consume
  split <;> rfl

/-! ## Jumps (R111, R114) -/

@[simp] theorem Dev.sq_sqForget (d : Dev) (n : Nat) : (d.sqForget n).sq n =
    { d.sq n with stream := [], wanted := [], dropped := (d.sq n).dropped ++ (d.sq n).wanted } := Dev.setSq_sq _ _ _

/-- A taken jump whose depth the stack has. -/
theorem Dev.goesOn_sqJump (d : Dev) (n target depth at_ : Nat) (ht : target < 2048) (h8 : depth ≤ 8)
    (hd : depth ≤ (d.sq n).frames.length) :
    GoesOn n target { d.sq n with frames := (d.sq n).frames.drop ((d.sq n).frames.length - depth) } d
      (d.sqJump n target depth at_) := by
  unfold Dev.sqJump
  rw [if_neg (by omega), if_neg (by omega)]
  exact d.goesOn_setSq n target _ (.inl ht)

theorem Executes.sqTest_always (h : Executes d n 4 e) (hop : eb e 123 122 = 0) (hk : eb e 116 115 = 0) :
    d.sqTest n = (d.reached n).sqJump n (eb e 105 95) (eb e 94 91) ((d.reached n).sq n).pc := by
  unfold Dev.sqTest
  rw [h.run (by rw [hop]; rfl)]
  simp only [hk]
  rfl

theorem Executes.sqTest_taken (h : Executes d n 4 e) (hop : eb e 123 122 = 0) (hk : eb e 116 115 = 1)
    (hc : (d.reached n).latchCond n (eb e 114 106) = true) :
    d.sqTest n = (((d.reached n).consume n (eb e 114 106)).sqForget n).sqJump n (eb e 105 95) (eb e 94 91)
      ((d.reached n).sq n).pc := by
  unfold Dev.sqTest
  rw [h.run (by rw [hop]; rfl)]
  simp only [hk]
  exact if_pos hc

theorem Executes.sqTest_passed (h : Executes d n 4 e) (hop : eb e 123 122 = 0) (hk : eb e 116 115 = 1)
    (hc : (d.reached n).latchCond n (eb e 114 106) = false) :
    d.sqTest n = (d.reached n).sqGo n (((d.reached n).sq n).pc + 1) := by
  unfold Dev.sqTest
  rw [h.run (by rw [hop]; rfl)]
  simp only [hk]
  exact if_neg (by rw [show (d.playOn n).sqEnter n = d.reached n from rfl, hc]; decide)

end

end Sys2Proof.Machine

namespace Sys2Proof.Safety

open Sys2Proof.Machine

theorem exec_loop (sq : Fin 20) (s : State) : exec (.loop sq) s = onLive s fun d => d.sqLoop sq.val := rfl
theorem exec_endloop (sq : Fin 20) (s : State) : exec (.endloop sq) s = onLive s fun d => d.sqEndloop sq.val := rfl
theorem exec_jumpTest (sq : Fin 20) (s : State) : exec (.jumpTest sq) s = onLive s fun d => d.sqTest sq.val := rfl

/-- Settles O33: each entry sets the stack and goes on, repeats or jumps, or faults, at its commit point. -/
theorem loopsAndJumps : Obligations.LoopsAndJumps := by
  intro s sq e d n b c q cond hserv hplay hstate hpc
  have hx {op : Nat} (hat : d.sqAt n op = some e) : Executes d n op e := ⟨hat, hplay, hstate⟩
  have hnext : q.pc + 1 < 2048 := by omega
  refine ⟨fun hat hroom => ?_, fun hat hfull => ?_, fun hat hnil => ?_, fun f r hat hcons hstart hno => ?_,
    fun f r hat hcons hop hbrk => ?_, fun hat hop hcond h8 hdepth => ?_, fun hat hop hk hc => ?_⟩
  · have hg := c.goesOn_setSq n (q.pc + 1) { q with frames := ⟨c.loopCount n e, q.pc + 1, 0, true⟩ :: q.frames } (.inl hnext)
    exact ⟨_, gives_onLive (exec_loop sq s) hserv ((hx hat).sqLoop_pushes hroom), hg.pc, hg.frames⟩
  · exact gives_onLive (exec_loop sq s) hserv ((hx hat).sqLoop_faults hfull)
  · refine gives_onLive (exec_endloop sq s) hserv ((hx hat).sqEndloop_eq.trans ?_)
    rw [show ((d.reached n).sq n).frames = [] from hnil]
    rfl
  · have hbrk : (d.reached n).breaks n e f = false := by
      unfold Dev.breaks
      rw [beq_false_of_ne hno, Bool.false_and]
    have he : d.sqEndloop n = (c.setSq n { q with frames := (endloop f r).2 }).sqGo n ((endloop f r).1.getD (q.pc + 1)) := by
      refine (hx hat).sqEndloop_eq.trans ?_
      rw [show ((d.reached n).sq n).frames = f :: r from hcons]
      exact if_neg (by rw [hbrk]; decide)
    have hto : (endloop f r).1.getD (q.pc + 1) < 2048 := by
      unfold endloop
      split_ifs <;> assumption
    have hg := c.goesOn_setSq n _ { q with frames := (endloop f r).2 } (.inl hto)
    refine ⟨_, gives_onLive (exec_endloop sq s) hserv he, fun h1 => ?_, fun h0 => ?_, fun h0 h1 => ?_⟩
    · rw [hg.pc, hg.frames, endloop_last r h1]
      exact ⟨rfl, rfl⟩
    · rw [hg.pc, hg.frames, endloop_endless r h0]
      exact ⟨rfl, rfl⟩
    · rw [hg.pc, hg.frames, endloop_again r h0 h1]
      exact ⟨rfl, rfl⟩
  · have hbrk : (d.reached n).breaks n e f = true := by
      unfold Dev.breaks
      rw [hop]
      exact hbrk
    have he : d.sqEndloop n = ((c.consume n (eb e 120 112)).setSq n { q with frames := r }).sqGo n (q.pc + 1) := by
      refine (hx hat).sqEndloop_eq.trans ?_
      rw [show ((d.reached n).sq n).frames = f :: r from hcons]
      exact if_pos hbrk
    have hg := (c.consume n (eb e 120 112)).goesOn_setSq n (q.pc + 1) { q with frames := r } (.inl hnext)
    exact ⟨_, gives_onLive (exec_endloop sq s) hserv he, hg.pc, hg.frames⟩
  · have ht : eb e 105 95 < 2048 := eb_lt e 105 95
    rcases hcond with hk | ⟨hk, hc⟩
    · have hg := c.goesOn_sqJump n (eb e 105 95) (eb e 94 91) q.pc ht h8 hdepth
      exact ⟨_, gives_onLive (exec_jumpTest sq s) hserv ((hx hat).sqTest_always hop hk), hg.pc, hg.frames,
        fun h1 => absurd (hk.symm.trans h1) (by decide)⟩
    · have hsq : ((c.consume n cond).sqForget n).sq n =
          { q with stream := [], wanted := [], dropped := q.dropped ++ q.wanted } := by rw [Dev.sq_sqForget, Dev.sq_consume]
      have hg := ((c.consume n cond).sqForget n).goesOn_sqJump n (eb e 105 95) (eb e 94 91) q.pc ht h8 (by rw [hsq]; exact hdepth)
      rw [hsq] at hg
      refine ⟨_, gives_onLive (exec_jumpTest sq s) hserv ((hx hat).sqTest_taken hop hk hc), hg.pc, hg.frames, fun _ => ?_⟩
      refine (hg.regs.has _ (cond % 4) F.SQ_LATCH_latch (not_mem_sqShown n _ _ (by decide) (.inr (by decide)))).trans ?_
      change (c.consume n cond).latch n (cond % 4) = false
      rw [Dev.consume_true hc, Dev.latch_setLatch _ _ _ _ _ (Nat.mod_lt _ (by decide)), if_pos rfl]
  · have hg := c.goesOn n (q.pc + 1) (.inl hnext)
    exact ⟨_, gives_onLive (exec_jumpTest sq s) hserv ((hx hat).sqTest_passed hop hk hc), hg.pc, hg.frames⟩

end Sys2Proof.Safety
end

section
/-! SUPPORT. Watches: arming, firing, landing. -/
namespace Sys2Proof.Machine

open Sys2Proof.Safety

section
variable {d : Dev} {n : Nat} {e : BitVec 128}

/-! ## Arming (R112, R113) -/

/-- The watch that a JUMP ARM entry arms. -/
def watchOf (e : BitVec 128) : Watch := ⟨eb e 119 118, eb e 117 117 == 1, eb e 114 106, eb e 105 95, eb e 94 91⟩

theorem Executes.sqArm_sets (h : Executes d n 4 e) (hop : eb e 123 122 = 1) :
    d.sqArm n = ((d.reached n).setSq n { (d.reached n).sq n with
      watches := setWatch ((d.reached n).sq n).watches (eb e 121 120) (some (watchOf e)) }).sqGo n
        (((d.reached n).sq n).pc + 1) := by
  unfold Dev.sqArm
  rw [h.run (by rw [hop]; rfl)]
  rfl

theorem Executes.sqDisarmSlot_clears (h : Executes d n 4 e) (hop : eb e 123 122 = 2) :
    d.sqDisarmSlot n = ((d.reached n).setSq n { (d.reached n).sq n with
      watches := setWatch ((d.reached n).sq n).watches (eb e 121 120) none }).sqGo n (((d.reached n).sq n).pc + 1) := by
  unfold Dev.sqDisarmSlot
  rw [h.run (by rw [hop]; rfl)]
  rfl

/-! ## Deliveries -/

/-- A delivery that has come is taken. -/
theorem Dev.take_delivered (d : Dev) (t : Task) (h : d.mw.inbox.contains t = true) :
    d.take (fun x => x == t) = some (t, { d with mw := { d.mw with inbox := d.mw.inbox.erase t } }) := by
  unfold Dev.take
  cases hf : d.mw.inbox.find? (fun x => x == t) with
  | none => exact absurd (List.contains_iff_mem.mp h) fun hm => by simpa using List.find?_eq_none.mp hf t hm
  | some x =>
    have hx : x = t := by simpa using List.find?_some hf
    subst hx
    rfl

theorem Dev.mw_modSq (d : Dev) (n : Nat) (f : Sq → Sq) : (d.modSq n f).mw = d.mw := by
  obtain ⟨r, u, h⟩ := (d.setSq n (f (d.sq n))).onlyRegs_showSq n
  unfold Dev.modSq
  rw [h]
  rfl

theorem Dev.watchTake_free {k : Nat} {v : Watch} {sooner : Bool} (h : (d.sq n).landing = none) :
    d.watchTake n k v sooner = d.modSq n fun s => { s with watches := setWatch s.watches k none, landing := some (k, v) } := by
  unfold Dev.watchTake
  simp only [h]

/-- An armed watch whose event has come fires (R112). -/
theorem Dev.watchFire_delivered {k : Nat} {v : Watch} {sooner : Bool} (h : d.mw.inbox.contains (.watch n k) = true)
    (harmed : (d.sq n).watches.find? (fun y => y.1 == k) = some (k, v)) :
    d.watchFire n k sooner =
      Dev.watchTake { d with mw := { d.mw with inbox := d.mw.inbox.erase (.watch n k) } } n k v sooner := by
  unfold Dev.watchFire
  rw [d.take_delivered _ h, harmed]
  rfl

/-! ## Landings (R112 to R114) -/

/-- The lane begins to leave electrical idle where it had been idled. -/
def Dev.driveIf (d : Dev) (idled : Bool) (n : Nat) : Dev := if idled then d.sqLaneDrive n else d

theorem Dev.driveIf_cases (d : Dev) (idled : Bool) (n : Nat) : d.driveIf idled n = d ∨ ∃ t, d.driveIf idled n = d.setTx n t := by
  unfold Dev.driveIf Dev.sqLaneDrive Dev.txDrive
  split_ifs
  · exact .inr ⟨_, rfl⟩
  all_goals exact .inl rfl

@[simp] theorem Dev.sq_driveIf (d : Dev) (idled : Bool) (n m : Nat) : (d.driveIf idled n).sq m = d.sq m := by
  rcases d.driveIf_cases idled n with h | ⟨t, h⟩ <;> rw [h]
  rfl

theorem Dev.same_driveIf (d : Dev) (idled : Bool) (n : Nat) : SameRegs [] d (d.driveIf idled n) := by
  rcases d.driveIf_cases idled n with h | ⟨t, h⟩ <;> rw [h] <;> exact fun _ _ => rfl

/-- The record of a sequencer whose watch `w` of slot `k` lands: the play, the wait and the landing are over, and a keep watch is armed
again. -/
def landed (s : Sq) (k : Nat) (w : Watch) : Sq :=
  { s with
    landing := none, wait := none, play := none, hold := false
    watches := if w.keep then setWatch s.watches k (some w) else s.watches }

/-- A landing up to its jump: the record, state RUNNING, the lane's way out of electrical idle, and the departure time. -/
def Dev.lands (d : Dev) (n k : Nat) (w : Watch) (ts : Stamp) : Dev :=
  let idled := match (d.sq n).wait with | some x => eb x.entry 121 120 == 2 | none => false
  let c := (((d.modSq n (landed · k w)).setSqState n 3).sqForget n).driveIf idled n
  (c.wrPair (sqPage n) F.SQ_LAND_TS_LO F.SQ_LAND_TS_HI ts).raiseIf (sqPage n) F.SQ_EVOUT_land_en F.SQ_EVOUT_land_ev

theorem Dev.watchLand_lands {k : Nat} {w : Watch} {l : Landing} (h : (d.sq n).landing = some (k, w))
    (hrun : (d.landCut n w.at_ l.words).sqState n ≠ 6)
    (hcut : w.at_ ≠ 2 ∨ ((d.landCut n w.at_ l.words).sq n).play = none) :
    d.watchLand n l = ((d.landCut n w.at_ l.words).lands n k w l.ts).sqJump n w.target w.sdepth
      (((d.landCut n w.at_ l.words).lands n k w l.ts).rd (sqPage n) F.SQ_STAT_pc) := by
  unfold Dev.watchLand
  rw [h]
  refine if_neg ?_
  rcases hcut with hat | hplay
  · simp [hrun, hat]
  · simp [hrun, hplay]

/-- The two halves of a pair of registers make up its value. -/
theorem Dev.rd_wrPair (d : Dev) (p : Nat) (lo hi : Field) (v : BitVec 64) (hlo : lo.lo = 0 ∧ lo.w = 32)
    (hhi : hi.lo = 0 ∧ hi.w = 32) (hne : lo.off ≠ hi.off) :
    (d.wrPair p lo hi v).rd p lo + 2 ^ 32 * (d.wrPair p lo hi v).rd p hi = v.toNat := by
  obtain ⟨h1, h2⟩ := hlo
  obtain ⟨h3, h4⟩ := hhi
  have hv := v.isLt
  unfold Dev.wrPair
  rw [Dev.rd_wr_off _ _ _ _ _ hne, Dev.rd_wr_fit _ _ _ _ (by omega) (by rw [h2]; omega),
    Dev.rd_wr_fit _ _ _ _ (by omega) (by rw [h4]; omega)]
  omega

section
variable (g : Dev) (n k : Nat) (w : Watch) (ts : Stamp)

theorem Dev.sq_lands : (g.lands n k w ts).sq n = { landed (g.sq n) k w with
    stream := [], wanted := [], dropped := (g.sq n).dropped ++ (g.sq n).wanted } := by
  unfold Dev.lands Dev.wrPair
  simp only [Dev.sq_raiseIf, Dev.sq_wr, Dev.sq_driveIf, Dev.sq_sqForget, Dev.sq_setSqState, Dev.sq_modSq]
  rfl

theorem Dev.sqState_lands : (g.lands n k w ts).sqState n = 3 := by
  unfold Dev.lands Dev.wrPair
  refine ((Dev.same_raiseIf _ _ _ _).rd _ F.SQ_STAT_state List.not_mem_nil).trans ?_
  rw [Dev.rd_wr_off _ _ _ _ _ (by decide), Dev.rd_wr_off _ _ _ _ _ (by decide)]
  exact ((Dev.same_driveIf _ _ n).rd _ F.SQ_STAT_state List.not_mem_nil).trans (Dev.sqState_setSqState _ n 3 (by decide))

theorem Dev.ts_lands : (g.lands n k w ts).rd (sqPage n) F.SQ_LAND_TS_LO +
    2 ^ 32 * (g.lands n k w ts).rd (sqPage n) F.SQ_LAND_TS_HI = ts.toNat := by
  unfold Dev.lands
  rw [(Dev.same_raiseIf _ _ _ _).rd _ F.SQ_LAND_TS_LO List.not_mem_nil,
    (Dev.same_raiseIf _ _ _ _).rd _ F.SQ_LAND_TS_HI List.not_mem_nil]
  exact Dev.rd_wrPair _ _ _ _ _ (by decide) (by decide) (by decide)

end

/-- A latch event that has come is taken (R107). -/
theorem Dev.latchSet_delivered {k : Nat} (h : d.mw.inbox.contains (.latch n k) = true) :
    d.latchSet n k = Dev.setLatch { d with mw := { d.mw with inbox := d.mw.inbox.erase (.latch n k) } } n k true := by
  unfold Dev.latchSet
  rw [d.take_delivered _ h]

end

end Sys2Proof.Machine

namespace Sys2Proof.Safety

open Sys2Proof.Machine

theorem exec_jumpArm (sq : Fin 20) (s : State) : exec (.jumpArm sq) s = onLive s fun d => d.sqArm sq.val := rfl
theorem exec_jumpDisarm (sq : Fin 20) (s : State) : exec (.jumpDisarm sq) s = onLive s fun d => d.sqDisarmSlot sq.val := rfl
theorem exec_watchFire (sq : Fin 20) (k : Fin 4) (sooner : Bool) (s : State) :
    exec (.watchFire sq k sooner) s = onLive s fun d => d.watchFire sq.val k.val sooner := rfl
theorem exec_watchLand (sq : Fin 20) (l : Landing) (s : State) :
    exec (.watchLand sq l) s = onLive s fun d => d.watchLand sq.val l := rfl
theorem exec_latchSet (sq : Fin 20) (k : Fin 4) (s : State) :
    exec (.latchSet sq k) s = onLive s fun d => d.latchSet sq.val k.val := rfl

/-- Settles O34: a watch moves from its slot to the landing, and a landing ends in a jump from the record that it leaves. -/
theorem watchesFire : Obligations.WatchesFire := by
  intro s sq slot sooner l e v d n b q g hserv
  refine ⟨fun hat hop hplay hstate hpc => ?_, fun hat hop hplay hstate hpc => ?_, fun hin hfree harmed => ?_,
    fun hland hrun hcut ht h8 hdepth => ?_, fun hin => ?_⟩
  · have hx : Executes d n 4 e := ⟨hat, hplay, hstate⟩
    have hg := (d.reached n).goesOn_setSq n (q.pc + 1)
      { q with watches := setWatch q.watches (eb e 121 120) (some (watchOf e)) } (.inl (by omega))
    exact ⟨_, gives_onLive (exec_jumpArm sq s) hserv (hx.sqArm_sets hop), hg.pc, hg.watches⟩
  · have hx : Executes d n 4 e := ⟨hat, hplay, hstate⟩
    have hg := (d.reached n).goesOn_setSq n (q.pc + 1) { q with watches := setWatch q.watches (eb e 121 120) none }
      (.inl (by omega))
    exact ⟨_, gives_onLive (exec_jumpDisarm sq s) hserv (hx.sqDisarmSlot_clears hop), hg.pc, hg.watches⟩
  · have he := (Dev.watchFire_delivered (sooner := sooner) hin harmed).trans (Dev.watchTake_free (by exact hfree))
    exact ⟨_, gives_onLive (exec_watchFire sq slot sooner s) hserv he, congrArg Sq.landing (Dev.sq_modSq _ n _),
      congrArg Sq.watches (Dev.sq_modSq _ n _), congrArg Midway.inbox (Dev.mw_modSq _ n _)⟩
  · have hsq := g.sq_lands n slot.val v l.ts
    have hg := (g.lands n slot.val v l.ts).goesOn_sqJump n v.target v.sdepth
      ((g.lands n slot.val v l.ts).rd (sqPage n) F.SQ_STAT_pc) ht h8 (by rw [hsq]; exact hdepth)
    rw [hsq] at hg
    refine ⟨_, gives_onLive (exec_watchLand sq l s) hserv (Dev.watchLand_lands hland hrun hcut), hg.landing, hg.wait, hg.play,
      hg.pc, hg.frames, hg.state.trans (g.sqState_lands n slot.val v l.ts), ?_, hg.watches⟩
    rw [hg.regs.rd _ F.SQ_LAND_TS_LO (not_mem_sqShown n _ _ (by decide) (.inr (by decide))),
      hg.regs.rd _ F.SQ_LAND_TS_HI (not_mem_sqShown n _ _ (by decide) (.inr (by decide)))]
    exact g.ts_lands n slot.val v l.ts
  · refine ⟨_, gives_onLive (exec_latchSet sq slot s) hserv (Dev.latchSet_delivered hin), ?_, Dev.same_fbit _ _ _ _ _, rfl⟩
    rw [Dev.latch_setLatch _ _ _ _ _ slot.isLt, if_pos rfl]

end Sys2Proof.Safety
end

section
/-! SUPPORT. Waits, marks and halts. -/
namespace Sys2Proof.Machine

open Sys2Proof.Safety

/-! ## WAIT (R116 to R118) -/

/-- A sequencer waits at `pc` with the entry `e`. -/
structure Waits (n : Nat) (e : BitVec 128) (pc : Nat) (d : Dev) : Prop where
  wait : (d.sq n).wait = some ⟨e, false, 0⟩
  state : d.sqState n = 4
  pc : (d.sq n).pc = pc

section
variable {d : Dev} {n pc : Nat} {e : BitVec 128}

theorem Waits.ite {c : Dev} {p : Prop} [Decidable p] (h : Waits n e pc c) (k : Waits n e pc d) :
    Waits n e pc (if p then c else d) := by
  split
  · exact h
  · exact k

theorem Waits.blockStart (h : Waits n e pc d) : Waits n e pc (d.blockStart n) := ⟨h.wait, h.state, h.pc⟩

theorem Waits.sqAhead (h : Waits n e pc d) : Waits n e pc (d.sqAhead n) := by
  obtain ⟨st, wa, dr, ha⟩ := d.sqAhead_eq n
  rw [ha]
  exact ⟨by rw [Dev.setSq_sq]; exact h.wait, h.state, by rw [Dev.setSq_sq]; exact h.pc⟩

theorem Waits.txIdle (h : Waits n e pc d) : Waits n e pc (d.txIdle n) := by
  have hsq := Dev.sq_congr (d.sqs_txIdle n) n
  refine ⟨by rw [hsq]; exact h.wait, Eq.trans (congrArg F.SQ_STAT_state.get (d.reg_txIdle n _ fun c => ?_)) h.state,
    by rw [hsq]; exact h.pc⟩
  have := ((addrOf_inj _ _ _ _ (by decide) (by decide)).mp c).1
  unfold sqPage at this
  omega

theorem Executes.sqWait_waits (h : Executes d n 5 e) (hop : eb e 123 122 = 0) :
    Waits n e ((d.reached n).sq n).pc (d.sqWait n) := by
  have hset (t : Sq) (ht : t.wait = some ⟨e, false, 0⟩ ∧ t.pc = ((d.reached n).sq n).pc) :
      Waits n e ((d.reached n).sq n).pc (((d.reached n).setSq n t).setSqState n 4) :=
    ⟨by rw [Dev.sq_setSqState, Dev.setSq_sq, ht.1], Dev.sqState_setSqState _ n 4 (by decide),
      by rw [Dev.sq_setSqState, Dev.setSq_sq, ht.2]⟩
  unfold Dev.sqWait
  rw [h.run rfl]
  simp only [hop, show decide ((0 : Nat) = 1) = false from rfl, Bool.false_and, Bool.false_eq_true, if_false]
  exact .ite (.txIdle <| .sqAhead <| .ite (.blockStart <| hset _ ⟨rfl, rfl⟩) (hset _ ⟨rfl, rfl⟩))
    (.sqAhead <| .ite (.blockStart <| hset _ ⟨rfl, rfl⟩) (hset _ ⟨rfl, rfl⟩))

/-- A WAIT that may end goes on at `pc`, RUNNING, whatever its end consumes. -/
theorem Dev.waitOver_goesOn (f : Dev → Dev) (hover : (d.repeatEnd n).repeatOver n = true) (hpc : pc < 2048) :
    ∃ t c, t.wait = none ∧ c.sqState n = 3 ∧ GoesOn n pc t c (d.waitOver n pc f) := by
  have heq : ∃ idled, d.waitOver n pc f = (((((f (d.repeatEnd n)).setSq n
      { (f (d.repeatEnd n)).sq n with wait := none, play := none }).setSqState n 3).driveIf idled n).sqGo n pc) := by
    unfold Dev.waitOver
    simp only [hover, Bool.not_true, Bool.false_eq_true, if_false]
    exact ⟨_, rfl⟩
  obtain ⟨idled, heq⟩ := heq
  refine ⟨_, _, ?_, ?_, heq ▸ Dev.goesOn _ n pc (.inl hpc)⟩
  · rw [Dev.sq_driveIf, Dev.sq_setSqState, Dev.setSq_sq]
  · exact ((Dev.same_driveIf _ _ n).rd _ F.SQ_STAT_state List.not_mem_nil).trans (Dev.sqState_setSqState _ n 3 (by decide))

/-- The same, as a command leaves it. -/
theorem Dev.waitOver_ends {x : Dev} (f : Dev → Dev) (hx : x = d.waitOver n pc f) (hover : (d.repeatEnd n).repeatOver n = true)
    (hpc : pc < 2048) : (x.sq n).wait = none ∧ x.sqState n = 3 ∧ (x.sq n).pc = pc := by
  obtain ⟨t, c, ht, hc, hg⟩ := d.waitOver_goesOn f hover hpc
  rw [hx]
  exact ⟨hg.wait.trans ht, hg.state.trans hc, hg.pc⟩

section
variable {w : WaitRec} (hw : (d.sq n).wait = some w) (hl : (d.sq n).landing = none)
include hw hl

theorem Dev.waitReach_event (hop : eb w.entry 123 122 = 0) (h : w.arrived = true) :
    d.waitReach n = d.waitOver n ((d.sq n).pc + 1) id := by
  unfold Dev.waitReach Dev.waitEnd
  simp only [hw, hl, hop, h, if_true, if_neg (show ¬(0 : Nat) = 1 by decide)]

/-- A time that is reached brings no time along. -/
theorem Dev.waitReach_time (hop : eb w.entry 123 122 = 1) (h : eb w.entry 95 48 ≤ d.count.toNat) :
    d.waitReach n = d.waitOver n ((d.sq n).pc + 1) id := by
  have hreach : d.reachTime (eb w.entry 95 48) = d := by
    unfold Dev.reachTime
    rw [decide_eq_false (by omega), Bool.and_false]
    rfl
  unfold Dev.waitReach Dev.waitEnd
  simp only [hw, hop, hreach, hl, h, if_true]

theorem Dev.waitReach_words (hop : eb w.entry 123 122 = 2) :
    d.waitReach n = (d.waitWords n (eb w.entry 79 48)).waitOver n ((d.sq n).pc + 1) id := by
  unfold Dev.waitReach Dev.waitEnd
  simp only [hw, hl, hop, if_neg (show ¬(2 : Nat) = 1 by decide)]

theorem Dev.waitTimeout_over (hop : eb w.entry 123 122 = 0) (hto : eb w.entry 119 119 = 1) (ha : w.arrived = false)
    (hlatch : d.latchCond n (eb w.entry 118 110) = false) :
    d.waitTimeout n = (d.waitWords n (eb w.entry 79 48)).waitOver n (eb w.entry 109 99) (·.sqForget n) := by
  unfold Dev.waitTimeout
  simp only [hw, hl, hop, hto, ha, hlatch, BEq.rfl, Bool.not_false, Bool.and_self, if_true]

end

/-! ## MARK (R119 to R121) -/

/-- The mark that an entry asks for. -/
def markOf (e : BitVec 128) : MarkRec :=
  ⟨eb e 123 123 == 1, eb e 122 120, eb e 119 119 == 1, eb e 118 111, eb e 110 110 == 1, eb e 109 102, eb e 101 70, none, false⟩

theorem Executes.sqMark_adds (h : Executes d n 6 e) (hroom : ((d.reached n).sq n).marks.length < 4) :
    d.sqMark n = ((d.reached n).setSq n { (d.reached n).sq n with marks := ((d.reached n).sq n).marks ++ [markOf e] }).sqGo n
      (((d.reached n).sq n).pc + 1) := by
  unfold Dev.sqMark
  rw [h.run rfl]
  exact if_neg (Nat.not_le.mpr hroom)

theorem Executes.sqMark_faults (h : Executes d n 6 e) (hfull : 4 ≤ ((d.reached n).sq n).marks.length) :
    d.sqMark n = (d.reached n).sqFault n 12 ((d.reached n).sq n).pc := by
  unfold Dev.sqMark
  rw [h.run rfl]
  exact if_pos hfull

/-- The device as the play has gone on until a mark's word is committed. -/
def Dev.playedTo (d : Dev) (n i : Nat) : Dev := match (d.sq n).play with | some p => d.markOn n i p.left | none => d

/-- A mark whose word is committed departs: it leaves the list, as a pulse and as a time where it asks for them. -/
theorem Dev.markEmit_departs {i : Nat} {m : MarkRec} (ts : Stamp) (hm : ((d.playedTo n i).sq n).marks[i]? = some m)
    (hout : m.out = true) :
    ((d.markEmit n i ts).sq n).marks = ((d.playedTo n i).sq n).marks.eraseIdx i ∧
      (d.markEmit n i ts).sent = (if m.pinEn then .markPulse m.pin ts m.width :: (d.playedTo n i).sent else (d.playedTo n i).sent) ∧
      (m.stamp = true → (d.markEmit n i ts).rd (sqPage n) F.SQ_MARK_TS_LO +
        2 ^ 32 * (d.markEmit n i ts).rd (sqPage n) F.SQ_MARK_TS_HI = ts.toNat) := by
  have heq : d.markEmit n i ts =
      (let c := (d.playedTo n i).setSq n { (d.playedTo n i).sq n with marks := ((d.playedTo n i).sq n).marks.eraseIdx i }
       let c := if m.pinEn then c.emit (.markPulse m.pin ts m.width) else c
       if m.stamp then c.wrPair (sqPage n) F.SQ_MARK_TS_LO F.SQ_MARK_TS_HI ts else c) := by
    unfold Dev.markEmit
    change (match ((d.playedTo n i).sq n).marks[i]? with | none => d.playedTo n i | some m => _) = _
    rw [hm]
    exact if_pos hout
  have hsq (c : Dev) (t : Sq) : (c.setSq n t).sq n = t := Dev.setSq_sq c n t
  rw [heq]
  simp only
  refine ⟨?_, ?_, fun hs => ?_⟩
  · split_ifs <;> exact congrArg Sq.marks (hsq _ _)
  · split_ifs <;> rfl
  · rw [if_pos hs]
    exact Dev.rd_wrPair _ _ _ _ _ (by decide) (by decide) (by decide)

/-! ## HALT (R127) -/

theorem Executes.sqHaltEntry_halts (h : Executes d n 0 e) : d.sqHaltEntry n = (d.reached n).sqHalt n (eb e 123 123 == 1) := by
  unfold Dev.sqHaltEntry
  rw [h.run rfl]
  rfl

end

end Sys2Proof.Machine

namespace Sys2Proof.Safety

open Sys2Proof.Machine

theorem exec_wait (sq : Fin 20) (s : State) : exec (.wait sq) s = onLive s fun d => d.sqWait sq.val := rfl
theorem exec_waitEnd (sq : Fin 20) (s : State) : exec (.waitEnd sq) s = onLive s fun d => d.waitReach sq.val := rfl
theorem exec_waitTimeout (sq : Fin 20) (s : State) : exec (.waitTimeout sq) s = onLive s fun d => d.waitTimeout sq.val := rfl
theorem exec_mark (sq : Fin 20) (s : State) : exec (.mark sq) s = onLive s fun d => d.sqMark sq.val := rfl
theorem exec_markEmit (sq : Fin 20) (i : Fin 4) (ts : Stamp) (s : State) :
    exec (.markEmit sq i ts) s = onLive s fun d => d.markEmit sq.val i.val ts := rfl
theorem exec_halt (sq : Fin 20) (s : State) : exec (.halt sq) s = onLive s fun d => d.sqHaltEntry sq.val := rfl

/-- Settles O35: a WAIT's ends differ only in what lets it end and where it goes on; marks and HALT act at their commit point. -/
theorem waitsMarksHalts : Obligations.WaitsMarksHalts := by
  intro s sq i ts e w m d n b c q y z hserv hpcd hpcq
  have hx {op : Nat} (hat : d.sqAt n op = some e) (hplay : (b.sq n).play = none) (hstate : b.sqState n = 3) :
      Executes d n op e := ⟨hat, hplay, hstate⟩
  have hnext : (d.sq n).pc + 1 < 2048 := by omega
  refine ⟨fun hat hop hplay hstate => ?_, fun hw hl hop ha hover => ?_, fun hw hl hop ht hover => ?_, fun hw hl hop hover => ?_,
    fun hw hl hop hto ha hlatch hover => ?_, fun hat hplay hstate hroom => ?_, fun hat hplay hstate hfull => ?_,
    fun hm hout => ?_, fun hat hplay hstate => ?_⟩
  · have hwaits := (hx hat hplay hstate).sqWait_waits hop
    exact ⟨_, gives_onLive (exec_wait sq s) hserv rfl, hwaits.wait, hwaits.state, hwaits.pc⟩
  · exact ⟨_, gives_onLive (exec_waitEnd sq s) hserv rfl, Dev.waitOver_ends id (Dev.waitReach_event hw hl hop ha) hover hnext⟩
  · exact ⟨_, gives_onLive (exec_waitEnd sq s) hserv rfl, Dev.waitOver_ends id (Dev.waitReach_time hw hl hop ht) hover hnext⟩
  · exact ⟨_, gives_onLive (exec_waitEnd sq s) hserv rfl, Dev.waitOver_ends id (Dev.waitReach_words hw hl hop) hover hnext⟩
  · exact ⟨_, gives_onLive (exec_waitTimeout sq s) hserv rfl,
      Dev.waitOver_ends _ (Dev.waitTimeout_over hw hl hop hto ha hlatch) hover (eb_lt w.entry 109 99)⟩
  · have hg := c.goesOn_setSq n (q.pc + 1) { q with marks := q.marks ++ [markOf e] } (.inl (by omega))
    exact ⟨_, gives_onLive (exec_mark sq s) hserv ((hx hat hplay hstate).sqMark_adds hroom), hg.pc, hg.marks⟩
  · exact gives_onLive (exec_mark sq s) hserv ((hx hat hplay hstate).sqMark_faults hfull)
  · exact ⟨_, gives_onLive (exec_markEmit sq i ts s) hserv rfl, Dev.markEmit_departs ts hm hout⟩
  · have hh := (d.reached n).sqHalt_halted n (eb e 123 123 == 1)
    exact ⟨_, gives_onLive (exec_halt sq s) hserv (hx hat hplay hstate).sqHaltEntry_halts, hh.state, hh.bit, hh.watches, hh.wait⟩

end Sys2Proof.Safety
end

section
/-! SUPPORT. Program memory and preparation: accesses of SQ_CTRL and SQ_PDATA3, and how a preparation ends. -/
namespace Sys2Proof.Machine

open Sys2Proof.Safety

/-! ## The two registers -/

section
variable (sq : Fin 20)

theorem fieldsAt_sqCtrl : fieldsAt (sqPage sq.val) 0x040 = some [F.SQ_CTRL_prepare, F.SQ_CTRL_halt_req] := by
  revert sq
  decide +kernel

theorem fieldsAt_pdata3 : fieldsAt (sqPage sq.val) 0x090 = some [F.SQ_PDATA] := by
  revert sq
  decide +kernel

theorem blkOf_sq : blkOf (sqPage sq.val) = some .sq := by
  revert sq
  decide

theorem sqPage_sub (n : Nat) : sqPage n - 0x40 = n := Nat.add_sub_cancel_left ..

/-- SQ_CTRL is made of commands and stores nothing. -/
theorem Dev.same_store_sqCtrl (d : Dev) (w : BusWrite) : SameRegs [] d (d.store (seen d (sqPage sq.val) 0x040 w)) := by
  refine d.same_store_wo _ _ w ?_
  unfold bitsWhere
  rw [fieldsAt_sqCtrl]
  simp only [List.foldl, show (F.SQ_CTRL_prepare.acc == .wo) = true from rfl, show (F.SQ_CTRL_halt_req.acc == .wo) = true from rfl,
    if_true]
  split_ifs <;> decide

theorem noKey_sqCtrl : bitsWhere (sqPage sq.val) 0x040 Field.ky = 0 := by
  unfold bitsWhere
  rw [fieldsAt_sqCtrl]
  rfl

theorem noKey_pdata3 : bitsWhere (sqPage sq.val) 0x090 Field.ky = 0 := (bitsWhere_one (fieldsAt_pdata3 sq) _).trans rfl

/-- What an accepted write of a sequencer's page does. -/
theorem Dev.blockEffect_sq (d : Dev) (off : Nat) (w : BusWrite) :
    Dev.blockEffect d (d.store (seen d (sqPage sq.val) off w)) (seen d (sqPage sq.val) off w) =
      Dev.sqEffect d (d.store (seen d (sqPage sq.val) off w)) (seen d (sqPage sq.val) off w) := by
  unfold Dev.blockEffect
  rw [show blkOf (seen d (sqPage sq.val) off w).p = some .sq from blkOf_sq sq]

section
variable {old d : Dev} {x : Wr}

theorem Dev.sqEffect_pdata3 (h : x.off = 0x090) : Dev.sqEffect old d x = d.storeEntry (x.p - 0x40) := by
  unfold Dev.sqEffect
  rw [h]
  rfl

theorem Dev.sqEffect_prepare (h : x.off = 0x040) (hen : d.on x.p F.PAGE_CTRL_enable = true)
    (hprep : x.cmd F.SQ_CTRL_prepare = 1) (hhalt : x.cmd F.SQ_CTRL_halt_req = 0) :
    Dev.sqEffect old d x = d.sqPrepareGo (x.p - 0x40) := by
  unfold Dev.sqEffect
  simp [h, hprep, hen, hhalt]

theorem Dev.sqEffect_haltReq (h : x.off = 0x040) (hprep : x.cmd F.SQ_CTRL_prepare = 0) (hhalt : x.cmd F.SQ_CTRL_halt_req = 1)
    (hstate : d.sqState (x.p - 0x40) = 3 ∨ d.sqState (x.p - 0x40) = 4) :
    Dev.sqEffect old d x = d.setSq (x.p - 0x40) { d.sq (x.p - 0x40) with haltReq := true } := by
  unfold Dev.sqEffect
  simp [h, hprep, hhalt, hstate]

end

/-- A served read of SQ_PDATA3 answers the word and moves SQ_PADDR on (R96). -/
theorem Dev.readAt_pdata3 {d : Dev} {r : BusRead} (h : readable d (sqPage sq.val) 0x090 r = true) :
    d.readAt (sqPage sq.val) 0x090 r = (d.wr (sqPage sq.val) F.SQ_PADDR_entry
      ((d.rd (sqPage sq.val) F.SQ_PADDR_entry + 1) % 2048)).answerRead r.m (d.readWord r.m (sqPage sq.val) 0x090) := by
  unfold readable at h
  simp only [Bool.and_eq_true, Bool.not_eq_true', bne_iff_ne] at h
  obtain ⟨⟨⟨⟨hheard, hstalls⟩, hbarred⟩, -⟩, hbe⟩ := h
  have hvote : d.vote (addrOf (sqPage sq.val) 0x090) = d := by
    unfold Dev.vote t3Fields
    rw [addrOf_page _ _ (by decide), addrOf_off _ _ (by decide), fieldsAt_pdata3]
    rfl
  have hword : addrOf (sqPage sq.val) 0x090 % 65536 / 4 * 4 = 0x090 := addrOf_word (by decide) (by decide)
  unfold Dev.readAt Dev.busRead Dev.readNow Dev.readWith
  simp only [hheard, hstalls, addrOf_page (sqPage sq.val) 0x090 (by decide), hword, hbarred, fieldsAt_pdata3, hbe, hvote,
    tsOf_hdr (sqPage sq.val) 0x090 (by decide), blkOf_sq, Bool.not_true, Bool.false_eq_true, if_false, Option.isNone_some, if_true,
    show (0x090 : Nat) < 0x1000 from by decide]

end

section
variable (d : Dev) (n : Nat)

/-! ## Entries (R95 to R97) -/

theorem Dev.entry_setEntry_same (i : Nat) (v : BitVec 128) (hi : i < 2048) : (d.setEntry n i v).entry n i = v := by
  unfold Dev.entry Dev.setEntry
  rw [if_neg (by omega)]
  exact tabGet_tabSet_same _ _ _ _

theorem Dev.entry_setEntry_other (i j : Nat) (v : BitVec 128) (h : j ≠ i) : (d.setEntry n i v).entry n j = d.entry n j := by
  unfold Dev.entry Dev.setEntry
  rw [tabGet_tabSet_other _ _ _ _ _ (by omega)]

theorem Dev.entry_congr {d e : Dev} (h : e.prog = d.prog) (n i : Nat) : e.entry n i = d.entry n i := by
  unfold Dev.entry
  rw [h]

theorem Dev.prog_sqRelease : (d.sqRelease n).prog = d.prog := by
  unfold Dev.sqRelease
  simp only
  split <;> rfl

/-- An entry that is stored stands at its index, and SQ_PADDR has moved on. -/
theorem Dev.storeEntry_shows :
    (d.storeEntry n).entry n (d.rd (sqPage n) F.SQ_PADDR_entry) =
        BitVec.ofNat 128 ((List.range 4).foldl (fun v k => v + 2 ^ (32 * k) * d.rd (sqPage n) (F.SQ_PDATA.at k)) 0) ∧
      (∀ i, i ≠ d.rd (sqPage n) F.SQ_PADDR_entry → (d.storeEntry n).entry n i = d.entry n i) ∧
      (d.storeEntry n).rd (sqPage n) F.SQ_PADDR_entry = (d.rd (sqPage n) F.SQ_PADDR_entry + 1) % 2048 := by
  have hprog (v : BitVec 128) (p k : Nat) (f : Field) (i : Nat) : (((d.setEntry n i v).sqRelease n).wr p f k).prog =
      (d.setEntry n i v).prog := Dev.prog_sqRelease _ n
  unfold Dev.storeEntry
  refine ⟨(Dev.entry_congr (hprog _ _ _ _ _) n _).trans (d.entry_setEntry_same n _ _ (d.rd_lt _ _)),
    fun i hi => (Dev.entry_congr (hprog _ _ _ _ _) n i).trans (d.entry_setEntry_other n _ i _ hi),
    Dev.rd_wr_fit _ _ _ _ (by decide) (Nat.mod_lt _ (by decide))⟩

/-! ## Preparation (R98) -/

theorem Dev.sq_sqRelease : (d.sqRelease n).sq n = { d.sq n with hot := [], prepared := false, prep := none } := by
  unfold Dev.sqRelease
  simp only
  split <;> exact Dev.setSq_sq d n _

/-- A preparation that begins: PREPARING, with no cause and no hot tile. -/
theorem Dev.sqPrepareGo_shows :
    (d.sqPrepareGo n).sqState n = 1 ∧ (d.sqPrepareGo n).rd (sqPage n) F.SQ_STAT_cause = 0 ∧
      (d.sqPrepareGo n).rd (sqPage n) F.SQ_FAULT_cause = 0 ∧ ((d.sqPrepareGo n).sq n).prep.isSome = true ∧
      ((d.sqPrepareGo n).sq n).hot = [] := by
  have hrecord (e : Dev) (p : Prep) : ((e.setSq n { e.sq n with prep := some p }).setSqState n 1).sq n =
      { e.sq n with prep := some p } := (Dev.sq_setSqState _ n 1 n).trans (Dev.setSq_sq e n _)
  have hcause (e : Dev) (t : Sq) : (((((e.wr (sqPage n) F.SQ_STAT_cause 0).wr (sqPage n) F.SQ_FAULT_cause 0).wr (sqPage n)
      F.SQ_FAULT_pc 0).setSq n t).setSqState n 1).rd (sqPage n) F.SQ_STAT_cause = 0 := by
    refine (Dev.rd_wr_apart _ _ _ _ _ (by decide) (by decide)).trans ?_
    rw [Dev.rd_setSq, Dev.rd_wr_off _ _ _ _ _ (by decide), Dev.rd_wr_off _ _ _ _ _ (by decide)]
    exact Dev.rd_wr_fit _ _ _ _ (by decide) (by decide)
  have hfault (e : Dev) (t : Sq) : ((((e.wr (sqPage n) F.SQ_FAULT_cause 0).wr (sqPage n) F.SQ_FAULT_pc 0).setSq n
      t).setSqState n 1).rd (sqPage n) F.SQ_FAULT_cause = 0 := by
    refine (Dev.rd_wr_off _ _ _ _ _ (by decide)).trans ?_
    rw [Dev.rd_setSq, Dev.rd_wr_apart _ _ _ _ _ (by decide) (by decide)]
    exact Dev.rd_wr_fit _ _ _ _ (by decide) (by decide)
  unfold Dev.sqPrepareGo
  refine ⟨Dev.sqState_setSqState _ n 1 (by decide), hcause _ _, hfault _ _, ?_, ?_⟩ <;> rw [hrecord]
  · rfl
  · exact congrArg Sq.hot (d.sq_sqRelease n)

/-- A preparation with nothing left to fetch ends READY. -/
theorem Dev.sqPrepared_ready {k : Nat} (hstate : d.sqState n = 1) (hprep : (d.sq n).prep = some ⟨none, [], k⟩) (hk : k ≤ 64) :
    (d.sqPrepared n).sqState n = 2 ∧ (d.sqPrepared n).rd (sqPage n) F.SQ_HOT_targets = k ∧
      (d.sqPrepared n).bit (sqPage n) 0x00C 22 = true ∧ (d.sqPrepared n).sq n = { d.sq n with prep := none, prepared := true } := by
  have hstat (e : Dev) (f : Field) (ho : f.off < 65536) (h : f.off ≠ 0x00C) :
      (e.stat (sqPage n) 22).rd (sqPage n) f = e.rd (sqPage n) f :=
    (e.same_stat _ 22).rd _ f (not_mem_statAddrs_sq n n _ ho h)
  unfold Dev.sqPrepared
  simp only [hstate, hprep, if_true]
  refine ⟨?_, ?_, Dev.stat_bit _ _ 22 (by decide), ?_⟩
  · refine (hstat _ _ (by decide) (by decide)).trans ?_
    rw [Dev.rd_wr_off _ _ _ _ _ (by decide), Dev.rd_wr_off _ _ _ _ _ (by decide)]
    exact Dev.sqState_setSqState _ n 2 (by decide)
  · refine (hstat _ _ (by decide) (by decide)).trans ?_
    rw [Dev.rd_wr_apart _ _ _ _ _ (by decide) (by decide)]
    exact Dev.rd_wr_fit _ _ _ _ (by decide) (Nat.lt_of_le_of_lt hk (by decide))
  · simp only [Dev.sq_stat, Dev.sq_wr, Dev.sq_setSqState, Dev.setSq_sq]

/-- A preparation with a failure ends in FAULT, at the entry that its cause names or a free one. -/
theorem Dev.sqPrepared_fails {c k : Nat} {i : Option Nat} {l : List Nat} (hstate : d.sqState n = 1)
    (hprep : (d.sq n).prep = some ⟨some (c, i), l, k⟩) (hc : c < 16) :
    ∃ j, (∀ m, i = some m → j = m) ∧ ShowsFault n c (j % 2048) (d.sqPrepared n) ∧ ((d.sqPrepared n).sq n).prep = none := by
  have hend (e : Dev) (j : Nat) : ShowsFault n c (j % 2048) ((e.setSq n { e.sq n with prep := none }).sqReport n c j) ∧
      (((e.setSq n { e.sq n with prep := none }).sqReport n c j).sq n).prep = none :=
    ⟨Dev.sqReport_shows _ n c j hc, by rw [Dev.sq_sqReport, Dev.setSq_sq]⟩
  unfold Dev.sqPrepared
  cases i with
  | none =>
    simp only [hstate, hprep, if_true]
    exact ⟨_, (fun m hm => nomatch hm), hend _ _⟩
  | some m =>
    simp only [hstate, hprep, if_true]
    exact ⟨m, (fun j hj => Option.some.inj hj), hend _ _⟩

end

end Sys2Proof.Machine

namespace Sys2Proof.Safety

open Sys2Proof.Machine

theorem exec_sqPrepare (sq : Fin 20) (w : BusWrite) (s : State) :
    exec (.sqPrepare sq w) s = onDev s fun d => d.writeAt (sqPage sq.val) 0x040 w := rfl
theorem exec_haltReq (sq : Fin 20) (w : BusWrite) (s : State) :
    exec (.haltReq sq w) s = onDev s fun d => d.writeAt (sqPage sq.val) 0x040 w := rfl
theorem exec_programEntryWrite (sq : Fin 20) (w : BusWrite) (s : State) :
    exec (.programEntryWrite sq w) s = onDev s fun d => d.writeAt (sqPage sq.val) 0x090 w := rfl
theorem exec_pdata3Read (sq : Fin 20) (r : BusRead) (s : State) :
    exec (.pdata3Read sq r) s = onDev s fun d => d.readAt (sqPage sq.val) 0x090 r := rfl
theorem exec_prepareDone (sq : Fin 20) (s : State) : exec (.prepareDone sq) s = onLive s fun d => d.sqPrepared sq.val := rfl

/-- Settles O31: SQ_PDATA3 stores and reads entries, SQ_CTRL stores nothing and commands, and a preparation ends by its record. -/
theorem programsLoad : Obligations.ProgramsLoad := by
  intro s sq w r d n p
  have hn (off : Nat) : (seen d p off w).p - 0x40 = n := sqPage_sub n
  refine ⟨fun ha => ?_, fun hr => ?_, fun ha hen hprep hhalt => ?_, fun ha hprep hhalt hstate => ?_, fun hserv hstate => ⟨fun k hk h64 => ?_,
    fun c i l k hf hc => ?_⟩⟩
  · intro c
    have hpaddr : c.rd p F.SQ_PADDR_entry = d.rd p F.SQ_PADDR_entry :=
      (d.same_store (seen d p 0x090 w)).rd p _ fun hm =>
        absurd (show (0x080 : Nat) = 0x090 from Nat.add_left_cancel (List.mem_singleton.mp hm)) (by decide)
    obtain ⟨hsame, hother, hnext⟩ := c.storeEntry_shows n
    have he := (d.blockEffect_sq sq 0x090 w).trans (Dev.sqEffect_pdata3 rfl)
    rw [hn] at he
    refine ⟨_, performs_block (exec_programEntryWrite sq w s) (by decide) (by decide) ha (by decide) (noKey_pdata3 sq) he, ?_,
      fun i _ hi => ?_, hpaddr ▸ hnext⟩
    · rw [← hpaddr]
      exact hsame
    · rw [hother i (by rw [hpaddr]; exact hi)]
      exact Dev.entry_congr (Dev.store_prog _ _) n i
  · exact ⟨_, gives_onDev (exec_pdata3Read sq r s) (Dev.readAt_pdata3 sq hr), rfl,
      Dev.rd_wr_fit _ _ _ _ (by decide) (Nat.mod_lt _ (by decide)), d.same_wr _ _ _⟩
  · have hen' := ((d.same_store_sqCtrl sq w).on p F.PAGE_CTRL_enable List.not_mem_nil).trans hen
    have he := (d.blockEffect_sq sq 0x040 w).trans (Dev.sqEffect_prepare rfl hen' hprep hhalt)
    rw [hn] at he
    exact ⟨_, performs_block (exec_sqPrepare sq w s) (by decide) (by decide) ha (by decide) (noKey_sqCtrl sq) he,
      Dev.sqPrepareGo_shows _ n⟩
  · have hstate' : (d.store (seen d p 0x040 w)).sqState n = d.sqState n :=
      (d.same_store_sqCtrl sq w).rd p F.SQ_STAT_state List.not_mem_nil
    have he := (d.blockEffect_sq sq 0x040 w).trans
      (Dev.sqEffect_haltReq rfl hprep hhalt (by rw [hn]; exact hstate'.symm ▸ hstate))
    rw [hn] at he
    refine ⟨_, performs_block (exec_haltReq sq w s) (by decide) (by decide) ha (by decide) (noKey_sqCtrl sq) he, ?_,
      d.same_store_sqCtrl sq w⟩
    rw [Dev.setSq_sq, Dev.sq_congr (Dev.store_sqs _ _)]
  · exact ⟨_, gives_onLive (exec_prepareDone sq s) hserv rfl, d.sqPrepared_ready n hstate hk h64⟩
  · obtain ⟨j, hj, hshow, hnone⟩ := d.sqPrepared_fails n hstate hf hc
    refine ⟨_, gives_onLive (exec_prepareDone sq s) hserv rfl, hshow.state, hshow.faultCause, hshow.bit, hnone, fun m hm hlt => ?_⟩
    rw [hshow.faultPc, hj m hm, Nat.mod_eq_of_lt hlt]

end Sys2Proof.Safety
end

section
/-! SUPPORT. Words that leave a lane: the sequencers keep their states and what they stand at, the splices go on, and no block held is
lost. -/
namespace Sys2Proof.Machine

/-! ## Steps by which words leave -/

/-- A sequencer's record but for what a word that leaves counts: its stream bits, its time and the marks that it reaches. -/
def still (s : Sq) : Sq := { s with marks := [], bits := 0, clock := 0 }

/-- Words leave: every SQ_STAT and every splice bit stays, the records stay but for the counts, and the lanes of `R` hold the blocks that
they held. -/
structure Sends (R : Nat → Prop) (d e : Dev) : Prop where
  shown : ∀ m, e.reg (addrOf (sqPage m) 0x044) = d.reg (addrOf (sqPage m) 0x044)
  splice : ∀ r, e.rd (rxPage r) F.RXL_FWD_STAT_splice = d.rd (rxPage r) F.RXL_FWD_STAT_splice
  sq : ∀ m, still (e.sq m) = still (d.sq m)
  held : ∀ r, R r → (e.rx r).held = (d.rx r).held

section
variable {R : Nat → Prop} {d e f : Dev}

theorem Sends.refl (d : Dev) : Sends R d d := ⟨fun _ => rfl, fun _ => rfl, fun _ => rfl, fun _ _ => rfl⟩

theorem Sends.trans (h : Sends R d e) (k : Sends R e f) : Sends R d f :=
  ⟨fun m => (k.shown m).trans (h.shown m), fun r => (k.splice r).trans (h.splice r), fun m => (k.sq m).trans (h.sq m),
    fun r hr => (k.held r hr).trans (h.held r hr)⟩

/-- What a record besides these takes changes none of them. -/
theorem Sends.same (h : Sends R d e) (hr : f.regs = e.regs) (hu : f.upset = e.upset) (hs : f.sqs = e.sqs) (hx : f.rxs = e.rxs) :
    Sends R d f :=
  h.trans ⟨fun _ => Dev.reg_congr e f _ hr hu, fun _ => by unfold Dev.rd; rw [Dev.reg_congr e f _ hr hu],
    fun m => by rw [Dev.sq_congr hs], fun r _ => by rw [Dev.rx_congr hx]⟩

theorem Sends.fold {σ α : Type} (dev : σ → Dev) (step : σ → α → σ) (xs : List α) (h : ∀ s x, Sends R (dev s) (dev (step s x)))
    (s : σ) : Sends R (dev s) (dev (xs.foldl step s)) := by
  induction xs generalizing s with
  | nil => exact .refl _
  | cons x xs ih => exact (h s x).trans (ih (step s x))

theorem Sends.foldDev {α : Type} {step : Dev → α → Dev} {xs : List α} (h : ∀ d x, Sends R d (step d x)) (d : Dev) :
    Sends R d (xs.foldl step d) := Sends.fold id step xs h d

theorem Sends.ite {c : Prop} [Decidable c] (h : Sends R d e) (k : Sends R d f) : Sends R d (if c then e else f) := by
  split
  · exact h
  · exact k

section
variable {p v n : Nat} {g : Field}

/-- A field that is neither SQ_STAT's nor the splice bit. -/
def Field.unsent (g : Field) : Bool :=
  decide (g.off < 65536) && g.off != 0x044 && (g.off != 0x460 || decide (g.lo + g.w ≤ 9) || decide (10 ≤ g.lo))

theorem Sends.wr (hg : g.unsent = true) (h : Sends R d e) : Sends R d (e.wr p g v) := by
  simp only [Field.unsent, Bool.and_eq_true, Bool.or_eq_true, decide_eq_true_eq, bne_iff_ne] at hg
  obtain ⟨⟨ho, hstat⟩, hsplice⟩ := hg
  refine h.trans ⟨fun m => e.reg_wr_other _ _ _ _ fun c => ?_, fun r => ?_, fun _ => rfl, fun _ _ => rfl⟩
  · exact hstat ((addrOf_inj _ _ _ _ (by decide) ho).mp c).2.symm
  · by_cases hp : rxPage r = p
    · subst hp
      exact e.rd_wr_apart _ _ _ _ (by decide) (by simp only [F.RXL_FWD_STAT_splice]; omega)
    · exact e.rd_wr_other _ _ _ _ _ fun c => hp ((addrOf_inj _ _ _ _ (by decide) ho).mp c).1

theorem Sends.bump (hg : g.unsent = true) (h : Sends R d e) : Sends R d (e.bump p g n) := h.wr hg

theorem Sends.stat (h : Sends R d e) : Sends R d (e.stat p n) :=
  h.trans ⟨fun m => e.same_stat p n _ (not_mem_statAddrs _ _ _ (by decide) (by decide) fun _ => by decide),
    fun r => (e.same_stat p n).rd _ _ (not_mem_statAddrs _ _ _ (by decide) (by decide) fun _ => by decide),
    fun m => by rw [Dev.sq_stat], fun r _ => by rw [Dev.rx_congr (Dev.stat_rxs _ _ _)]⟩

/-- A lane's record takes the blocks that it held. -/
theorem Sends.setRx {t : Rx} (ht : R n → t.held = (e.rx n).held) (h : Sends R d e) : Sends R d (e.setRx n t) := by
  refine h.trans ⟨fun _ => rfl, fun _ => rfl, fun _ => rfl, fun r hr => ?_⟩
  by_cases hrn : r = n
  · subst hrn
    rw [e.setRx_rx, ht hr]
  · rw [e.setRx_rx_other n r t hrn]

/-- A sequencer's record counts on. -/
theorem Sends.setSq {t : Sq} (ht : still t = still (e.sq n)) (h : Sends R d e) : Sends R d (e.setSq n t) := by
  refine h.trans ⟨fun _ => rfl, fun _ => rfl, fun m => ?_, fun _ _ => rfl⟩
  by_cases hm : m = n
  · subst hm
    rw [e.setSq_sq, ht]
  · rw [e.setSq_sq_other n m t hm]

section
variable (h : Sends R d e)
include h

theorem Sends.setTx {t : Tx} : Sends R d (e.setTx n t) := h.same rfl rfl rfl rfl
theorem Sends.setAwg {t : Awg} : Sends R d (e.setAwg n t) := h.same rfl rfl rfl rfl
theorem Sends.emit {m : Message} : Sends R d (e.emit m) := h.same rfl rfl rfl rfl
theorem Sends.fresh : Sends R d e.fresh.2 := h.same rfl rfl rfl rfl
theorem Sends.raise {src ch : Nat} : Sends R d (e.raise src ch) := h.same rfl rfl rfl rfl

theorem Sends.sqState (m : Nat) : e.sqState m = d.sqState m := congrArg F.SQ_STAT_state.get (h.shown m)
theorem Sends.pc (m : Nat) : (e.sq m).pc = (d.sq m).pc := by simpa only [still] using congrArg Sq.pc (h.sq m)
theorem Sends.bracket (m : Nat) : (e.sq m).bracket = (d.sq m).bracket := by simpa only [still] using congrArg Sq.bracket (h.sq m)

end

end

end

/-! ## What a TX lane sends -/

section
variable {R : Nat → Prop} (d : Dev) (n : Nat)

theorem Dev.sends_errAuto (blocks : Nat) : Sends R d (d.errAuto n blocks).2 := by
  unfold Dev.errAuto
  simp only
  repeat' split
  all_goals exact (Sends.refl d).same rfl rfl rfl rfl

theorem Dev.sends_errBlock : Sends R d (d.errBlock n) := by
  have h := d.sends_errAuto (R := R) n ((d.tx n).blocks + 1)
  unfold Dev.errBlock
  simp only
  split
  · exact .setTx <| .refl d
  · split
    next e => rw [e] at h; exact h.setTx
    next e => rw [e] at h; exact h.setTx

theorem Dev.sends_injectRun (bits : List Bool) : Sends R d (d.injectRun n bits).2 := by
  unfold Dev.injectRun
  refine Sends.fold (fun s : List Bool × Dev => s.2) _ bits (fun s b => ?_) ([], d)
  simp only
  split
  · exact (s.2.sends_errBlock n).setTx
  · exact .setTx <| .refl s.2

theorem Dev.sends_countBlocks (k : Nat) : Sends R d (d.countBlocks n k) := .setTx <| .refl d

theorem Dev.sends_markRun (k : Nat) : Sends R d (d.markRun n k) := by
  unfold Dev.markRun
  refine Sends.trans (.setSq ?_ <| .refl d) (Sends.foldDev (fun e _ => .raise <| .refl e) _)
  rfl

theorem Dev.sends_driveOut : Sends R d (d.driveOut n) := by
  unfold Dev.driveOut
  exact .ite (.setTx <| .refl d) (.emit <| .setTx <| .refl d)

theorem Dev.sends_jitterStep : Sends R d (d.jitterStep n) := by
  unfold Dev.jitterStep
  exact .ite (.setTx <| .refl d) (.stat <| .bump (by decide) <| .setTx <| .refl d)

theorem Dev.sends_jitterRun (k : Nat) : Sends R d (d.jitterRun n k).2 := by
  unfold Dev.jitterRun
  simp only
  split
  · exact .setTx <| .setTx <| .refl d
  · exact (Sends.setTx <| .refl d).trans (Sends.fold (fun s : List Int × Dev => s.2) _ _ (fun s _ => s.2.sends_jitterStep n) ([], _))

theorem Dev.sends_drive (ls : List Int) : Sends R d (d.drive n ls) := by
  unfold Dev.drive
  exact .ite (d.sends_jitterRun n _).setTx (d.sends_jitterRun n _).setTx.emit

theorem Dev.sends_txExited : Sends R d (d.txExited n) := by
  unfold Dev.txExited
  exact .ite (.wr (by decide) <| .setTx <| .refl d) (.refl d)

theorem Dev.sends_laneSend (bits : List Bool) : Sends R d (d.laneSend n bits) := by
  unfold Dev.laneSend
  exact .ite (((d.sends_injectRun n bits).trans (Dev.sends_drive _ n _)).trans (Dev.sends_markRun _ n _))
    ((d.sends_jitterRun n _).trans (Dev.sends_countBlocks _ n _))

theorem Dev.sends_underrun (words : Nat) : Sends R d (d.underrun n words) := by
  unfold Dev.underrun
  exact .ite (.refl d) (.stat <| .bump (by decide) <| .refl d)

theorem Dev.sends_fillBits (k : Nat) : Sends R d (d.fillBits n k).2 := d.sends_underrun n _

/-! ## What a receiving lane forwards -/

theorem Dev.sends_repairOut (own : Bool) (line : List Bool) : Sends R d (d.repairOut n own line).2 := by
  have h {t : Rx} (ht : t.held = (d.rx n).held) : Sends R d (d.setRx n t) := .setRx (fun _ => ht) <| .refl d
  unfold Dev.repairOut
  simp only
  split
  · split
    · exact h rfl
    · exact h rfl
  · split
    · exact h rfl
    · exact h rfl
  · exact h rfl
  · exact .refl d

theorem Dev.sends_fwdSend (own : Bool) (bits : List Bool) : Sends R d (d.fwdSend n own bits) := by
  unfold Dev.fwdSend
  exact .ite ((Sends.setTx <| .refl d).trans (Dev.sends_laneSend _ _ _)) (d.sends_laneSend _ _)

theorem Dev.sends_sendBlock (own : Bool) (bits : List Bool) : Sends R d (d.sendBlock n own bits) :=
  (d.sends_repairOut n own _).trans (Dev.sends_fwdSend _ _ _ _)

theorem Dev.sends_fwdQuiet : Sends R d (d.fwdQuiet n) := by
  refine .setRx (fun _ => rfl) <| .trans (.wr (by decide) <| .refl d) (Dev.sends_driveOut _ _)

theorem Dev.sends_showHeld : Sends R d (d.showHeld n) := by
  unfold Dev.showHeld
  exact .ite (.wr (by decide) <| .wr (by decide) <| .refl d) (.wr (by decide) <| .refl d)

end

/-! ## Words of a sequencer

What follows may send blocks held. -/

/-- Words leave, and blocks held may. -/
abbrev SendsOn (d e : Dev) : Prop := Sends (fun _ => False) d e

section
variable (d : Dev) (n : Nat)

theorem Dev.sends_sendHeld (k : Nat) : SendsOn d (d.sendHeld n k) :=
  ((Sends.setRx False.elim <| .refl d).trans (Sends.foldDev (fun e _ => e.sends_sendBlock n false _) _)).trans (Dev.sends_showHeld _ n)

theorem Dev.sends_spliceOver : SendsOn d (d.spliceOver n) := by
  have h : SendsOn d _ := (Sends.refl d).setRx (n := n) (t := { d.rx n with lead := max 0 (d.rx n).lead }) False.elim |>.trans
    (Dev.sends_sendHeld _ n (-(d.rx n).lead).toNat)
  unfold Dev.spliceOver
  exact .ite (h.wr (by decide)) (.ite (h.trans (Dev.sends_fwdQuiet _ n)) h)

theorem Dev.sends_spliceBlock (bits : List Bool) : SendsOn d (d.spliceBlock n bits) := by
  have h : SendsOn d _ := d.sends_sendBlock n true bits
  unfold Dev.spliceBlock
  refine .ite h ?_
  simp only
  split
  · exact .bump (by decide) <| (h.setRx False.elim).trans (Dev.sends_showHeld _ n)
  · exact h.setRx False.elim

theorem Dev.sends_spliceBits (bits : List Bool) : SendsOn d (d.spliceBits n bits) := by
  have hset {e : Dev} {t : Rx} (h : SendsOn d e) : SendsOn d (e.setRx n t) := .setRx False.elim h
  unfold Dev.spliceBits
  refine .ite (hset (Sends.foldDev (fun e _ => e.sends_spliceBlock n _) d)) (.ite (.refl d) (.ite (hset <| .refl d) ?_))
  exact ((hset <| .refl d).trans (Dev.sends_spliceBlock _ n _)).trans (Dev.sends_spliceOver _ n)

theorem Dev.sends_blockEnd : SendsOn d (d.blockEnd n false) := by
  unfold Dev.blockEnd
  exact .ite ((d.sends_fillBits n _).trans (Dev.sends_spliceBits _ _ _)) (.refl d)

theorem Dev.sends_awgRun (m : Nat) (seq : List Int) : SendsOn d (d.awgRun n m seq) := by
  unfold Dev.awgRun
  refine .ite (.emit <| .refl d) (.ite (.emit <| .setAwg <| .refl d) ?_)
  exact .ite (.stat <| .bump (by decide) <| .emit <| .setAwg <| .refl d) (.bump (by decide) <| .emit <| .setAwg <| .refl d)

/-- A sequencer counts `len` stream bits and the time of `k` symbols or samples. -/
def Dev.sqCounts (d : Dev) (n k len : Nat) : Dev :=
  d.setSq n { d.sq n with bits := (d.sq n).bits + len, clock := (d.sq n).clock - 1000000000 * (k : Int) }

theorem Dev.sends_sqCounts (k len : Nat) : SendsOn d (d.sqCounts n k len) := .setSq rfl <| .refl d

theorem Dev.sqSendBits_eq (bits : List Bool) : ∃ k samples, d.sqSendBits n bits =
    if 16 ≤ n then ((d.sqCounts n k bits.length).markRun n k).awgRun (n - 16) k samples
    else if (d.sqCounts n k bits.length).sqForwards n then (d.sqCounts n k bits.length).spliceBits (fwdTx n) bits
    else (d.sqCounts n k bits.length).laneSend n bits := ⟨_, _, rfl⟩

theorem Dev.sends_sqSend (bs : Bytes) : SendsOn d (d.sqSend n bs) := by
  obtain ⟨k, samples, heq⟩ := d.sqSendBits_eq n (bytesBits bs)
  have h := d.sends_sqCounts n k (bytesBits bs).length
  unfold Dev.sqSend
  rw [heq]
  exact .ite ((h.trans (Dev.sends_markRun _ _ _)).trans (Dev.sends_awgRun _ _ _ _))
    (.ite (h.trans (Dev.sends_spliceBits _ _ _)) (h.trans (Dev.sends_laneSend _ _ _)))

theorem Dev.sends_fills (k : Nat) : SendsOn d (d.fills n k) := by
  unfold Dev.fills
  exact (d.sends_underrun n k).trans (Sends.foldDev (fun e _ => e.sends_sqSend n _) _)

end

end Sys2Proof.Machine
end

section
/-! SUPPORT. SEG and RATE entries. -/
namespace Sys2Proof.Machine

open Sys2Proof.Safety

/-! ## SEG (R105, R108) -/

section
variable (d : Dev) (n : Nat)

theorem Dev.sqInline_sqEnter (m : Nat) : (d.sqEnter n).sqInline m = d.sqInline m := by
  unfold Dev.sqInline Dev.mode
  rw [Dev.rd_sqEnter _ _ _ _ (by decide) (by decide) (by decide)]

theorem Dev.rxBlockBits_sqEnter (m : Nat) : (d.sqEnter n).rxBlockBits m = d.rxBlockBits m := by
  unfold Dev.rxBlockBits
  rw [Dev.rd_sqEnter _ _ _ _ (by decide) (by decide) (by decide), Dev.rx_congr (d := d) (by rw [Dev.sqEnter_eq]; rfl)]

/-- What leaves before a play's first word: a spliced block in progress, the lane's exit from electrical idle, fill where the sequencer
is `slow`. -/
def Dev.playCleared (late : Nat) (slow : Bool) : Dev :=
  let d := d.blockEnd n false
  let d := if n < 16 then d.txExited n else d
  if slow then d.fills n late else d

theorem Dev.sends_playCleared (late : Nat) (slow : Bool) : SendsOn d (d.playCleared n late slow) := by
  have h : SendsOn d (if n < 16 then (d.blockEnd n false).txExited n else d.blockEnd n false) :=
    .ite ((d.sends_blockEnd n).trans (Dev.sends_txExited _ n)) (d.sends_blockEnd n)
  unfold Dev.playCleared
  exact .ite (h.trans (Dev.sends_fills _ n late)) h

/-- A sequencer's record as a segment's play begins: from here its marks count down. -/
def playing (s : Sq) (g : Seg) : Sq :=
  { s with
    marks := s.marks.map (fun m => { m with left := some (m.left.getD m.offset) }), lastSeg := some g,
    play := some ⟨g, 0, 0, false⟩, bits := 0, controls := 0 }

/-- A play's first block begins, and a pending handoff counts the play. -/
def Dev.playOpens : Dev :=
  let d := if n < 16 && !d.sqForwards n then d.blockStart n else d
  match (d.tx n).handoff with
  | some h => if n < 16 then d.setTx n { d.tx n with handoff := some { h with plays := h.plays - 1 } } else d
  | none => d

theorem Dev.playOpens_eq : ∃ t, d.playOpens n = { d with txs := t } := by
  unfold Dev.playOpens
  split_ifs <;> simp only <;> split <;> exact ⟨_, rfl⟩

/-- A segment's play begins. -/
def Dev.playBegun (g : Seg) : Dev := (d.setSq n (playing (d.sq n) g)).playOpens n

theorem Dev.playBegun_plays (g : Seg) :
    (d.playBegun n g).sqState n = d.sqState n ∧ (d.playBegun n g).sq n = playing (d.sq n) g := by
  obtain ⟨t, ht⟩ := (d.setSq n (playing (d.sq n) g)).playOpens_eq n
  unfold Dev.playBegun
  rw [ht]
  exact ⟨rfl, Dev.setSq_sq d n _⟩

theorem Dev.sqPlay_eq (late : Nat) (g : Seg) : ∃ slow,
    d.sqPlay n late g = ((d.playCleared n late slow).playBegun n g).sqGo n ((d.sq n).pc + 1) := by
  unfold Dev.sqPlay
  simp only
  rw [(d.sends_blockEnd n).pc n]
  exact ⟨_, rfl⟩

/-- A play that begins, RUNNING as before, and execution that goes on. -/
theorem Dev.sqPlay_plays (late : Nat) (g : Seg) : ((d.sqPlay n late g).sq n).pc = (d.sq n).pc + 1 ∧
    ((d.sqPlay n late g).sq n).play = some ⟨g, 0, 0, false⟩ ∧ ((d.sqPlay n late g).sq n).lastSeg = some g ∧
    (d.sqPlay n late g).sqState n = d.sqState n := by
  obtain ⟨slow, heq⟩ := d.sqPlay_eq n late g
  obtain ⟨hstate, hsq⟩ := (d.playCleared n late slow).playBegun_plays n g
  have hg := ((d.playCleared n late slow).playBegun n g).goesOn n ((d.sq n).pc + 1) (.inr (by rw [hsq]; exact Option.some_ne_none _))
  rw [hsq] at hg
  rw [heq]
  exact ⟨hg.pc, hg.play, hg.lastSeg,
    (hg.state.trans hstate).trans ((d.sends_playCleared n late slow).sqState n)⟩

end

section
variable {d : Dev} {n : Nat} {e : BitVec 128} (h : Executes d n 1 e)
include h

theorem Executes.sqSeg_halts (late : Nat) (hreq : ((d.playOn n).sq n).haltReq = true) :
    d.sqSeg n late = (d.reached n).sqHalt n false := by
  unfold Dev.sqSeg
  rw [h.run rfl]
  exact if_pos hreq

/-- A SEG with no halt request, switch or splice to wait for, and no fault. -/
theorem Executes.sqSeg_plays (late : Nat) (hreq : ((d.playOn n).sq n).haltReq = false)
    (hdue : 16 ≤ n ∨ ((d.playOn n).tx n).handoff = none)
    (hopen : ∀ b, ((d.reached n).sq n).bracket = some b → b.started = true ∧
      (segOf e).len * (segOf e).reps * wordBits n ((d.playOn n).sqPam n) % (d.playOn n).rxBlockBits (fwdTx n) = 0)
    (hinline : (d.playOn n).sqInline n = false ∨ ((d.reached n).sq n).bracket ≠ none)
    (hfits : n < 16 → (segOf e).word < wordsPerTile n ((d.playOn n).sqPam n) ∧
      (segOf e).beyond (wordsPerTile n ((d.playOn n).sqPam n)) = false) :
    d.sqSeg n late = (d.reached n).sqPlay n late (segOf e) := by
  have hbr : ((d.reached n).sq n).bracket = ((d.playOn n).sq n).bracket := by
    unfold Dev.reached
    rw [Dev.sq_sqEnter]
    rfl
  rw [hbr] at hopen hinline
  unfold Dev.sqSeg
  rw [h.run rfl]
  simp only [hreq, Bool.false_eq_true, if_false]
  rw [if_neg, if_neg, if_neg, if_neg, if_neg, if_neg]
  · rfl
  · intro hc
    simp only [Bool.and_eq_true, decide_eq_true_eq] at hc
    rw [(hfits hc.1).2] at hc
    exact absurd hc.2 (by decide)
  · intro hc
    simp only [Bool.and_eq_true, decide_eq_true_eq] at hc
    have := (hfits hc.1).1
    omega
  · cases hb : ((d.playOn n).sq n).bracket with
    | none => simp
    | some b => simp [Dev.rxBlockBits_sqEnter, (hopen b hb).2]
  · rw [Dev.sqInline_sqEnter]
    rcases hinline with hi | hi
    · simp [hi]
    · simp [hi]
  · cases hb : ((d.playOn n).sq n).bracket with
    | none => simp
    | some b => simp [(hopen b hb).1]
  · rcases hdue with hn | hn
    · simp [Nat.not_lt.mpr hn]
    · simp [hn]

end

end Sys2Proof.Machine
end

section
/-! SUPPORT. RATE entries: the offset of the serving synthesizer. -/
namespace Sys2Proof.Machine

open Sys2Proof.Safety

/-! ## The interpolator's offset (R185 to R187) -/

section
variable (d : Dev) (n : Nat) (o : Int)

/-- The rate of the synthesizer that serves a lane. -/
def Dev.servedAt : Nat × Nat := d.synRate (d.servingSynth n)

theorem Dev.servedAt_congr {d e : Dev} {n : Nat} (hs : e.syns = d.syns)
    (hserve : e.has (groupPage n) F.LG_STAT_serve (n % 4) = d.has (groupPage n) F.LG_STAT_serve (n % 4)) :
    e.servedAt n = d.servedAt n := by
  unfold Dev.servedAt Dev.servingSynth Dev.synRate Dev.tune
  rw [hserve, Dev.syn_congr hs]

theorem off_laneOff : (F.LG_OFF.at (n % 4)).off = 0x070 + 4 * (n % 4) := by
  simp only [Field.at, F.LG_OFF]
  omega

theorem Dev.has_serve_setOff (j : Nat) :
    (d.setOff n o).has (groupPage n) F.LG_STAT_serve j = d.has (groupPage n) F.LG_STAT_serve j := by
  have hoff : F.LG_STAT_serve.off ≠ (F.LG_OFF.at (n % 4)).off := by
    rw [off_laneOff]
    simp only [F.LG_STAT_serve]
    omega
  unfold Dev.setOff Dev.showMoving Dev.fbit Dev.has
  rw [Dev.rd_wr_apart _ _ _ _ _ (by decide) (by decide)]
  exact congrArg (·.testBit j) (Dev.rd_wr_off _ _ _ _ _ hoff)

theorem Dev.servedAt_setOff : (d.setOff n o).servedAt n = d.servedAt n := Dev.servedAt_congr rfl (d.has_serve_setOff n o _)

theorem Dev.laneOff_setOff_zero : (d.setOff n 0).laneOff n = 0 := by
  have hoff : (F.LG_OFF.at (n % 4)).off ≠ F.LG_STAT_moving.off := by
    rw [off_laneOff]
    simp only [F.LG_STAT_moving]
    omega
  have hrd : (d.setOff n 0).rd (groupPage n) (F.LG_OFF.at (n % 4)) = 0 := by
    unfold Dev.setOff Dev.showMoving Dev.fbit
    exact (Dev.rd_wr_off _ _ _ _ _ hoff).trans (Dev.rd_wr_fit _ _ _ _ (by simp only [Field.at]; decide) (Nat.two_pow_pos _))
  exact (congrArg (signed (F.LG_OFF.at (n % 4)).w) hrd).trans rfl

theorem Dev.tx_showMoving (m : Nat) : (d.showMoving n).tx m = d.tx m := Dev.tx_congr (Dev.fbit_txs _ _ _ _ _) m

theorem Dev.has_showMoving : (d.showMoving n).has (groupPage n) F.LG_STAT_moving (n % 4) =
    ((d.tx n).target.isSome || (d.tx n).phaseLeft != 0) := by
  have hn : n % 4 < F.LG_STAT_moving.w := Nat.mod_lt n (by decide)
  unfold Dev.showMoving
  simp only
  rw [Dev.has_fbit _ _ _ _ _ _ (by decide) hn, if_pos rfl]

theorem Dev.target_setOff : ((d.setOff n o).tx n).target = none := by
  unfold Dev.setOff
  rw [Dev.tx_showMoving, Dev.setTx_tx]

/-- With no slew the lane's rate follows at once. -/
theorem Dev.aimOff_steps (h : d.laneSlew n = 0) :
    ((d.aimOff n o).tx n).rate = rateAt (d.servedAt n).1 (d.servedAt n).2 ((d.aimOff n o).laneOff n) ∧
      ((d.aimOff n o).tx n).target = none := by
  have heq : d.aimOff n o = (d.setOff n o).followRate n := by
    unfold Dev.aimOff
    rw [h]
    rfl
  rw [heq, ← d.servedAt_setOff n o]
  have hf : ((d.setOff n o).followRate n).tx n = { (d.setOff n o).tx n with
      rate := rateAt ((d.setOff n o).servedAt n).1 ((d.setOff n o).servedAt n).2 ((d.setOff n o).laneOff n) } := Dev.setTx_tx _ n _
  rw [hf]
  exact ⟨rfl, d.target_setOff n o⟩

/-- With a slew the offset ramps. -/
theorem Dev.aimOff_ramps (h : d.laneSlew n ≠ 0) (ho : o ≠ d.laneOff n) :
    ((d.aimOff n o).tx n).target = some o ∧ (d.aimOff n o).has (groupPage n) F.LG_STAT_moving (n % 4) = true := by
  have heq : d.aimOff n o = (d.setTx n { d.tx n with target := some o }).showMoving n := by
    unfold Dev.aimOff
    rw [if_neg]
    simp [h, ho]
  have htx : (d.aimOff n o).tx n = { d.tx n with target := some o } := by
    rw [heq, Dev.tx_showMoving, Dev.setTx_tx]
  refine ⟨by rw [htx], ?_⟩
  rw [heq, Dev.has_showMoving, Dev.setTx_tx]
  rfl

theorem Dev.sqPam_sqEnter (m : Nat) : (d.sqEnter n).sqPam m = d.sqPam m := by
  unfold Dev.sqPam Dev.txPam Dev.on
  rw [Dev.rd_sqEnter _ _ _ _ (by decide) (by decide) (by decide)]

end

/-- A lane's rate and offset stay as execution goes on. -/
theorem GoesOn.laneOff {n pc : Nat} {t : Sq} {d e : Dev} (h : GoesOn n pc t d e) (m : Nat) : e.laneOff m = d.laneOff m := by
  unfold Dev.laneOff Dev.rdS
  rw [h.regs _ (not_mem_sqShown n _ _ (by rw [off_laneOff]; omega) (.inr (by rw [off_laneOff]; omega)))]

/-- An offset's rate and goal stay as execution goes on. -/
theorem GoesOn.offset {n pc : Nat} {t : Sq} {c x : Dev} {o : Int} (hg : GoesOn n pc t (c.aimOff n o) x) :
    (c.laneSlew n = 0 → (x.tx n).rate = rateAt (c.servedAt n).1 (c.servedAt n).2 (x.laneOff n) ∧ (x.tx n).target = none) ∧
      (c.laneSlew n ≠ 0 → o ≠ c.laneOff n →
        (x.tx n).target = some o ∧ x.has (groupPage n) F.LG_STAT_moving (n % 4) = true) := by
  rw [hg.tx, hg.laneOff, hg.regs.has _ _ _ (not_mem_sqShown n _ _ (by decide) (.inr (by decide)))]
  exact ⟨c.aimOff_steps n o, c.aimOff_ramps n o⟩

/-! ## RATE (R122 to R124) -/

section
variable {d : Dev} {n : Nat} {e : BitVec 128} (h : Executes d n 7 e) (hn : n < 16) (hinline : (d.playOn n).sqInline n = false)
  (hhand : ((d.playOn n).tx n).handoff = none)
include h hn hinline hhand

/-- An absolute RATE of the same format within the limit. -/
theorem Executes.sqRateAbs_eq (hop : eb e 123 122 = 0) (hlim : 1000 * eb e 118 93 ≤ (d.reached n).rateLimit n)
    (hfmt : eb e 121 120 = 0) :
    d.sqRateAbs n =
      let c := d.reached n
      let rate := 1000 * eb e 118 93
      if offsetOk (c.servedAt n).1 (c.servedAt n).2 rate then
        let c := c.aimOff n (offsetTo (c.servedAt n).1 (c.servedAt n).2 rate)
        (c.setSq n { c.sq n with absRate := some (eb e 118 93) }).sqGo n (((d.reached n).sq n).pc + 1)
      else if c.synthFree n rate (c.sqPam n) then
        let c := c.beginHandoff n rate (c.sqPam n) (eb e 119 119)
        (c.setSq n { c.sq n with absRate := some (eb e 118 93) }).sqGo n (((d.reached n).sq n).pc + 1)
      else c.sqFault n 7 ((d.reached n).sq n).pc := by
  have hrun : ¬(16 ≤ n || (d.playOn n).sqInline n) = true := by simp [hinline, hn]
  have hpam : (d.playOn n).sqPam n = (d.reached n).sqPam n := (Dev.sqPam_sqEnter _ n n).symm
  unfold Dev.sqRateAbs
  rw [h.run (by rw [hop]; rfl), Dev.pc_reached]
  simp only [hfmt, hhand, hpam, if_neg hrun, Option.isSome_none, Bool.false_eq_true, if_false, if_true, BEq.rfl, Bool.true_or,
    Bool.and_true]
  exact if_neg (Nat.not_lt.mpr hlim)

/-- The rate that a relative RATE asks for, in 10^-9 Bd. -/
def Dev.ppmRate (d : Dev) (n : Nat) (e : BitVec 128) : Nat :=
  (match (d.sq n).absRate with | some k => 1000 * k | none => d.txPageRate n) * (1000000000 + signed 24 (eb e 92 69)).toNat

theorem Executes.sqRatePpm_eq (hop : eb e 123 122 = 1)
    (hok : offsetOk (1000000000 * ((d.reached n).servedAt n).1) ((d.reached n).servedAt n).2 ((d.reached n).ppmRate n e) = true)
    (hlim : (d.reached n).ppmRate n e ≤ 1000000000 * (d.reached n).rateLimit n) :
    d.sqRatePpm n = ((d.reached n).aimOff n (offsetTo (1000000000 * ((d.reached n).servedAt n).1) ((d.reached n).servedAt n).2
      ((d.reached n).ppmRate n e))).sqGo n (((d.reached n).sq n).pc + 1) := by
  have hrun : ¬(16 ≤ n || (d.playOn n).sqInline n) = true := by simp [hinline, hn]
  have habs : ((d.playOn n).sq n).absRate = ((d.reached n).sq n).absRate := by
    unfold Dev.reached
    rw [Dev.sq_sqEnter]
    rfl
  unfold Dev.sqRatePpm
  rw [h.run (by rw [hop]; rfl), Dev.pc_reached]
  simp only [hhand, habs, if_neg hrun, Option.isSome_none, Bool.false_eq_true, if_false]
  refine (if_neg fun hbad => ?_).trans (if_neg (Nat.not_lt.mpr hlim))
  exact absurd (hok.symm.trans (Bool.not_eq_true' _ ▸ hbad)) (by decide)

end

end Sys2Proof.Machine
end

section
/-! SUPPORT. Splices and handoffs. -/
namespace Sys2Proof.Machine

open Sys2Proof.Safety

/-! ## SPLICE (R125, R126, R244, R246) -/

section
variable {d : Dev} {n : Nat} {e : BitVec 128} (h : Executes d n 8 e) (hn : n < 16) (hinline : (d.reached n).sqInline n = true)
  (hfwd : (d.reached n).sqForwards n = true)
include h hn hinline hfwd

/-- The bracket that a SPLICE BEGIN entry opens. -/
def bracketOf (e : BitVec 128) : Bracket :=
  ⟨eb e 123 122 == 2, if eb e 121 121 = 1 then some (eb e 120 112) else none, false, false⟩

theorem Executes.sqSpliceBegin_opens (hop : eb e 123 122 ≠ 0) (hb : ((d.reached n).sq n).bracket = none) :
    d.sqSpliceBegin n = ((d.reached n).setSq n { (d.reached n).sq n with bracket := some (bracketOf e) }).sqGo n
      (((d.reached n).sq n).pc + 1) := by
  unfold Dev.sqSpliceBegin
  rw [h.run (by simpa using hop)]
  exact (if_neg (Nat.not_le.mpr hn)).trans (if_neg (by
    rw [show (d.playOn n).sqEnter n = d.reached n from rfl, hinline, hfwd, hb]
    decide))

theorem Executes.sqSpliceEnd_closes {b : Bracket} (hop : eb e 123 122 = 0) (hb : ((d.reached n).sq n).bracket = some b) :
    d.sqSpliceEnd n = (((d.reached n).blockEnd n false).closeBracket n).sqGo n (((d.reached n).sq n).pc + 1) := by
  unfold Dev.sqSpliceEnd
  rw [h.run (by rw [hop]; rfl)]
  exact (if_neg (Nat.not_le.mpr hn)).trans (if_neg (by
    rw [show (d.playOn n).sqEnter n = d.reached n from rfl, hinline, hfwd, hb]
    simp))

end

section
variable (d : Dev) (n : Nat)

/-- A bracket that closes leaves none, and no splice. -/
theorem Dev.closeBracket_closes {b : Bracket} (hb : (d.sq n).bracket = some b) : ((d.closeBracket n).sq n).bracket = none ∧
    (d.closeBracket n).rd (rxPage (fwdTx n)) F.RXL_FWD_STAT_splice = 0 := by
  have hclosed (t : Rx) : ((((d.setSq n { d.sq n with bracket := none }).wr (rxPage (fwdTx n)) F.RXL_FWD_STAT_splice 0).setRx
        (fwdTx n) t).sq n).bracket = none ∧
      (((d.setSq n { d.sq n with bracket := none }).wr (rxPage (fwdTx n)) F.RXL_FWD_STAT_splice 0).setRx
        (fwdTx n) t).rd (rxPage (fwdTx n)) F.RXL_FWD_STAT_splice = 0 := by
    refine ⟨?_, Dev.rd_wr_fit _ _ _ _ (by decide) (by decide)⟩
    rw [Dev.sq_setRx, Dev.sq_wr, Dev.setSq_sq]
  unfold Dev.closeBracket
  rw [hb]
  simp only
  split
  · exact ⟨((Dev.sends_spliceOver _ _).bracket n).trans (hclosed _).1, ((Dev.sends_spliceOver _ _).splice _).trans (hclosed _).2⟩
  · exact hclosed _

/-- The splice takes effect. -/
theorem Dev.spliceStart_starts {b : Bracket} (hb : (d.sq n).bracket = some b) (hs : b.started = false)
    (hc : b.cond = none ∨ b.met = true) (ha : d.aligned (fwdTx n) = true)
    (hf : d.on (rxPage (fwdTx n)) F.RXL_FWD_STAT_fwd = true) :
    d.spliceStart n = ((d.setSq n { d.sq n with bracket := some { b with started := true } }).wr (rxPage (fwdTx n))
      F.RXL_FWD_STAT_splice 1).setRx (fwdTx n) { d.rx (fwdTx n) with spliced := true, cut := false, part := [] } := by
  unfold Dev.spliceStart
  simp only [hb, hs, ha, hf]
  rcases hc with hc | hc
  · simp only [hc, Option.isNone_none, Bool.not_false, Bool.true_or, Bool.and_self, if_true]
    rfl
  · simp only [hc, Bool.not_false, Bool.or_true, Bool.true_or, Bool.and_self, if_true]
    cases b.cond <;> rfl

theorem Dev.showHeld_empty (h : (d.rx n).held = []) : ((d.showHeld n).rx n).held = [] ∧
    (d.showHeld n).rd (rxPage n) F.RXL_FWD_STAT_draining = 0 := by
  unfold Dev.showHeld
  simp only [h, List.length_nil, if_true]
  exact ⟨h, Dev.rd_wr_fit _ _ _ _ (by decide) (by decide)⟩

/-- Every block held leaves. -/
theorem Dev.sendHeld_all : ((d.sendHeld n (d.rx n).held.length).rx n).held = [] ∧
    (d.sendHeld n (d.rx n).held.length).rd (rxPage n) F.RXL_FWD_STAT_draining = 0 := by
  unfold Dev.sendHeld
  refine Dev.showHeld_empty _ n ((Sends.held (R := fun _ => True) (Sends.foldDev (fun e _ => e.sends_sendBlock n false _) _) n
    trivial).trans ?_)
  rw [Dev.setRx_rx]
  exact List.drop_length

theorem Dev.fwdQuiet_keeps : ((d.fwdQuiet n).rx n).held = (d.rx n).held ∧
    (d.fwdQuiet n).rd (rxPage n) F.RXL_FWD_STAT_draining = d.rd (rxPage n) F.RXL_FWD_STAT_draining := by
  refine ⟨Sends.held (R := fun _ => True) (d.sends_fwdQuiet n) n trivial, ?_⟩
  refine (congrArg F.RXL_FWD_STAT_draining.get (Dev.reg_driveOut _ (fwdTx n) _)).trans ?_
  exact d.rd_wr_apart _ F.RXL_FWD_STAT_fwd _ _ (by decide) (by decide)

theorem Dev.drained_empties (hd : d.on (rxPage n) F.RXL_FWD_STAT_draining = true) (hs : d.splicing n = false)
    (hp : (d.rx n).part = []) : ((d.drained n).rx n).held = [] ∧
      (d.drained n).rd (rxPage n) F.RXL_FWD_STAT_draining = 0 := by
  obtain ⟨hheld, hdrain⟩ := d.sendHeld_all n
  obtain ⟨hkeep, hkeep'⟩ := (d.sendHeld n (d.rx n).held.length).fwdQuiet_keeps n
  unfold Dev.drained
  simp only [hd, hs, hp, List.isEmpty_nil, Bool.not_false, Bool.and_self, if_true]
  split
  · exact ⟨hkeep.trans hheld, hkeep'.trans hdrain⟩
  · exact ⟨hheld, hdrain⟩

end

/-! ## Handoffs (R190, R192) -/

section
variable (d : Dev) (k : Nat)

theorem off_synStat (i : Nat) : (F.SYN_STAT_aligned.at (synIndex i)).off = 0x114 + 32 * synIndex i := by
  simp only [Field.at, F.SYN_STAT_aligned]
  omega

/-- The target of a handoff is aligned, and its lane ready. -/
theorem Dev.handoffReady_shows {h : Handoff} (hh : (d.tx k).handoff = some h) (hl : d.synLocked h.syn = true)
    (hj : (d.syn h.syn).job = .idle) : (d.handoffReady k).has (groupPage k) F.LG_STAT_ready (k % 4) = true ∧
      (d.handoffReady k).synOn h.syn F.SYN_STAT_aligned = true := by
  have hk : k % 4 < F.LG_STAT_ready.w := Nat.mod_lt k (by decide)
  have hshown (e : Dev) : ((e.fbit (groupPage k) F.LG_STAT_ready (k % 4) true).synWr h.syn F.SYN_STAT_aligned 1).has (groupPage k)
        F.LG_STAT_ready (k % 4) = true ∧
      ((e.fbit (groupPage k) F.LG_STAT_ready (k % 4) true).synWr h.syn F.SYN_STAT_aligned 1).synOn h.syn F.SYN_STAT_aligned = true := by
    refine ⟨(Dev.has_wr_other _ _ _ _ _ _ _ fun c => ?_).trans ?_, ?_⟩
    · have hs := synIndex_le h.syn
      have := ((addrOf_inj _ _ _ _ (by decide) (by rw [off_synStat]; omega)).mp c).2
      rw [off_synStat] at this
      simp only [F.LG_STAT_ready] at this
      omega
    · rw [Dev.has_fbit _ _ _ _ _ _ (by decide) hk, if_pos rfl]
    · exact bne_iff_ne.mpr (ne_of_eq_of_ne (Dev.rd_wr_fit _ _ _ 1 (by simp only [Field.at]; decide) (by simp only [Field.at]; decide))
        (by decide))
  unfold Dev.handoffReady
  simp only [hh, hl, hj, BEq.rfl, Bool.and_self, if_true]
  exact hshown _

/-- A switch ends its handoff in LG_STAT, sets the lane's format and shows itself. -/
def Dev.switchShown (d : Dev) (k : Nat) (pam : Bool) : Dev :=
  let p := groupPage k
  let d := (d.fbit p F.LG_STAT_pending (k % 4) false).fbit p F.LG_STAT_ready (k % 4) false
  (d.wr (0x20 + k) F.TXL_STAT_fmt pam.toNat).stat p 16

/-- Which synthesizer serves, and at what offset, stays. -/
theorem Dev.rd_switchShown (pam : Bool) (f : Field) (hf : f.lo + f.w ≤ 32)
    (h : f.off = 0x060 ∧ f.lo + f.w ≤ 4 ∨ 0x070 ≤ f.off ∧ f.off < 0x080) :
    (d.switchShown k pam).rd (groupPage k) f = d.rd (groupPage k) f := by
  unfold Dev.switchShown Dev.fbit
  rw [(Dev.same_stat _ _ _).rd _ _ (not_mem_statAddrs _ _ _ (by omega) (by omega) fun _ => by omega),
    Dev.rd_wr_other _ _ _ F.TXL_STAT_fmt _ _ fun c => ?_, Dev.rd_wr_apart _ _ F.LG_STAT_ready _ _ hf ?_,
    Dev.rd_wr_apart _ _ F.LG_STAT_pending _ _ hf ?_]
  · simp only [F.LG_STAT_pending]
    omega
  · simp only [F.LG_STAT_ready]
    omega
  · have := ((addrOf_inj _ _ _ _ (by omega) (by decide)).mp c).2
    simp only [F.TXL_STAT_fmt] at this
    omega

theorem Dev.has_serve_switchShown (pam : Bool) (j : Nat) :
    (d.switchShown k pam).has (groupPage k) F.LG_STAT_serve j = d.has (groupPage k) F.LG_STAT_serve j :=
  congrArg (·.testBit j) (d.rd_switchShown k pam F.LG_STAT_serve (by decide) (by decide))

theorem Dev.laneOff_switchShown (pam : Bool) : (d.switchShown k pam).laneOff k = d.laneOff k := by
  have ho := off_laneOff k
  exact congrArg (signed (F.LG_OFF.at (k % 4)).w)
    (d.rd_switchShown k pam (F.LG_OFF.at (k % 4)) (by simp only [Field.at]; decide) (by omega))

theorem Dev.on_fmt_switchShown (pam : Bool) : (d.switchShown k pam).on (0x20 + k) F.TXL_STAT_fmt = pam := by
  unfold Dev.switchShown Dev.on
  rw [(Dev.same_stat _ _ _).rd _ _ (not_mem_statAddrs _ _ _ (by decide) (by decide) fun _ => by decide),
    Dev.rd_wr_fit _ _ F.TXL_STAT_fmt _ (by decide) (Bool.toNat_lt _)]
  cases pam <;> rfl

/-- The lane takes its new synthesizer, rate and format at one symbol boundary. -/
def Dev.switched (d : Dev) (k : Nat) (h : Handoff) : Dev :=
  let d := ((d.fbit (groupPage k) F.LG_STAT_serve (k % 4) ((h.syn - 6) % 2 == 1)).setOff k 0).switchShown k h.pam
  let d := d.setTx k { d.tx k with handoff := none, rate := h.rate }
  d.setSq k { d.sq k with hold := false }

/-- What a switch shows of its lane. -/
structure Switched (k : Nat) (h : Handoff) (e : Dev) : Prop where
  handoff : (e.tx k).handoff = none
  rate : (e.tx k).rate = h.rate
  serve : e.has (groupPage k) F.LG_STAT_serve (k % 4) = ((h.syn - 6) % 2 == 1)
  offset : e.laneOff k = 0
  format : e.on (0x20 + k) F.TXL_STAT_fmt = h.pam
  bit : e.bit (groupPage k) 0x00C 16 = true

/-- The registers that show it. -/
def switchRegs (k : Nat) : List Nat :=
  [addrOf (groupPage k) 0x060, addrOf (groupPage k) (0x070 + 4 * (k % 4)), addrOf (0x20 + k) 0x440, addrOf (groupPage k) 0x00C]

theorem Switched.keep {d e : Dev} {k : Nat} {h : Handoff} (hd : Switched k h d) (ht : e.txs = d.txs)
    (hr : ∀ a ∈ switchRegs k, e.reg a = d.reg a) : Switched k h e := by
  simp only [switchRegs, List.forall_mem_cons] at hr
  obtain ⟨hserve, hoff, hfmt, hbit, -⟩ := hr
  constructor
  case handoff => rw [Dev.tx_congr ht, hd.handoff]
  case rate => rw [Dev.tx_congr ht, hd.rate]
  case serve => exact (congrArg (fun w => (F.LG_STAT_serve.get w).testBit (k % 4)) hserve).trans hd.serve
  case offset =>
    rw [← off_laneOff] at hoff
    exact (congrArg (F.LG_OFF.at (k % 4)).getS hoff).trans hd.offset
  case format => exact (congrArg (fun w => F.TXL_STAT_fmt.get w != 0) hfmt).trans hd.format
  case bit =>
    unfold Dev.bit
    rw [hbit]
    exact hd.bit

theorem Dev.switched_shows (h : Handoff) : Switched k h (d.switched k h) := by
  have hk : k % 4 < F.LG_STAT_serve.w := Nat.mod_lt k (by decide)
  unfold Dev.switched
  generalize he : (d.fbit (groupPage k) F.LG_STAT_serve (k % 4) ((h.syn - 6) % 2 == 1)).setOff k 0 = e
  have hserve : (e.switchShown k h.pam).has (groupPage k) F.LG_STAT_serve (k % 4) = ((h.syn - 6) % 2 == 1) := by
    rw [Dev.has_serve_switchShown, ← he, Dev.has_serve_setOff, Dev.has_fbit _ _ _ _ _ _ (by decide) hk, if_pos rfl]
  have hoff : (e.switchShown k h.pam).laneOff k = 0 := by rw [Dev.laneOff_switchShown, ← he, Dev.laneOff_setOff_zero]
  have hfmt := e.on_fmt_switchShown k h.pam
  have hbit : (e.switchShown k h.pam).bit (groupPage k) 0x00C 16 = true := Dev.stat_bit _ _ 16 (by decide)
  generalize e.switchShown k h.pam = c at hserve hoff hfmt hbit ⊢
  exact ⟨congrArg Tx.handoff (Dev.setTx_tx _ k _), congrArg Tx.rate (Dev.setTx_tx _ k _), hserve, hoff, hfmt, hbit⟩

/-- What follows a switch: the synthesizer is no one's target any more, the injector's block is checked, a late switch shows. -/
def Dev.switchTold (d old : Dev) (k i : Nat) (others late : Bool) : Dev :=
  let d := (if others then d else d.synWr i F.SYN_STAT_aligned 0).errRecheck old k
  if late then d.stat (sqPage k) 20 else d

/-- No status bit of another page is among a switch's registers. -/
theorem not_mem_switchRegs (p : Nat) (hk : k < 16) (hp : 0x20 ≤ p) : ∀ a ∈ switchRegs k, a ∉ statAddrs p := by
  have hgroup : groupPage k < 0x20 ∧ groupPage k ≠ 0x17 := by unfold groupPage; omega
  simp only [switchRegs, List.forall_mem_cons]
  refine ⟨not_mem_statAddrs _ _ _ (by decide) (by decide) fun _ => by decide,
    not_mem_statAddrs _ _ _ (by omega) (by omega) fun _ => by omega,
    not_mem_statAddrs _ _ _ (by decide) (by decide) fun _ => by decide, ?_, fun _ h => absurd h List.not_mem_nil⟩
  simp only [statAddrs, List.mem_cons, List.not_mem_nil, or_false, addrOf]
  omega

theorem Switched.stat {d : Dev} {k : Nat} {h : Handoff} (hd : Switched k h d) (hk : k < 16) (p b : Nat) (hp : 0x20 ≤ p) :
    Switched k h (d.stat p b) :=
  hd.keep (Dev.stat_txs _ _ _) fun a ha => d.same_stat p b a (not_mem_switchRegs k p hk hp a ha)

theorem Switched.synWr {d : Dev} {k : Nat} {h : Handoff} (hd : Switched k h d) (i v : Nat) :
    Switched k h (d.synWr i F.SYN_STAT_aligned v) := by
  have hs := synIndex_le i
  have hoff := off_synStat i
  have hne (p off : Nat) (ho : off < 0x114 ∨ off = 0x440) : addrOf p off ≠ addrOf (synPage i) (F.SYN_STAT_aligned.at (synIndex i)).off :=
    fun c => by
      have := ((addrOf_inj _ _ _ _ (by omega) (by omega)).mp c).2
      omega
  refine hd.keep (Dev.wr_txs _ _ _ _) fun a ha => d.reg_wr_other _ _ _ _ ?_
  revert a
  simp only [switchRegs, List.forall_mem_cons]
  exact ⟨hne _ _ (by omega), hne _ _ (by omega), hne _ _ (by omega), hne _ _ (by omega), fun _ h => absurd h List.not_mem_nil⟩

theorem Switched.switchTold {d : Dev} {k : Nat} {h : Handoff} (hd : Switched k h d) (old : Dev) (hk : k < 16) (i : Nat)
    (others late : Bool) : Switched k h (d.switchTold old k i others late) := by
  have hcheck (e : Dev) (he : Switched k h e) : Switched k h (e.errRecheck old k) := by
    unfold Dev.errRecheck
    split
    · exact he.stat hk _ _ (by unfold txPage; omega)
    · exact he
  have htold : Switched k h ((if others then d else d.synWr i F.SYN_STAT_aligned 0).errRecheck old k) := by
    refine hcheck _ ?_
    split
    · exact hd
    · exact hd.synWr i 0
  unfold Dev.switchTold
  simp only
  split
  · exact htold.stat hk _ _ (by unfold sqPage; omega)
  · exact htold

/-- At the switch point, with its target ready, a handoff switches. -/
theorem Dev.handoffSwitch_eq (fills : Nat) {h : Handoff} {o : Dev} (ho : (if d.sqForwards k then d else d.playOn k) = o)
    (hh : (o.tx k).handoff = some h) (hr : o.has (groupPage k) F.LG_STAT_ready (k % 4) = true) (hs : o.switchDue k h = true) :
    ∃ (e : Dev) (others late : Bool), d.handoffSwitch k fills = (e.switched k h).switchTold d k h.syn others late := by
  unfold Dev.handoffSwitch
  simp only [ho, hh, hr, hs, Bool.and_self, if_true]
  exact ⟨_, _, _, rfl⟩

end

end Sys2Proof.Machine
end

section
/-! SUPPORT. Sequencers: plays, rates and splices. -/
namespace Sys2Proof.Safety

open Sys2Proof.Machine

theorem exec_seg (sq : Fin 20) (late : Nat) (s : State) : exec (.seg sq late) s = onLive s fun d => d.sqSeg sq.val late := rfl
theorem exec_rateAbs (sq : Fin 20) (s : State) : exec (.rateAbs sq) s = onLive s fun d => d.sqRateAbs sq.val := rfl
theorem exec_ratePpm (sq : Fin 20) (s : State) : exec (.ratePpm sq) s = onLive s fun d => d.sqRatePpm sq.val := rfl
theorem exec_spliceBegin (sq : Fin 20) (s : State) : exec (.spliceBegin sq) s = onLive s fun d => d.sqSpliceBegin sq.val := rfl
theorem exec_spliceStart (sq : Fin 20) (s : State) : exec (.spliceStart sq) s = onLive s fun d => d.spliceStart sq.val := rfl
theorem exec_spliceEnd (sq : Fin 20) (s : State) : exec (.spliceEnd sq) s = onLive s fun d => d.sqSpliceEnd sq.val := rfl
theorem exec_spliceDrainDone (lane : Fin 16) (s : State) :
    exec (.spliceDrainDone lane) s = onLive s fun d => d.drained lane.val := rfl
theorem exec_handoffReady (lane : Fin 16) (s : State) : exec (.handoffReady lane) s = onLive s fun d => d.handoffReady lane.val := rfl
theorem exec_handoffSwitch (lane : Fin 16) (fills : Nat) (s : State) :
    exec (.handoffSwitch lane fills) s = onLive s fun d => d.handoffSwitch lane.val fills := rfl

theorem on_of_rd_zero {d : Dev} {p : Nat} {f : Field} (h : d.rd p f = 0) : d.on p f = false := bne_eq_false_iff_eq.mpr h

/-- What an entry's play leaves, once its command does that. -/
theorem plays_of_eq {x c : Dev} {n late : Nat} {g : Seg} (hx : x = c.sqPlay n late g) (hc : c.sqState n = 3) :
    (x.sq n).pc = (c.sq n).pc + 1 ∧ (x.sq n).play = some ⟨g, 0, 0, false⟩ ∧ (x.sq n).lastSeg = some g ∧ x.sqState n = 3 := by
  obtain ⟨hpc, hplay, hseg, hstate⟩ := c.sqPlay_plays n late g
  rw [hx]
  exact ⟨hpc, hplay, hseg, hstate.trans hc⟩

/-- Settles O36: SEG plays behind what leaves first; RATE aims the lane's offset; a bracket opens, starts, closes and drains; a
handoff's registers are set after all that leaves before its switch. -/
theorem playsRatesSplices : Obligations.PlaysRatesSplices := by
  intro s sq lane late fills e h b d n a c q k r o y hserv hpc
  have hk : k < 16 := lane.isLt
  have hnext : q.pc + 1 < 2048 := by omega
  refine ⟨fun hplay hstate => ?_, fun hh hl hj => ?_, fun hh hr hs => ?_, fun hb hs hc ha hf => ?_, fun hd hs hp => ?_⟩
  · have hx {op : Nat} (hat : d.sqAt n op = some e) : Executes d n op e := ⟨hat, hplay, hstate⟩
    refine ⟨fun hat hreq hhand hbr hn hword hbey => ?_, fun hat hreq hn hbr => ?_, fun hat hreq => ?_,
      fun hat hop hn hinl hhand hlim hfmt => ⟨fun hok => ?_, fun hbad hfree => ?_⟩, fun hat hop hn hinl hhand hok hlim => ?_,
      fun hat hop hn hinl hfwd hbr => ?_, fun hat hop hn hinl hfwd hbr => ?_⟩
    · refine ⟨_, gives_onLive (exec_seg sq late s) hserv rfl, plays_of_eq (late := late) ?_ (hx hat).sqState_reached⟩
      refine (hx hat).sqSeg_plays late hreq (.inr hhand) (fun b' hb' => ?_) (hbr.imp And.left fun hb' => ?_) fun _ => ⟨hword, hbey⟩
      · rcases hbr with ⟨-, hnone⟩ | ⟨hsome, hstart, hwhole⟩
        · exact absurd (hnone.symm.trans hb') (Option.some_ne_none b').symm
        · obtain rfl := Option.some.inj (hsome.symm.trans hb')
          exact ⟨hstart, hwhole⟩
      · exact ne_of_eq_of_ne hb'.1 (Option.some_ne_none b)
    · refine ⟨_, gives_onLive (exec_seg sq late s) hserv rfl, plays_of_eq (late := late) ?_ (hx hat).sqState_reached⟩
      refine (hx hat).sqSeg_plays late hreq (.inl hn) (fun b' hb' => ?_) (.inl ?_) fun hlt => absurd hn (Nat.not_le.mpr hlt)
      · exact absurd (hbr.symm.trans hb') (Option.some_ne_none b').symm
      · unfold Dev.sqInline
        rw [decide_eq_false (Nat.not_lt.mpr hn), Bool.false_and]
    · exact ⟨_, gives_onLive (exec_seg sq late s) hserv ((hx hat).sqSeg_halts late hreq), (Dev.sqHalt_halted _ n false).state⟩
    · have hg := (c.aimOff n (offsetTo y.1 y.2 (1000 * eb e 118 93))).goesOn_setSq n (q.pc + 1)
        { (c.aimOff n (offsetTo y.1 y.2 (1000 * eb e 118 93))).sq n with absRate := some (eb e 118 93) } (.inl hnext)
      obtain ⟨hstep, hramp⟩ := hg.offset
      exact ⟨_, gives_onLive (exec_rateAbs sq s) hserv (((hx hat).sqRateAbs_eq hn hinl hhand hop hlim hfmt).trans (if_pos hok)),
        hg.absRate, hg.pc, hstep, hramp⟩
    · exact gives_onLive (exec_rateAbs sq s) hserv (((hx hat).sqRateAbs_eq hn hinl hhand hop hlim hfmt).trans
        ((if_neg (ne_true_of_eq_false hbad)).trans (if_neg (ne_true_of_eq_false hfree))))
    · have hg := (c.aimOff n (offsetTo (1000000000 * y.1) y.2 (c.ppmRate n e))).goesOn n (q.pc + 1) (.inl hnext)
      exact ⟨_, gives_onLive (exec_ratePpm sq s) hserv ((hx hat).sqRatePpm_eq hn hinl hhand hop hok hlim), hg.pc, hg.offset.1⟩
    · have hg := c.goesOn_setSq n (q.pc + 1) { q with bracket := some (bracketOf e) } (.inl hnext)
      exact ⟨_, gives_onLive (exec_spliceBegin sq s) hserv ((hx hat).sqSpliceBegin_opens hn hinl hfwd hop hbr), hg.pc, hg.bracket⟩
    · have hg := ((c.blockEnd n false).closeBracket n).goesOn n (q.pc + 1) (.inl hnext)
      obtain ⟨hnone, hsplice⟩ := (c.blockEnd n false).closeBracket_closes n (((c.sends_blockEnd n).bracket n).trans hbr)
      exact ⟨_, gives_onLive (exec_spliceEnd sq s) hserv ((hx hat).sqSpliceEnd_closes hn hinl hfwd hop hbr), hg.pc,
        hg.bracket.trans hnone, on_of_rd_zero ((hg.regs.rd _ _ (not_mem_sqShown n _ _ (by decide) (.inr (by decide)))).trans hsplice)⟩
  · exact ⟨_, gives_onLive (exec_handoffReady lane s) hserv rfl, d.handoffReady_shows k hh hl hj⟩
  · obtain ⟨c', others, late', heq⟩ := d.handoffSwitch_eq k fills rfl hh hr hs
    have hsw := (c'.switched_shows k h).switchTold d hk h.syn others late'
    exact ⟨_, gives_onLive (exec_handoffSwitch lane fills s) hserv heq, hsw.handoff, hsw.rate, hsw.serve, hsw.offset, hsw.format,
      hsw.bit⟩
  · refine ⟨_, gives_onLive (exec_spliceStart sq s) hserv (d.spliceStart_starts n hb hs hc ha hf), ?_, ?_, ?_⟩
    · rw [Dev.sq_setRx, Dev.sq_wr, Dev.setSq_sq]
    · exact bne_iff_ne.mpr (ne_of_eq_of_ne (Dev.rd_wr_fit _ _ F.RXL_FWD_STAT_splice 1 (by decide) (by decide)) (by decide))
    · rw [Dev.setRx_rx]
  · obtain ⟨hheld, hdrain⟩ := d.drained_empties k hd hs hp
    exact ⟨_, gives_onLive (exec_spliceDrainDone lane s) hserv rfl, hheld, on_of_rd_zero hdrain⟩

end Sys2Proof.Safety
end

section
/-! SUPPORT. The frame of every command: the queue, and the memories under a command that does not reach them. -/
namespace Sys2Proof.Safety

open Sys2Proof.Machine

/-- Settles O3: every outcome of a command keeps the queue, and one that does not reach the memories keeps both. -/
theorem queueAndMemoryFrame : Obligations.QueueAndMemoryFrame := by
  intro c s t h
  rcases exec_shape c s with ⟨x, hx, hmem, -⟩ | hx
  · cases h.symm.trans hx
    refine ⟨rfl, fun hc a => ?_⟩
    rw [State.withBoth_mem, hmem hc]
    exact ⟨rfl, rfl⟩
  · cases h.symm.trans hx
    exact ⟨rfl, fun _ _ => ⟨rfl, rfl⟩⟩

end Sys2Proof.Safety
end

section
/-! SUPPORT. Accesses to tile space: what the controller's own work on rows, counters and the log leaves alone, and what a read and a
write of a tile leave of its bytes, its state and its wrong bits. -/
namespace Sys2Proof.Machine

open Sys2Proof.Safety

/-! ## What an access leaves -/

/-- The registers that an access to tile space may change: pages 0x60 to 0x64, and the pending bits of MSI-X. -/
def DmReg (a : Nat) : Prop := isPba a ∨ (0x60 ≤ a / 65536 ∧ a / 65536 < 0x65)

/-- The controller opens rows, counts and logs: tiles, wrong bits, sequencers, programs, mailboxes and answers stay, and so does every
register outside its pages. -/
structure Accessed (d e : Dev) : Prop where
  reg : ∀ a, ¬DmReg a → e.reg a = d.reg a
  tiles : e.tiles = d.tiles
  flips : e.dm.flips = d.dm.flips
  sqs : e.sqs = d.sqs
  prog : e.prog = d.prog
  mail : e.mail = d.mail
  rbytes : e.rbytes = d.rbytes

section
variable {d e f : Dev}

theorem Accessed.refl (d : Dev) : Accessed d d := ⟨fun _ _ => rfl, rfl, rfl, rfl, rfl, rfl, rfl⟩

theorem Accessed.trans (h : Accessed d e) (k : Accessed e f) : Accessed d f :=
  ⟨fun a ha => (k.reg a ha).trans (h.reg a ha), k.tiles.trans h.tiles, k.flips.trans h.flips, k.sqs.trans h.sqs,
    k.prog.trans h.prog, k.mail.trans h.mail, k.rbytes.trans h.rbytes⟩

theorem Accessed.ite {c : Prop} [Decidable c] (h : Accessed d e) (k : Accessed d f) : Accessed d (if c then e else f) := by
  split
  · exact h
  · exact k

theorem Accessed.foldDev {α : Type} {step : Dev → α → Dev} (xs : List α) (h : ∀ d, ∀ x ∈ xs, Accessed d (step d x)) (d : Dev) :
    Accessed d (xs.foldl step d) := by
  induction xs generalizing d with
  | nil => exact .refl d
  | cons x xs ih =>
    exact (h d x (List.mem_cons_self ..)).trans (ih (fun d y hy => h d y (List.mem_cons_of_mem _ hy)) (step d x))

theorem DmReg.of_page (p off : Nat) (hp : 0x60 ≤ p ∧ p < 0x65) (ho : off < 65536) : DmReg (addrOf p off) :=
  .inr (by rwa [addrOf_page p off ho])

theorem not_dmReg (p off : Nat) (ho : off < 65536) (h7 : p ≠ 0x17) (h : p < 0x60 ∨ 0x65 ≤ p) : ¬DmReg (addrOf p off) := by
  unfold DmReg isPba
  rw [addrOf_page p off ho, addrOf_inj _ _ _ _ ho (by decide), addrOf_inj _ _ _ _ ho (by decide)]
  omega

theorem stackPage_dm (t : Nat) : 0x60 ≤ stackPage (tileStack t) ∧ stackPage (tileStack t) < 0x65 := by
  unfold stackPage tileStack
  omega

section
variable {p v i : Nat} {g : Field}

theorem Accessed.putBits {m w : Word} {off : Nat} (hp : 0x60 ≤ p ∧ p < 0x65) (ho : off < 65536) (h : Accessed d e) :
    Accessed d (e.putBits (addrOf p off) m w) :=
  h.trans ⟨fun b hb => e.reg_putBits_other _ b m w fun hc => hb (hc ▸ .of_page p off hp ho), rfl, rfl, rfl, rfl, rfl, rfl⟩

theorem Accessed.wr (hp : 0x60 ≤ p ∧ p < 0x65) (ho : g.off < 65536) (h : Accessed d e) : Accessed d (e.wr p g v) := h.putBits hp ho

theorem Accessed.fbit {b : Bool} (hp : 0x60 ≤ p ∧ p < 0x65) (ho : g.off < 65536) (h : Accessed d e) : Accessed d (e.fbit p g i b) :=
  h.wr hp ho

theorem Accessed.bump (hp : 0x60 ≤ p ∧ p < 0x65) (ho : g.off < 65536) (h : Accessed d e) : Accessed d (e.bump p g v) := h.wr hp ho

theorem Accessed.stat (hp : 0x60 ≤ p ∧ p < 0x65) (h : Accessed d e) : Accessed d (e.stat p v) :=
  h.trans ⟨fun a ha => e.reg_stat p v a (fun hc => ha (hc ▸ .of_page p _ hp (by decide))) fun hc => ha (.inl hc),
    Dev.stat_tiles _ _ _, congrArg DeepMem.flips (Dev.stat_dm _ _ _), Dev.stat_sqs _ _ _, Dev.stat_prog _ _ _, Dev.stat_mail _ _ _,
    Dev.stat_rbytes _ _ _⟩

theorem Accessed.setStack {x : Stack} (h : Accessed d e) : Accessed d (e.setStack i x) :=
  h.trans ⟨fun _ _ => rfl, rfl, rfl, rfl, rfl, rfl, rfl⟩

/-- The controller's own record changes, but for the wrong bits. -/
theorem Accessed.setDm {x : DeepMem} (hx : x.flips = e.dm.flips) (h : Accessed d e) : Accessed d { e with dm := x } :=
  h.trans ⟨fun _ _ => rfl, rfl, hx, rfl, rfl, rfl, rfl⟩

theorem Accessed.fresh (h : Accessed d e) : Accessed d e.fresh.2 := h.trans ⟨fun _ _ => rfl, rfl, rfl, rfl, rfl, rfl, rfl⟩

theorem Accessed.raiseSys (h : Accessed d e) : Accessed d (e.raiseSys v) := h.trans ⟨fun _ _ => rfl, rfl, rfl, rfl, rfl, rfl, rfl⟩

/-- A tile's state set on both sides. -/
theorem Accessed.setTile {x : TileInfo} (h : Accessed d e) : Accessed (d.setTile i x) (e.setTile i x) :=
  ⟨h.reg, congrArg (tabSet (fun _ => TileInfo.init) · i x) h.tiles, h.flips, h.sqs, h.prog, h.mail, h.rbytes⟩

end

section
variable (h : Accessed d e)
include h

theorem Accessed.rd (p : Nat) (g : Field) (ho : g.off < 65536) (h7 : p ≠ 0x17) (hp : p < 0x60 ∨ 0x65 ≤ p) : e.rd p g = d.rd p g := by
  unfold Dev.rd
  rw [h.reg _ (not_dmReg p g.off ho h7 hp)]

theorem Accessed.tile (t : Nat) : e.tile t = d.tile t := congrArg (tabGet (fun _ => TileInfo.init) · t) h.tiles

theorem Accessed.sq (n : Nat) : e.sq n = d.sq n := Dev.sq_congr h.sqs n

end

end

/-! ## Rows, counters and the log -/

section
variable (d : Dev)

theorem Dev.accessed_activate (t key row : Nat) : Accessed d (d.activate (tileStack t) key row) := by
  have hfree : Accessed d (if (tabGet (fun _ => []) (d.stack (tileStack t)).rows key).length < 32 then ((0 : Word), d) else d.fresh).2 := by
    split
    · exact .refl d
    · exact .fresh <| .refl d
  unfold Dev.activate
  exact .ite (.bump (stackPage_dm t) (by decide) <| .setStack hfree) (.setStack hfree)

theorem Dev.accessed_openRow (t key row : Nat) : Accessed d (d.openRow (tileStack t) key row) := by
  unfold Dev.openRow
  exact .setStack <| .ite (.refl d) (d.accessed_activate t key row)

theorem Dev.accessed_openRows (pc t off n : Nat) : Accessed d (d.openRows pc t off n) :=
  Accessed.foldDev _ (fun e _ _ => e.accessed_openRow t _ _) d

theorem Dev.accessed_dmReach (t off n : Nat) : Accessed d (d.dmReach t off n) := by
  unfold Dev.dmReach Dev.setSr
  exact (Accessed.setStack <| .ite (.fbit (by decide) (by decide) <| .wr (stackPage_dm t) (by decide) <| .refl d) (.refl d)).trans
    (Dev.accessed_openRows _ _ t off n)

theorem Accessed.showTlog {d e : Dev} (h : Accessed d e) : Accessed d e.showTlog := by
  unfold Dev.showTlog Dev.wrPair
  exact .wr (by decide) (by decide) <| .wr (by decide) (by decide) <| .putBits (by decide) (by decide) <|
    .wr (by decide) (by decide) <| .wr (by decide) (by decide) h

theorem Dev.accessed_tlogAdd (t cause m : Nat) (sq : Option Nat) : Accessed d (d.tlogAdd t cause m sq) := by
  unfold Dev.tlogAdd
  split
  · exact .refl d
  · exact .showTlog <| .setDm rfl <| .refl d
  · refine .ite ?_ (.bump (by decide) (by decide) <| .setDm rfl <| .refl d)
    exact .stat (by decide) <| .showTlog <| .setDm rfl <| .setDm rfl <| .refl d

/-- An uncorrectable error makes its tile BAD. -/
theorem Dev.accessed_dmUncorr (t m : Nat) (sq : Option Nat) :
    Accessed (d.setTile t ⟨.bad, (d.tile t).tag⟩) (d.dmUncorr t m sq) := by
  have hlog : Accessed (d.setTile t ⟨.bad, (d.tile t).tag⟩) (((((d.setTile t ⟨.bad, (d.tile t).tag⟩).bump (stackPage (tileStack t))
      F.DMS_CNT_uncorr).stat (stackPage (tileStack t)) 16).tlogAdd t 3 m sq).raiseSys 249) :=
    .raiseSys <| (Accessed.stat (stackPage_dm t) <| .bump (stackPage_dm t) (by decide) <| .refl _).trans (Dev.accessed_tlogAdd _ _ _ _ _)
  unfold Dev.dmUncorr
  exact .ite hlog (.ite (.setStack hlog) (.ite hlog (.stat (stackPage_dm t) <| .setStack hlog)))

theorem Dev.tile_setTile (t : Nat) (x : TileInfo) : (d.setTile t x).tile t = x := tabGet_tabSet_same _ _ _ _

theorem Dev.tile_setTile_other (t u : Nat) (x : TileInfo) (h : u ≠ t) : (d.setTile t x).tile u = d.tile u :=
  tabGet_tabSet_other _ _ _ _ _ h

/-- A device after a read of a tile that met an uncorrectable error or none. -/
def Dev.afterRead (d : Dev) (t : Nat) (lost : Bool) : Dev := if lost then d.setTile t ⟨.bad, (d.tile t).tag⟩ else d

/-- A read makes its tile BAD where it meets an uncorrectable error. -/
theorem Dev.accessed_readTile (m : Mem) (t off n who : Nat) (sq : Option Nat) :
    Accessed (d.afterRead t !(d.unitsWith (4096 * t + off) n 2).isEmpty) (readTile d m t off n who sq).2.2 := by
  have hcount : Accessed d ((d.dmReach t off n).dmCorrected t (d.unitsWith (4096 * t + off) n 1).length) :=
    .bump (stackPage_dm t) (by decide) (d.accessed_dmReach t off n)
  unfold readTile Dev.afterRead
  simp only
  split
  · have hset := hcount.setTile (i := t) (x := ⟨.bad, (d.tile t).tag⟩)
    have hlost := Dev.accessed_dmUncorr ((d.dmReach t off n).dmCorrected t (d.unitsWith (4096 * t + off) n 1).length) t who sq
    rw [hcount.tile t] at hlost
    exact hset.trans hlost
  · exact hcount

theorem Dev.accessed_dropBack (t : Nat) : Accessed d (d.dropBack t) := by
  unfold Dev.dropBack
  split
  · exact .ite (.setDm rfl <| .refl d) (.refl d)
  · exact .refl d

end

/-! ## What the array delivers -/

section
variable {d e : Dev} (h : e.dm.flips = d.dm.flips)
include h

theorem Dev.flipsIn_congr (a n : Nat) : e.flipsIn a n = d.flipsIn a n := by unfold Dev.flipsIn; rw [h]

theorem Dev.unitErrors_congr (a : Nat) : e.unitErrors a = d.unitErrors a := by unfold Dev.unitErrors; rw [Dev.flipsIn_congr h]

theorem Dev.unitsWith_congr (a n k : Nat) : e.unitsWith a n k = d.unitsWith a n k := by
  unfold Dev.unitsWith
  simp only [Dev.flipsIn_congr h, Dev.unitErrors_congr h]

theorem Dev.arrayRead_congr (m : Mem) (a n : Nat) : e.arrayRead m a n = d.arrayRead m a n := by
  unfold Dev.arrayRead
  simp only [Dev.flipsIn_congr h, Dev.unitErrors_congr h]

end

theorem tilePasses_congr {d e : Dev} (t : Nat) (bs : Bytes) (h : e.tile t = d.tile t) : tilePasses e t bs = tilePasses d t bs := by
  unfold tilePasses
  rw [h]

/-- Where no stored bit has changed the array delivers what was written. -/
theorem Dev.arrayRead_whole (d : Dev) (m : Mem) (a n : Nat) (h : d.dm.flips = []) : d.arrayRead m a n = bytesGet 0 m.tiles a n := by
  unfold Dev.arrayRead Dev.flipsIn
  rw [h]
  rfl

theorem Dev.unitsWith_nil (d : Dev) (a n k : Nat) (h : d.flipsIn (a / 32 * 32) ((a + n + 31) / 32 * 32 - a / 32 * 32) = []) :
    d.unitsWith a n k = [] := by
  unfold Dev.unitsWith
  rw [h]
  rfl

theorem Dev.unitsWith_whole (d : Dev) (a n k : Nat) (h : d.dm.flips = []) : d.unitsWith a n k = [] :=
  d.unitsWith_nil a n k (by unfold Dev.flipsIn; rw [h]; rfl)

/-- The bytes of a run under wrong bits, byte by byte. -/
theorem foldl_modify_getD (fs : Flips) (a i : Nat) (bs : Bytes) (hi : i < bs.length) (hfs : ∀ x ∈ fs, a ≤ x.1) :
    (fs.foldl (fun bs x => bs.modify (x.1 - a) (· ^^^ x.2)) bs).getD i 0 =
      fs.foldl (fun b x => if x.1 = a + i then b ^^^ x.2 else b) (bs.getD i 0) := by
  induction fs generalizing bs with
  | nil => rfl
  | cons x fs ih =>
    have hx : a ≤ x.1 := hfs x (List.mem_cons_self ..)
    rw [List.foldl_cons, List.foldl_cons, ih _ (by simpa using hi) fun y hy => hfs y (List.mem_cons_of_mem _ hy)]
    congr 1
    simp only [List.getD_eq_getElem?_getD, List.getElem?_modify, List.getElem?_eq_getElem hi]
    by_cases hc : x.1 = a + i
    · simp [hc]
    · simp [hc, show x.1 - a ≠ i by omega]

/-- The byte that the array delivers at an address. -/
def Dev.arrayByte (d : Dev) (m : Mem) (c : Nat) : Byte :=
  d.dm.flips.foldl (fun b x => if x.1 = c ∧ 2 ≤ d.unitErrors x.1 then b ^^^ x.2 else b) (tileByte m c)

@[simp] theorem Dev.length_arrayRead (d : Dev) (m : Mem) (a n : Nat) : (d.arrayRead m a n).length = n := by
  unfold Dev.arrayRead
  generalize (d.flipsIn a n).filter _ = fs
  induction fs using List.reverseRecOn with
  | nil => exact length_bytesGet _ _ _ _
  | append_singleton fs x ih => rw [List.foldl_append, List.foldl_cons, List.foldl_nil, List.length_modify, ih]

/-- A read delivers its bytes one by one. -/
theorem Dev.arrayRead_getD (d : Dev) (m : Mem) (a n i : Nat) (hi : i < n) : (d.arrayRead m a n).getD i 0 = d.arrayByte m (a + i) := by
  unfold Dev.arrayRead Dev.arrayByte Dev.flipsIn
  rw [foldl_modify_getD _ _ _ _ (by rwa [length_bytesGet]) fun x hx => ?_]
  · rw [List.foldl_filter, List.foldl_filter, List.getD_eq_getElem?_getD, getElem?_bytesGet _ _ _ _ _ hi]
    congr 1
    funext b x
    by_cases hc : x.1 = a + i
    · simp [hc, hi]
    · simp [hc]
  · simp only [List.mem_filter, Bool.and_eq_true, decide_eq_true_eq] at hx
    exact hx.1.2.1

theorem Dev.arrayRead_one (d : Dev) (m : Mem) (c : Nat) : (d.arrayRead m c 1).getD 0 0 = d.arrayByte m c :=
  d.arrayRead_getD m c 1 0 Nat.one_pos

theorem Dev.arrayRead_eq_map (d : Dev) (m : Mem) (a n : Nat) :
    d.arrayRead m a n = (List.range n).map fun i => d.arrayByte m (a + i) := by
  apply List.ext_getElem (by simp)
  intro i hi _
  rw [List.getElem_map, List.getElem_range, ← d.arrayRead_getD m a n i (by simpa using hi),
    List.getD_eq_getElem _ _ hi]

/-! ## Tiles that are written -/

/-- A whole tile just written, byte by byte. -/
theorem tileByte_putTile (m : Mem) (t c : Nat) (bs : Bytes) (h : bs.length = 4096) :
    tileByte (m.putTileBytes (4096 * t) (bs.map some)) c =
      if 4096 * t ≤ c ∧ c < 4096 * t + 4096 then bs.getD (c - 4096 * t) 0 else tileByte m c := by
  split
  next hc =>
    obtain ⟨i, rfl⟩ := Nat.exists_eq_add_of_le hc.1
    have hi : i < bs.length := by omega
    rw [Nat.add_sub_cancel_left, List.getD_eq_getElem _ _ hi]
    exact tabGet_bytesSetEn_same 0 _ _ _ i bs[i] (by rw [List.getElem?_map, List.getElem?_eq_getElem hi]; rfl)
  next hc =>
    refine tabGet_bytesSetEn_other 0 _ _ _ c fun j b hj => ?_
    have := (List.getElem?_eq_some_iff.mp hj).1
    rw [List.length_map] at this
    omega

/-- A tile's bytes as a partial write leaves them: the enabled bytes from `off` on, the old ones elsewhere. -/
def merged (off : Nat) (ps : List (Option Byte)) (old : Bytes) : Bytes :=
  (List.range 4096).map fun i => if i < off then old.getD i 0 else (ps.getD (i - off) none).getD (old.getD i 0)

@[simp] theorem length_merged (off : Nat) (ps : List (Option Byte)) (old : Bytes) : (merged off ps old).length = 4096 := by
  simp [merged]

theorem merged_getD (off : Nat) (ps : List (Option Byte)) (old : Bytes) (i : Nat) (hi : i < 4096) :
    (merged off ps old).getD i 0 = if i < off then old.getD i 0 else (ps.getD (i - off) none).getD (old.getD i 0) := by
  unfold merged
  rw [List.getD_eq_getElem?_getD, List.getElem?_map, List.getElem?_range hi]
  rfl

/-- An enabled byte is stored. -/
theorem merged_enabled {off i : Nat} {ps : List (Option Byte)} {b : Byte} (old : Bytes) (hi : off + i < 4096)
    (h : ps[i]? = some (some b)) : (merged off ps old).getD (off + i) 0 = b := by
  rw [merged_getD _ _ _ _ hi, if_neg (by omega), Nat.add_sub_cancel_left, List.getD_eq_getElem?_getD, h]
  rfl

/-- Every other byte stays. -/
theorem merged_kept {off i : Nat} {ps : List (Option Byte)} (old : Bytes) (hi : i < 4096)
    (h : ∀ j b, ps[j]? = some (some b) → i ≠ off + j) : (merged off ps old).getD i 0 = old.getD i 0 := by
  rw [merged_getD _ _ _ _ hi]
  split
  · rfl
  next ho =>
    rw [List.getD_eq_getElem?_getD]
    match hj : ps[i - off]? with
    | none => rfl
    | some none => rfl
    | some (some b) => exact absurd (by omega) (h _ b hj)

/-- A write of whole units leaves no wrong bit in them. -/
theorem Dev.unitsWith_renewed (d : Dev) (t k : Nat) : (d.renewed (4096 * t) 4096).unitsWith (4096 * t) 4096 k = [] := by
  refine Dev.unitsWith_nil _ _ _ _ (List.filter_eq_nil_iff.mpr fun x hx => ?_)
  have hx' := (List.mem_filter.mp hx).2
  simp only [Bool.or_eq_true, decide_eq_true_eq, Bool.and_eq_true] at hx' ⊢
  omega

theorem Dev.tile_renewed (d : Dev) (a n u : Nat) : (d.renewed a n).tile u = d.tile u := rfl

/-- A whole write: its tile VALID under the bytes' tag. -/
theorem writeWhole_tile (d : Dev) (m : Mem) (t : Nat) (bs : Bytes) :
    (writeWhole d m t bs).1.tile t = ⟨.valid, crc32c bs⟩ ∧ ∀ u, u ≠ t → (writeWhole d m t bs).1.tile u = d.tile u := by
  have h := (d.accessed_dmReach t 0 4096).trans (Dev.accessed_dropBack _ t)
  unfold writeWhole
  refine ⟨Dev.tile_setTile _ t _, fun u hu => ?_⟩
  rw [Dev.tile_setTile_other _ t u _ hu, Dev.tile_renewed, h.tile u]

/-- The bytes of its tile become those written, and no other byte changes. -/
theorem writeWhole_bytes (d : Dev) (m : Mem) (t : Nat) (bs : Bytes) (h : bs.length = 4096) :
    (∀ i, i < 4096 → tileByte (writeWhole d m t bs).2 (4096 * t + i) = bs.getD i 0) ∧
      ∀ a, a < 4096 * t ∨ 4096 * t + 4096 ≤ a → tileByte (writeWhole d m t bs).2 a = tileByte m a := by
  have hput := fun c => tileByte_putTile m t c bs h
  refine ⟨fun i hi => (hput _).trans ?_, fun a ha => (hput a).trans (if_neg (by omega))⟩
  rw [if_pos ⟨by omega, by omega⟩, Nat.add_sub_cancel_left]

/-- A read's bytes are those that the array delivers. -/
theorem readTile_bytes (d : Dev) (m : Mem) (t off n who : Nat) (sq : Option Nat) :
    (readTile d m t off n who sq).1 = d.arrayRead m (4096 * t + off) n := rfl

theorem Mem.pad_putTileBytes (m : Mem) (a : Nat) (bs : List (Option Byte)) : (m.putTileBytes a bs).pad = m.pad := rfl

/-- A partial write of what it has read. -/
def partWritten (m : Mem) (t off : Nat) (ps : List (Option Byte)) (x : Bytes × Bool × Dev) : Dev × Mem :=
  ((if tilePasses x.2.2 t x.1 then x.2.2.setTile t ⟨.valid, crc32c (merged off ps x.1)⟩
      else x.2.2.setTile t ⟨.bad, (x.2.2.tile t).tag⟩).renewed (4096 * t) 4096,
    m.putTileBytes (4096 * t) ((merged off ps x.1).map some))

theorem writePart_eq (d : Dev) (m : Mem) (t off : Nat) (ps : List (Option Byte)) (who : Nat) :
    writePart d m t off ps who = partWritten m t off ps (readTile (d.dropBack t) m t 0 4096 who none) := by
  unfold writePart partWritten
  generalize readTile (d.dropBack t) m t 0 4096 who none = x
  obtain ⟨old, lost, e⟩ := x
  rfl

section
variable (d : Dev) (m : Mem) (t off : Nat) (ps : List (Option Byte)) (who : Nat)

/-- A partial write stores what it merges into the bytes delivered. -/
theorem writePart_mem :
    (writePart d m t off ps who).2 = m.putTileBytes (4096 * t) ((merged off ps (d.arrayRead m (4096 * t) 4096)).map some) := by
  rw [writePart_eq]
  unfold partWritten
  rw [readTile_bytes, Dev.arrayRead_congr (d.accessed_dropBack t).flips, Nat.add_zero]

/-- Its tile is VALID under a new tag where the old one passed its check and no uncorrectable error met the read. -/
theorem writePart_tile :
    (writePart d m t off ps who).1.tile t =
        (if tilePasses d t (d.arrayRead m (4096 * t) 4096) ∧ d.unitsWith (4096 * t) 4096 2 = [] then
          ⟨.valid, crc32c (merged off ps (d.arrayRead m (4096 * t) 4096))⟩
        else ⟨.bad, (d.tile t).tag⟩) ∧
      (∀ u, u ≠ t → (writePart d m t off ps who).1.tile u = d.tile u) ∧
      (writePart d m t off ps who).1.unitsWith (4096 * t) 4096 1 = [] := by
  have hdrop := d.accessed_dropBack t
  have hread := Dev.accessed_readTile (d.dropBack t) m t 0 4096 who none
  have hbytes := readTile_bytes (d.dropBack t) m t 0 4096 who none
  rw [Dev.arrayRead_congr hdrop.flips, Nat.add_zero] at hbytes
  rw [Dev.unitsWith_congr hdrop.flips, Nat.add_zero] at hread
  rw [writePart_eq]
  unfold partWritten
  rw [hbytes]
  generalize (readTile (d.dropBack t) m t 0 4096 who none).2.2 = e at hread
  generalize d.arrayRead m (4096 * t) 4096 = old
  refine ⟨?_, fun u hu => ?_, Dev.unitsWith_renewed _ t 1⟩
  · by_cases hlost : d.unitsWith (4096 * t) 4096 2 = []
    · rw [hlost, show (d.dropBack t).afterRead t (!([] : List Nat).isEmpty) = d.dropBack t from rfl] at hread
      rw [tilePasses_congr t old (hread.tile t), hread.tile t, tilePasses_congr t old (hdrop.tile t), hdrop.tile t, Dev.tile_renewed]
      by_cases hpass : tilePasses d t old = true
      · rw [if_pos hpass, if_pos ⟨hpass, hlost⟩, Dev.tile_setTile]
      · rw [if_neg hpass, if_neg fun h => hpass h.1, Dev.tile_setTile]
    · have htile : e.tile t = ⟨.bad, (d.tile t).tag⟩ := by
        rw [hread.tile t, List.isEmpty_eq_false_iff.mpr hlost]
        exact (Dev.tile_setTile _ t _).trans (by rw [hdrop.tile t])
      have hpass : tilePasses e t old = false := by
        unfold tilePasses
        rw [htile]
        rfl
      rw [hpass, if_neg Bool.false_ne_true, if_neg fun h => hlost h.2, Dev.tile_renewed, Dev.tile_setTile, htile]
  · have hafter : ((d.dropBack t).afterRead t (!(d.unitsWith (4096 * t) 4096 2).isEmpty)).tile u = d.tile u := by
      unfold Dev.afterRead
      split
      · rw [Dev.tile_setTile_other _ t u _ hu, hdrop.tile u]
      · exact hdrop.tile u
    rw [Dev.tile_renewed, apply_ite (Dev.tile · u), Dev.tile_setTile_other _ t u _ hu, Dev.tile_setTile_other _ t u _ hu, ite_self,
      hread.tile u, hafter]

end

/-! ## Requests that reach the controller -/

/-- Stored bits that change are all that a strike changes. -/
theorem Dev.strike_eq (d : Dev) (fs : Flips) : ∃ bits, d.strike fs = { d with dm := { d.dm with flips := bits } } := by
  unfold Dev.strike
  induction fs generalizing d with
  | nil => exact ⟨_, rfl⟩
  | cons x fs ih =>
    rw [List.foldl_cons]
    split
    · exact ih d
    · obtain ⟨bits, h⟩ := ih _
      exact ⟨bits, h.trans rfl⟩

theorem Dev.tiles_strike (d : Dev) (fs : Flips) : (d.strike fs).tiles = d.tiles := by
  obtain ⟨bits, h⟩ := d.strike_eq fs
  rw [h]

theorem Dev.tile_strike (d : Dev) (fs : Flips) (u : Nat) : (d.strike fs).tile u = d.tile u :=
  congrArg (tabGet (fun _ => TileInfo.init) · u) (d.tiles_strike fs)

/-- A device that has read no bytes for its answer yet. -/
def Dev.unanswered (d : Dev) : Dev := { d with rbytes := [] }

/-- A request of a master that the controller takes, with none before it, is served. -/
theorem ask_serves (d : Dev) (m : Mem) (a : Ask) (ht : d.dmTakes a.master = true) (hq : d.stalls a.master = false)
    (hf : a.fits = true) : ask d m a = serveAsk d m a := by
  simp only [Dev.dmTakes, Bool.and_eq_true, Bool.not_eq_true'] at ht
  obtain ⟨⟨hheard, hfrozen⟩, hwaits⟩ := ht
  have hqueued : d.queued a.master = false := (Bool.or_eq_false_iff.mp hq).1
  unfold ask askNow
  rw [hheard, hf, hqueued, hfrozen, hwaits]
  rfl

/-- The same for the one request of a command, after stored bits have changed. -/
theorem ask_strike (d : Dev) (m : Mem) (a : Ask) (fs : Flips) (ht : d.dmTakes a.master = true) (hq : d.stalls a.master = false)
    (hf : a.fits = true) : ask (d.strike fs).unanswered m a = serveAsk (d.strike fs).unanswered m a := by
  obtain ⟨bits, hbits⟩ := d.strike_eq fs
  rw [hbits]
  exact ask_serves _ m a ht hq hf

end Sys2Proof.Machine

namespace Sys2Proof.Safety

open Sys2Proof.Machine

theorem exec_tileWriteWhole (m : Master) (t : Nat) (bs : Bytes) (s : State) :
    exec (.tileWriteWhole m t bs) s = onBoth s fun d q => askOne d q (.tile ⟨m, t, .writeWhole bs, none⟩) := rfl
theorem exec_tileWritePartial (m : Master) (t off : Nat) (ps : List (Option Byte)) (fs : Flips) (s : State) :
    exec (.tileWritePartial m t off ps fs) s = onBoth s fun d q => askOne (d.strike fs) q (.tile ⟨m, t, .writePart off ps, none⟩) := rfl

/-- Settles O37: a whole write takes its bytes' tag, and a partial one merges what the array delivers, whose check decides. -/
theorem tileWrites : Obligations.TileWrites := by
  intro s m t off bs ps fs d old new htakes hstalls ht
  refine ⟨fun hlen => ?_, fun hlen => ?_⟩
  · have hf : (Ask.tile ⟨m, t, .writeWhole bs, none⟩).fits = true := by simp [Ask.fits, ht, hlen]
    obtain ⟨htile, hother⟩ := writeWhole_tile s.dev.unanswered s.mem t bs
    obtain ⟨hnew, hkept⟩ := writeWhole_bytes s.dev.unanswered s.mem t bs hlen
    exact ⟨_, _, gives_onBoth (exec_tileWriteWhole m t bs s) (ask_serves s.dev.unanswered s.mem _ htakes hstalls hf), htile, hother,
      hnew, hkept, rfl⟩
  · have hf : (Ask.tile ⟨m, t, .writePart off ps, none⟩).fits = true := by simp [Ask.fits, ht, hlen]
    obtain ⟨htile, hother, hunits⟩ := writePart_tile d.unanswered s.mem t off ps m.id
    have hmem : (writePart d.unanswered s.mem t off ps m.id).2 = s.mem.putTileBytes (4096 * t) ((merged off ps old).map some) :=
      writePart_mem _ s.mem t off ps m.id
    have hbyte (c : Nat) := (congrArg (tileByte · c) hmem).trans (tileByte_putTile s.mem t c _ (length_merged off ps old))
    have hin (i : Nat) (hi : i < 4096) := (hbyte (4096 * t + i)).trans (by
      rw [if_pos ⟨Nat.le_add_right _ _, by omega⟩, Nat.add_sub_cancel_left])
    refine ⟨_, _, gives_onBoth (exec_tileWritePartial m t off ps fs s) (ask_strike s.dev s.mem _ fs htakes hstalls hf), htile,
      fun u hu => (hother u hu).trans (s.dev.tile_strike fs u), hunits, fun i b hi => ?_, fun i hi hj => ?_, fun a ha => ?_, ?_⟩
    · have := (List.getElem?_eq_some_iff.mp hi).1
      rw [Nat.add_assoc]
      exact (hin (off + i) (by omega)).trans (merged_enabled old (by omega) hi)
    · exact (hin i hi).trans (merged_kept old hi hj)
    · exact (hbyte a).trans (if_neg (by omega))
    · exact (congrArg Mem.pad hmem).trans (Mem.pad_putTileBytes _ _ _)

end Sys2Proof.Safety
end

section
/-! SUPPORT. BAR4 accesses, requests of masters and fetches of tiles. -/
namespace Sys2Proof.Machine

open Sys2Proof.Safety

/-! ## A run of bytes, tile by tile -/

/-- Where the first `j` tiles of a run end. -/
def runEnd (a n j : Nat) : Nat := max a (min (a + n) (4096 * (a / 4096 + j)))

/-- A run's bytes in the `j`-th tile that it touches. -/
def runPart (a n j : Nat) : Nat × Nat × Nat :=
  (a / 4096 + j, max a (4096 * (a / 4096 + j)) - 4096 * (a / 4096 + j),
    min (a + n) (4096 * (a / 4096 + j + 1)) - max a (4096 * (a / 4096 + j)))

theorem tileParts_eq (a n : Nat) (h : n ≠ 0) :
    tileParts a n = (List.range ((a + n - 1) / 4096 - a / 4096 + 1)).map (runPart a n) := if_neg h

/-- The addresses of a part. -/
def partAddrs (q : Nat × Nat × Nat) : List Nat := List.range' (4096 * q.1 + q.2.1) q.2.2

theorem partAddrs_runPart (a n j : Nat) (h : 4096 * (a / 4096 + j) < a + n) :
    partAddrs (runPart a n j) = List.range' (runEnd a n j) (runEnd a n (j + 1) - runEnd a n j) := by
  unfold partAddrs runPart runEnd
  simp only
  congr 1 <;> omega

/-- The parts of a run are its bytes in order. -/
theorem flatMap_tileParts (a n : Nat) : (tileParts a n).flatMap partAddrs = List.range' a n := by
  by_cases hn : n = 0
  · subst hn
    rfl
  · have hk (j : Nat) (hj : j ≤ (a + n - 1) / 4096 - a / 4096 + 1) :
        ((List.range j).map (runPart a n)).flatMap partAddrs = List.range' a (runEnd a n j - a) := by
      induction j with
      | zero => rw [show runEnd a n 0 - a = 0 by unfold runEnd; omega]; rfl
      | succ j ih =>
        rw [List.range_succ, List.map_append, List.flatMap_append, ih (by omega), List.map_singleton, List.flatMap_singleton,
          partAddrs_runPart a n j (by omega)]
        have h1 : a ≤ runEnd a n j := Nat.le_max_left _ _
        have h2 : runEnd a n j ≤ runEnd a n (j + 1) := by unfold runEnd; omega
        rw [show List.range' (runEnd a n j) _ = List.range' (a + 1 * (runEnd a n j - a)) (runEnd a n (j + 1) - runEnd a n j) by
          congr 1; omega, List.range'_append]
        congr 1
        omega
    rw [tileParts_eq a n hn, hk _ (Nat.le_refl _)]
    congr 1
    unfold runEnd
    omega

/-- A part stays in its tile, behind the run's start. -/
theorem tileParts_mem {a n : Nat} {q : Nat × Nat × Nat} (h : q ∈ tileParts a n) : a ≤ 4096 * q.1 + q.2.1 ∧ q.2.1 + q.2.2 ≤ 4096 := by
  by_cases hn : n = 0
  · subst hn
    exact absurd h List.not_mem_nil
  · rw [tileParts_eq a n hn] at h
    obtain ⟨j, -, rfl⟩ := List.mem_map.mp h
    unfold runPart
    simp only
    omega

/-! ## BAR4 (R379) -/

/-- A request beyond tile space is counted at the host link's page. -/
theorem Dev.apOut_keeps (d : Dev) (a n : Nat) :
    (d.apOut a n).dm = d.dm ∧ (d.apOut a n).tiles = d.tiles ∧ (d.apOut a n).rbytes = d.rbytes := by
  unfold Dev.apOut
  split
  · exact ⟨Dev.stat_dm _ _ _, Dev.stat_tiles _ _ _, Dev.stat_rbytes _ _ _⟩
  · exact ⟨rfl, rfl, rfl⟩

/-- What reads of parts of tiles keep: the wrong bits and the answer so far, and the tiles' states where no bit is wrong. -/
structure PartsRead (d e : Dev) : Prop where
  flips : e.dm.flips = d.dm.flips
  rbytes : e.rbytes = d.rbytes
  tiles : d.dm.flips = [] → e.tiles = d.tiles

theorem PartsRead.readTile {d e : Dev} (h : PartsRead d e) (m : Mem) (t off n who : Nat) (sq : Option Nat) :
    PartsRead d (readTile e m t off n who sq).2.2 := by
  have hread := e.accessed_readTile m t off n who sq
  have hflips (b : Bool) : (e.afterRead t b).dm.flips = e.dm.flips := by cases b <;> rfl
  have hrbytes (b : Bool) : (e.afterRead t b).rbytes = e.rbytes := by cases b <;> rfl
  refine ⟨hread.flips.trans ((hflips _).trans h.flips), hread.rbytes.trans ((hrbytes _).trans h.rbytes), fun hd => ?_⟩
  rw [hread.tiles, e.unitsWith_whole _ _ _ (h.flips.trans hd)]
  exact h.tiles hd

/-- Parts of tiles are read one after another. -/
def readParts (m : Mem) (who : Nat) (x : Bytes × Dev) (qs : List (Nat × Nat × Nat)) : Bytes × Dev :=
  qs.foldl (fun x q => let (bs, _, d) := readTile x.2 m q.1 q.2.1 q.2.2 who none; (x.1 ++ bs, d)) x

theorem readParts_reads (d : Dev) (m : Mem) (who : Nat) (qs : List (Nat × Nat × Nat)) (bs : Bytes) (e : Dev) (h : PartsRead d e) :
    (readParts m who (bs, e) qs).1 = bs ++ (qs.flatMap partAddrs).map (d.arrayByte m) ∧
      PartsRead d (readParts m who (bs, e) qs).2 := by
  induction qs generalizing bs e with
  | nil => exact ⟨(List.append_nil bs).symm, h⟩
  | cons q qs ih =>
    obtain ⟨hbytes, hdev⟩ := ih (bs ++ (readTile e m q.1 q.2.1 q.2.2 who none).1) _ (h.readTile m q.1 q.2.1 q.2.2 who none)
    refine ⟨hbytes.trans ?_, hdev⟩
    rw [List.flatMap_cons, List.map_append, List.append_assoc, readTile_bytes, Dev.arrayRead_congr h.flips, Dev.arrayRead_eq_map,
      partAddrs, List.range'_eq_map_range, List.map_map]
    rfl

/-- A BAR4 read delivers its window's bytes as far as tile space goes, and zeros. -/
theorem bar4Read_reads (d : Dev) (m : Mem) (who a len : Nat) :
    (bar4Read d m who a len).1 = (List.range' a (min len (tileSpace - a))).map (d.arrayByte m) ++
        List.replicate (len - min len (tileSpace - a)) 0 ∧
      (bar4Read d m who a len).2.rbytes = d.rbytes ∧ (d.dm.flips = [] → (bar4Read d m who a len).2.tiles = d.tiles) := by
  obtain ⟨hdm, htiles, hrbytes⟩ := d.apOut_keeps a len
  obtain ⟨hbytes, hdev⟩ := readParts_reads d m who (tileParts a (min len (tileSpace - a))) [] (d.apOut a len)
    ⟨congrArg DeepMem.flips hdm, hrbytes, fun _ => htiles⟩
  rw [flatMap_tileParts, List.nil_append] at hbytes
  exact ⟨congrArg (· ++ _) hbytes, hdev.rbytes, hdev.tiles⟩

/-- The bytes of a BAR4 read's answer. -/
theorem window_getD (f : Nat → Byte) (a len i : Nat) (hi : i < len) :
    ((List.range' a (min len (tileSpace - a))).map f ++ List.replicate (len - min len (tileSpace - a)) 0).getD i 0 =
      if a + i < tileSpace then f (a + i) else 0 := by
  rw [List.getD_eq_getElem?_getD]
  split
  next h =>
    have hin : i < min len (tileSpace - a) := by omega
    rw [List.getElem?_append_left (by simpa using hin), List.getElem?_map, List.getElem?_range' hin, Nat.one_mul]
    rfl
  next h =>
    have hout : min len (tileSpace - a) ≤ i := by omega
    rw [List.getElem?_append_right (by simpa using hout), List.getElem?_replicate]
    split <;> rfl

/-- What the bytes `bs` of a run from `a` on write at an address. -/
def written (a : Nat) (bs : List (Option Byte)) (c : Nat) : Option Byte := bs.getD (c - a) none

/-- The part of a run's bytes that a part of a tile takes. -/
def partBytes (a : Nat) (bs : List (Option Byte)) (q : Nat × Nat × Nat) : List (Option Byte) :=
  (bs.drop (4096 * q.1 + q.2.1 - a)).take q.2.2

theorem partBytes_getD (a : Nat) (bs : List (Option Byte)) (q : Nat × Nat × Nat) (c : Nat) (ha : a ≤ 4096 * q.1 + q.2.1) :
    (if c ∈ partAddrs q then written a bs c else none) =
      if 4096 * q.1 + q.2.1 ≤ c then (partBytes a bs q).getD (c - (4096 * q.1 + q.2.1)) none else none := by
  unfold partBytes partAddrs written
  simp only [List.getD_eq_getElem?_getD, List.getElem?_take, List.getElem?_drop, List.mem_range'_1]
  by_cases hc : 4096 * q.1 + q.2.1 ≤ c
  · rw [if_pos hc, show 4096 * q.1 + q.2.1 - a + (c - (4096 * q.1 + q.2.1)) = c - a by omega]
    by_cases h : c < 4096 * q.1 + q.2.1 + q.2.2
    · rw [if_pos ⟨hc, h⟩, if_pos (by omega)]
    · rw [if_neg fun hh => h hh.2, if_neg (by omega)]
      rfl
  · rw [if_neg hc, if_neg fun hh => hc hh.1]

/-- A BAR4 write of a part of a tile; one with no byte enabled does nothing. -/
def writeStep (a : Nat) (bs : List (Option Byte)) (who : Nat) (x : Dev × Mem) (q : Nat × Nat × Nat) : Dev × Mem :=
  if (partBytes a bs q).all Option.isNone then x else writePart x.1 x.2 q.1 q.2.1 (partBytes a bs q) who

theorem bar4Write_eq (d : Dev) (m : Mem) (who a : Nat) (bs : List (Option Byte)) :
    bar4Write d m who a bs =
      (tileParts a (min bs.length (tileSpace - a))).foldl (writeStep a bs who) (d.apOut a bs.length, m) := rfl

theorem writePart_flips (d : Dev) (m : Mem) (t off : Nat) (ps : List (Option Byte)) (who : Nat) (h : d.dm.flips = []) :
    (writePart d m t off ps who).1.dm.flips = [] := by
  have hread := (PartsRead.mk (d := d) (d.accessed_dropBack t).flips (d.accessed_dropBack t).rbytes fun _ =>
    (d.accessed_dropBack t).tiles).readTile m t 0 4096 who none
  rw [writePart_eq]
  unfold partWritten Dev.renewed
  simp only [apply_ite Dev.dm, Dev.setTile, ite_self, hread.flips, h]
  rfl

/-- A partial write where no stored bit has changed, byte by byte. -/
theorem writePart_bytes (d : Dev) (m : Mem) (t off : Nat) (ps : List (Option Byte)) (who c : Nat) (h : d.dm.flips = [])
    (hfit : off + ps.length ≤ 4096) : tileByte (writePart d m t off ps who).2 c =
      (if 4096 * t + off ≤ c then ps.getD (c - (4096 * t + off)) none else none).getD (tileByte m c) := by
  rw [writePart_mem, tileByte_putTile m t c _ (length_merged _ _ _), d.arrayRead_whole m _ _ h]
  split
  next hc =>
    obtain ⟨i, rfl⟩ := Nat.exists_eq_add_of_le hc.1
    have hi : i < 4096 := by omega
    rw [Nat.add_sub_cancel_left, merged_getD _ _ _ _ hi, List.getD_eq_getElem?_getD (l := bytesGet _ _ _ _),
      getElem?_bytesGet _ _ _ _ _ hi, Nat.add_sub_add_left]
    by_cases ho : i < off
    · rw [if_pos ho, if_neg (by omega)]
      rfl
    · rw [if_neg ho, if_pos (by omega)]
      rfl
  next hc =>
    split
    · rw [List.getD_eq_default _ _ (by omega)]
      rfl
    · rfl

/-- Where no stored bit has changed, a part's enabled bytes are stored and nothing else. -/
theorem writeStep_bytes (a : Nat) (bs : List (Option Byte)) (who : Nat) (x : Dev × Mem) (q : Nat × Nat × Nat)
    (h : x.1.dm.flips = []) (ha : a ≤ 4096 * q.1 + q.2.1) (hq : q.2.1 + q.2.2 ≤ 4096) :
    (writeStep a bs who x q).1.dm.flips = [] ∧ (writeStep a bs who x q).2.pad = x.2.pad ∧
      ∀ c, tileByte (writeStep a bs who x q).2 c =
        (if c ∈ partAddrs q then written a bs c else none).getD (tileByte x.2 c) := by
  have hlen : (partBytes a bs q).length ≤ q.2.2 := List.length_take_le _ _
  unfold writeStep
  split
  next hnone =>
    refine ⟨h, rfl, fun c => ?_⟩
    have hall (i : Nat) : (partBytes a bs q).getD i none = none := by
      rw [List.getD_eq_getElem?_getD]
      match hi : (partBytes a bs q)[i]? with
      | none => rfl
      | some b => exact Option.isNone_iff_eq_none.mp (List.all_eq_true.mp hnone b (List.mem_of_getElem? hi))
    rw [partBytes_getD a bs q c ha, hall, ite_self]
    rfl
  · refine ⟨writePart_flips _ _ _ _ _ _ h, (congrArg Mem.pad (writePart_mem _ _ _ _ _ _)).trans (Mem.pad_putTileBytes _ _ _), fun c => ?_⟩
    rw [partBytes_getD a bs q c ha]
    exact writePart_bytes _ _ _ _ _ _ c h (by omega)

/-- Parts in any number do what their addresses together say. -/
theorem writeSteps_bytes (a : Nat) (bs : List (Option Byte)) (who : Nat) (qs : List (Nat × Nat × Nat)) (x : Dev × Mem)
    (h : x.1.dm.flips = []) (hqs : ∀ q ∈ qs, a ≤ 4096 * q.1 + q.2.1 ∧ q.2.1 + q.2.2 ≤ 4096) :
    (qs.foldl (writeStep a bs who) x).2.pad = x.2.pad ∧
      ∀ c, tileByte (qs.foldl (writeStep a bs who) x).2 c =
        (if c ∈ qs.flatMap partAddrs then written a bs c else none).getD (tileByte x.2 c) := by
  induction qs generalizing x with
  | nil => exact ⟨rfl, fun _ => rfl⟩
  | cons q qs ih =>
    obtain ⟨hq, hqs⟩ := List.forall_mem_cons.mp hqs
    obtain ⟨hflips, hpad, hbytes⟩ := writeStep_bytes a bs who x q h hq.1 hq.2
    obtain ⟨hpads, hrest⟩ := ih _ hflips hqs
    refine ⟨hpads.trans hpad, fun c => ?_⟩
    rw [List.foldl_cons, hrest c, hbytes c, List.flatMap_cons]
    simp only [List.mem_append]
    by_cases h1 : c ∈ partAddrs q <;> by_cases h2 : c ∈ qs.flatMap partAddrs
    · rw [if_pos h1, if_pos h2, if_pos (.inl h1)]
      cases written a bs c <;> rfl
    · rw [if_pos h1, if_neg h2, if_pos (.inl h1)]
      rfl
    · rw [if_neg h1, if_pos h2, if_pos (.inr h2)]
      rfl
    · rw [if_neg h1, if_neg h2, if_neg fun h => h.elim h1 h2]
      rfl

/-- A BAR4 write where no stored bit has changed: the enabled bytes of the run are stored, and nothing else. -/
theorem bar4Write_bytes (d : Dev) (m : Mem) (who a : Nat) (bs : List (Option Byte)) (h : d.dm.flips = []) :
    (bar4Write d m who a bs).2.pad = m.pad ∧
      (∀ i b, bs[i]? = some (some b) → a + i < tileSpace → tileByte (bar4Write d m who a bs).2 (a + i) = b) ∧
      ∀ c, (∀ i b, bs[i]? = some (some b) → a + i < tileSpace → c ≠ a + i) →
        tileByte (bar4Write d m who a bs).2 c = tileByte m c := by
  obtain ⟨hpad, hbytes⟩ := writeSteps_bytes a bs who (tileParts a (min bs.length (tileSpace - a))) (d.apOut a bs.length, m)
    ((congrArg DeepMem.flips (d.apOut_keeps a bs.length).1).trans h) fun q hq => tileParts_mem hq
  simp only [flatMap_tileParts, List.mem_range'_1] at hbytes
  rw [bar4Write_eq]
  refine ⟨hpad, fun i b hi hin => ?_, fun c hc => ?_⟩
  · have := (List.getElem?_eq_some_iff.mp hi).1
    rw [hbytes, if_pos ⟨Nat.le_add_right _ _, by omega⟩]
    unfold written
    rw [Nat.add_sub_cancel_left, List.getD_eq_getElem?_getD, hi]
    rfl
  · rw [hbytes]
    split
    next hin =>
      unfold written
      rw [List.getD_eq_getElem?_getD]
      match hi : bs[c - a]? with
      | none => rfl
      | some none => rfl
      | some (some b) => exact absurd (by omega) (hc _ b hi (by omega))
    · rfl

/-! ## Requests that read -/

theorem serveAsk_aperture (d : Dev) (m : Mem) (who : Master) (a len : Nat) : serveAsk d m (.aperture who a len none) =
    ((bar4Read d m who.id a len).2.answerBytes (bar4Read d m who.id a len).1, m) := rfl

/-- What a request that reads a tile makes of the device. -/
def Dev.tileAnswered (d : Dev) (m : Mem) (r : DmReq) : Dev :=
  (readTile d m r.tile 0 4096 r.m.id (r.sq.map Fin.val)).2.2.answerBytes (readTile d m r.tile 0 4096 r.m.id (r.sq.map Fin.val)).1

theorem serveAsk_read (d : Dev) (m : Mem) (r : DmReq) (h : r.op = .read) : serveAsk d m (.tile r) = (d.tileAnswered m r, m) := by
  unfold serveAsk
  simp only [h]
  rfl

/-- A tile that is read is the answer. -/
theorem Dev.tileAnswered_answers (d : Dev) (m : Mem) (r : DmReq) :
    (d.unanswered.tileAnswered m r).rbytes = d.arrayRead m (4096 * r.tile) 4096 ∧
      (d.unitsWith (4096 * r.tile) 4096 2 = [] → (d.unanswered.tileAnswered m r).tiles = d.tiles) := by
  have hread := d.unanswered.accessed_readTile m r.tile 0 4096 r.m.id (r.sq.map Fin.val)
  have hbytes := readTile_bytes d.unanswered m r.tile 0 4096 r.m.id (r.sq.map Fin.val)
  rw [Nat.add_zero, d.unitsWith_congr (e := d.unanswered) rfl] at hread
  rw [Nat.add_zero, d.arrayRead_congr (e := d.unanswered) rfl] at hbytes
  have hnone (b : Bool) : (d.unanswered.afterRead r.tile b).rbytes = [] := by cases b <;> rfl
  refine ⟨?_, fun h => hread.tiles.trans (by rw [h]; rfl)⟩
  change (readTile d.unanswered m r.tile 0 4096 r.m.id (r.sq.map Fin.val)).2.2.rbytes ++ _ = _
  rw [hread.rbytes, hnone, hbytes, List.nil_append]

/-! ## Fetches (R138, R144, R149) -/

theorem Dev.sqs_placeTile (d : Dev) (n : Nat) : (d.placeTile n).sqs = d.sqs := by
  have hfold (bs : List Nat) (e : Dev) :
      (bs.foldl (fun (e : Dev) b => e.setBank b { e.bank b with placed := true }) e).sqs = e.sqs := by
    induction bs generalizing e with
    | nil => rfl
    | cons b bs ih => exact ih _
  have htouch (e : Dev) (b : Nat) : (e.bankTouch b).sqs = e.sqs := by
    unfold Dev.bankTouch
    split <;> rfl
  unfold Dev.placeTile
  simp only
  split
  · exact (htouch _ _).trans (hfold _ _)
  · exact hfold _ _

/-- A tile in the streaming buffer of the sequencer that waited for it. -/
def Dev.streamed (d : Dev) (n : Nat) (h : HeldTile) : Dev :=
  d.setSq n { d.sq n with stream := (d.sq n).stream ++ [h], wanted := (d.sq n).wanted.erase h.tile }

/-- What a fetch does that passes its check, for a sequencer that is not PREPARING and still wants the tile: the words of a play that
came too late for it are fill. -/
theorem tileFetched_eq (d : Dev) (m : Mem) (n t late : Nat) (hwant : (d.sq n).wanted.contains t = true)
    (hdrop : (d.sq n).dropped.contains t = false) (hstate : d.sqState n ≠ 1)
    (hpass : tilePasses (readTile d m t 0 4096 4 (some n)).2.2 t (readTile d m t 0 4096 4 (some n)).1 = true) :
    ∃ due : Bool, tileFetched d m n t late =
      (if due = true then ((readTile d m t 0 4096 4 (some n)).2.2.placeTile n).fills n late
        else (readTile d m t 0 4096 4 (some n)).2.2.placeTile n).streamed n ⟨t, 4096, (readTile d m t 0 4096 4 (some n)).1⟩ := by
  unfold tileFetched
  generalize readTile d m t 0 4096 4 (some n) = x at hpass
  obtain ⟨bs, lost, e⟩ := x
  simp only at hpass
  simp only [beq_false_of_ne hstate, Bool.false_and, hdrop, hwant, Bool.not_false, Bool.not_true, Bool.and_false, Bool.false_eq_true,
    if_false, hpass, if_true]
  exact ⟨_, rfl⟩

/-- A fetch that passes its check brings its tile into the streaming buffer. -/
theorem tileFetched_streams (d : Dev) (m : Mem) (n t late : Nat) (hwant : (d.sq n).wanted.contains t = true)
    (hdrop : (d.sq n).dropped.contains t = false) (hstate : d.sqState n ≠ 1)
    (hpass : tilePasses d t (d.arrayRead m (4096 * t) 4096) = true) (hlost : d.unitsWith (4096 * t) 4096 2 = []) :
    ((tileFetched d m n t late).sq n).stream = (d.sq n).stream ++ [⟨t, 4096, d.arrayRead m (4096 * t) 4096⟩] ∧
      ((tileFetched d m n t late).sq n).wanted = (d.sq n).wanted.erase t := by
  have hread := d.accessed_readTile m t 0 4096 4 (some n)
  rw [Nat.add_zero, hlost] at hread
  replace hread : Accessed d (readTile d m t 0 4096 4 (some n)).2.2 := hread
  have hbytes := readTile_bytes d m t 0 4096 4 (some n)
  rw [Nat.add_zero] at hbytes
  obtain ⟨due, heq⟩ := tileFetched_eq d m n t late hwant hdrop hstate (by rw [hbytes, tilePasses_congr t _ (hread.tile t), hpass])
  rw [heq, hbytes]
  generalize (readTile d m t 0 4096 4 (some n)).2.2 = e at hread
  have hstill : still ((if due = true then (e.placeTile n).fills n late else e.placeTile n).sq n) = still (d.sq n) := by
    rw [← hread.sq n, ← Dev.sq_congr (e.sqs_placeTile n) n]
    split
    · exact (Dev.sends_fills _ n late).sq n
    · rfl
  generalize (if due = true then (e.placeTile n).fills n late else e.placeTile n) = c at hstill
  have hstream : (c.sq n).stream = (d.sq n).stream := by simpa only [still] using congrArg Sq.stream hstill
  have hwanted : (c.sq n).wanted = (d.sq n).wanted := by simpa only [still] using congrArg Sq.wanted hstill
  unfold Dev.streamed
  rw [Dev.setSq_sq, hstream, hwanted]
  exact ⟨rfl, rfl⟩

end Sys2Proof.Machine

namespace Sys2Proof.Safety

open Sys2Proof.Machine

theorem exec_bar4Read (m : Master) (off len : Nat) (s : State) :
    exec (.bar4Read m off len) s = onBoth s fun d q => ask d.unanswered q (.aperture m (d.apAddr off) len none) := rfl
theorem exec_bar4Write (m : Master) (off : Nat) (ps : List (Option Byte)) (s : State) :
    exec (.bar4Write m off ps) s = onBoth s fun d q => ask d.unanswered q (.aperture m (d.apAddr off) ps.length (some ps)) := rfl
theorem exec_dmRequest (c : DmCycle) (s : State) :
    exec (.dmRequest c) s = onBoth s fun d q => askAll (d.strike c.flips).unanswered q ((byMaster c.reqs).map Ask.tile) := rfl
theorem exec_tileFetchDone (sq : Fin 20) (t : Nat) (fe : FetchEnd) (s : State) : exec (.tileFetchDone sq t fe) s =
    onDev s fun d => if d.dmTakes .pdma then tileFetched (d.strike fe.flips) s.mem sq.val t fe.late else d := rfl

/-- A cycle with one request brings that request to the controller. -/
theorem exec_dmRequest_one (r : DmReq) (fs : Flips) (s : State) :
    exec (.dmRequest ⟨[r], fs⟩) s = onBoth s fun d q => ask (d.strike fs).unanswered q (.tile r) := by
  rw [exec_dmRequest, byMaster, byId_one (fun r : DmReq => r.m.id) r (Dev.master_lt r.m)]
  rfl

/-- Settles O38: each access is its parts one after another, none of which changes what the array delivers to the next. -/
theorem tileAccesses : Obligations.TileAccesses := by
  intro s m off len t ps r g fs bs sq fe d x y got a n
  refine ⟨fun htakes hstalls => ?_, fun htakes hstalls hflips => ?_, fun htakes hstalls ht hop => ?_,
    fun htakes hstalls ht hop hlen => ?_, fun hid => ?_, fun htakes hwant hdrop hstate hpass hlost => ?_⟩
  · obtain ⟨hbytes, hrbytes, htiles⟩ := bar4Read_reads d.unanswered s.mem m.id a len
    have hanswer : ((bar4Read d.unanswered s.mem m.id a len).2.answerBytes (bar4Read d.unanswered s.mem m.id a len).1).rbytes =
        (bar4Read d.unanswered s.mem m.id a len).1 := congrArg (· ++ _) hrbytes
    refine ⟨_, gives_onBoth (exec_bar4Read m off len s) ((ask_serves d.unanswered s.mem (.aperture m a len none) htakes hstalls rfl).trans
      (serveAsk_aperture _ _ _ _ _)), ?_, htiles, fun i hi => ?_⟩
    · rw [hanswer, hbytes, List.length_append, List.length_map, List.length_range', List.length_replicate]
      omega
    · rw [hanswer, hbytes, window_getD _ a len i hi, d.arrayRead_one]
      rfl
  · obtain ⟨hpad, hin, hout⟩ := bar4Write_bytes d.unanswered s.mem m.id a ps hflips
    exact ⟨_, _, gives_onBoth (exec_bar4Write m off ps s)
      (ask_serves d.unanswered s.mem (.aperture m a ps.length (some ps)) htakes hstalls rfl), hpad, hin, hout⟩
  · have hf : (Ask.tile r).fits = true := by simp [Ask.fits, ht, hop]
    obtain ⟨hbytes, htiles⟩ := x.tileAnswered_answers s.mem r
    exact ⟨_, gives_onBoth (exec_dmRequest_one r fs s) ((ask_strike d s.mem (.tile r) fs htakes hstalls hf).trans (serveAsk_read _ _ r hop)),
      hbytes, fun h => (htiles h).trans (d.tiles_strike fs)⟩
  · have hf : (Ask.tile r).fits = true := by simp [Ask.fits, ht, hop, hlen]
    have hserve : serveAsk x.unanswered s.mem (.tile r) = writeWhole x.unanswered s.mem r.tile bs := by
      unfold serveAsk
      simp only [hop]
    obtain ⟨htile, -⟩ := writeWhole_tile x.unanswered s.mem r.tile bs
    obtain ⟨hnew, hkept⟩ := writeWhole_bytes x.unanswered s.mem r.tile bs hlen
    exact ⟨_, _, gives_onBoth (exec_dmRequest_one r fs s) ((ask_strike d s.mem (.tile r) fs htakes hstalls hf).trans hserve), htile, hnew,
      hkept, rfl⟩
  · have hgr : byMaster [g, r] = [r, g] := byId_two (fun r : DmReq => r.m.id) r g (Dev.master_lt g.m) hid
    have hrg : byMaster [r, g] = [r, g] := by
      refine Eq.trans ?_ hgr
      unfold byMaster
      congr 1
      funext i
      by_cases hr : r.m.id = i
      · have hg : g.m.id ≠ i := by omega
        simp [hr, hg]
      · simp [List.filter_cons, hr]
    rw [exec_dmRequest, exec_dmRequest, hgr, hrg]
  · obtain ⟨bits, hbits⟩ := d.strike_eq fe.flips
    have hsq : y.sq n = d.sq n := by
      change (d.strike fe.flips).sq n = d.sq n
      rw [hbits]
      rfl
    have hsqState : y.sqState n = d.sqState n := by
      change (d.strike fe.flips).sqState n = d.sqState n
      rw [hbits]
      rfl
    obtain ⟨hstream, hwanted⟩ := tileFetched_streams y s.mem n t fe.late (by rwa [hsq]) (by rwa [hsq]) (by rwa [hsqState]) hpass hlost
    exact ⟨_, gives_onDev (exec_tileFetchDone sq t fe s) (if_pos htakes), hstream.trans (by rw [hsq]), hwanted.trans (by rw [hsq])⟩

end Sys2Proof.Safety
end

section
/-! SUPPORT. What follows every command leaves the mailboxes. -/
namespace Sys2Proof.Machine

open Sys2Proof.Safety

section
variable (d : Dev) (c : Nat)

theorem Dev.aside_closeLane (k : Nat) : Aside d (d.closeLane c k) :=
  ((Aside.trans (.setLane <| .refl d) (Aside.foldDev (fun e b _ => e.aside_addData c k b) _)).trans (Dev.aside_closeData _ c k)).trans
    (Dev.aside_closeIdle _ c k)

theorem Dev.aside_putLane (n cause w1 : Nat) : Aside d (d.putLane n cause w1) := by
  unfold Dev.putLane
  exact .ite ((d.aside_flushGap _ _).trans (Dev.aside_putMeta _ _ _)) (.refl d)

/-- A lane's records close, and its tail starts anew. -/
def Dev.laneShut (d : Dev) (n : Nat) (shut moved : Bool) : Dev :=
  let d := if shut then d.closeLane (n / 8) (n % 8) else d
  if moved then d.setLane (n / 8) (n % 8) { d.lane (n / 8) (n % 8) with tail := [], pos := 0 } else d

/-- A LANE record is queued where its cause holds. -/
def Dev.noteLane (d : Dev) (n : Nat) (b : Bool) (cause : Nat) : Dev :=
  if b then d.putLane n cause (d.recW1 (n / 8) (n % 8)) else d

theorem Dev.laneNotice_cases (old : Dev) (n : Nat) : (Dev.laneNotice old d n).2 = d ∨
    ∃ shut moved lost found quiet woke prof, (Dev.laneNotice old d n).2 =
      (((((d.laneShut n shut moved).noteLane n lost 1).noteLane n found 2).noteLane n quiet 3).noteLane n woke 4).noteLane n prof 5 := by
  unfold Dev.laneNotice
  extract_lets _ _ lost found quiet woke prof
  split
  · exact .inl rfl
  · exact .inr ⟨_, _, lost, found, quiet, woke, prof, rfl⟩

theorem Dev.aside_laneShut (n : Nat) (shut moved : Bool) : Aside d (d.laneShut n shut moved) := by
  have h : Aside d (if shut = true then d.closeLane (n / 8) (n % 8) else d) := .ite (d.aside_closeLane _ _) (.refl d)
  unfold Dev.laneShut
  exact .ite h.setLane h

theorem Dev.aside_noteLane (n : Nat) (b : Bool) (cause : Nat) : Aside d (d.noteLane n b cause) := .ite (d.aside_putLane n _ _) (.refl d)

theorem Dev.aside_laneNotice (old : Dev) (n : Nat) : Aside d (Dev.laneNotice old d n).2 := by
  rcases d.laneNotice_cases old n with h | ⟨shut, moved, lost, found, quiet, woke, prof, h⟩
  · rw [h]
    exact .refl d
  · rw [h]
    exact (((((d.aside_laneShut n shut moved).trans (Dev.aside_noteLane _ n lost 1)).trans (Dev.aside_noteLane _ n found 2)).trans
      (Dev.aside_noteLane _ n quiet 3)).trans (Dev.aside_noteLane _ n woke 4)).trans (Dev.aside_noteLane _ n prof 5)

theorem Dev.aside_mtCount (j k : Nat) : Aside d (d.mtCount c j k).2 := by
  have hp : 0x17 ≤ mtPage c j := by unfold mtPage; omega
  unfold Dev.mtCount
  simp only
  split
  · exact .refl d
  · split
    · exact .raiseIf <| .bump hp <| .setCap <| .refl d
    · exact .setCap <| .refl d

theorem Dev.aside_mtFires (ms : List Match) : Aside d (d.mtFires c ms).2 := by
  unfold Dev.mtFires
  refine Aside.fold (fun x : List Match × Dev => x.2) _ _ (fun x j _ => ?_) ([], d)
  have h := x.2.aside_mtCount c j (ms.filter (·.1 == j)).length
  simp only
  split <;> exact h

theorem Dev.aside_trgStep (fires : List Match) (ev : Option Nat) (timer : Bool) : Aside d (d.trgStep c fires ev timer) := by
  have h {p : Prop} [Decidable p] : Aside d (if p then d.bump (trgPage c) F.TRG_ACNT_count else d) :=
    .ite (.bump trgPage_aside <| .refl d) (.refl d)
  unfold Dev.trgStep
  simp only
  split
  · exact .refl d
  · split
    · exact h.trans (Dev.aside_trgEnter _ c _ _ _)
    · exact h.setCap

theorem Dev.aside_capStep (ms : List Match) : Aside d (d.capStep c ms) := by
  unfold Dev.capStep
  exact .ite (d.aside_mtFires c ms) ((d.aside_mtFires c ms).trans (Dev.aside_trgStep _ c _ _ _))

theorem Dev.aside_laneNotices (old : Dev) : Aside d (Dev.laneNotices old d) := by
  unfold Dev.laneNotices
  refine Aside.foldDev (fun e c _ => ?_) d
  simp only
  have h := Aside.fold (fun x : List Match × Dev => x.2)
    (fun x k => (x.1 ++ (Dev.laneNotice old x.2 (8 * c + k)).1, (Dev.laneNotice old x.2 (8 * c + k)).2)) (List.range 8)
    (fun x k _ => x.2.aside_laneNotice old (8 * c + k)) ([], e)
  exact .ite h (h.trans (Dev.aside_capStep _ c _))

end

/-- The check for halted acts leaves a register of the mailboxes' pages. -/
theorem Dev.reg_haltCheck (d : Dev) (ch off : Nat) (hc : ch < 64) (ho : off < 65536) :
    d.haltCheck.reg (addrOf (mbPage ch) off) = d.reg (addrOf (mbPage ch) off) := by
  have hp : 0x0C ≤ mbPage ch ∧ mbPage ch < 0x10 := by unfold mbPage; omega
  unfold Dev.haltCheck
  generalize hss : List.range 16 = ss
  replace hss : ∀ s ∈ ss, s < 16 := fun s hs => List.mem_range.mp (hss ▸ hs)
  induction ss generalizing d with
  | nil => rfl
  | cons s ss ih =>
    obtain ⟨hs, hss⟩ := List.forall_mem_cons.mp hss
    rw [List.foldl_cons, ih _ hss]
    simp only
    split
    · exact d.reg_endAct s 1 hs _ (not_endReg s _ off hs ho (by omega) (by omega) (by omega) (by omega))
    · rfl

/-- What follows every command leaves a mailbox channel's state. -/
theorem mbState_settle (old d : Dev) (ch : Nat) (hc : ch < 64) : (settle old d).mbState ch = d.mbState ch := by
  have hp : mbPage ch = 0x0C + ch / 16 := rfl
  have ho := mbStat_off ch
  unfold settle Dev.mbState
  rw [Dev.rd_cycle, (Dev.aside_laneNotices d.haltCheck old).rd _ _ (by omega) (by omega) (by omega) (by omega)]
  exact congrArg (mf ch F.MB_STAT_state).get (d.reg_haltCheck ch _ hc (by omega))

end Sys2Proof.Machine

namespace Sys2Proof.Safety

open Sys2Proof.Machine

/-- Whatever device a command is said to give, its channels stand as those of any other that it gives. -/
theorem GivesMem.mbState_eq {c : Instr} {s : State} {d e : Dev} {m q : Mem} (h : GivesMem c s d m) (k : GivesMem c s e q) (ch : Nat)
    (hc : ch < 64) : d.mbState ch = e.mbState ch := by
  have hdev : (s.withBoth (d, m)).dev.mbState ch = (s.withBoth (e, q)).dev.mbState ch :=
    congrArg (fun t : State => t.dev.mbState ch) (Host.Outcome.next.inj (h.symm.trans k))
  rwa [State.withBoth_dev, State.withBoth_dev, mbState_settle _ _ ch hc, mbState_settle _ _ ch hc] at hdev

theorem exec_power (ch : Fin 64) (s : State) : exec (.power ch) s = onLiveBoth s fun d m => mailPower d m ch.val := rfl

/-- An ARMED device whose channel 0 is IDLE and yet the oldest one posted, with a POWER to STANDBY in its payload. -/
def idleYetPosted : Dev :=
  let d := (Dev.reset.wr 0x01 F.RST_STAT_ready 1).wr 0x02 F.SB_STATE_cur 3
  let d := (d.wr 0x0C F.MB_VER_ver 0x0201).wr (mbPage 0) (F.MB_DATA.at2 0 0) 0x30
  let d := d.wr (mbPage 0) (F.MB_DATA.at2 0 1) 2
  { d with mail := { d.mail with order := [0] } }

/-- Its POWER begins and has to wait, on a channel that no one has taken. -/
theorem idleYetPosted_waits :
    askedFirst idleYetPosted 0 0x30 = true ∧ (begun idleYetPosted 0).stateReqBad 2 = false ∧
      idleYetPosted.on 0x02 F.PAGE_CTRL_reset_busy = false ∧ idleYetPosted.serving = true ∧
      (mailPower idleYetPosted Mem.reset 0).1.mbState 0 = 0 := by decide +kernel

/-- Refutes O56: the statement speaks of every state, so also of one whose oldest channel in `mail.order` reads IDLE in MB_STAT (no
claim that a run reaches it); its receiver runs POWER without taking the channel, so that one whose transition goes on is not TAKEN. -/
theorem not_mcCommandsAnswer : ¬ Obligations.McCommandsAnswer := by
  intro h
  obtain ⟨hasked, hbad, hbusy, hserving, hidle⟩ := idleYetPosted_waits
  obtain ⟨-, -, -, -, -, -, hpower, -⟩ := h ⟨[], idleYetPosted, Mem.reset⟩ 0
  have hwait := hpower hasked (by decide +kernel) (by decide +kernel) hbad hbusy
  rw [if_neg (by decide +kernel)] at hwait
  obtain ⟨r, hgives, htaken, -⟩ := hwait
  have hexec : GivesMem (.power 0) ⟨[], idleYetPosted, Mem.reset⟩ (mailPower idleYetPosted Mem.reset 0).1
      (mailPower idleYetPosted Mem.reset 0).2 := gives_onLiveBoth (exec_power 0 _) hserving rfl
  exact absurd (htaken.symm.trans ((hgives.mbState_eq hexec 0 (by decide)).trans hidle)) (by decide)

end Sys2Proof.Safety
end

section
/-! SUPPORT. Synthesizer loops: what the fields of a loop read after each operation on it, and what leaves a loop as it is. -/
namespace Sys2Proof.Machine

open Sys2Proof.Safety

/-! ## The registers of a loop -/

/-- A field of a synthesizer's block lies among the synthesizers' registers. -/
theorem synReg_field (i : Nat) (f : Field) (hlo : 0x100 ≤ f.off) (hhi : f.off + 5 * f.st < 65536) :
    SynReg (addrOf (synPage i) (f.at (synIndex i)).off) := by
  obtain ⟨hp1, hp2⟩ := synPage_mem i
  have hm : synIndex i * f.st ≤ 5 * f.st := Nat.mul_le_mul_right _ (synIndex_le i)
  have ho : (f.at (synIndex i)).off = f.off + synIndex i * f.st := rfl
  refine .inr (.inr ?_)
  rw [addrOf_page _ _ (by omega), addrOf_off _ _ (by omega)]
  omega

/-- The word of CLK_LOCK lies below every synthesizer's page. -/
theorem addrOf_synPage_ne_lock (i off : Nat) : addrOf 0x01 0x048 ≠ addrOf (synPage i) off := by
  have := synPage_mem i
  unfold addrOf
  omega

theorem not_synReg_stat (p : Nat) : ¬SynReg (addrOf p 0x00C) := by
  rintro (e | e | e)
  · exact absurd ((addrOf_inj p 0x01 _ _ (by decide) (by decide)).mp e).2 (by decide)
  · exact absurd ((addrOf_inj p 0x02 _ _ (by decide) (by decide)).mp e).2 (by decide)
  · rw [addrOf_off p _ (by decide)] at e
    omega

section
variable (d : Dev) (i v : Nat) (f g : Field)

theorem Dev.synRd_synWr_fit (hf : f.lo + f.w ≤ 32) (hv : v < 2 ^ f.w) : (d.synWr i f v).synRd i f = v :=
  d.rd_wr_fit (synPage i) (f.at (synIndex i)) v hf hv

theorem Dev.synRd_synWr_apart (hs : g.st = f.st) (hg : g.lo + g.w ≤ 32)
    (h : g.off ≠ f.off ∨ g.lo + g.w ≤ f.lo ∨ f.lo + f.w ≤ g.lo) : (d.synWr i f v).synRd i g = d.synRd i g := by
  refine d.rd_wr_apart (synPage i) (f.at (synIndex i)) (g.at (synIndex i)) v hg (h.imp_left fun hne e => hne ?_)
  simp only [Field.at, hs] at e
  omega

theorem Dev.bit_lock_synWr (n : Nat) : (d.synWr i f v).bit 0x01 0x048 n = d.bit 0x01 0x048 n :=
  congrArg (·.getLsbD n) (d.reg_wr_other _ _ _ v (addrOf_synPage_ne_lock i _))

/-- A bit of a register is a field of one bit. -/
theorem Dev.bit_eq_rd (p off n : Nat) : d.bit p off n = decide (d.rd p { off := off, lo := n, w := 1 } = 1) :=
  Nat.testBit_eq_decide_div_mod_eq

/-- A bit just set is as set. -/
theorem Dev.bit_setBit (p off n : Nat) (b : Bool) (hn : n < 32) : (d.setBit p off n b).bit p off n = b := by
  rw [Dev.bit_eq_rd, Dev.setBit, d.rd_wr_fit p { off := off, lo := n, w := 1 } _ hn b.toNat_lt]
  cases b <;> rfl

@[simp] theorem Dev.synRd_setSyn (j : Nat) (t : Syn) : (d.setSyn j t).synRd i g = d.synRd i g := Dev.rd_setSyn _ _ _ _ _
@[simp] theorem Dev.synLocked_setSyn (j : Nat) (t : Syn) : (d.setSyn j t).synLocked i = d.synLocked i :=
  congrArg (· != 0) (d.synRd_setSyn i F.SYN_STAT_locked j t)
@[simp] theorem Dev.syn_synWr (j : Nat) : (d.synWr i f v).syn j = d.syn j := Dev.syn_congr (Dev.wr_syns _ _ _ _) j

end

/-! ## What stays beside the synthesizers -/

/-- A step touches no synthesizer. -/
structure SynKept (d e : Dev) : Prop where
  reg : ∀ a, SynReg a → e.reg a = d.reg a
  syns : e.syns = d.syns

section
variable {d e f : Dev}

theorem SynKept.refl (d : Dev) : SynKept d d := ⟨fun _ _ => rfl, rfl⟩

theorem SynKept.trans (h : SynKept d e) (k : SynKept e f) : SynKept d f :=
  ⟨fun a ha => (k.reg a ha).trans (h.reg a ha), k.syns.trans h.syns⟩

theorem SynKept.wr (h : SynKept d e) (p : Nat) (g : Field) (v : Nat) (hp : ¬SynReg (addrOf p g.off)) :
    SynKept d (e.wr p g v) :=
  h.trans ⟨fun _ ha => e.reg_wr_other p _ g v fun c => hp (c ▸ ha), rfl⟩

theorem SynKept.stat (h : SynKept d e) (p b : Nat) : SynKept d (e.stat p b) :=
  h.trans ⟨fun a ha => e.reg_stat p b a (fun c => not_synReg_stat p (c ▸ ha)) fun hp => by
      rcases hp with rfl | rfl <;> exact not_synReg 0x17 _ (by decide) (by decide) (by decide) (by decide) ha,
    Dev.stat_syns _ _ _⟩

theorem SynKept.raiseSys (h : SynKept d e) (ch : Nat) : SynKept d (e.raiseSys ch) := h.trans ⟨fun _ _ => rfl, rfl⟩

variable (h : SynKept d e)
include h

theorem SynKept.syn (j : Nat) : e.syn j = d.syn j := Dev.syn_congr h.syns j

theorem SynKept.synRd (i : Nat) (g : Field) (hlo : 0x100 ≤ g.off) (hhi : g.off + 5 * g.st < 65536) :
    e.synRd i g = d.synRd i g := congrArg (g.at _).get (h.reg _ (synReg_field i g hlo hhi))

theorem SynKept.synOn (i : Nat) (g : Field) (hlo : 0x100 ≤ g.off) (hhi : g.off + 5 * g.st < 65536) :
    e.synOn i g = d.synOn i g := congrArg (· != 0) (h.synRd i g hlo hhi)

theorem SynKept.bit_lock (n : Nat) : e.bit 0x01 0x048 n = d.bit 0x01 0x048 n := congrArg (·.getLsbD n) (h.reg _ (.inl rfl))

end

/-! ## Loops that have locked, and loops that have lost lock (R167, R169, R180) -/

/-- A loop is locked and at rest, with no fault. -/
def Dev.loopLocked (d : Dev) (i : Nat) : Prop :=
  d.synLocked i = true ∧ (d.syn i).job = .idle ∧ d.synOn i F.SYN_STAT_fault = false ∧ d.synOn i F.SYN_STAT_search = false ∧
    d.bit 0x01 0x048 (lockBit i) = true

/-- A loop is out of lock and at rest, with its fault bit. -/
def Dev.loopLost (d : Dev) (i : Nat) : Prop :=
  d.synLocked i = false ∧ (d.syn i).job = .idle ∧ d.synOn i F.SYN_STAT_fault = true ∧ d.bit 0x01 0x048 (lockBit i) = false

theorem SynKept.loopLocked {d e : Dev} {i : Nat} (h : SynKept d e) (hd : d.loopLocked i) : e.loopLocked i := by
  unfold Dev.loopLocked Dev.synLocked at *
  rwa [h.synOn i _ (by decide) (by decide), h.syn, h.synOn i _ (by decide) (by decide), h.synOn i _ (by decide) (by decide),
    h.bit_lock]

theorem SynKept.loopLost {d e : Dev} {i : Nat} (h : SynKept d e) (hd : d.loopLost i) : e.loopLost i := by
  unfold Dev.loopLost Dev.synLocked at *
  rwa [h.synOn i _ (by decide) (by decide), h.syn, h.synOn i _ (by decide) (by decide), h.bit_lock]

section
variable (d : Dev) (i : Nat)

theorem Dev.synOn_synWr_apart (v : Nat) (f g : Field) (hs : g.st = f.st) (hg : g.lo + g.w ≤ 32)
    (h : g.off ≠ f.off ∨ g.lo + g.w ≤ f.lo ∨ f.lo + f.w ≤ g.lo) : (d.synWr i f v).synOn i g = d.synOn i g :=
  congrArg (· != 0) (d.synRd_synWr_apart i v f g hs hg h)

theorem Dev.synOn_synWr_fit (v : Nat) (f : Field) (hf : f.lo + f.w ≤ 32) (hv : v < 2 ^ f.w) :
    (d.synWr i f v).synOn i f = (v != 0) := congrArg (· != 0) (d.synRd_synWr_fit i v f hf hv)

theorem Dev.synLocked_synWr (v : Nat) (f : Field) (hs : f.st = 32) (h : f.off ≠ 0x114 ∨ 1 ≤ f.lo) :
    (d.synWr i f v).synLocked i = d.synLocked i :=
  d.synOn_synWr_apart i v f F.SYN_STAT_locked hs.symm (by decide) (h.imp Ne.symm .inl)

/-- A CS loop's coast bit says nothing of its lock. -/
theorem Dev.loopLocked_coast (v : Nat) (h : d.loopLocked i) : (d.synWr i F.SYN_STAT_coast v).loopLocked i := by
  unfold Dev.loopLocked at *
  rwa [d.synLocked_synWr i v _ (by decide) (by decide), d.syn_synWr, d.bit_lock_synWr,
    d.synOn_synWr_apart i v _ _ (by decide) (by decide) (by decide),
      d.synOn_synWr_apart i v _ _ (by decide) (by decide) (by decide)]

theorem Dev.loopLost_coast (v : Nat) (h : d.loopLost i) : (d.synWr i F.SYN_STAT_coast v).loopLost i := by
  unfold Dev.loopLost at *
  rwa [d.synLocked_synWr i v _ (by decide) (by decide), d.syn_synWr, d.bit_lock_synWr,
    d.synOn_synWr_apart i v _ _ (by decide) (by decide) (by decide)]

/-! ### The locked bit -/

theorem lockBit_lt : lockBit i < 32 := by
  unfold lockBit
  split_ifs <;> omega

theorem Dev.bit_setLocked (b : Bool) : (d.setLocked i b).bit 0x01 0x048 (lockBit i) = b :=
  Dev.bit_setBit _ 0x01 0x048 _ b (lockBit_lt i)

theorem Dev.synRd_setLocked (b : Bool) (g : Field) :
    (d.setLocked i b).synRd i g = (d.synWr i F.SYN_STAT_locked b.toNat).synRd i g :=
  congrArg (g.at _).get (Dev.reg_wr_other _ _ _ _ _ (addrOf_synPage_ne_lock i _).symm)

theorem Dev.synLocked_setLocked (b : Bool) : (d.setLocked i b).synLocked i = b := by
  unfold Dev.synLocked Dev.synOn
  rw [d.synRd_setLocked, d.synRd_synWr_fit i _ _ (by decide) b.toNat_lt]
  cases b <;> rfl

theorem Dev.synRd_setLocked_apart (b : Bool) (g : Field) (hs : g.st = 32) (hg : g.lo + g.w ≤ 32)
    (h : g.off ≠ 0x114 ∨ 1 ≤ g.lo) :
    (d.setLocked i b).synRd i g = d.synRd i g :=
  (d.synRd_setLocked i b g).trans (d.synRd_synWr_apart i _ F.SYN_STAT_locked g hs hg (h.imp_right .inr))

end

end Sys2Proof.Machine
end

section
/-! SUPPORT. Retunes, and how a loop locks or loses lock (R167 to R169, R180, R197). -/
namespace Sys2Proof.Machine

open Sys2Proof.Safety

section
variable (d : Dev) (i : Nat)

/-! ## Retunes -/

section
variable (t : Tune)

/-- A loop whose record and fields take a tuning. -/
def Dev.tuned : Dev := (d.setSyn i { d.syn i with tune := some t, restore := false }).showTune i t

/-- A retune shows the tuning, and then a locked loop may step to it, or any loop may search. -/
theorem Dev.retune_cases : d.retune i t = d.tuned i t ∨
    (d.tuned i t).synLocked i = true ∧
      d.retune i t = (d.tuned i t).setSyn i { (d.tuned i t).syn i with job := .smallStep } ∨
    d.retune i t = (d.tuned i t).synSearch i := by
  unfold Dev.retune
  simp only
  split
  · exact .inl rfl
  · split
    · exact .inl rfl
    · split
      case isTrue h => exact .inr (.inl ⟨(Bool.and_eq_true_iff.mp h).1, rfl⟩)
      case isFalse => exact .inr (.inr rfl)

theorem Dev.within_tuned : Within SynReg d (d.tuned i t) := ((Within.refl d).setSyn _ _).trans (Dev.within_showTune _ i t)

theorem Dev.within_retune : Within SynReg d (d.retune i t) := by
  rcases d.retune_cases i t with h | ⟨-, h⟩ | h <;> rw [h]
  · exact d.within_tuned i t
  · exact (d.within_tuned i t).setSyn _ _
  · exact (d.within_tuned i t).trans (Dev.within_synSearch _ i)

theorem Dev.mw_retune : (d.retune i t).mw = d.mw := by
  rcases d.retune_cases i t with h | ⟨-, h⟩ | h <;> rw [h] <;> rfl

/-- A retuned loop holds its tuning, and what was applied stays. -/
theorem Dev.syn_retune : ((d.retune i t).syn i).tune = some t ∧ ((d.retune i t).syn i).applied = (d.syn i).applied ∧
    ((d.retune i t).syn i).band = (d.syn i).band := by
  have ht : (d.tuned i t).syn i = { d.syn i with tune := some t, restore := false } := Dev.syn_setSyn_same _ i _
  rcases d.retune_cases i t with h | ⟨-, h⟩ | h
  · rw [h, ht]
    exact ⟨rfl, rfl, rfl⟩
  · rw [h, Dev.syn_setSyn_same, ht]
    exact ⟨rfl, rfl, rfl⟩
  · rw [h, Dev.syn_synSearch, Dev.syn_setSyn_same, ht]
    exact ⟨rfl, rfl, rfl⟩

/-- A search writes no field but those of SYN_STAT. -/
theorem Dev.synRd_synSearch (g : Field) (hs : g.st = 32) (hg : g.lo + g.w ≤ 32) (ho : g.off ≠ 0x114) :
    (d.synSearch i).synRd i g = d.synRd i g := by
  unfold Dev.synSearch
  rw [Dev.synRd_synWr_apart _ _ _ _ g hs hg (.inl ho), Dev.synRd_synWr_apart _ _ _ _ g hs hg (.inl ho),
    Dev.synRd_setLocked_apart _ _ _ g hs hg (.inl ho), Dev.synRd_setSyn]

/-- The fields of a retuned loop's tuning read as the tuning shows them. -/
theorem Dev.synRd_retune (g : Field) (hs : g.st = 32) (hg : g.lo + g.w ≤ 32) (ho : g.off ≠ 0x114) :
    (d.retune i t).synRd i g = (d.tuned i t).synRd i g := by
  rcases d.retune_cases i t with h | ⟨-, h⟩ | h <;> rw [h]
  · rw [Dev.synRd_setSyn]
  · rw [Dev.synRd_synSearch _ _ g hs hg ho]

theorem Dev.synRd_retune_tune (hn : t.n < 2 ^ 10) (hc : t.c < 2 ^ 3) (hf : t.frac < 2 ^ 32) :
    (d.retune i t).synRd i F.SYN_INT_n = t.n ∧ (d.retune i t).synRd i F.SYN_INT_odiv = t.c ∧
      (d.retune i t).synRd i F.SYN_FRAC = t.frac := by
  refine ⟨(d.synRd_retune i t _ (by decide) (by decide) (by decide)).trans ?_,
    (d.synRd_retune i t _ (by decide) (by decide) (by decide)).trans ?_,
    (d.synRd_retune i t _ (by decide) (by decide) (by decide)).trans (Dev.synRd_synWr_fit _ i _ _ (by decide) hf)⟩
  · unfold Dev.tuned Dev.showTune
    rw [Dev.synRd_synWr_apart _ _ _ _ _ (by decide) (by decide) (by decide),
      Dev.synRd_synWr_apart _ _ _ _ _ (by decide) (by decide) (by decide)]
    exact Dev.synRd_synWr_fit _ i _ _ (by decide) hn
  · unfold Dev.tuned Dev.showTune
    rw [Dev.synRd_synWr_apart _ _ _ _ _ (by decide) (by decide) (by decide)]
    exact Dev.synRd_synWr_fit _ i _ _ (by decide) hc

theorem Dev.synLocked_tuned : (d.tuned i t).synLocked i = d.synLocked i := by
  unfold Dev.tuned Dev.showTune
  rw [Dev.synLocked_synWr _ _ _ _ (by decide) (by decide), Dev.synLocked_synWr _ _ _ _ (by decide) (by decide),
    Dev.synLocked_synWr _ _ _ _ (by decide) (by decide), Dev.synLocked_setSyn]

theorem Dev.synLocked_synSearch : (d.synSearch i).synLocked i = false := by
  unfold Dev.synSearch
  rw [Dev.synLocked_synWr _ _ _ _ (by decide) (by decide),
      Dev.synLocked_synWr _ _ _ _ (by decide) (by decide), Dev.synLocked_setLocked]

/-- A loop out of lock does not lock by being retuned. -/
theorem Dev.synLocked_retune (h : d.synLocked i = false) : (d.retune i t).synLocked i = false := by
  rcases d.retune_cases i t with e | ⟨-, e⟩ | e
  · rw [e, d.synLocked_tuned, h]
  · rw [e, Dev.synLocked_setSyn, d.synLocked_tuned, h]
  · rw [e, Dev.synLocked_synSearch]

end

/-! ## A start or retune that completes -/

/-- What the band search chose shows in SYN_BAND.found. -/
def Dev.bandShown (band : Nat) : Dev :=
  if (d.syn i).job = .search then d.synWr i F.SYN_BAND_found ((d.syn i).band.getD band) else d

/-- The end of a lock: the loop rests, its bits show the lock, and LG_NOW its rate. -/
def Dev.lockShown : Dev :=
  ((((d.setSyn i { d.syn i with job := .idle }).setLocked i true).synWr i F.SYN_STAT_search 0).synWr i F.SYN_STAT_fault 0).showRate i

/-- The count of a lock, and the device that has taken an open one. -/
def Dev.lockCount : Nat × Dev :=
  let khz := if i < 2 then d.refKhz (d.rd 0x18 F.REF_STAT_active) else 100000
  let r := 1000 * csDivider khz
  if 4 * khz % r = 0 then (4 * khz / r, d) else (let (w, d) := d.fresh; (w.toNat % 65536, d))

/-- A lock shows the band, then the count, then itself. -/
theorem Dev.synLock_eq (band : Nat) :
    d.synLock i band = ((((d.bandShown i band).lockCount i).2.synWr i F.SYN_COUNT_got ((d.bandShown i band).lockCount i).1).synWr i
      F.SYN_COUNT_expect ((d.bandShown i band).lockCount i).1).lockShown i := rfl

theorem Dev.synKept_lockCount : SynKept d (d.lockCount i).2 := by
  have hite (p : Prop) [Decidable p] (x y : Nat) : SynKept d (if p then (x, d) else (y, d.fresh.2)).2 := by
    split
    · exact .refl d
    · exact ⟨fun _ _ => rfl, rfl⟩
  exact hite _ _ _

theorem Dev.synKept_showRate : SynKept d (d.showRate i) := by
  have hp := synPage_mem i
  unfold Dev.showRate
  split
  · refine (SynKept.refl d).wr _ _ _ (not_synReg _ _ ?_ (by omega) (by omega) (.inr ?_)) <;> split <;> decide
  · exact .refl d

theorem Dev.loopLocked_lockShown : (d.lockShown i).loopLocked i := by
  refine (Dev.synKept_showRate _ i).loopLocked ⟨?_, ?_, ?_, ?_, ?_⟩
  · rw [Dev.synLocked_synWr _ _ _ _ (by decide) (by decide),
      Dev.synLocked_synWr _ _ _ _ (by decide) (by decide), Dev.synLocked_setLocked]
  · rw [Dev.syn_synWr, Dev.syn_synWr]
    exact congrArg Syn.job (Dev.syn_setSyn_same _ i _)
  · exact Dev.synOn_synWr_fit _ i 0 _ (by decide) (by decide)
  · rw [Dev.synOn_synWr_apart _ _ _ _ _ (by decide) (by decide) (by decide)]
    exact Dev.synOn_synWr_fit _ i 0 _ (by decide) (by decide)
  · rw [Dev.bit_lock_synWr, Dev.bit_lock_synWr, Dev.bit_setLocked]

theorem Dev.loopLocked_synLock (band : Nat) : (d.synLock i band).loopLocked i := by
  rw [d.synLock_eq]
  exact Dev.loopLocked_lockShown _ i

/-- A search that forces no band shows the one that it chose. -/
theorem Dev.synRd_found_synLock (band : Nat) (hband : band < 2 ^ 6) (hjob : (d.syn i).job = .search) (hnone : (d.syn i).band = none) :
    (d.synLock i band).synRd i F.SYN_BAND_found = band := by
  rw [d.synLock_eq]
  unfold Dev.lockShown
  rw [(Dev.synKept_showRate _ i).synRd i _ (by decide) (by decide), Dev.synRd_synWr_apart _ _ _ _ _ (by decide) (by decide) (by decide),
    Dev.synRd_synWr_apart _ _ _ _ _ (by decide) (by decide) (by decide), Dev.synRd_setLocked_apart _ _ _ _ (by decide) (by decide) (by decide),
    Dev.synRd_setSyn, Dev.synRd_synWr_apart _ _ _ _ _ (by decide) (by decide) (by decide),
    Dev.synRd_synWr_apart _ _ _ _ _ (by decide) (by decide) (by decide),
    (Dev.synKept_lockCount _ i).synRd i _ (by decide) (by decide), Dev.bandShown, if_pos hjob,
    hnone]
  exact Dev.synRd_synWr_fit _ i _ _ (by decide) hband

/-! ## A loss of lock -/

/-- A loop is out of lock: at rest, ungated, with its fault bit. -/
def Dev.unlocked : Dev :=
  ((((d.setSyn i { d.syn i with job := .idle }).setLocked i false).synWr i F.SYN_STAT_search 0).synWr i F.SYN_STAT_aligned 0).synWr i
    F.SYN_STAT_fault 1

/-- A fault unlocks the loop, may send it home, and shows on a page that is not 0x19. -/
theorem Dev.synFault_eq : ∃ x, (x = d.unlocked i ∨ ∃ t, x = (d.unlocked i).retune i t) ∧
    d.synFault i = if 6 ≤ i then x.stat (synPage i) 18 else x := by
  unfold Dev.synFault
  simp only
  refine ⟨_, ?_, rfl⟩
  split
  · exact .inr ⟨_, rfl⟩
  · exact .inl rfl

theorem Dev.syn_unlocked (j : Nat) : (d.unlocked i).syn j = (d.setSyn i { d.syn i with job := .idle }).syn j := rfl

/-- A loop that is not to return to its page's rate stays where it is. -/
theorem Dev.synFault_of_home (h : (d.syn i).restore = false) :
    d.synFault i = if 6 ≤ i then (d.unlocked i).stat (synPage i) 18 else d.unlocked i := by
  have hr : ((d.unlocked i).syn i).restore = false := by rw [d.syn_unlocked, d.syn_setSyn_same, h]
  have he : (if ((d.unlocked i).syn i).restore = true then (d.unlocked i).retune i ((d.unlocked i).homeTune i) else d.unlocked i) =
      d.unlocked i := if_neg (ne_true_of_eq_false hr)
  exact congrArg (fun x : Dev => if 6 ≤ i then x.stat (synPage i) 18 else x) he

theorem Dev.synLocked_unlocked : (d.unlocked i).synLocked i = false := by
  unfold Dev.unlocked
  rw [Dev.synLocked_synWr _ _ _ _ (by decide) (by decide), Dev.synLocked_synWr _ _ _ _ (by decide) (by decide),
    Dev.synLocked_synWr _ _ _ _ (by decide) (by decide), Dev.synLocked_setLocked]

theorem Dev.loopLost_unlocked : (d.unlocked i).loopLost i := by
  refine ⟨d.synLocked_unlocked i, ?_, Dev.synOn_synWr_fit _ i 1 _ (by decide) (by decide), ?_⟩
  · rw [d.syn_unlocked, d.syn_setSyn_same]
  · unfold Dev.unlocked
    rw [Dev.bit_lock_synWr, Dev.bit_lock_synWr, Dev.bit_lock_synWr, Dev.bit_setLocked]

theorem Dev.within_unlocked : Within SynReg d (d.unlocked i) :=
  (((((Within.refl d).setSyn _ _).trans (Dev.within_setLocked _ i false)).synWr i _ _ (by decide) (by decide)).synWr i _ _ (by decide)
    (by decide)).synWr i _ _ (by decide) (by decide)

theorem Dev.loopLost_synFault (h : (d.syn i).restore = false) : (d.synFault i).loopLost i := by
  rw [d.synFault_of_home i h]
  split
  · exact ((SynKept.refl _).stat _ _).loopLost (d.loopLost_unlocked i)
  · exact d.loopLost_unlocked i

/-- A fault of a lane synthesizer or of WS0 shows on its page. -/
theorem Dev.bit_synFault (h6 : 6 ≤ i) : (d.synFault i).bit (synPage i) 0x00C 18 = true := by
  obtain ⟨x, -, h⟩ := d.synFault_eq i
  rw [h, if_pos h6]
  exact x.stat_bit _ _ (by decide)

theorem Dev.synLocked_synFault : (d.synFault i).synLocked i = false := by
  obtain ⟨x, hx, h⟩ := d.synFault_eq i
  have hlocked : x.synLocked i = false := by
    rcases hx with rfl | ⟨t, rfl⟩
    · exact d.synLocked_unlocked i
    · exact Dev.synLocked_retune _ i t (d.synLocked_unlocked i)
  rw [h]
  split
  · exact (((SynKept.refl x).stat _ _).synOn i _ (by decide) (by decide)).trans hlocked
  · exact hlocked

theorem Dev.mw_synFault : (d.synFault i).mw = d.mw := by
  obtain ⟨x, hx, h⟩ := d.synFault_eq i
  have hmw : x.mw = d.mw := by
    rcases hx with rfl | ⟨t, rfl⟩
    · rfl
    · exact Dev.mw_retune _ i t
  rw [h]
  split
  · exact (Dev.stat_mw _ _ _).trans hmw
  · exact hmw

end

end Sys2Proof.Machine
end

section
/-! SUPPORT. Locks, lock failures and lock losses of the loops (R167 to R169, R180, R197, R355), and the statement about them. -/
namespace Sys2Proof.Machine

open Sys2Proof.Safety

/-- A status bit that stands is not cleared by another one's rise. -/
theorem Dev.bit_stat_stays (d : Dev) (p b q n : Nat) (h : d.bit q 0x00C n = true) : (d.stat p b).bit q 0x00C n = true := by
  by_cases hq : q = p
  · subst hq
    unfold Dev.bit at h ⊢
    rw [Dev.stat, Dev.reg_statW_same _ _ _ (not_isPba_stat _), BitVec.getLsbD_or, h, Bool.true_or]
  · refine ((d.same_stat p b).bit q 0x00C n ?_).trans h
    simp only [statAddrs, List.mem_cons, List.not_mem_nil, or_false, addrOf]
    omega

/-! ## A fault of a CS loop (R180) -/

section
variable (d : Dev) (c : Nat)

/-- A CS loop that has lost lock coasts. -/
def Dev.csLost : Dev := (d.synFault c).synWr c F.SYN_STAT_coast 1

theorem Dev.csFault_eq (h : d.power = 3 ∨ d.power = 4) :
    d.csFault c = (((d.csLost c).fbit 0x18 F.CLK_GUARD_cs_fault c true).stat 0x18 19).raiseSys 248 := if_pos h

theorem not_synReg_ref (off : Nat) (ho : off < 65536) : ¬SynReg (addrOf 0x18 off) :=
  not_synReg 0x18 off ho (by decide) (fun h => absurd h (by decide)) (.inl (by decide))

variable (h : d.power = 3 ∨ d.power = 4)
include h

theorem Dev.synKept_csFault : SynKept (d.csLost c) (d.csFault c) := by
  rw [d.csFault_eq c h]
  exact (((SynKept.refl _).wr _ _ _ (not_synReg_ref _ (by decide))).stat _ _).raiseSys _

theorem Dev.synLocked_csFault : (d.csFault c).synLocked c = false :=
  ((d.synKept_csFault c h).synOn c _ (by decide) (by decide)).trans
    ((Dev.synLocked_synWr _ c 1 _ (by decide) (by decide)).trans (d.synLocked_synFault c))

theorem Dev.coast_csFault : (d.csFault c).synOn c F.SYN_STAT_coast = true :=
  ((d.synKept_csFault c h).synOn c _ (by decide) (by decide)).trans (Dev.synOn_synWr_fit _ c 1 _ (by decide) (by decide))

theorem Dev.has_csFault (hc : c < 2) : (d.csFault c).has 0x18 F.CLK_GUARD_cs_fault c = true := by
  rw [d.csFault_eq c h]
  refine ((Dev.same_stat _ 0x18 19).has 0x18 c F.CLK_GUARD_cs_fault (by decide)).trans ?_
  rw [Dev.has_fbit _ _ _ _ _ _ (by decide) hc, if_pos rfl]

theorem Dev.bit_csFault : (d.csFault c).bit 0x18 0x00C 19 = true := by
  rw [d.csFault_eq c h]
  exact Dev.stat_bit _ 0x18 19 (by decide)

theorem Dev.wire_csFault : (d.csFault c).mw.wire = d.mw.wire ++ [⟨248, 0, .system, 248⟩] := by
  rw [d.csFault_eq c h]
  refine congrArg (fun m : Midway => m.wire ++ [(⟨248, 0, .system, 248⟩ : Raise)]) ?_
  rw [Dev.stat_mw]
  exact d.mw_synFault c

theorem Dev.loopLost_csFault (hr : (d.syn c).restore = false) : (d.csFault c).loopLost c :=
  (d.synKept_csFault c h).loopLost (Dev.loopLost_coast _ c 1 (d.loopLost_synFault c hr))

end

/-! ## The clamp of the wideband channels (R355) -/

/-- A step that leaves the synthesizers, clears no status bit and lifts no clamp of a wideband channel. -/
structure ClampStep (d e : Dev) : Prop where
  kept : SynKept d e
  stats : ∀ p n, d.bit p 0x00C n = true → e.bit p 0x00C n = true
  clamps : ∀ k, d.on (0x88 + k) F.AWG_STAT_clk_fault = true → e.on (0x88 + k) F.AWG_STAT_clk_fault = true

section
variable {d e f : Dev}

theorem ClampStep.refl (d : Dev) : ClampStep d d := ⟨.refl d, fun _ _ h => h, fun _ h => h⟩

theorem ClampStep.trans (h : ClampStep d e) (k : ClampStep e f) : ClampStep d f :=
  ⟨h.kept.trans k.kept, fun p n hb => k.stats p n (h.stats p n hb), fun n hc => k.clamps n (h.clamps n hc)⟩

theorem ClampStep.foldDev {α : Type} {step : Dev → α → Dev} (xs : List α) (h : ∀ d x, ClampStep d (step d x)) (d : Dev) :
    ClampStep d (xs.foldl step d) := by
  induction xs generalizing d with
  | nil => exact .refl d
  | cons x xs ih => exact (h d x).trans (ih _)

theorem ClampStep.stat (h : ClampStep d e) (p b : Nat) : ClampStep d (e.stat p b) :=
  h.trans ⟨(SynKept.refl e).stat p b, fun q n => e.bit_stat_stays p b q n, fun k hk =>
    ((e.same_stat p b).on (0x88 + k) F.AWG_STAT_clk_fault
      (not_mem_statAddrs p _ _ (by decide) (by decide) fun _ => by decide)).trans hk⟩

/-- A field of a block that is no synthesizer's, and of AWG_STAT one below clk_fault. -/
theorem ClampStep.wr (h : ClampStep d e) (p : Nat) (g : Field) (v : Nat) (hp : 0x1F ≤ p)
    (ho : 0x040 ≤ g.off ∧ g.off < 0x100) (hc : g.off = F.AWG_STAT_clk_fault.off → g.lo + g.w ≤ 3) : ClampStep d (e.wr p g v) := by
  refine h.trans ⟨(SynKept.refl e).wr p g v (not_synReg p _ (by omega) (by omega) (by omega) (.inr ho.2)), fun q n hb => ?_,
    fun k hk => (congrArg (· != 0) ?_).trans hk⟩
  · refine ((e.same_wr p v g).bit q 0x00C n fun hm => ?_).trans hb
    have := ((addrOf_inj q p _ _ (by decide) (by omega)).mp (List.mem_singleton.mp hm)).2
    omega
  · by_cases hk : p = 0x88 + k
    · subst hk
      exact e.rd_wr_apart _ g _ v (by decide) (or_iff_not_imp_left.mpr fun hne => .inr (hc (not_ne_iff.mp hne).symm))
    · exact e.rd_wr_other p _ g _ v fun c => hk ((addrOf_inj _ p _ _ (by decide) (by omega)).mp c).1.symm

theorem ClampStep.setAwg (h : ClampStep d e) (n : Nat) (t : Awg) : ClampStep d (e.setAwg n t) :=
  h.trans ⟨⟨fun _ _ => rfl, rfl⟩, fun _ _ hb => hb, fun _ hc => hc⟩

end

theorem Dev.clampStep_showAwg (d : Dev) : ClampStep d d.showAwg := by
  refine ClampStep.foldDev _ (fun e k => ?_) d
  have hshown (v w x : Nat) (t : Awg) : ClampStep e ((((e.wr (0x88 + k) F.AWG_STAT_active v).wr (0x88 + k)
      F.AWG_STAT_inj_closed w).wr (0x88 + k) F.AWG_STAT_inj_open x).setAwg k t) :=
    ((((ClampStep.refl e).wr _ _ _ (by omega) (by decide) (by decide)).wr _ _ _ (by omega) (by decide) (by decide)).wr _ _ _
      (by omega) (by decide) (by decide)).setAwg _ _
  simp only
  split
  · exact (hshown _ _ _ _).stat _ _
  · exact hshown _ _ _ _

theorem Dev.clampStep_openInjection (d : Dev) : ClampStep d d.openInjection := by
  refine (ClampStep.foldDev _ (fun e p => ?_) d).trans (Dev.clampStep_showAwg _)
  split
  · exact (ClampStep.refl e).wr 0x92 F.SN_INJ_closed _ (by decide) (by decide) (by decide)
  · exact .refl e

/-- A channel's clamp shows. -/
def Dev.clampShown (d : Dev) (k : Nat) : Prop :=
  d.on (0x88 + k) F.AWG_STAT_clk_fault = true ∧ d.bit (0x88 + k) 0x00C 18 = true

theorem ClampStep.clampShown {d e : Dev} (h : ClampStep d e) (k : Nat) (hd : d.clampShown k) : e.clampShown k :=
  ⟨h.clamps k hd.1, h.stats _ _ hd.2⟩

section
variable (d : Dev) (k : Nat)

/-- One channel's clamp. -/
def Dev.clampOne : Dev := (d.wr (0x88 + k) F.AWG_STAT_clk_fault 1).stat (0x88 + k) 18

theorem Dev.clampShown_clampOne : (d.clampOne k).clampShown k := by
  refine ⟨((Dev.same_stat _ _ 18).on (0x88 + k) F.AWG_STAT_clk_fault
    (not_mem_statAddrs _ _ _ (by decide) (by decide) fun _ => by decide)).trans ?_, Dev.stat_bit _ _ 18 (by decide)⟩
  exact congrArg (· != 0) (d.rd_wr_fit (0x88 + k) F.AWG_STAT_clk_fault 1 (by decide) (by decide))

theorem Dev.clampStep_clampOne : ClampStep d (d.clampOne k) := by
  refine ClampStep.stat ⟨(SynKept.refl d).wr _ _ _ (not_synReg _ _ (by decide) (by omega) (by omega) (.inr (by decide))),
    fun q n hb => ?_, fun m hm => ?_⟩ _ _
  · refine ((d.same_wr (0x88 + k) 1 F.AWG_STAT_clk_fault).bit q 0x00C n fun hmem => ?_).trans hb
    exact absurd ((addrOf_inj q _ _ _ (by decide) (by decide)).mp (List.mem_singleton.mp hmem)).2 (by decide)
  · by_cases hk : m = k
    · subst hk
      exact congrArg (· != 0) (d.rd_wr_fit (0x88 + m) F.AWG_STAT_clk_fault 1 (by decide) (by decide))
    · refine (congrArg (· != 0) (d.rd_wr_other _ _ _ F.AWG_STAT_clk_fault 1 fun c => hk ?_)).trans hm
      have := ((addrOf_inj _ _ _ _ (by decide) (by decide)).mp c).1
      omega

end

section
variable (d : Dev)

/-- Every channel's clamp, and WS0's unlock bit. -/
def Dev.clampAll : Dev := ((List.range 4).foldl Dev.clampOne d).stat 0x1A 18

theorem Dev.awgClockFault_eq :
    d.awgClockFault = if (List.range 4).any (d.running F.ACT_ENG_aw) then d.clampAll.openInjection else d := rfl

theorem Dev.clampStep_clampAll : ClampStep d d.clampAll :=
  (ClampStep.foldDev _ (fun e k => e.clampStep_clampOne k) d).stat _ _

theorem Dev.clampStep_awgClockFault : ClampStep d d.awgClockFault := by
  rw [d.awgClockFault_eq]
  split
  · exact d.clampStep_clampAll.trans (Dev.clampStep_openInjection _)
  · exact .refl d

theorem Dev.clampShown_awgClockFault (k : Nat) (hk : k < 4) (h : (List.range 4).any (d.running F.ACT_ENG_aw) = true) :
    d.awgClockFault.clampShown k := by
  have hfold : ((List.range 4).foldl Dev.clampOne d).clampShown k :=
    foldl_establishes (I := fun _ => True) (Q := fun n e => e.clampShown n) _ (fun _ _ _ _ => trivial)
      (fun e n _ _ => e.clampShown_clampOne n) (fun e n _ m _ _ hm => (e.clampStep_clampOne n).clampShown m hm) d trivial k
      (.inl (List.mem_range.mpr hk))
  rw [d.awgClockFault_eq, if_pos h]
  exact (((ClampStep.refl _).stat _ _).trans (Dev.clampStep_openInjection _)).clampShown k hfold

end

/-! ## A loss of WS0's lock (R355) -/

theorem SameActs.running {d e : Dev} (h : SameActs d e) (f : Field) (i : Nat) (hf : f.off + 15 * f.st < 65536) :
    e.running f i = d.running f i := by
  unfold Dev.running
  rw [h.runSlots, Bool.eq_iff_iff, List.any_eq_true, List.any_eq_true]
  refine exists_congr fun k => and_congr_right fun hk => ?_
  rw [Dev.names, Dev.names, Dev.has, Dev.has, h.rd f k (List.mem_range.mp (List.mem_filter.mp hk).1) hf]

/-- No register of the acts' page is one that a status bit of WS0's page may change. -/
theorem acts_not_mem_statAddrs (off : Nat) (ho : off < 65536) : addrOf 0x03 off ∉ statAddrs (synPage 14) := by
  simp only [statAddrs, show synPage 14 = 0x1A from rfl, List.mem_cons, List.not_mem_nil, or_false, addrOf]
  omega

section
variable (d : Dev) (hlocked : d.synLocked 14 = true)
include hlocked

theorem Dev.wsFault_locked : d.wsFault = (d.synFault 14).awgClockFault := congrArg Dev.awgClockFault (if_pos hlocked)

theorem Dev.bit_wsFault : d.wsFault.bit 0x1A 0x00C 18 = true := by
  rw [d.wsFault_locked hlocked]
  exact (Dev.clampStep_awgClockFault _).stats _ _ (d.bit_synFault 14 (by decide))

variable (hr : (d.syn 14).restore = false)
include hr

theorem Dev.loopLost_wsFault : d.wsFault.loopLost 14 := by
  rw [d.wsFault_locked hlocked]
  exact (Dev.clampStep_awgClockFault _).kept.loopLost (d.loopLost_synFault 14 hr)

theorem Dev.clampShown_wsFault (k : Nat) (hk : k < 4) (h : (List.range 4).any (d.running F.ACT_ENG_aw) = true) :
    d.wsFault.clampShown k := by
  have hacts : SameActs d (d.synFault 14) := fun off ho => by
    rw [d.synFault_of_home 14 hr, if_pos (by decide)]
    refine (Dev.same_stat _ _ _ _ (acts_not_mem_statAddrs off ho)).trans ((d.within_unlocked 14).reg _ ?_)
    exact not_synReg 0x03 off ho (by decide) (fun h => absurd h (by decide)) (.inl (by decide))
  rw [d.wsFault_locked hlocked]
  refine Dev.clampShown_awgClockFault _ k hk ?_
  rwa [funext fun n => hacts.running F.ACT_ENG_aw n (by decide)]

end

/-! ## A start or retune that completes (R167) -/

/-- A step keeps a loop's lock and the band that it shows. -/
structure LockKept (i : Nat) (d e : Dev) : Prop where
  locked : d.loopLocked i → e.loopLocked i
  found : e.synRd i F.SYN_BAND_found = d.synRd i F.SYN_BAND_found

section
variable {i : Nat} {d e f : Dev}

theorem LockKept.trans (h : LockKept i d e) (k : LockKept i e f) : LockKept i d f :=
  ⟨fun hd => k.locked (h.locked hd), k.found.trans h.found⟩

theorem SynKept.lockKept (h : SynKept d e) : LockKept i d e := ⟨h.loopLocked, h.synRd i _ (by decide) (by decide)⟩

end

section
variable (d : Dev) (i : Nat)

theorem Dev.lockKept_coast (v : Nat) : LockKept i d (d.synWr i F.SYN_STAT_coast v) :=
  ⟨d.loopLocked_coast i v, d.synRd_synWr_apart i v _ _ (by decide) (by decide) (by decide)⟩

/-- A CS loop that has locked clears its fault, shows what coasts, and may end the safe clock. -/
theorem Dev.csLocked_cases : ∃ v, d.csLocked i = (d.fbit 0x18 F.CLK_GUARD_cs_fault i false).synWr i F.SYN_STAT_coast v ∨
    d.csLocked i = ((d.fbit 0x18 F.CLK_GUARD_cs_fault i false).synWr i F.SYN_STAT_coast v).wr 0x18 F.CLK_GUARD_safe 0 := by
  unfold Dev.csLocked
  simp only
  split
  · exact ⟨_, .inl rfl⟩
  · exact ⟨_, .inr rfl⟩

theorem Dev.lockKept_csLocked : LockKept i d (d.csLocked i) := by
  have hcleared (v : Nat) : LockKept i d ((d.fbit 0x18 F.CLK_GUARD_cs_fault i false).synWr i F.SYN_STAT_coast v) :=
    ((SynKept.refl d).wr _ _ _ (not_synReg_ref _ (by decide))).lockKept.trans (Dev.lockKept_coast _ i v)
  obtain ⟨v, h | h⟩ := d.csLocked_cases i <;> rw [h]
  · exact hcleared v
  · exact (hcleared v).trans ((SynKept.refl _).wr _ _ _ (not_synReg_ref _ (by decide))).lockKept

/-- A synthesizer's field lies apart from page 0x18. -/
theorem Dev.rd_ref_synWr (f g : Field) (v : Nat) (hg : g.off < 65536) : (d.synWr i f v).rd 0x18 g = d.rd 0x18 g :=
  d.rd_wr_other _ _ _ g v fun c => by
    have := synPage_mem i
    unfold addrOf at c
    omega

theorem Dev.has_csLocked (hi : i < 2) : (d.csLocked i).has 0x18 F.CLK_GUARD_cs_fault i = false := by
  have hcleared (v : Nat) : ((d.fbit 0x18 F.CLK_GUARD_cs_fault i false).synWr i F.SYN_STAT_coast v).has 0x18
      F.CLK_GUARD_cs_fault i = false := by
    unfold Dev.has
    rw [Dev.rd_ref_synWr _ _ _ _ _ (by decide)]
    exact (d.has_fbit 0x18 F.CLK_GUARD_cs_fault i i false (by decide) hi).trans (if_pos rfl)
  obtain ⟨v, h | h⟩ := d.csLocked_cases i <;> rw [h]
  · exact hcleared v
  · exact (congrArg (·.testBit i) (Dev.rd_wr_apart _ 0x18 F.CLK_GUARD_safe _ 0 (by decide) (by decide))).trans (hcleared v)

theorem Dev.synKept_msLocked : SynKept d d.msLocked := by
  have hdm (e : Dev) (g : Field) (v : Nat) (hg : g.off < 0x100) (h : SynKept d e) : SynKept d (e.wr 0x60 g v) :=
    h.wr 0x60 g v (not_synReg 0x60 _ (by omega) (by decide) (fun c => absurd c (by decide)) (.inr hg))
  unfold Dev.msLocked
  split
  · exact hdm _ _ _ (by decide) (hdm _ _ _ (by decide) (hdm _ _ _ (by decide) (.refl d)))
  · exact .refl d

theorem Dev.synKept_reloadTime : SynKept d d.reloadTime := by
  unfold Dev.reloadTime
  exact ⟨fun a _ => Dev.reg_congr d _ a rfl rfl, rfl⟩

variable (band : Nat) (hon : (d.syn i).on = true) (hjob : (d.syn i).job ≠ .idle)
include hon hjob

/-- What follows a CS loop's lock. -/
theorem Dev.synDone_cs (hi : i < 2) : ∃ e, SynKept (d.synLock i band) e ∧ d.synDone i band = e.csLocked i := by
  unfold Dev.synDone
  simp only [hon, bne_iff_ne.mpr hjob, hi, Bool.and_self, if_true]
  split
  · exact ⟨_, (d.synLock i band).synKept_reloadTime, rfl⟩
  · exact ⟨_, .refl _, rfl⟩

/-- A loop that does not return to its page's rate stays locked. -/
theorem Dev.lockKept_synDone (hr : (d.syn i).restore = false ∨ i < 6) : LockKept i (d.synLock i band) (d.synDone i band) := by
  by_cases h2 : i < 2
  · obtain ⟨e, hk, he⟩ := d.synDone_cs i band hon hjob h2
    rw [he]
    exact hk.lockKept.trans (e.lockKept_csLocked i)
  · unfold Dev.synDone
    simp only [hon, bne_iff_ne.mpr hjob, h2, Bool.and_self, if_true, if_false]
    split
    case isTrue => exact (Dev.synKept_msLocked _).lockKept
    case isFalse h6 =>
      rw [hr.resolve_right h6, if_neg Bool.false_ne_true]
      exact (SynKept.refl _).lockKept

end

/-! ## Losses of lock (R180, R197) -/

section
variable (d : Dev) (i : Nat) (hlocked : d.synLocked i = true)
include hlocked

theorem Dev.lockLoss_cs (hi : i < 2) (hp : d.power = 3 ∨ d.power = 4) : d.lockLoss i = d.csFault i := by
  unfold Dev.lockLoss
  simp only [hlocked, hi, hp, Bool.not_true, Bool.false_eq_true, if_false, if_true]

theorem Dev.lockLoss_other (h : i < 2 → ¬(d.power = 3 ∨ d.power = 4)) (h14 : i ≠ 14) : d.lockLoss i = d.synFault i := by
  unfold Dev.lockLoss
  simp only [hlocked, h14, Bool.not_true, Bool.false_eq_true, if_false]
  split
  case isTrue hi => exact if_neg (h hi)
  case isFalse => rfl

theorem Dev.loopLost_lockLoss (h14 : i ≠ 14) (hr : (d.syn i).restore = false) : (d.lockLoss i).loopLost i := by
  by_cases h : i < 2 ∧ (d.power = 3 ∨ d.power = 4)
  · rw [d.lockLoss_cs i hlocked h.1 h.2]
    exact d.loopLost_csFault i h.2 hr
  · rw [d.lockLoss_other i hlocked (fun hi hp => h ⟨hi, hp⟩) h14]
    exact d.loopLost_synFault i hr

end

theorem Dev.lockLoss_ws (d : Dev) (hlocked : d.synLocked 14 = true) : d.lockLoss 14 = d.wsFault := by
  unfold Dev.lockLoss
  simp only [hlocked, Bool.not_true, Bool.false_eq_true, if_false]
  rfl

end Sys2Proof.Machine

namespace Sys2Proof.Safety

open Sys2Proof.Machine

theorem exec_synthLocked (i : Fin 15) (band : BitVec 6) (s : State) :
    exec (.synthLocked i band) s = onLive s fun d => d.synDone i.val band.toNat := rfl
theorem exec_synthLockFail (i : Fin 9) (s : State) : exec (.synthLockFail i) s = onLive s fun d =>
    if d.forced (6 + i.val) && (d.syn (6 + i.val)).job == .search then d.synFault (6 + i.val) else d := rfl
theorem exec_synthLockLoss (i : Fin 15) (s : State) : exec (.synthLockLoss i) s = onLive s fun d => d.lockLoss i.val := rfl
theorem exec_awgClockFault (s : State) : exec .awgClockFault s =
    onLive s fun d => if (List.range 4).any (d.running F.ACT_ENG_aw) then d.wsFault else d := rfl

/-- Settles O42: a lock ends in the loop's own bits, a fault in its unlock, and what follows either one keeps them. -/
theorem loopsLock : Obligations.LoopsLock := by
  intro s i j a band d k l lost hserv
  refine ⟨fun hon hjob hr => ?_, fun hf hjob hr => ?_, fun hlocked h14 hr => ?_, fun hlocked hr => ?_, fun hlocked hr hany => ?_⟩
  · have hkept := d.lockKept_synDone k band.toNat hon hjob hr
    obtain ⟨hlock, hidle, hfault, hsearch, hbit⟩ := hkept.locked (d.loopLocked_synLock k _)
    refine ⟨_, gives_onLive (exec_synthLocked i band s) hserv rfl, hlock, hidle, hfault, hsearch, hbit, fun hk => ?_,
      fun hs hnone => hkept.found.trans (d.synRd_found_synLock k _ band.isLt hs hnone)⟩
    obtain ⟨e, -, he⟩ := d.synDone_cs k band.toNat hon hjob hk
    rw [he]
    exact e.has_csLocked k hk
  · have heq : (if d.forced l && (d.syn l).job == .search then d.synFault l else d) = d.synFault l :=
      if_pos (by rw [hf, hjob]; rfl)
    exact ⟨_, gives_onLive (exec_synthLockFail j s) hserv heq, d.loopLost_synFault l hr, d.bit_synFault l (Nat.le_add_right 6 _)⟩
  · have hne : k ≠ 14 := Nat.ne_of_lt h14
    refine ⟨_, gives_onLive (exec_synthLockLoss i s) hserv rfl, d.loopLost_lockLoss k hlocked hne hr, fun h6 => ?_, fun hk hp => ?_⟩
    · rw [d.lockLoss_other k hlocked (fun h2 => by omega) hne]
      exact d.bit_synFault k h6
    · rw [d.lockLoss_cs k hlocked hk hp]
      exact ⟨d.coast_csFault k hp, d.has_csFault k hp hk⟩
  · exact ⟨_, gives_onLive (exec_synthLockLoss 14 s) hserv (d.lockLoss_ws hlocked), d.loopLost_wsFault hlocked hr,
      d.bit_wsFault hlocked⟩
  · obtain ⟨hclk, hunlock⟩ := d.clampShown_wsFault hlocked hr a.val a.isLt hany
    exact ⟨_, gives_onLive (exec_awgClockFault s) hserv (if_pos hany), d.loopLost_wsFault hlocked hr, d.bit_wsFault hlocked, hclk,
      hunlock⟩

end Sys2Proof.Safety
end

section
/-! SUPPORT. The reference of the CS loops (R171 to R178), and the statement about it. -/
namespace Sys2Proof.Machine

open Sys2Proof.Safety

/-! ## Loops that close on a source -/

/-- Both CS loops run on a source, at the tuning that its nominal frequency asks for. -/
def Dev.closedOn (d : Dev) (src : Nat) : Prop :=
  d.rd 0x18 F.REF_STAT_active = src ∧ d.on 0x18 F.REF_STAT_coast = false ∧ (d.syn 0).tune = some (csTune (d.refKhz src)) ∧
    (d.syn 1).tune = (d.syn 0).tune

theorem Dev.refKhz_congr {d e : Dev} (h : e.rd 0x18 F.REF_IN_KHZ_khz = d.rd 0x18 F.REF_IN_KHZ_khz) (src : Nat) :
    e.refKhz src = d.refKhz src := by unfold Dev.refKhz; rw [h]

/-- A step that leaves the tunings and the fields that show the source. -/
theorem Dev.closedOn_of_same {d e : Dev} {src : Nat} (hd : d.closedOn src) (hs : e.syns = d.syns)
    (h : ∀ g ∈ [F.REF_STAT_active, F.REF_STAT_coast, F.REF_IN_KHZ_khz], e.rd 0x18 g = d.rd 0x18 g) : e.closedOn src := by
  obtain ⟨hactive, hcoast, hkhz, -⟩ : _ ∧ _ ∧ _ ∧ _ := by simpa only [List.forall_mem_cons] using h
  unfold Dev.closedOn Dev.on at *
  rwa [hactive, hcoast, Dev.refKhz_congr hkhz, Dev.syn_congr hs, Dev.syn_congr hs]

/-- Both CS loops take a tuning. -/
def Dev.bothTuned (d : Dev) (t : Tune) : Dev :=
  (((d.setSyn 0 { d.syn 0 with tune := some t }).showTune 0 t).setSyn 1 { d.syn 1 with tune := some t }).showTune 1 t

theorem Dev.within_bothTuned (d : Dev) (t : Tune) : Within SynReg d (d.bothTuned t) :=
  (((((Within.refl d).setSyn _ _).trans (Dev.within_showTune _ 0 t)).setSyn _ _).trans (Dev.within_showTune _ 1 t))

theorem Dev.tune_bothTuned (d : Dev) (t : Tune) : ((d.bothTuned t).syn 0).tune = some t ∧ ((d.bothTuned t).syn 1).tune = some t :=
  ⟨congrArg Syn.tune ((Dev.syn_setSyn_other _ 1 0 _ (by decide)).trans (Dev.syn_setSyn_same _ 0 _)),
    congrArg Syn.tune (Dev.syn_setSyn_same _ 1 _)⟩

section
variable (d : Dev) (src : Nat) (offset : Word)

/-- The build-out is stored, and a realignment starts anew. -/
def Dev.builtOut : Dev :=
  { d.wr 0x18 F.REF_BUILDOUT offset.toNat with refs := { d.refs with slewFrac := 0 } }

/-- The build-out is stored, and both loops take the tuning. -/
def Dev.loopsTuned : Dev := (d.builtOut offset).bothTuned (csTune ((d.builtOut offset).refKhz src))

/-- The loops take the tuning, show the source, and coast no more but by their own faults. -/
theorem Dev.closeLoops_eq : ∃ a b, d.closeLoops src offset =
    ((((d.loopsTuned src offset).wr 0x18 F.REF_STAT_active src).wr 0x18 F.REF_STAT_coast 0).synWr 0 F.SYN_STAT_coast a).synWr 1
      F.SYN_STAT_coast b := ⟨_, _, rfl⟩

theorem Dev.rd_loopsTuned (g : Field) (ho : g.off < 65536) :
    (d.loopsTuned src offset).rd 0x18 g = (d.wr 0x18 F.REF_BUILDOUT offset.toNat).rd 0x18 g :=
  (Dev.within_bothTuned _ _).rd 0x18 g (not_synReg_ref _ ho)

/-- The tuning reads the reference's frequency before the loops close. -/
theorem Dev.tune_loopsTuned : ((d.loopsTuned src offset).syn 0).tune = some (csTune (d.refKhz src)) ∧
    ((d.loopsTuned src offset).syn 1).tune = some (csTune (d.refKhz src)) := by
  have hkhz : (d.builtOut offset).refKhz src = d.refKhz src := Dev.refKhz_congr (d.rd_wr_off _ _ _ _ (by decide)) src
  rw [← hkhz]
  exact Dev.tune_bothTuned _ _

/-- A field of page 0x18 apart from the three that closing writes stays, and they read as written. -/
theorem Dev.rd_closeLoops (g : Field) (hg : g.lo + g.w ≤ 32) (ho : g.off < 65536) (h : g.off ≠ F.REF_BUILDOUT.off)
    (ha : g.off ≠ F.REF_STAT_active.off ∨ 5 ≤ g.lo) : (d.closeLoops src offset).rd 0x18 g = d.rd 0x18 g := by
  obtain ⟨a, b, he⟩ := d.closeLoops_eq src offset
  rw [he, Dev.rd_ref_synWr _ _ _ _ _ ho, Dev.rd_ref_synWr _ _ _ _ _ ho,
    Dev.rd_wr_apart _ _ F.REF_STAT_coast g _ hg (ha.imp_right .inr),
    Dev.rd_wr_apart _ _ F.REF_STAT_active g _ hg (ha.imp_right fun h5 => .inr (le_trans (by decide) h5)),
    d.rd_loopsTuned src offset g ho, d.rd_wr_off _ _ g _ h]

theorem Dev.rd_buildout_closeLoops : (d.closeLoops src offset).rd 0x18 F.REF_BUILDOUT = offset.toNat := by
  obtain ⟨a, b, he⟩ := d.closeLoops_eq src offset
  rw [he, Dev.rd_ref_synWr _ _ _ _ _ (by decide), Dev.rd_ref_synWr _ _ _ _ _ (by decide), Dev.rd_wr_off _ _ _ _ _ (by decide),
    Dev.rd_wr_off _ _ _ _ _ (by decide), d.rd_loopsTuned src offset _ (by decide)]
  exact d.rd_wr_fit _ _ _ (by decide) offset.isLt

theorem Dev.syns_closeLoops : (d.closeLoops src offset).syns = (d.loopsTuned src offset).syns := by
  obtain ⟨a, b, he⟩ := d.closeLoops_eq src offset
  rw [he]
  simp only [Dev.synWr, Dev.wr_syns]

/-- The loops are closed on the source. -/
theorem Dev.closedOn_closeLoops (hsrc : src < 4) : (d.closeLoops src offset).closedOn src := by
  obtain ⟨htune0, htune1⟩ := d.tune_loopsTuned src offset
  have hkhz := Dev.refKhz_congr (d.rd_closeLoops src offset F.REF_IN_KHZ_khz (by decide) (by decide) (by decide) (by decide)) src
  have hsyn := Dev.syn_congr (d.syns_closeLoops src offset)
  obtain ⟨a, b, he⟩ := d.closeLoops_eq src offset
  refine ⟨?_, ?_, ?_, ?_⟩
  · rw [he, Dev.rd_ref_synWr _ _ _ _ _ (by decide), Dev.rd_ref_synWr _ _ _ _ _ (by decide),
      Dev.rd_wr_apart _ _ _ _ _ (by decide) (by decide)]
    exact Dev.rd_wr_fit _ _ _ _ (by decide) hsrc
  · refine congrArg (· != 0) (?_ : _ = 0)
    rw [he, Dev.rd_ref_synWr _ _ _ _ _ (by decide), Dev.rd_ref_synWr _ _ _ _ _ (by decide)]
    exact Dev.rd_wr_fit _ _ _ _ (by decide) (by decide)
  · rw [hsyn, hkhz, htune0]
  · rw [hsyn, hsyn, htune0, htune1]

/-! ## A reference that is selected or returns (R174, R177) -/

/-- The news of a return: no failover and no qualifying is left, and status and event tell it. -/
def Dev.toldReturn (d e : Dev) : Prop :=
  e.on 0x18 F.REF_STAT_failover = false ∧ e.on 0x18 F.REF_STAT_qualifying = false ∧ e.bit 0x18 0x00C 17 = true ∧
    e.mw.wire = d.mw.wire ++ [⟨247, 0, .system, 247⟩]

/-- A status bit of page 0x18 leaves the page's own registers. -/
theorem Dev.rd_ref_stat (b : Nat) (g : Field) (ho : 0x040 ≤ g.off ∧ g.off < 65536) : (d.stat 0x18 b).rd 0x18 g = d.rd 0x18 g :=
  (d.same_stat 0x18 b).rd 0x18 g (not_mem_statAddrs _ _ _ ho.2 (by omega) fun h => absurd h (by decide))

/-- The loops as a return leaves them, before it is told. -/
def Dev.returned : Dev := ((d.closeLoops src offset).wr 0x18 F.REF_STAT_qualifying 0).wr 0x18 F.REF_STAT_failover 0

theorem Dev.reference_eq : d.reference src offset = ((d.returned src offset).stat 0x18 17).raiseSys 247 := rfl

theorem Dev.rd_reference (g : Field) (ho : 0x040 ≤ g.off ∧ g.off < 65536) :
    (d.reference src offset).rd 0x18 g = (d.returned src offset).rd 0x18 g := Dev.rd_ref_stat _ 17 g ho

/-- A return's fields but the two that it clears are those of the closed loops. -/
theorem Dev.rd_reference_apart (g : Field) (ho : 0x040 ≤ g.off ∧ g.off < 65536) (hg : g.lo + g.w ≤ 32)
    (h : g.off ≠ F.REF_STAT_failover.off ∨ g.lo + g.w ≤ 5) :
    (d.reference src offset).rd 0x18 g = (d.closeLoops src offset).rd 0x18 g := by
  rw [d.rd_reference src offset g ho, Dev.returned,
    Dev.rd_wr_apart _ _ F.REF_STAT_failover g _ hg (h.imp_right fun h5 => .inl (le_trans h5 (by decide))),
    Dev.rd_wr_apart _ _ F.REF_STAT_qualifying g _ hg (h.imp_right .inl)]

theorem Dev.syns_reference : (d.reference src offset).syns = (d.closeLoops src offset).syns := by
  rw [d.reference_eq, Dev.raiseSys_syns, Dev.stat_syns, Dev.returned, Dev.wr_syns, Dev.wr_syns]

theorem Dev.closedOn_reference (hsrc : src < 4) : (d.reference src offset).closedOn src := by
  refine Dev.closedOn_of_same (d.closedOn_closeLoops src offset hsrc) (d.syns_reference src offset) ?_
  simp only [List.forall_mem_cons, List.not_mem_nil, false_implies, implies_true, and_true]
  exact ⟨d.rd_reference_apart src offset _ (by decide) (by decide) (by decide),
    d.rd_reference_apart src offset _ (by decide) (by decide) (by decide),
    d.rd_reference_apart src offset _ (by decide) (by decide) (by decide)⟩

/-- A return keeps the frequency of REF_IN. -/
theorem Dev.rd_khz_reference : (d.reference src offset).rd 0x18 F.REF_IN_KHZ_khz = d.rd 0x18 F.REF_IN_KHZ_khz :=
  (d.rd_reference_apart src offset _ (by decide) (by decide) (by decide)).trans
    (d.rd_closeLoops src offset _ (by decide) (by decide) (by decide) (by decide))

theorem Dev.rd_buildout_reference : (d.reference src offset).rd 0x18 F.REF_BUILDOUT = offset.toNat :=
  (d.rd_reference_apart src offset _ (by decide) (by decide) (by decide)).trans (d.rd_buildout_closeLoops src offset)

theorem Dev.toldReturn_reference (old : Dev) (hmw : d.mw = old.mw) : old.toldReturn (d.reference src offset) := by
  refine ⟨congrArg (· != 0) (?_ : _ = 0), congrArg (· != 0) (?_ : _ = 0), Dev.stat_bit _ _ 17 (by decide), ?_⟩
  · rw [d.rd_reference src offset _ (by decide)]
    exact Dev.rd_wr_fit _ _ _ _ (by decide) (by decide)
  · rw [d.rd_reference src offset _ (by decide), Dev.returned, Dev.rd_wr_apart _ _ _ _ _ (by decide) (by decide)]
    exact Dev.rd_wr_fit _ _ _ _ (by decide) (by decide)
  · exact congrArg (fun m : Midway => m.wire ++ [(⟨247, 0, .system, 247⟩ : Raise)]) ((Dev.stat_mw _ _ _).trans hmw)

end

/-! ## A reference that is lost, is back, or fails over (R172 to R176) -/

section
variable (d : Dev) (src : Nat)

/-- A source's limits change its own bit of REF_STAT at most. -/
theorem Dev.rd_setRefOk (ok : Bool) (g : Field) (hg : g.lo + g.w ≤ 32)
    (h : g.off ≠ F.REF_STAT_ring_ok.off ∨ g.lo + g.w ≤ 2 ∨ 4 ≤ g.lo) : (d.setRefOk src ok).rd 0x18 g = d.rd 0x18 g := by
  unfold Dev.setRefOk
  split_ifs
  · exact d.rd_wr_apart _ _ _ _ hg (h.imp_right (.imp_right (le_trans (by decide))))
  · exact d.rd_wr_apart _ _ _ _ hg (h.imp_right (.imp_left fun h2 => le_trans h2 (by decide)))
  · rfl

theorem Dev.mw_setRefOk (ok : Bool) : (d.setRefOk src ok).mw = d.mw := by
  unfold Dev.setRefOk
  split_ifs <;> rfl

/-- The CS loops coast. -/
def Dev.coasting : Dev :=
  ((((d.setRefOk (d.rd 0x18 F.REF_SEL_src) false).wr 0x18 F.REF_STAT_qualifying 0).wr 0x18 F.REF_STAT_coast 1).synWr 0
    F.SYN_STAT_coast 1).synWr 1 F.SYN_STAT_coast 1

/-- Loops that run on the selected source coast when it is lost. -/
theorem Dev.refLose_eq (hcoast : d.on 0x18 F.REF_STAT_coast = false) (hfail : d.on 0x18 F.REF_STAT_failover = false) :
    d.refLose = (d.coasting.stat 0x18 16).raiseSys 246 := by
  have hkeep (g : Field) (hg : g.lo + g.w ≤ 32) (h : 4 ≤ g.lo) (h5 : g.lo + g.w ≤ 5 ∨ 6 ≤ g.lo) :
      ((d.setRefOk (d.rd 0x18 F.REF_SEL_src) false).wr 0x18 F.REF_STAT_qualifying 0).on 0x18 g = d.on 0x18 g :=
    congrArg (· != 0) ((Dev.rd_wr_apart _ _ F.REF_STAT_qualifying g _ hg (.inr h5)).trans
      (d.rd_setRefOk _ _ g hg (.inr (.inr h))))
  unfold Dev.refLose
  simp only
  rw [hkeep _ (by decide) (by decide) (by decide), hkeep _ (by decide) (by decide) (by decide), hcoast, hfail]
  rfl

theorem Dev.coasting_shows : d.coasting.on 0x18 F.REF_STAT_coast = true ∧ d.coasting.synOn 0 F.SYN_STAT_coast = true ∧
    d.coasting.synOn 1 F.SYN_STAT_coast = true := by
  refine ⟨congrArg (· != 0) (?_ : _ = 1), congrArg (· != 0) (?_ : _ = 1), Dev.synOn_synWr_fit _ 1 1 _ (by decide) (by decide)⟩
  · unfold Dev.coasting
    rw [Dev.rd_ref_synWr _ _ _ _ _ (by decide), Dev.rd_ref_synWr _ _ _ _ _ (by decide)]
    exact Dev.rd_wr_fit _ _ _ _ (by decide) (by decide)
  · exact (Dev.rd_wr_other _ _ _ _ _ _ (by decide)).trans (Dev.synRd_synWr_fit _ 0 1 _ (by decide) (by decide))

theorem Dev.mw_coasting : d.coasting.mw = d.mw := d.mw_setRefOk _ _

/-- A source for which the loops wait is being qualified, or the loops close on it. -/
theorem Dev.refBack_eq (buildout : Option Word) (hsel : d.rd 0x18 F.REF_SEL_src = src)
    (hwait : d.on 0x18 F.REF_STAT_coast = true ∨ d.on 0x18 F.REF_STAT_failover = true) :
    d.refBack src buildout = match buildout with
      | none => (d.setRefOk src true).wr 0x18 F.REF_STAT_qualifying 1
      | some v => (d.setRefOk src true).reference src v := by
  have hkeep (g : Field) (hg : g.lo + g.w ≤ 32) (h : g.off ≠ F.REF_STAT_ring_ok.off ∨ 4 ≤ g.lo) :
      (d.setRefOk src true).rd 0x18 g = d.rd 0x18 g := d.rd_setRefOk _ _ g hg (h.imp_right .inr)
  unfold Dev.refBack
  refine if_pos ⟨(hkeep _ (by decide) (by decide)).trans hsel, Bool.or_eq_true_iff.mpr (hwait.imp ?_ ?_)⟩
  · exact (congrArg (· != 0) (hkeep _ (by decide) (by decide))).trans
  · exact (congrArg (· != 0) (hkeep _ (by decide) (by decide))).trans

/-- The loops have failed over to the device's own oscillator. -/
def Dev.failedOver (offset : Word) : Dev := (d.closeLoops 0 offset).wr 0x18 F.REF_STAT_failover 1

theorem Dev.closedOn_failedOver (offset : Word) : (d.failedOver offset).closedOn 0 := by
  refine Dev.closedOn_of_same (d.closedOn_closeLoops 0 offset (by decide)) (Dev.wr_syns _ _ _ _) ?_
  simp only [List.forall_mem_cons, List.not_mem_nil, false_implies, implies_true, and_true]
  exact ⟨Dev.rd_wr_apart _ _ _ _ _ (by decide) (by decide), Dev.rd_wr_apart _ _ _ _ _ (by decide) (by decide),
    Dev.rd_wr_apart _ _ _ _ _ (by decide) (by decide)⟩

theorem Dev.failedOver_shows (offset : Word) : (d.failedOver offset).on 0x18 F.REF_STAT_failover = true ∧
    (d.failedOver offset).on 0x18 F.REF_STAT_qualifying = d.on 0x18 F.REF_STAT_qualifying :=
  ⟨congrArg (· != 0) (Dev.rd_wr_fit _ _ _ 1 (by decide) (by decide)),
    congrArg (· != 0) ((Dev.rd_wr_apart _ _ _ _ _ (by decide) (by decide)).trans
      (d.rd_closeLoops 0 offset _ (by decide) (by decide) (by decide) (by decide)))⟩

/-! ## A removed pulse (R178) -/

/-- The guard counts the pulse. -/
def Dev.pulseCounted : Dev := (d.bump 0x18 F.CLK_GUARD_count).stat 0x18 18

theorem Dev.rd_pulseCounted : d.pulseCounted.rd 0x18 F.CLK_GUARD_count =
    min (d.rd 0x18 F.CLK_GUARD_count + 1) (2 ^ F.CLK_GUARD_count.w - 1) :=
  (Dev.rd_ref_stat _ 18 _ (by decide)).trans (d.rd_wr_fit _ _ _ (by decide)
    (lt_of_le_of_lt (Nat.min_le_right _ _) (Nat.sub_lt (Nat.two_pow_pos _) Nat.one_pos)))

theorem Dev.same_pulseCounted : SameRegs (addrOf 0x18 F.CLK_GUARD_count.off :: statAddrs 0x18) d d.pulseCounted :=
  ((d.same_bump 0x18 1 F.CLK_GUARD_count).mono fun _ h => List.mem_cons.mpr (.inl (List.mem_singleton.mp h))).stat _ _
    fun _ h => List.mem_cons_of_mem _ h

end

/-! ## Writes of REF_SEL and REF_IN_KHZ (R177) -/

section
variable (old d : Dev) (x : Wr)

theorem Dev.blockEffect_ref (hp : x.p = 0x18) : Dev.blockEffect old d x = d.refclkEffect x := by
  unfold Dev.blockEffect
  rw [hp]
  rfl

/-- A write of the reference closes the loops on the selected source, with the phase that is measured. -/
theorem Dev.referenceWritten_eq (src : Nat) (hsel : d.rd 0x18 F.REF_SEL_src = src) :
    d.referenceWritten = d.fresh.2.reference src d.fresh.1 := by
  rw [← hsel]
  rfl

theorem Dev.refclkEffect_sel (ho : x.off = 0x040) : d.refclkEffect x = d.referenceWritten := if_pos ho

theorem Dev.refclkEffect_khz (ho : x.off = 0x044) (hsel : d.rd 0x18 F.REF_SEL_src = 1) :
    d.refclkEffect x = d.referenceWritten := by
  unfold Dev.refclkEffect
  rw [if_neg (by rw [ho]; decide), if_pos ho, if_pos hsel]

end

end Sys2Proof.Machine

namespace Sys2Proof.Safety

open Sys2Proof.Machine

theorem exec_refSelect_src (w : BusWrite) (s : State) : exec (.refSelect false w) s = onDev s fun d => d.writeAt 0x18 0x040 w := rfl
theorem exec_refSelect_khz (w : BusWrite) (s : State) : exec (.refSelect true w) s = onDev s fun d => d.writeAt 0x18 0x044 w := rfl
theorem exec_refLost (s : State) : exec .refLost s = onLive s Dev.refLose := rfl
theorem exec_refReturn (src : BitVec 2) (buildout : Option Word) (s : State) :
    exec (.refReturn src buildout) s = onLive s fun d => d.refBack src.toNat buildout := rfl
theorem exec_refFailover (buildout : Word) (s : State) : exec (.refFailover buildout) s = onLive s fun d =>
    if d.on 0x18 F.REF_CFG_failover && d.on 0x18 F.REF_STAT_coast then d.failedOver buildout else d := rfl
theorem exec_guardPulse (cs : Fin 2) (s : State) : exec (.guardPulse cs) s = onLive s Dev.pulseCounted := rfl
theorem exec_csLockFault (cs : Fin 2) (s : State) : exec (.csLockFault cs) s = onLive s fun d => d.csFault cs.val := rfl

/-- Settles O41: a selection, a return and a failover all close the loops in one way, and a loss or a fault makes them coast. -/
theorem referenceFollows : Obligations.ReferenceFollows := by
  intro s src buildout cs w d closed told
  refine ⟨fun ha => ?_, fun ha hsel => ?_, fun hs hcoast hfail => ?_, fun hs hsel hwait => ⟨?_, ?_⟩, fun hs hcfg hcoast => ?_,
    fun hs => ?_, fun hs hp => ?_⟩
  · have hsrc : (d.store (seen d 0x18 0x040 w)).rd 0x18 F.REF_SEL_src = (seen d 0x18 0x040 w).val F.REF_SEL_src :=
      d.rd_store 0x18 0x040 w F.REF_SEL_src rfl (by decide) rfl (by decide +kernel)
    exact ⟨_, performs_block (exec_refSelect_src w s) (by decide) (by decide) ha (by decide) (by decide +kernel)
      ((Dev.blockEffect_ref _ _ _ rfl).trans ((Dev.refclkEffect_sel _ _ rfl).trans (Dev.referenceWritten_eq _ _ hsrc))),
      Dev.closedOn_reference _ _ _ (hsrc ▸ Dev.rd_lt _ _ _), Dev.toldReturn_reference _ _ _ d (Dev.store_mw _ _)⟩
  · have hsrc : (d.store (seen d 0x18 0x044 w)).rd 0x18 F.REF_SEL_src = 1 :=
      (congrArg F.REF_SEL_src.get (d.reg_store_other (seen d 0x18 0x044 w) _
        (show addrOf 0x18 0x040 ≠ addrOf 0x18 0x044 by decide))).trans hsel
    exact ⟨_, performs_block (exec_refSelect_khz w s) (by decide) (by decide) ha (by decide) (by decide +kernel)
      ((Dev.blockEffect_ref _ _ _ rfl).trans ((Dev.refclkEffect_khz _ _ rfl hsrc).trans (Dev.referenceWritten_eq _ _ hsrc))),
      Dev.closedOn_reference _ _ _ (by decide), Dev.toldReturn_reference _ _ _ d (Dev.store_mw _ _),
      (Dev.rd_khz_reference _ _ _).trans (d.rd_store 0x18 0x044 w F.REF_IN_KHZ_khz rfl (by decide) rfl (by decide +kernel))⟩
  · obtain ⟨hc, hc0, hc1⟩ := d.coasting_shows
    have hsyn := (SynKept.refl d.coasting).stat 0x18 16
    exact ⟨_, gives_onLive (exec_refLost s) hs (d.refLose_eq hcoast hfail),
      (congrArg (· != 0) (Dev.rd_ref_stat _ 16 _ (by decide))).trans hc,
      (hsyn.synOn 0 _ (by decide) (by decide)).trans hc0, (hsyn.synOn 1 _ (by decide) (by decide)).trans hc1,
      Dev.stat_bit _ _ 16 (by decide),
      congrArg (fun m : Midway => m.wire ++ [(⟨246, 0, .system, 246⟩ : Raise)]) ((Dev.stat_mw _ _ _).trans d.mw_coasting)⟩
  · exact ⟨_, gives_onLive (exec_refReturn src none s) hs (d.refBack_eq _ none hsel hwait),
      congrArg (· != 0) (Dev.rd_wr_fit _ _ _ 1 (by decide) (by decide)), d.mw_setRefOk _ _⟩
  · exact ⟨_, gives_onLive (exec_refReturn src (some buildout) s) hs (d.refBack_eq _ (some buildout) hsel hwait),
      Dev.closedOn_reference _ _ _ src.isLt, Dev.toldReturn_reference _ _ _ d (d.mw_setRefOk _ _),
      Dev.rd_buildout_reference _ _ _⟩
  · obtain ⟨hf, hq⟩ := d.failedOver_shows buildout
    refine ⟨_, gives_onLive (exec_refFailover buildout s) hs (if_pos ?_), d.closedOn_failedOver buildout, hf, hq⟩
    rw [hcfg, hcoast]
    rfl
  · exact ⟨_, gives_onLive (exec_guardPulse cs s) hs rfl, Dev.stat_bit _ _ 18 (by decide), d.rd_pulseCounted, d.same_pulseCounted⟩
  · exact ⟨_, gives_onLive (exec_csLockFault cs s) hs rfl, d.synLocked_csFault _ hp, d.coast_csFault _ hp,
      d.has_csFault _ hp cs.isLt, d.bit_csFault _ hp, d.wire_csFault _ hp⟩

end Sys2Proof.Safety
end

section
/-! SUPPORT. Writes of the clock pages (R166, R181, R182, R188, R197, R198), and the statement about them. -/
namespace Sys2Proof.Machine

open Sys2Proof.Safety

/-! ## The registers of the clock pages -/

theorem fieldsAt_apply (j : Fin 9) : fieldsAt (synPage (6 + j.val)) (synOff (6 + j.val) 0x0C) = some [F.SYN_APPLY_go] := by
  revert j
  decide +kernel

theorem fieldsAt_pstep (i : Fin 15) (h : 6 ≤ i.val) : fieldsAt (synPage i.val) (synOff i.val 0x10) = some [F.SYN_PSTEP_steps] := by
  revert i
  decide +kernel

/-- The phase steps of page 0x19 are read-only. -/
theorem fieldsAt_pstep_core (i : Fin 15) (h : i.val < 6) :
    fieldsAt 0x19 (synOff i.val 0x10) = some [{ F.SYN_PSTEP_steps with acc := .ro }] := by
  revert i
  decide +kernel

theorem fieldsAt_lphase (lane : Fin 16) : fieldsAt (groupPage lane.val) (0x050 + 4 * (lane.val % 4)) = some [F.LG_LPHASE_steps] := by
  revert lane
  decide +kernel

theorem fieldsAt_refoutPstep (n : Fin 4) : fieldsAt 0x18 (0x070 + 4 * n.val) = some [F.REFOUT_PSTEP_steps] := by
  revert n
  decide +kernel

/-- A lane's rate is one field that reads as written. -/
theorem wo_laneRate (ls : Fin 8) : woBits (0x1B + ls.val / 2) (0x040 + 4 * (ls.val % 2)) = 0 ∧
    bitsWhere (0x1B + ls.val / 2) (0x040 + 4 * (ls.val % 2)) Field.ky = 0 := by
  revert ls
  decide +kernel

/-- A reference output's settings read as written. -/
theorem wo_refout (n : Fin 4) : woBits 0x18 (0x060 + 4 * n.val) = 0 ∧ bitsWhere 0x18 (0x060 + 4 * n.val) Field.ky = 0 := by
  revert n
  decide +kernel

theorem noKey_one {p off : Nat} {f : Field} (h : fieldsAt p off = some [f]) (hk : f.ky = false) : bitsWhere p off Field.ky = 0 := by
  rw [bitsWhere_one h, hk]
  rfl

theorem tsOf_page (p off : Nat) (h : p ≠ 0x09) : tsOf p off = none := if_neg fun c => h c.1

theorem synOff_lt (i o : Nat) (ho : o < 0x20) : synOff i o < 0x1C0 ∧ 0x100 ≤ synOff i o := by
  have := synIndex_le i
  unfold synOff
  omega

theorem synOff_aligned (i o : Nat) (ho : o % 4 = 0) : synOff i o % 4 = 0 := by
  unfold synOff
  omega

/-! ## What the pages of the lane groups and of WS0 do with a write -/

section
variable (old d : Dev) (x : Wr)

theorem Dev.blockEffect_lg (h1 : 0x1A ≤ x.p) (h2 : x.p < 0x1F) : Dev.blockEffect old d x = d.lgEffect x := by
  unfold Dev.blockEffect
  rcases (by omega : x.p = 0x1A ∨ x.p = 0x1B ∨ x.p = 0x1C ∨ x.p = 0x1D ∨ x.p = 0x1E) with h | h | h | h | h <;> rw [h] <;> rfl

/-- A lane synthesizer's rate retunes it. -/
theorem Dev.lgEffect_rate (ls : Nat) (hp : x.p = 0x1B + ls / 2) (ho : x.off = 0x040 + 4 * (ls % 2)) :
    d.lgEffect x = d.homeRetune (6 + ls) := by
  unfold Dev.lgEffect
  simp only
  rw [if_neg (by omega), if_neg (by omega)]
  by_cases h0 : ls % 2 = 0
  · rw [if_pos (by omega), show 6 + 2 * (x.p - 0x1B) = 6 + ls by omega]
  · rw [if_neg (by omega), if_pos (by omega), show 7 + 2 * (x.p - 0x1B) = 6 + ls by omega]

/-- A write of a synthesizer's block is that synthesizer's. -/
theorem Dev.lgEffect_syn (l o : Nat) (hl : 6 ≤ l) (h15 : l < 15) (ho : o < 0x20) (hp : x.p = synPage l) (hoff : x.off = Machine.synOff l o) :
    d.lgEffect x = d.synEffect x l := by
  have hsyn : (if x.p = 0x1A then 14 else 6 + 2 * (x.p - 0x1B) + (x.off - 0x100) / 32) = l := by
    rw [hp, hoff]
    unfold synPage Machine.synOff synIndex
    split_ifs <;> omega
  unfold Dev.lgEffect
  simp only
  rw [if_pos (by rw [hoff]; exact (synOff_lt l o ho).2), hsyn]

theorem synOff_sub (l o : Nat) (ho : o < 0x20) (hoff : x.off = synOff l o) : (x.off - 0x100) % 32 = o := by
  rw [hoff]
  unfold synOff
  omega

theorem Dev.synEffect_apply (l : Nat) (hoff : x.off = Machine.synOff l 0x0C) (hgo : x.cmd (F.SYN_APPLY_go.at (synIndex l)) = 1) :
    d.synEffect x l = d.synApplyGo l := by
  unfold Dev.synEffect
  simp only
  rw [if_pos (synOff_sub x l 0x0C (by decide) hoff), if_pos hgo]

theorem Dev.synEffect_pstep (l : Nat) (hoff : x.off = Machine.synOff l 0x10) :
    d.synEffect x l = d.synStep l (signed 16 (x.cmd (F.SYN_PSTEP_steps.at (synIndex l)))) := by
  have h := synOff_sub x l 0x10 (by decide) hoff
  unfold Dev.synEffect
  simp only
  rw [if_neg (by omega), if_pos h]

/-- Phase steps of a lane are still to be taken. -/
def Dev.phaseAsked (lane : Nat) (steps : Int) : Dev :=
  (d.setTx lane { d.tx lane with phaseLeft := (d.tx lane).phaseLeft + steps }).showMoving lane

theorem Dev.lgEffect_lphase (lane : Nat) (hp : x.p = groupPage lane) (ho : x.off = 0x050 + 4 * (lane % 4)) :
    d.lgEffect x = d.phaseAsked lane (signed 16 (x.cmd (F.LG_LPHASE_steps.at (lane % 4)))) := by
  have hp' : x.p = 0x1B + lane / 4 := hp
  have hk : (x.off - 0x050) / 4 = lane % 4 := by omega
  have hn : 4 * (x.p - 0x1B) + lane % 4 = lane := by omega
  unfold Dev.lgEffect
  simp only
  rw [if_neg (by omega), if_neg (by omega), if_neg (by omega), if_neg (by omega), if_neg (by omega), if_pos (by omega), hk, hn]
  rfl

/-! ## What page 0x18 does with a write of a reference output -/

theorem Dev.refclkEffect_pstep (n : Nat) (hn : n < 4) (ho : x.off = 0x070 + 4 * n) :
    d.refclkEffect x = d.refoutStep n (signed 16 (x.cmd (F.REFOUT_PSTEP_steps.at n))) := by
  have hk : (x.off - 0x070) / 4 = n := by omega
  unfold Dev.refclkEffect
  simp only
  rw [if_neg (by omega), if_neg (by omega), if_pos (by omega), hk]

theorem Dev.refclkEffect_config (n : Nat) (hn : n < 4) (ho : x.off = 0x060 + 4 * n) : d.refclkEffect x = d := by
  unfold Dev.refclkEffect
  rw [if_neg (by omega), if_neg (by omega), if_neg (by omega)]

/-- Phase steps of a divided source add up. -/
theorem Dev.refoutStep_divided (n : Nat) (s : Int) (h : 3 ≤ d.rd 0x18 (F.REFOUT_src.at n)) :
    SameRegs [] d (d.refoutStep n s) ∧ tabGet (fun _ => (0 : Int)) (d.refoutStep n s).refs.refoutSteps n =
      tabGet (fun _ => (0 : Int)) d.refs.refoutSteps n + s := by
  unfold Dev.refoutStep
  rw [if_pos h]
  exact ⟨fun _ _ => rfl, tabGet_tabSet_same _ _ _ _⟩

end

/-! ## Staged tunings (R198) -/

section
variable (d : Dev) (i : Nat)

/-- The tuning that a synthesizer's fields hold, and the band that they force. -/
def Dev.stagedTune : Tune := ⟨d.synRd i F.SYN_INT_n, d.synRd i F.SYN_INT_odiv, d.synRd i F.SYN_FRAC⟩
def Dev.stagedBand : Option Nat := if d.synOn i F.SYN_BAND_force then some (d.synRd i F.SYN_BAND_band) else none

theorem Dev.synApplyGo_eq : d.synApplyGo i =
    (d.setSyn i { d.syn i with applied := some (d.stagedTune i), band := d.stagedBand i }).retune i (d.stagedTune i) := rfl

/-- An apply keeps the staged values and retunes to them. -/
theorem Dev.syn_synApplyGo : ((d.synApplyGo i).syn i).applied = some (d.stagedTune i) ∧
    ((d.synApplyGo i).syn i).tune = some (d.stagedTune i) ∧ ((d.synApplyGo i).syn i).band = d.stagedBand i := by
  rw [d.synApplyGo_eq]
  obtain ⟨htune, happlied, hband⟩ := Dev.syn_retune
    (d.setSyn i { d.syn i with applied := some (d.stagedTune i), band := d.stagedBand i }) i (d.stagedTune i)
  rw [Dev.syn_setSyn_same] at happlied hband
  exact ⟨happlied, htune, hband⟩

/-- The fields read the applied tuning. -/
theorem Dev.synRd_synApplyGo : (d.synApplyGo i).synRd i F.SYN_INT_n = d.synRd i F.SYN_INT_n ∧
    (d.synApplyGo i).synRd i F.SYN_INT_odiv = d.synRd i F.SYN_INT_odiv ∧ (d.synApplyGo i).synRd i F.SYN_FRAC = d.synRd i F.SYN_FRAC := by
  rw [d.synApplyGo_eq]
  exact Dev.synRd_retune_tune _ i (d.stagedTune i) (d.rd_lt _ _) (d.rd_lt _ _) (d.rd_lt _ _)

end

/-- The staged values lie in registers. -/
theorem staged_of_same {d e : Dev} (h : SameRegs [] d e) (i : Nat) :
    (∀ f, e.synRd i f = d.synRd i f) ∧ e.stagedTune i = d.stagedTune i ∧ e.stagedBand i = d.stagedBand i := by
  have hrd (f : Field) : e.synRd i f = d.synRd i f := h.rd _ _ List.not_mem_nil
  unfold Dev.stagedTune Dev.stagedBand Dev.synOn
  simp only [hrd, implies_true, and_self]

/-! ## Writes that nothing takes -/

/-- A write with no byte enabled does nothing at a listed register. -/
theorem Dev.writeAt_noBytes (d : Dev) (p off : Nat) (w : BusWrite) (ho : off < 0x1000) (h4 : off % 4 = 0)
    (hheard : d.heard w.m = true) (hstalls : d.stalls w.m = false) (hbarred : d.barred w.m p = false)
    (hf : (fieldsAt p off).isNone = false) (hbe : w.be = 0) : d.writeAt p off w = d := by
  have hoff : addrOf p off % 65536 / 4 * 4 = off := by rw [addrOf_off p off (by omega)]; omega
  unfold Dev.writeAt Dev.busWrite Dev.writeNow
  simp only [hheard, hstalls, addrOf_page p off (by omega), hoff, hbarred, Bool.not_true, Bool.false_eq_true, if_false]
  rw [if_pos ho]
  unfold Dev.writeWord
  simp only [hf, hbe, Bool.false_eq_true, if_false]
  rfl

/-- A write that reaches no field that it can change does nothing outside the mailboxes' pages. -/
theorem Dev.judge_reachesNone (d : Dev) (x : Wr) (h : x.reaches (d.canWrite x.m x.p x.off) = false)
    (hm : d.mbRefuses x.m x.p x.off = false) : d.judge x = d := by
  unfold Dev.judge
  rw [h, hm]
  rfl

end Sys2Proof.Machine

namespace Sys2Proof.Safety

open Sys2Proof.Machine

theorem exec_laneRateWrite (ls : Fin 8) (w : BusWrite) (s : State) : exec (.laneRateWrite ls w) s =
    onDev s fun d => d.writeAt (0x1B + ls.val / 2) (0x040 + 4 * (ls.val % 2)) w := rfl
theorem exec_synApply (j : Fin 9) (w : BusWrite) (s : State) : exec (.synApply j w) s =
    onDev s fun d => d.writeAt (synPage (6 + j.val)) (synOff (6 + j.val) 0x0C) w := rfl
theorem exec_synPstep (i : Fin 15) (w : BusWrite) (s : State) : exec (.synPstep i w) s =
    onDev s fun d => d.writeAt (synPage i.val) (synOff i.val 0x10) w := rfl
theorem exec_refoutPstep (n : Fin 4) (w : BusWrite) (s : State) : exec (.refoutPstep n w) s =
    onDev s fun d => d.writeAt 0x18 (0x070 + 4 * n.val) w := rfl
theorem exec_refoutConfig (n : Fin 4) (w : BusWrite) (s : State) : exec (.refoutConfig n w) s =
    onDev s fun d => d.writeAt 0x18 (0x060 + 4 * n.val) w := rfl
theorem exec_lanePhaseMove (lane : Fin 16) (w : BusWrite) (s : State) : exec (.lanePhaseMove lane w) s =
    onDev s fun d => d.writeAt (groupPage lane.val) (0x050 + 4 * (lane.val % 4)) w := rfl

/-- The pages of the lane synthesizers and of WS0. -/
theorem synPage_upper (l : Nat) (hl : 6 ≤ l) : 0x1A ≤ synPage l ∧ synPage l < 0x1F := by
  have := synPage_mem l
  unfold synPage at *
  split_ifs at * <;> omega

/-- Phase steps of page 0x19 are written to no avail. -/
theorem writeAt_pstep_core (d : Dev) (i : Fin 15) (w : BusWrite) (hi : i.val < 6) (hheard : d.heard w.m = true)
    (hstalls : d.stalls w.m = false) (hbarred : d.barred w.m 0x19 = false)
    (hcause : d.accessCause (seen d 0x19 (synOff i.val 0x10) w) w.data (w.be != 15) = none)
    (hstaged : d.staged w.m 0x19 (synOff i.val 0x10) = false) : d.writeAt 0x19 (synOff i.val 0x10) w = d := by
  have hf := fieldsAt_pstep_core i hi
  have hnone : (fieldsAt 0x19 (synOff i.val 0x10)).isNone = false := by rw [hf]; rfl
  have ho : synOff i.val 0x10 < 0x1000 := by have := synOff_lt i.val 0x10 (by decide); omega
  have h4 := synOff_aligned i.val 0x10 rfl
  by_cases hbe : w.be = 0
  · exact d.writeAt_noBytes _ _ w ho h4 hheard hstalls hbarred hnone hbe
  · rw [d.writeAt_judged _ _ w ho h4 hheard hstalls hbarred hnone hbe hcause hstaged]
    have hreach : (bitsWhere 0x19 (synOff i.val 0x10) (d.canWrite w.m 0x19 (synOff i.val 0x10)) &&& beMask w.be != 0) = false := by
      rw [bitsWhere_one hf, show d.canWrite w.m 0x19 (synOff i.val 0x10) { F.SYN_PSTEP_steps with acc := .ro } = false from rfl,
        if_neg Bool.false_ne_true]
      simp
    exact d.judge_reachesNone _ hreach rfl

/-- Settles O43: each write's effect is that of its own register, and a command's register stores nothing. -/
theorem clockWrites : Obligations.ClockWrites := by
  intro s ls j i n lane w d l k at_ g
  have hl : 6 ≤ l := Nat.le_add_right 6 _
  refine ⟨fun ha => ?_, fun ha hgo => ?_, fun hk ha => ?_, fun hk hheard hstalls hbarred hcause hstaged => ?_, fun ha hsrc => ?_,
    fun ha => ?_, fun ha => ?_⟩
  · obtain ⟨hwo, hky⟩ := wo_laneRate ls
    have hls := ls.isLt
    refine ⟨_, performs_block (exec_laneRateWrite ls w s) (by omega) (by omega) ha (by omega) hky
      ((Dev.blockEffect_lg _ _ _ (show 0x1A ≤ 0x1B + ls.val / 2 by omega) (show 0x1B + ls.val / 2 < 0x1F by omega)).trans
        (Dev.lgEffect_rate _ _ ls.val rfl rfl)), (Dev.syn_retune _ _ _).1, ?_⟩
    refine ((Dev.within_retune _ _ _).reg _ (not_synReg _ _ (by omega) (by omega) (by omega) (.inr (by omega)))).trans ?_
    exact d.reg_store_same _ _ w (tsOf_page _ _ (by omega)) hwo
  · have hf := fieldsAt_apply j
    obtain ⟨hp1, hp2⟩ := synPage_upper l hl
    obtain ⟨ho2, ho1⟩ := synOff_lt l 0x0C (by decide)
    have hsame := d.same_store_command _ _ w _ hf rfl
    obtain ⟨hrd, htune, hband⟩ := staged_of_same hsame l
    have hj := j.isLt
    refine ⟨_, performs_block (exec_synApply j w s) (lt_trans ho2 (by decide)) (synOff_aligned l 0x0C rfl) ha
      (le_trans (by decide) ho1) (noKey_one hf rfl)
      ((Dev.blockEffect_lg _ _ _ hp1 hp2).trans ((Dev.lgEffect_syn _ _ l 0x0C hl (by omega) (by decide) rfl rfl).trans
        (Dev.synEffect_apply _ _ l rfl hgo))), ?_⟩
    obtain ⟨happlied, htuned, hforced⟩ := Dev.syn_synApplyGo (d.store (at_ (synPage l) (synOff l 0x0C))) l
    obtain ⟨hn, hc, hfrac⟩ := Dev.synRd_synApplyGo (d.store (at_ (synPage l) (synOff l 0x0C))) l
    exact ⟨happlied.trans (congrArg some htune), htuned.trans (congrArg some htune), hforced.trans hband, hn.trans (hrd _),
      hc.trans (hrd _), hfrac.trans (hrd _)⟩
  · have hf := fieldsAt_pstep i hk
    obtain ⟨hp1, hp2⟩ := synPage_upper k hk
    obtain ⟨ho2, ho1⟩ := synOff_lt k 0x10 (by decide)
    refine ⟨_, performs_block (exec_synPstep i w s) (lt_trans ho2 (by decide)) (synOff_aligned k 0x10 rfl) ha
      (le_trans (by decide) ho1) (noKey_one hf rfl)
      ((Dev.blockEffect_lg _ _ _ hp1 hp2).trans ((Dev.lgEffect_syn _ _ k 0x10 hk i.isLt (by decide) rfl rfl).trans
        (Dev.synEffect_pstep _ _ k rfl))), d.same_store_command _ _ w _ hf rfl, ?_⟩
    refine (Dev.syn_setSyn_same _ k _).trans ?_
    rw [Dev.syn_congr (Dev.store_syns d _)]
  · refine gives_onDev (exec_synPstep i w s) ?_
    rw [show synPage i.val = 0x19 from if_pos hk]
    exact writeAt_pstep_core d i w hk hheard hstalls hbarred hcause hstaged
  · have hsame := d.same_store_command _ _ w _ (fieldsAt_refoutPstep n) rfl
    have hn := n.isLt
    obtain ⟨hregs, hsteps⟩ := Dev.refoutStep_divided (d.store (at_ 0x18 (0x070 + 4 * n.val))) n.val
      (signed 16 ((at_ 0x18 (0x070 + 4 * n.val)).cmd (F.REFOUT_PSTEP_steps.at n.val)))
      (le_of_le_of_eq hsrc (hsame.rd _ _ List.not_mem_nil).symm)
    refine ⟨_, performs_block (exec_refoutPstep n w s) (by omega) (by omega) ha (by omega) (noKey_one (fieldsAt_refoutPstep n) rfl)
      ((Dev.blockEffect_ref _ _ _ rfl).trans (Dev.refclkEffect_pstep _ _ n.val hn rfl)),
      hsame.step hregs fun _ h => h, hsteps.trans ?_⟩
    rw [Dev.store_refs]
  · obtain ⟨hwo, hky⟩ := wo_refout n
    have hn := n.isLt
    exact ⟨_, performs_block (exec_refoutConfig n w s) (by omega) (by omega) ha (by omega) hky
      ((Dev.blockEffect_ref _ _ _ rfl).trans (Dev.refclkEffect_config _ _ n.val hn rfl)),
      d.reg_store_same _ _ w (tsOf_page _ _ (by decide)) hwo, d.same_store (at_ 0x18 (0x060 + 4 * n.val))⟩
  · have hf := fieldsAt_lphase lane
    have hlane := lane.isLt
    have hg : g = 0x1B + lane.val / 4 := rfl
    have htx : (d.store (at_ g (0x050 + 4 * (lane.val % 4)))).tx lane.val = d.tx lane.val := Dev.tx_congr (Dev.store_txs _ _) _
    refine ⟨_, performs_block (exec_lanePhaseMove lane w s) (by omega) (by omega) ha (by omega) (noKey_one hf rfl)
      ((Dev.blockEffect_lg _ _ _ (show 0x1A ≤ g by omega) (show g < 0x1F by omega)).trans
        (Dev.lgEffect_lphase _ _ lane.val rfl rfl)), ?_, ?_, ?_⟩
    · unfold Dev.phaseAsked
      rw [Dev.tx_showMoving, Dev.setTx_tx, htx]
    · unfold Dev.phaseAsked
      rw [Dev.has_showMoving, Dev.setTx_tx, htx]
    · exact (d.same_store_command _ _ w _ hf rfl).mono (fun _ h => absurd h List.not_mem_nil) |>.step
        (Dev.same_fbit _ g _ F.LG_STAT_moving _) fun _ h => h

end Sys2Proof.Safety
end

section
/-! SUPPORT. The injectors of the TX lanes (R217 to R221), and the statement about them. -/
namespace Sys2Proof.Machine

open Sys2Proof.Safety

/-! ## The registers of an injector -/

theorem blkOf_tx (lane : Fin 16) : blkOf (txPage lane.val) = some .txl := by
  revert lane
  decide

theorem txPage_ne (lane : Fin 16) : txPage lane.val ≠ 0x09 ∧ txPage lane.val ≠ 0x17 := by
  unfold txPage
  omega

/-- The injector's type reads as written, and TXL_ERR_CTRL has no KY field. -/
theorem wo_errCtrl (lane : Fin 16) : F.TXL_ERR_CTRL_type.mask &&& woBits (txPage lane.val) 0x420 = 0 ∧
    bitsWhere (txPage lane.val) 0x420 Field.ky = 0 := by
  revert lane
  decide +kernel

/-- A status bit leaves the other registers of a TX lane page. -/
theorem Dev.rd_tx_stat (d : Dev) (lane : Fin 16) (q b : Nat) (f : Field) (h0 : f.off < 65536) (h : f.off ≠ 0x00C) :
    (d.stat q b).rd (txPage lane.val) f = d.rd (txPage lane.val) f :=
  (d.same_stat q b).rd _ f (not_mem_statAddrs q _ _ h0 h fun e => absurd e (txPage_ne lane).2)

/-- A counter field just raised. -/
theorem Dev.rd_bump_same (d : Dev) (p : Nat) (f : Field) (k : Nat) (hf : f.lo + f.w ≤ 32) :
    (d.bump p f k).rd p f = min (d.rd p f + k) (2 ^ f.w - 1) :=
  d.rd_wr_fit p f _ hf (lt_of_le_of_lt (Nat.min_le_right _ _) (Nat.sub_lt (Nat.two_pow_pos _) Nat.one_pos))

theorem Dev.txs_raiseIf (d : Dev) (p : Nat) (en ev : Field) : (d.raiseIf p en ev).txs = d.txs := by
  unfold Dev.raiseIf
  split <;> rfl

/-! ## Triggers (R219, R220) -/

section
variable (d : Dev) (n : Nat)

/-- No injection is pending on a lane, and none waits for its next block. -/
def Dev.errFree : Bool := (d.tx n).shot.isNone && (d.tx n).next.isEmpty

/-- The injection that the injector's settings describe. -/
def Dev.errShot : Shot :=
  ⟨d.rd (txPage n) F.TXL_ERR_CTRL_type, d.rd (txPage n) F.TXL_ERR_CTRL_mode, d.on (txPage n) F.TXL_ERR_CTRL_pos_rand,
    d.rd (txPage n) F.TXL_ERR_CTRL_sym_mask, d.rd (txPage n) F.TXL_ERR_POS_off, d.rd (txPage n) F.TXL_ERR_POS_len⟩

/-- A trigger that a pending injection absorbs. -/
def Dev.errDropped : Dev := (d.bump (txPage n) F.TXL_ERR_CNT_drop).stat (txPage n) 19

theorem Dev.errTrigger_eq : d.errTrigger n =
    if d.errFree n then d.setTx n { d.tx n with shot := some (d.errShot n) } else d.errDropped n := by
  unfold Dev.errTrigger Dev.errFree Dev.errDropped
  cases (d.tx n).shot <;> cases (d.tx n).next <;> rfl

theorem Dev.tx_errDropped (m : Nat) : (d.errDropped n).tx m = d.tx m :=
  Dev.tx_congr ((Dev.stat_txs _ _ _).trans (Dev.bump_txs _ _ _ _)) m

theorem Dev.rd_errDropped (lane : Fin 16) : (d.errDropped lane.val).rd (txPage lane.val) F.TXL_ERR_CNT_drop =
    min (d.rd (txPage lane.val) F.TXL_ERR_CNT_drop + 1) (2 ^ F.TXL_ERR_CNT_drop.w - 1) :=
  (Dev.rd_tx_stat _ lane _ 19 _ (by decide) (by decide)).trans (d.rd_bump_same _ _ 1 (by decide))

theorem Dev.errFree_congr {e : Dev} (hshot : (e.tx n).shot = (d.tx n).shot) (hnext : (e.tx n).next = (d.tx n).next) :
    e.errFree n = d.errFree n := by
  unfold Dev.errFree
  rw [hshot, hnext]

/-- The lane's delivered event is taken. -/
def Dev.errHeard : Dev := { d with mw := { d.mw with inbox := d.mw.inbox.erase (.errInject n) } }

theorem Dev.errTrigger_errHeard (h : d.errFree n = true) :
    (d.errHeard n).errTrigger n = (d.errHeard n).setTx n { d.tx n with shot := some (d.errShot n) } :=
  (Dev.errTrigger_eq _ n).trans (if_pos h)

/-! ### The write that triggers -/

variable (x : Wr)

/-- A write of the mode begins the count of its blocks anew. -/
def Dev.errModed : Dev := if x.reach F.TXL_ERR_CTRL_mode then d.setTx n { d.tx n with blocks := 0 } else d

theorem Dev.errModed_keeps : (∀ a, (d.errModed n x).reg a = d.reg a) ∧ ((d.errModed n x).tx n).shot = (d.tx n).shot ∧
    ((d.errModed n x).tx n).next = (d.tx n).next := by
  unfold Dev.errModed
  split
  · rw [Dev.setTx_tx]
    exact ⟨fun _ => rfl, rfl, rfl⟩
  · exact ⟨fun _ => rfl, rfl, rfl⟩

theorem Dev.txEffect_go (ho : x.off = 0x420) (hgo : x.cmd F.TXL_ERR_CTRL_go = 1) (hmode : x.val F.TXL_ERR_CTRL_mode = 1) :
    d.txEffect n x = (d.errModed n x).errTrigger n := by
  unfold Dev.txEffect
  simp only [ho, hgo, hmode, and_self, if_true, show decide (0x420 < 0x100) = false from rfl, Bool.and_false, Bool.false_and,
    Bool.false_eq_true, if_false]
  rfl

theorem Dev.blockEffect_tx (old : Dev) (lane : Fin 16) (hp : x.p = txPage lane.val) :
    Dev.blockEffect old d x = d.txEffect lane.val x := by
  unfold Dev.blockEffect
  rw [hp, blkOf_tx, show txPage lane.val - 0x20 = lane.val from Nat.add_sub_cancel_left _ _]

end

/-! ## Injections that leave (R217, R218, R221) -/

/-- On the way from `d` to `e` one injection of lane `n` has been counted, with its time. -/
def ErrCounted (d e : Dev) (n : Nat) (ts : Stamp) : Prop :=
  e.rd (txPage n) F.TXL_ERR_CNT_inj = min (d.rd (txPage n) F.TXL_ERR_CNT_inj + 1) (2 ^ F.TXL_ERR_CNT_inj.w - 1) ∧
    e.rd (txPage n) F.TXL_ERR_TS_LO + 2 ^ 32 * e.rd (txPage n) F.TXL_ERR_TS_HI = ts.toNat

section
variable (d : Dev) (n : Nat) (ts : Stamp)

theorem Dev.tx_errRecord (m : Nat) : (d.errRecord n ts).tx m = d.tx m :=
  Dev.tx_congr ((Dev.txs_raiseIf _ _ _ _).trans ((Dev.wrPair_txs _ _ _ _ _).trans (Dev.bump_txs _ _ _ _))) m

theorem Dev.counted_errRecord : ErrCounted d (d.errRecord n ts) n ts := by
  unfold Dev.errRecord ErrCounted
  simp only [(Dev.same_raiseIf _ _ _ _).rd _ _ List.not_mem_nil]
  refine ⟨?_, Dev.rd_wrPair _ _ _ _ _ (by decide) (by decide) (by decide)⟩
  unfold Dev.wrPair
  rw [Dev.rd_wr_off _ _ _ _ _ (by decide), Dev.rd_wr_off _ _ _ _ _ (by decide), Dev.rd_bump_same _ _ _ _ (by decide)]

/-- An injection of modes 2 and 3 whose block has gone is counted (R221). -/
theorem Dev.errApply_due (h : (d.tx n).due ≠ 0) :
    d.errApply n ts = (d.setTx n { d.tx n with due := (d.tx n).due - 1 }).errRecord n ts := if_pos h

/-- In electrical idle, and with nothing pending, nothing leaves. -/
theorem Dev.errApply_nothing (hdue : (d.tx n).due = 0) (h : d.txDriving n = false ∨ (d.tx n).shot = none) :
    d.errApply n ts = d := by
  unfold Dev.errApply
  simp only [hdue, ne_eq, not_true_eq_false, if_false]
  split
  · rfl
  · next heq => simp [h.resolve_right (by rw [heq]; exact Option.some_ne_none _)]

variable (h : Shot)

/-- The position of a pending injection, and the device once it is known: the set one, or a free one inside the block (R218). -/
def Dev.errPlace : Nat × Dev :=
  if h.rand && h.typ != 2 then (d.fresh.1.toNat % d.txBlockBits n, d.fresh.2) else (h.off, d)

theorem Dev.errPlace_cases : d.errPlace n h = (h.off, d) ∨
    h.rand = true ∧ h.typ ≠ 2 ∧ d.errPlace n h = (d.fresh.1.toNat % d.txBlockBits n, d.fresh.2) := by
  unfold Dev.errPlace
  by_cases hc : (h.rand && h.typ != 2) = true
  · rw [if_pos hc]
    simp only [Bool.and_eq_true, bne_iff_ne, ne_eq] at hc
    exact .inr ⟨hc.1, hc.2, rfl⟩
  · exact .inl (if_neg hc)

theorem Dev.errPlace_fixed (hf : h.rand = false ∨ h.typ = 2) : (d.errPlace n h).1 = h.off := by
  rcases d.errPlace_cases n h with he | ⟨hr, ht, -⟩
  · rw [he]
  · simp [hr, ht] at hf

theorem Dev.errPlace_inside (hb : 0 < d.txBlockBits n) :
    (d.errPlace n h).1 < d.txBlockBits n ∨ (d.errPlace n h).1 = h.off := by
  rcases d.errPlace_cases n h with he | ⟨-, -, he⟩ <;> rw [he]
  · exact .inr rfl
  · exact .inl (Nat.mod_lt _ hb)

/-- Finding a position takes a free value at most. -/
theorem Dev.errPlace_keeps : SameRegs [] d (d.errPlace n h).2 ∧ (d.errPlace n h).2.txs = d.txs := by
  rcases d.errPlace_cases n h with he | ⟨-, -, he⟩ <;> rw [he] <;> exact ⟨fun _ _ => rfl, rfl⟩

/-- The next block takes the pending injection, which is counted. -/
def Dev.errTaken : Dev :=
  let c := (d.errPlace n h).2
  (c.setTx n { c.tx n with shot := none, next := flips h.typ (d.errPlace n h).1 h.len h.mask (c.txPam n) }).errRecord n ts

theorem Dev.errApply_taken (hdue : (d.tx n).due = 0) (hshot : (d.tx n).shot = some h) (hnext : (d.tx n).next = [])
    (hdrive : d.txDriving n = true) (hfit : posFits (d.txBlockBits n) h.typ h.off h.len h.rand = true) :
    d.errApply n ts = if h.mode = 1 then (d.errTaken n ts h).stat (txPage n) 18 else d.errTaken n ts h := by
  unfold Dev.errApply
  simp only [hdue, hshot, hnext, hdrive, hfit, ne_eq, not_true_eq_false, if_false, Bool.not_true, List.isEmpty_nil, Bool.or_self,
    Bool.false_eq_true]
  rfl

theorem Dev.tx_errTaken : (d.errTaken n ts h).tx n =
    { d.tx n with shot := none, next := flips h.typ (d.errPlace n h).1 h.len h.mask (d.txPam n) } := by
  obtain ⟨hregs, htxs⟩ := d.errPlace_keeps n h
  unfold Dev.errTaken
  have hpam : (d.errPlace n h).2.txPam n = d.txPam n := hregs.on _ _ List.not_mem_nil
  rw [Dev.tx_errRecord, Dev.setTx_tx, Dev.tx_congr htxs, hpam]

theorem Dev.counted_errTaken : ErrCounted d (d.errTaken n ts h) n ts := by
  have hrd : (d.errPlace n h).2.rd (txPage n) F.TXL_ERR_CNT_inj = d.rd (txPage n) F.TXL_ERR_CNT_inj :=
    (d.errPlace_keeps n h).1.rd _ _ List.not_mem_nil
  have hc := Dev.counted_errRecord ((d.errPlace n h).2.setTx n { (d.errPlace n h).2.tx n with
    shot := none, next := flips h.typ (d.errPlace n h).1 h.len h.mask ((d.errPlace n h).2.txPam n) }) n ts
  unfold ErrCounted at hc ⊢
  rw [Dev.rd_setTx, hrd] at hc
  exact hc

end

/-- The status bit of an injection of mode 1 leaves its count and its time. -/
theorem ErrCounted.stat {d e : Dev} {lane : Fin 16} {ts : Stamp} (h : ErrCounted d e lane.val ts) (q b : Nat) :
    ErrCounted d (e.stat q b) lane.val ts := by
  unfold ErrCounted
  rw [Dev.rd_tx_stat _ _ _ _ _ (by decide) (by decide), Dev.rd_tx_stat _ _ _ _ _ (by decide) (by decide),
    Dev.rd_tx_stat _ _ _ _ _ (by decide) (by decide)]
  exact h

end Sys2Proof.Machine

namespace Sys2Proof.Safety

open Sys2Proof.Machine

theorem exec_errInjectGo (lane : Fin 16) (w : BusWrite) (s : State) : exec (.errInjectGo lane w) s =
    onDev s fun d => d.writeAt (txPage lane.val) 0x420 w := rfl
theorem exec_errInjectEvent (lane : Fin 16) (s : State) :
    exec (.errInjectEvent lane) s = execErrInjectEvent lane s := rfl
theorem exec_errInject (lane : Fin 16) (ts : Stamp) (s : State) : exec (.errInject lane ts) s =
    onLive s fun d => d.errApply lane.val ts := rfl

/-- An accepted trigger by a write: the settings are stored, and the injector is triggered. -/
theorem performs_errInjectGo (lane : Fin 16) (w : BusWrite) (s : State) (ha : accepted s.dev (txPage lane.val) 0x420 w = true)
    (hgo : (seen s.dev (txPage lane.val) 0x420 w).cmd F.TXL_ERR_CTRL_go = 1)
    (hmode : (seen s.dev (txPage lane.val) 0x420 w).val F.TXL_ERR_CTRL_mode = 1) :
    ∃ c, Performs (.errInjectGo lane w) s (Dev.errTrigger c lane.val) ∧
      (∀ a, c.reg a = (s.dev.store (seen s.dev (txPage lane.val) 0x420 w)).reg a) ∧
      (c.tx lane.val).shot = (s.dev.tx lane.val).shot ∧ c.errFree lane.val = s.dev.errFree lane.val := by
  have htx := Dev.tx_congr (Dev.store_txs s.dev (seen s.dev (txPage lane.val) 0x420 w)) lane.val
  obtain ⟨hregs, hshot, hnext⟩ := Dev.errModed_keeps (s.dev.store (seen s.dev (txPage lane.val) 0x420 w)) lane.val
    (seen s.dev (txPage lane.val) 0x420 w)
  exact ⟨_, performs_block (exec_errInjectGo lane w s) (by decide) (by decide) ha (by decide) (wo_errCtrl lane).2
      ((Dev.blockEffect_tx _ _ _ lane rfl).trans (Dev.txEffect_go _ _ _ rfl hgo hmode)),
    hregs, hshot.trans (congrArg Tx.shot htx),
    Dev.errFree_congr _ _ (hshot.trans (congrArg Tx.shot htx)) (hnext.trans (congrArg Tx.next htx))⟩

/-- A delivered event triggers an injector in mode 4. -/
theorem gives_errInjectEvent (lane : Fin 16) (s : State) (hs : s.dev.serving = true)
    (hin : s.dev.mw.inbox.contains (.errInject lane.val) = true) (hmode : s.dev.rd (txPage lane.val) F.TXL_ERR_CTRL_mode = 4) :
    Gives (.errInjectEvent lane) s ((s.dev.errHeard lane.val).errTrigger lane.val) := by
  refine gives_onLive (exec_errInjectEvent lane s) hs ?_
  simp only [s.dev.take_delivered _ hin]
  exact if_pos hmode

/-- Settles O44: a trigger is absorbed or takes the settings, and a changed bit that leaves counts the injection that is due, or has
the next block take the pending one. -/
theorem errorsAreInjected : Obligations.ErrorsAreInjected := by
  intro s lane w ts h d n p x shot free counted
  refine ⟨fun ha hgo hmode hfree => ?_, fun ha hgo hmode hfree => ?_, fun hs hin hmode hfree => ?_,
    fun hs hdue hshot hnext hdrive hfit => ?_, fun m hs hdue => ?_, fun hs hdue hno => ?_⟩
  · obtain ⟨c, hperf, hregs, -, hsame⟩ := performs_errInjectGo lane w s ha hgo hmode
    rw [Dev.errTrigger_eq, if_pos (hsame.trans hfree)] at hperf
    refine ⟨_, hperf, congrArg Tx.shot (Dev.setTx_tx _ _ _), ?_, fun a hna => ?_⟩
    · exact (congrArg F.TXL_ERR_CTRL_type.get (hregs _)).trans
        (d.rd_store p 0x420 w F.TXL_ERR_CTRL_type rfl (by decide) (tsOf_page _ _ (txPage_ne lane).1) (wo_errCtrl lane).1)
    · exact (hregs a).trans (d.same_store x a hna)
  · obtain ⟨c, hperf, hregs, hshot, hsame⟩ := performs_errInjectGo lane w s ha hgo hmode
    rw [Dev.errTrigger_eq, if_neg (Bool.eq_false_iff.mp (hsame.trans hfree))] at hperf
    have hne : addrOf p F.TXL_ERR_CNT_drop.off ≠ addrOf p 0x420 := fun e => absurd (Nat.add_left_cancel e) (by decide)
    have hdrop : c.rd p F.TXL_ERR_CNT_drop = d.rd p F.TXL_ERR_CNT_drop :=
      congrArg F.TXL_ERR_CNT_drop.get ((hregs _).trans (d.reg_store_other x _ hne))
    refine ⟨_, hperf, (congrArg Tx.shot (c.tx_errDropped n n)).trans hshot, Dev.stat_bit _ _ 19 (by decide), ?_⟩
    rw [← hdrop]
    exact c.rd_errDropped lane
  · have hgives := gives_errInjectEvent lane s hs hin hmode
    rw [s.dev.errTrigger_errHeard n hfree] at hgives
    exact ⟨_, hgives, Dev.setTx_tx _ _ _, fun _ _ => rfl, rfl⟩
  · have htx := d.tx_errTaken n ts h
    have hcount := d.counted_errTaken n ts h
    have hgives := gives_onLive (exec_errInject lane ts s) hs (d.errApply_taken n ts h hdue hshot hnext hdrive hfit)
    have hat := d.errPlace_fixed n h
    have hin := d.errPlace_inside n h
    by_cases hm : h.mode = 1
    · rw [if_pos hm] at hgives
      have htx' := (Dev.tx_congr (Dev.stat_txs (d.errTaken n ts h) p 18) n).trans htx
      exact ⟨_, _, hgives, congrArg Tx.shot htx', congrArg Tx.next htx', hat, hin, hcount.stat p 18,
        fun _ => Dev.stat_bit _ _ 18 (by decide)⟩
    · rw [if_neg hm] at hgives
      exact ⟨_, _, hgives, congrArg Tx.shot htx, congrArg Tx.next htx, hat, hin, hcount, fun e => absurd e hm⟩
  · refine ⟨_, gives_onLive (exec_errInject lane ts s) hs (d.errApply_due n ts (by rw [hdue]; exact Nat.succ_ne_zero m)), ?_,
      Dev.counted_errRecord _ n ts⟩
    rw [Dev.tx_errRecord, Dev.setTx_tx, hdue]
    rfl
  · exact gives_onLive (exec_errInject lane ts s) hs (d.errApply_nothing n ts hdue hno)

end Sys2Proof.Safety
end

section
/-! SUPPORT. What a receive lane's forwarder leaves of the receivers: their states, aligners, profiles and adapted values. -/
namespace Sys2Proof.Machine

/-! ## Records of receive lanes under the updates of registers and of other records -/

section
variable (d : Dev) (p v m : Nat) (f : Field)

@[simp] theorem Dev.rx_wr : (d.wr p f v).rx m = d.rx m := by rfl
@[simp] theorem Dev.rx_bump : (d.bump p f v).rx m = d.rx m := by rfl
@[simp] theorem Dev.rx_setTx (t : Tx) : (d.setTx v t).rx m = d.rx m := by rfl
@[simp] theorem Dev.rx_setSq (t : Sq) : (d.setSq v t).rx m = d.rx m := by rfl
@[simp] theorem Dev.rx_setRxState : (d.setRxState p v).rx m = d.rx m := by rfl
@[simp] theorem Dev.rx_fresh : d.fresh.2.rx m = d.rx m := by rfl
@[simp] theorem Dev.rx_stat : (d.stat p v).rx m = d.rx m := Dev.rx_congr (Dev.stat_rxs d p v) m
@[simp] theorem Dev.rx_raiseIf (g : Field) : (d.raiseIf p f g).rx m = d.rx m := by
  unfold Dev.raiseIf
  split <;> rfl

end

/-! ## Steps of a forwarder -/

/-- A register of a receive lane's page other than PAGE_STAT, RXL_FWD_STAT and RXL_FWD_CNT, which the forwarder writes. -/
def RxOwn (a : Nat) : Prop :=
  0x30 ≤ a / 65536 ∧ a / 65536 < 0x40 ∧ a % 65536 ≠ 0x00C ∧ a % 65536 ≠ 0x460 ∧ a % 65536 ≠ 0x464

/-- A field of such a register. -/
def Field.rxOwn (f : Field) : Bool := decide (f.off < 65536) && f.off != 0x00C && f.off != 0x460 && f.off != 0x464

/-- A lane's record without its forwarder's part. -/
def received (r : Rx) : Rx :=
  { r with
    held := [], owed := 0, lead := 0, ending := false, cut := false, spliced := false, part := [], drop := 0, fin := 0, fout := 0,
    disp := false, okey := 0 }

/-- A step leaves the receivers as they are: their own registers, and their records but for the forwarders' part. -/
structure Forwards (d e : Dev) : Prop where
  reg : ∀ a, RxOwn a → e.reg a = d.reg a
  rx : ∀ r, received (e.rx r) = received (d.rx r)

section
variable {d e f : Dev}

theorem Forwards.refl (d : Dev) : Forwards d d := ⟨fun _ _ => rfl, fun _ => rfl⟩

theorem Forwards.trans (h : Forwards d e) (k : Forwards e f) : Forwards d f :=
  ⟨fun a ha => (k.reg a ha).trans (h.reg a ha), fun r => (k.rx r).trans (h.rx r)⟩

/-- What a record besides these takes changes none of them. -/
theorem Forwards.same (h : Forwards d e) (hr : f.regs = e.regs) (hu : f.upset = e.upset) (hx : f.rxs = e.rxs) : Forwards d f :=
  h.trans ⟨fun a _ => Dev.reg_congr e f a hr hu, fun r => by rw [Dev.rx_congr hx]⟩

theorem Forwards.fold {σ α : Type} (dev : σ → Dev) (step : σ → α → σ) (xs : List α)
    (h : ∀ s x, Forwards (dev s) (dev (step s x))) (s : σ) : Forwards (dev s) (dev (xs.foldl step s)) := by
  induction xs generalizing s with
  | nil => exact .refl _
  | cons x xs ih => exact (h s x).trans (ih (step s x))

theorem Forwards.foldDev {α : Type} {step : Dev → α → Dev} {xs : List α} (h : ∀ d x, Forwards d (step d x)) (d : Dev) :
    Forwards d (xs.foldl step d) := Forwards.fold id step xs h d

theorem Forwards.ite {c : Prop} [Decidable c] (h : Forwards d e) (k : Forwards d f) : Forwards d (if c then e else f) := by
  split
  · exact h
  · exact k

theorem Forwards.iteSnd {α : Type} {c : Prop} [Decidable c] {x y : α × Dev} (h : Forwards d x.2) (k : Forwards d y.2) :
    Forwards d (if c then x else y).2 := by
  split
  · exact h
  · exact k

section
variable {p v n i : Nat} {g : Field} {b : Bool}

theorem not_rxOwn_page (off : Nat) (ho : off < 65536) (hp : p < 0x30 ∨ 0x40 ≤ p) : ¬RxOwn (addrOf p off) := by
  unfold RxOwn
  rw [addrOf_page p off ho]
  omega

theorem not_rxOwn_off {off : Nat} (ho : off = 0x00C ∨ off = 0x460 ∨ off = 0x464) : ¬RxOwn (addrOf p off) := by
  unfold RxOwn
  rw [addrOf_off p off (by omega)]
  omega

theorem rxOwn_addr {off : Nat} (hn : n < 16) (ho : off < 65536) (h : off ≠ 0x00C ∧ off ≠ 0x460 ∧ off ≠ 0x464) :
    RxOwn (addrOf (rxPage n) off) := by
  unfold RxOwn
  rw [addrOf_page _ _ ho, addrOf_off _ _ ho]
  exact ⟨by unfold rxPage; omega, by unfold rxPage; omega, h⟩

theorem Forwards.wrAside (hg : ¬RxOwn (addrOf p g.off)) (h : Forwards d e) : Forwards d (e.wr p g v) :=
  h.trans ⟨fun a ha => e.reg_wr_other p a g v fun c => hg (c ▸ ha), fun _ => rfl⟩

/-- A field of RXL_FWD_STAT or RXL_FWD_CNT is set. -/
theorem Forwards.wr (hg : g.off = 0x00C ∨ g.off = 0x460 ∨ g.off = 0x464) (h : Forwards d e) : Forwards d (e.wr p g v) :=
  h.wrAside (not_rxOwn_off hg)

theorem Forwards.bump (hg : g.off = 0x00C ∨ g.off = 0x460 ∨ g.off = 0x464) (h : Forwards d e) : Forwards d (e.bump p g n) := h.wr hg

/-- A field of a page that is no receive lane's is set. -/
theorem Forwards.wrPage (hp : p < 0x30 ∨ 0x40 ≤ p) (ho : g.off < 65536) (h : Forwards d e) : Forwards d (e.wr p g v) :=
  h.wrAside (not_rxOwn_page _ ho hp)

theorem Forwards.bumpPage (hp : p < 0x30 ∨ 0x40 ≤ p) (ho : g.off < 65536) (h : Forwards d e) : Forwards d (e.bump p g n) :=
  h.wrPage hp ho

theorem Forwards.fbitPage (hp : p < 0x30 ∨ 0x40 ≤ p) (ho : g.off < 65536) (h : Forwards d e) : Forwards d (e.fbit p g i b) :=
  h.wrPage hp ho

theorem Forwards.stat (h : Forwards d e) : Forwards d (e.stat p i) := by
  refine h.trans ⟨fun a ha => e.reg_stat p i a (fun c => not_rxOwn_off (.inl rfl) (c ▸ ha)) ?_, fun r => by
    rw [Dev.rx_congr (Dev.stat_rxs _ _ _)]⟩
  rintro (rfl | rfl) <;> exact not_rxOwn_page _ (by decide) (by decide) ha

/-- A lane's record takes another forwarder's part. -/
theorem Forwards.setRx {t : Rx} (h : Forwards d e) (ht : received t = received (e.rx n) := by simp [received]) :
    Forwards d (e.setRx n t) := by
  refine h.trans ⟨fun _ _ => rfl, fun r => ?_⟩
  by_cases hr : r = n
  · rw [hr, e.setRx_rx, ht]
  · rw [e.setRx_rx_other n r t hr]

/-- A step that stays within registers of other pages, and changes no receive lane's record. -/
theorem Within.forwards {A : Nat → Prop} (h : Within A d e) (hA : ∀ a, A a → ¬RxOwn a) (hx : e.rxs = d.rxs) : Forwards d e :=
  ⟨fun a ha => h.reg a fun c => hA a c ha, fun r => by rw [Dev.rx_congr hx]⟩

section
variable (h : Forwards d e)
include h

theorem Forwards.setTx {t : Tx} : Forwards d (e.setTx n t) := h.same rfl rfl rfl
theorem Forwards.setSq {t : Sq} : Forwards d (e.setSq n t) := h.same rfl rfl rfl
theorem Forwards.emit {m : Message} : Forwards d (e.emit m) := h.same rfl rfl rfl
theorem Forwards.fresh : Forwards d e.fresh.2 := h.same rfl rfl rfl
theorem Forwards.raise {src ch : Nat} : Forwards d (e.raise src ch) := h.same rfl rfl rfl
theorem Forwards.setMw {m : Midway} : Forwards d { e with mw := m } := h.same rfl rfl rfl

theorem Forwards.raiseIf {en ev : Field} : Forwards d (e.raiseIf p en ev) := by
  unfold Dev.raiseIf
  exact .ite h.raise h

/-- A field of a receiver's own. -/
theorem Forwards.rd (hn : n < 16) (f : Field) (hf : f.rxOwn = true) : e.rd (rxPage n) f = d.rd (rxPage n) f := by
  simp only [Field.rxOwn, Bool.and_eq_true, decide_eq_true_eq, bne_iff_ne] at hf
  obtain ⟨⟨⟨ho, h1⟩, h2⟩, h3⟩ := hf
  exact congrArg f.get (h.reg _ (rxOwn_addr hn ho ⟨h1, h2, h3⟩))

theorem Forwards.on (hn : n < 16) (f : Field) (hf : f.rxOwn = true) : e.on (rxPage n) f = d.on (rxPage n) f :=
  congrArg (· != 0) (h.rd hn f hf)

theorem Forwards.rxState (hn : n < 16) : e.rxState n = d.rxState n := h.rd hn _ (by decide)

theorem Forwards.aligned (hn : n < 16) : e.aligned n = d.aligned n := congrArg (· == 2) (h.rd hn _ (by decide))

end

end

end

theorem sqPage_beside (n : Nat) : sqPage n < 0x30 ∨ 0x40 ≤ sqPage n := by unfold sqPage; omega

theorem groupPage_beside {n : Nat} (hn : n < 16) : groupPage n < 0x30 ∨ 0x40 ≤ groupPage n := by unfold groupPage; omega

/-! ## What a TX lane sends -/

section
variable (d : Dev) {n : Nat}

theorem Dev.forwards_errAuto (blocks : Nat) : Forwards d (d.errAuto n blocks).2 := by
  unfold Dev.errAuto
  simp only
  repeat' split
  all_goals exact (Forwards.refl d).same rfl rfl rfl

theorem Dev.forwards_errBlock : Forwards d (d.errBlock n) := by
  have h := d.forwards_errAuto (n := n) ((d.tx n).blocks + 1)
  unfold Dev.errBlock
  simp only
  split
  · exact .setTx <| .refl d
  · split
    next e => rw [e] at h; exact h.setTx
    next e => rw [e] at h; exact h.setTx

theorem Dev.forwards_injectRun (bits : List Bool) : Forwards d (d.injectRun n bits).2 := by
  unfold Dev.injectRun
  refine Forwards.fold (fun s : List Bool × Dev => s.2) _ bits (fun s b => ?_) ([], d)
  simp only
  split
  · exact s.2.forwards_errBlock.setTx
  · exact .setTx <| .refl s.2

theorem Dev.forwards_markRun (k : Nat) : Forwards d (d.markRun n k) := by
  unfold Dev.markRun
  exact .trans (.setSq <| .refl d) (Forwards.foldDev (fun e _ => .raise <| .refl e) _)

theorem Dev.forwards_driveOut : Forwards d (d.driveOut n) := by
  unfold Dev.driveOut
  exact .ite (.setTx <| .refl d) (.emit <| .setTx <| .refl d)

section
variable (hn : n < 16)
include hn

theorem Dev.forwards_jitterStep : Forwards d (d.jitterStep n) := by
  unfold Dev.jitterStep
  exact .ite (.setTx <| .refl d) (.stat <| .bumpPage (by omega) (by decide) <| .setTx <| .refl d)

theorem Dev.forwards_jitterRun (k : Nat) : Forwards d (d.jitterRun n k).2 := by
  unfold Dev.jitterRun
  simp only
  split
  · exact .setTx <| .setTx <| .refl d
  · exact (Forwards.setTx <| .refl d).trans
      (Forwards.fold (fun s : List Int × Dev => s.2) _ _ (fun s _ => s.2.forwards_jitterStep hn) ([], _))

theorem Dev.forwards_laneSend (bits : List Bool) : Forwards d (d.laneSend n bits) := by
  have hdrive (e : Dev) (ls : List Int) : Forwards e (e.drive n ls) := by
    unfold Dev.drive
    exact .ite (e.forwards_jitterRun hn _).setTx (e.forwards_jitterRun hn _).setTx.emit
  unfold Dev.laneSend
  exact .ite (((d.forwards_injectRun bits).trans (hdrive _ _)).trans (Dev.forwards_markRun _ _)) (d.forwards_jitterRun hn _).setTx

theorem Dev.forwards_txIdle : Forwards d (d.txIdle n) := .wrPage (by omega) (by decide) <| .setTx d.forwards_driveOut

theorem Dev.forwards_showMoving : Forwards d (d.showMoving n) := .fbitPage (groupPage_beside hn) (by decide) <| .refl d

theorem Dev.forwards_setOff (o : Int) : Forwards d (d.setOff n o) :=
  .trans (.setTx <| .wrPage (groupPage_beside hn) (by simp only [Field.at, F.LG_OFF]; omega) <| .refl d)
    (Dev.forwards_showMoving _ hn)

end

theorem Dev.forwards_underrun (words : Nat) : Forwards d (d.underrun n words) := by
  unfold Dev.underrun
  exact .ite (.refl d) (.stat <| .bumpPage (sqPage_beside n) (by decide) <| .refl d)

end

/-! ## What a receiving lane forwards -/

section
variable (d : Dev) (n : Nat)

theorem Dev.forwards_repairOut (own : Bool) (line : List Bool) : Forwards d (d.repairOut n own line).2 := by
  have h {t : Rx} (ht : received t = received (d.rx n)) : Forwards d (d.setRx n t) := (Forwards.refl d).setRx ht
  unfold Dev.repairOut
  simp only
  split
  · split
    · exact h rfl
    · exact h rfl
  · split
    · exact h rfl
    · exact h rfl
  · exact h rfl
  · exact .refl d

theorem Dev.forwards_repairIn (line : List Bool) : Forwards d (d.repairIn n line).2 := by
  unfold Dev.repairIn
  split
  · exact .setRx <| .refl d
  · exact .refl d

theorem Dev.forwards_sendBlock (own : Bool) (bits : List Bool) : Forwards d (d.sendBlock n own bits) := by
  have hsend (e : Dev) (own : Bool) (bits : List Bool) : Forwards e (e.fwdSend n own bits) := by
    unfold Dev.fwdSend
    exact .ite (.trans (.setTx <| .refl e) (Dev.forwards_laneSend _ (fwdTx_lt n) _)) (e.forwards_laneSend (fwdTx_lt n) _)
  exact (d.forwards_repairOut n own _).trans (hsend _ _ _)

theorem Dev.forwards_fwdQuiet : Forwards d (d.fwdQuiet n) :=
  .setRx <| .trans (.wr (by decide) <| .refl d) (Dev.forwards_driveOut _)

theorem Dev.forwards_showHeld : Forwards d (d.showHeld n) := by
  unfold Dev.showHeld
  exact .ite (.wr (by decide) <| .wr (by decide) <| .refl d) (.wr (by decide) <| .refl d)

theorem Dev.forwards_holdBlock (bits : List Bool) : Forwards d (d.holdBlock n bits) :=
  .trans (.setRx <| .refl d) (Dev.forwards_showHeld _ n)

theorem Dev.forwards_sendHeld (k : Nat) : Forwards d (d.sendHeld n k) :=
  ((Forwards.setRx <| .refl d).trans (Forwards.foldDev (fun e _ => e.forwards_sendBlock n false _) _)).trans
    (Dev.forwards_showHeld _ n)

theorem Dev.forwards_spliceOver : Forwards d (d.spliceOver n) := by
  have h : Forwards d _ := ((Forwards.refl d).setRx (n := n) (t := { d.rx n with lead := max 0 (d.rx n).lead })).trans
    (Dev.forwards_sendHeld _ n (-(d.rx n).lead).toNat)
  unfold Dev.spliceOver
  exact .ite (h.wr (by decide)) (.ite (h.trans (Dev.forwards_fwdQuiet _ n)) h)

theorem Dev.forwards_cutSplice (cause : Nat) : Forwards d (d.cutSplice n cause) := by
  have h : Forwards d _ := .raiseIf (p := rxPage n) (en := F.RXL_EV_cut_en) (ev := F.RXL_EV_cut_ev) <| .stat (p := rxPage n) (i := 20) <|
    .wr (p := rxPage n) (g := F.RXL_FWD_CNT_cut_cause) (v := cause) (by decide) <|
    .bump (p := rxPage n) (g := F.RXL_FWD_CNT_cut) (n := 1) (by decide) <|
    .wr (p := rxPage n) (g := F.RXL_FWD_STAT_splice) (v := 0) (by decide) <| .refl d
  unfold Dev.cutSplice
  exact .ite (.ite (h.setRx.trans (Dev.forwards_spliceOver _ n)) h.setRx) (.refl d)

theorem Dev.forwards_fwdStop : Forwards d (d.fwdStop n) := by
  unfold Dev.fwdStop
  exact .ite (.refl d) (.ite (d.forwards_fwdQuiet n) (.setRx <| .refl d))

theorem Dev.forwards_fwdFlush : Forwards d (d.fwdFlush n) := by
  unfold Dev.fwdFlush
  refine .trans ?_ (Dev.forwards_sendHeld _ n _)
  exact .ite (.refl d) (.trans (.setRx (d.forwards_underrun _)) (Dev.forwards_sendBlock _ n true _))

theorem Dev.forwards_spliceBlock (bits : List Bool) : Forwards d (d.spliceBlock n bits) := by
  have h := d.forwards_sendBlock n true bits
  unfold Dev.spliceBlock
  refine .ite h ?_
  simp only
  split
  · exact .bumpPage (by unfold cePage; omega) (by decide) <| h.setRx.trans (Dev.forwards_showHeld _ n)
  · exact h.setRx

theorem Dev.forwards_spliceBits (bits : List Bool) : Forwards d (d.spliceBits n bits) := by
  unfold Dev.spliceBits
  refine .ite (.setRx (Forwards.foldDev (fun e _ => e.forwards_spliceBlock n _) d)) (.ite (.refl d)
    (.ite (.setRx <| .refl d) ?_))
  exact ((Forwards.setRx <| .refl d).trans (Dev.forwards_spliceBlock _ n _)).trans (Dev.forwards_spliceOver _ n)

end

/-! ## Words that the splice draws from the sequencer of the TX lane -/

section
variable (d : Dev) (n : Nat)

theorem Dev.forwards_showSq : Forwards d (d.showSq n) := by
  obtain ⟨r, u, h⟩ := d.onlyRegs_showSq n
  refine ⟨fun a ha => d.same_showSq n a fun hm => ?_, fun m => by rw [h]; rfl⟩
  simp only [sqShown, List.mem_cons, List.mem_map, List.mem_range] at hm
  rcases hm with rfl | ⟨k, hk, rfl⟩
  · exact not_rxOwn_page _ (by decide) (sqPage_beside n) ha
  · exact not_rxOwn_page _ (by omega) (sqPage_beside n) ha

theorem Dev.forwards_modSq (f : Sq → Sq) : Forwards d (d.modSq n f) := .trans (.setSq <| .refl d) (Dev.forwards_showSq _ n)

theorem Dev.forwards_sqAhead : Forwards d (d.sqAhead n) := by
  obtain ⟨st, wa, dr, h⟩ := d.sqAhead_eq n
  rw [h]
  exact .setSq <| .refl d

theorem Dev.forwards_tileDone (tile : Nat) : Forwards d (d.tileDone n tile) := by
  unfold Dev.tileDone
  exact .ite (.refl d) (.setSq <| .refl d)

theorem Dev.forwards_blockEnd (free : Bool) : Forwards d (d.blockEnd n free) := by
  have hfree (k : Nat) :
      Forwards d ((List.range k).foldl (fun (x : List Bool × Dev) _ => (x.1 ++ [x.2.fresh.1.getLsbD 0], x.2.fresh.2)) ([], d)).2 :=
    Forwards.fold (fun x : List Bool × Dev => x.2) _ _ (fun x _ => .fresh <| .refl x.2) ([], d)
  unfold Dev.blockEnd
  refine .ite ?_ (.refl d)
  cases free with
  | true => exact (hfree _).trans (Dev.forwards_spliceBits _ _ _)
  | false => exact (d.forwards_underrun _).trans (Dev.forwards_spliceBits _ _ _)

theorem Dev.forwards_closeBracket : Forwards d (d.closeBracket n) := by
  have h (s : Sq) {t : Rx} (ht : received t = received (d.rx (fwdTx n))) :
      Forwards d (((d.setSq n s).wr (rxPage (fwdTx n)) F.RXL_FWD_STAT_splice 0).setRx (fwdTx n) t) :=
    (Forwards.wr (by decide) <| .setSq <| .refl d).setRx ht
  unfold Dev.closeBracket
  split
  · exact .refl d
  · exact .ite (.trans (h _ (by simp [received])) (Dev.forwards_spliceOver _ _)) (h _ (by simp [received]))

section
variable {n : Nat} (hn : n < 16)
include hn

theorem Dev.forwards_abandonHandoff : Forwards d (d.abandonHandoff n) := by
  have hp := groupPage_beside hn
  unfold Dev.abandonHandoff
  split
  · exact .refl d
  · exact .stat <| .fbitPage hp (by decide) <| .fbitPage hp (by decide) <| .setTx <| .refl d

theorem Dev.forwards_sqDisarm : Forwards d (d.sqDisarm n) := by
  have h := (d.forwards_closeBracket n).trans (Dev.forwards_modSq _ n fun s =>
    { s with
      watches := [], landing := none, wait := none, hold := false, haltReq := false, play := none, wanted := []
      dropped := s.dropped ++ s.wanted })
  unfold Dev.sqDisarm
  exact .ite (h.setMw.trans (Dev.forwards_abandonHandoff _ hn)) h.setMw

/-- A sequencer of a TX lane faults. -/
theorem Dev.forwards_sqFault (cause pc : Nat) : Forwards d (d.sqFault n cause pc) := by
  have hidle (e : Dev) : Forwards e (e.sqLaneIdle n) := by
    unfold Dev.sqLaneIdle
    exact .ite (e.forwards_txIdle hn) (.refl e)
  have hreport (e : Dev) : Forwards e (e.sqReport n cause pc) := by
    have hp := sqPage_beside n
    exact .raiseIf <| .stat <| .wrPage hp (by decide) <| .wrPage hp (by decide) <| .wrPage hp (by decide) <|
      .wrPage hp (by decide) <| .refl e
  unfold Dev.sqFault
  rw [if_pos hn]
  exact (((d.forwards_blockEnd n _).trans (Dev.forwards_sqDisarm _ hn)).trans (hidle _)).trans (hreport _)

theorem Dev.forwards_sqSend (bs : Bytes) : Forwards d (d.sqSend n bs) := by
  obtain ⟨k, samples, heq⟩ := d.sqSendBits_eq n (bytesBits bs)
  have h : Forwards d (d.sqCounts n k (bytesBits bs).length) := .setSq <| .refl d
  unfold Dev.sqSend
  rw [heq, if_neg (Nat.not_le.mpr hn)]
  exact .ite (h.trans (Dev.forwards_spliceBits _ _ _)) (h.trans (Dev.forwards_laneSend _ hn _))

theorem Dev.forwards_playNext (p : Play) : Forwards d (d.playNext n p) := by
  have hset (e : Dev) {s : Sq} : Forwards e (e.setSq n s) := .setSq <| .refl e
  have hdone (e : Dev) (t : Nat) : Forwards e ((e.tileDone n t).sqAhead n) := (e.forwards_tileDone n t).trans (Dev.forwards_sqAhead _ n)
  unfold Dev.playNext
  simp only
  split
  · refine .trans (.trans (hset d) (.ite (.refl _) (hdone _ _))) (.ite (.trans (hset _) (.ite ?_ (.refl _))) (.refl _))
    exact .setTx <| .refl _
  · exact .trans (.trans (hset d) (hdone _ _)) (.ite (Dev.forwards_sqFault _ hn _ _) (.refl _))

theorem Dev.forwards_playStep : Forwards d ((d.playStep n).getD d) := by
  have hword (bs : Bytes) (p : Play) : Forwards d ((d.sqSend n bs).playNext n p) :=
    (d.forwards_sqSend hn bs).trans (Dev.forwards_playNext _ hn p)
  unfold Dev.playStep
  split
  · exact .refl d
  · split
    · exact .refl d
    · exact hword _ _
    · split
      · exact d.forwards_sqFault hn _ _
      · exact hword _ _

end

theorem Dev.forwards_blockPull : Forwards d (d.blockPull n) := by
  unfold Dev.blockPull
  exact Forwards.foldDev (fun e _ => .ite (e.forwards_playStep (fwdTx_lt n)) (.refl e)) d

end

/-! ## Forwarded blocks -/

section
variable (d : Dev) (n : Nat)

theorem Dev.forwards_fwdPair (odd : Bool) : Forwards d (d.fwdPair n odd) := by
  unfold Dev.fwdPair
  exact .ite (.refl d) (.ite (.setTx <| .fresh <| .refl d) (.setTx <| .refl d))

theorem Dev.forwards_elastic (fill : BitVec 8) : Forwards d (d.elastic n fill).2 := by
  have hlate (c : Prop) [Decidable c] : Forwards d (if c then d.stat (rxPage n) 22 else d) := .ite (.stat <| .refl d) (.refl d)
  unfold Dev.elastic
  simp only
  split
  · have hslip (e : Dev) (v : Nat) : Forwards e ((((e.bump (rxPage n) F.RXL_FWD_CNT_slip).stat (rxPage n) 19).raiseIf (rxPage n)
        F.RXL_EV_slip_en F.RXL_EV_slip_ev).wr (rxPage n) F.RXL_FWD_STAT_elastic v) :=
      .wr (by decide) <| .raiseIf <| .stat <| .bump (by decide) <| .refl e
    split
    · exact (hlate _).trans (hslip _ _)
    · exact ((hlate _).trans (hslip _ _)).setRx
  · exact .wr (by decide) (hlate _)

theorem Dev.forwards_steer : Forwards d (d.steer n) := by
  have ht := fwdTx_lt n
  unfold Dev.steer Dev.followRate
  simp only
  split
  · exact .setTx (d.forwards_setOff ht _)
  · exact .setTx <| .trans (.fresh <| .refl d) (Dev.forwards_setOff _ ht _)

theorem Dev.forwards_fwdBegin : Forwards d (d.fwdBegin n) := by
  unfold Dev.fwdBegin
  exact .trans (.trans (.setTx <| .setRx <| .wr (by decide) <| .wr (by decide) <| .refl d) (Dev.forwards_fwdPair _ n _))
    (Dev.forwards_steer _ n)

theorem Dev.forwards_spliceMux (raw line : List Bool) : Forwards d (d.spliceMux n raw line).2 := by
  have hin := d.forwards_repairIn n line
  unfold Dev.spliceMux
  generalize d.repairIn n line = x at hin ⊢
  obtain ⟨bits, c⟩ := x
  replace hin : Forwards d c := hin
  have hset {t : Rx} (ht : received t = received (c.rx n)) : Forwards d (c.setRx n t) := hin.setRx ht
  have hhold (q : Prop) [Decidable q] {e : Dev} (h : Forwards d e) : Forwards d (if q then e else e.holdBlock n bits) :=
    .ite h (h.trans (Dev.forwards_holdBlock _ n _))
  have hcut {t : Rx} (ht : received t = received (c.rx n)) : Forwards d (((c.setRx n t).showHeld n).cutSplice n 1) :=
    .trans (.trans (hset ht) (Dev.forwards_showHeld _ n)) (Dev.forwards_cutSplice _ n 1)
  have hover (e : Dev) {t : Rx} (ht : received t = received (e.rx n)) : Forwards e (((e.setRx n t).showHeld n).spliceOver n) :=
    .trans (.trans ((Forwards.refl e).setRx ht) (Dev.forwards_showHeld _ n)) (Dev.forwards_spliceOver _ n)
  refine .iteSnd (.iteSnd (hhold _ (hset ?_)) (hset ?_)) (.iteSnd (.iteSnd (hhold _ hin) (.iteSnd ?overflow (hcut ?_)))
    (.iteSnd (hhold _ (hset ?_)) (.iteSnd (.trans (hhold _ hin) (Dev.forwards_sendHeld _ n 1))
      (.trans hin (Dev.forwards_sendBlock _ n false _)))))
  case overflow =>
    extract_lets held e r
    have he : Forwards d e :=
      .trans (.trans (hset (by simp [received])) (Dev.forwards_cutSplice _ n 1)) (Dev.forwards_sendBlock _ n false _)
    dsimp only
    exact he.trans (hover e (by simp [received, r]))
  all_goals simp [received]

theorem Dev.forwards_forwardBlock (b : RxBlock) (line : List Bool) : Forwards d (d.forwardBlock n b line).2 := by
  have hpair (c : Prop) [Decidable c] : Forwards d (if c then d else d.fwdPair n (d.blockOdd n b)) :=
    .ite (.refl d) (d.forwards_fwdPair n _)
  unfold Dev.forwardBlock
  simp only
  split
  · exact .refl d
  · split
    · refine .trans (.trans ?_ (Dev.forwards_fwdBegin _ n)) (Dev.forwards_spliceMux _ n _ _)
      exact .ite ((d.forwards_fwdFlush n).trans (Dev.forwards_fwdQuiet _ n)) (.refl d)
    · split
      · exact (Forwards.refl d).setRx
      · refine .trans (.trans (.trans (hpair _) (Dev.forwards_elastic _ n _)) (Dev.forwards_steer _ n))
          (Forwards.fold (fun x : Bool × Dev => x.2) _ _ (fun x _ => ?_) (false, _))
        exact x.2.forwards_spliceMux n _ _

end

end Sys2Proof.Machine
end

section
/-! SUPPORT. Receivers: their adapted values, their aligners, and how their states change (R226 to R235). -/
namespace Sys2Proof.Machine

open Sys2Proof.Safety

/-! ## Adapted values (R226, R250) -/

/-- The registers of the equaliser values in use. -/
def EqReg (n a : Nat) : Prop := a / 65536 = rxPage n ∧ 0x424 ≤ a % 65536 ∧ a % 65536 < 0x438

theorem eqReg_addr {n off : Nat} (h1 : 0x424 ≤ off) (h2 : off < 0x438) : EqReg n (addrOf (rxPage n) off) := by
  unfold EqReg
  rw [addrOf_page _ _ (by omega), addrOf_off _ _ (by omega)]
  exact ⟨rfl, h1, h2⟩

theorem not_eqReg {n off : Nat} (p : Nat) (ho : off < 65536) (h : off < 0x424 ∨ 0x438 ≤ off) : ¬EqReg n (addrOf p off) := by
  unfold EqReg
  rw [addrOf_off _ _ ho]
  omega

/-- A lane's record without its equaliser's part. -/
def unadapted (r : Rx) : Rx := { r with burst := false, eqWait := false, thr := [], stored0 := none, stored1 := none }

/-- A step changes lane `n`'s equaliser values at most. -/
structure Adapts (n : Nat) (d e : Dev) : Prop where
  regs : Within (EqReg n) d e
  rx : unadapted (e.rx n) = unadapted (d.rx n)

section
variable {n : Nat} {d e f : Dev}

theorem Adapts.refl (d : Dev) : Adapts n d d := ⟨.refl d, rfl⟩

theorem Adapts.trans (h : Adapts n d e) (k : Adapts n e f) : Adapts n d f := ⟨h.regs.trans k.regs, k.rx.trans h.rx⟩

theorem Adapts.setRx {t : Rx} (h : Adapts n d e) (ht : unadapted t = unadapted (e.rx n) := by simp [unadapted]) :
    Adapts n d (e.setRx n t) := ⟨h.regs.setRx n t, by rw [Dev.setRx_rx, ht, h.rx]⟩

theorem Adapts.rd (h : Adapts n d e) (p : Nat) (g : Field) (ho : g.off < 0x424 ∨ 0x438 ≤ g.off ∧ g.off < 65536) :
    e.rd p g = d.rd p g := h.regs.rd p g (not_eqReg p (by omega) (by omega))

end

section
variable (d : Dev) (n : Nat)

theorem Dev.adapts_rxStore : Adapts n d (d.rxStore n) := by
  unfold Dev.rxStore
  simp only
  split
  · refine (Adapts.refl d).setRx ?_
    split <;> simp [unadapted]
  · exact .refl d

/-- The taps in use are written, each from the device before it. -/
def Dev.writeTaps (v : Dev → Nat → Nat) : Dev :=
  (List.range 8).foldl
    (fun d k => d.wr (rxPage n) ((if k % 2 = 0 then F.RXL_DFE_NOW_lo else F.RXL_DFE_NOW_hi).at (k / 2)) (v d k)) d

theorem tap_off (k : Nat) (hk : k < 8) : 0x428 ≤ ((if k % 2 = 0 then F.RXL_DFE_NOW_lo else F.RXL_DFE_NOW_hi).at (k / 2)).off ∧
    ((if k % 2 = 0 then F.RXL_DFE_NOW_lo else F.RXL_DFE_NOW_hi).at (k / 2)).off < 0x438 := by
  split <;> simp only [Field.at, F.RXL_DFE_NOW_lo, F.RXL_DFE_NOW_hi] <;> omega

theorem Dev.rx_writeTaps (v : Dev → Nat → Nat) (m : Nat) : (d.writeTaps n v).rx m = d.rx m :=
  foldl_keeps (step := fun d k => d.wr (rxPage n) ((if k % 2 = 0 then F.RXL_DFE_NOW_lo else F.RXL_DFE_NOW_hi).at (k / 2)) (v d k))
    (·.rx m) _ (fun _ _ _ => rfl) d

theorem Dev.rd_writeTaps (v : Dev → Nat → Nat) (f : Field) (hf : f.off = 0x424) :
    (d.writeTaps n v).rd (rxPage n) f = d.rd (rxPage n) f :=
  foldl_keeps (step := fun d k => d.wr (rxPage n) ((if k % 2 = 0 then F.RXL_DFE_NOW_lo else F.RXL_DFE_NOW_hi).at (k / 2)) (v d k))
    (·.rd (rxPage n) f) _ (fun e k hk => e.rd_wr_off _ _ _ _ (by have := tap_off k (List.mem_range.mp hk); omega)) d

variable (vs : List (BitVec 10))

/-- The registers of the equaliser's values are written: forced ones hold the written codes, at expert level. -/
def Dev.writeEq : Dev :=
  let p := rxPage n
  let x := d.on p F.PAGE_CTRL_level
  let force := x && d.on p F.RXL_XCTLE_force
  let v (i : Nat) : Nat := eqBound i (vs.getD i 0)
  let d := d.wr p F.RXL_EQ_NOW_peak (if force then d.rd p F.RXL_XCTLE_peak else v 0)
  let d := d.wr p F.RXL_EQ_NOW_vga (if force then d.rd p F.RXL_XCTLE_vga else v 1)
  let d := d.writeTaps n fun d k => if x && d.has p F.RXL_XDFE_FORCE_mask k then d.rd p (F.RXL_XDFE_tap.at k) else v (k + 2)
  (d.wr p F.RXL_EQ_NOW_eye_mv (v 10)).wr p F.RXL_EQ_NOW_eye_w (v 11)

theorem Dev.setRxEq_eq : d.setRxEq n vs = (d.writeEq n vs).setRx n { (d.writeEq n vs).rx n with thr := vs.drop 12 } := rfl

theorem Dev.rx_writeEq (m : Nat) : (d.writeEq n vs).rx m = d.rx m := by
  simp only [Dev.writeEq, Dev.rx_wr, Dev.rx_writeTaps]

theorem Dev.rx_setRxEq : (d.setRxEq n vs).rx n = { d.rx n with thr := vs.drop 12 } := by
  rw [Dev.setRxEq_eq, Dev.setRx_rx, Dev.rx_writeEq]

theorem Dev.adapts_setRxEq : Adapts n d (d.setRxEq n vs) := by
  have hw (e : Dev) (f : Field) (v : Nat) (hf : 0x424 ≤ f.off ∧ f.off < 0x438) : Within (EqReg n) e (e.wr (rxPage n) f v) :=
    (Within.refl e).wr _ _ _ (eqReg_addr hf.1 hf.2)
  have htaps (e : Dev) (v : Dev → Nat → Nat) : Within (EqReg n) e (e.writeTaps n v) :=
    Within.fold id _ _ (fun e k hk => hw e _ _ (by have := tap_off k (List.mem_range.mp hk); omega)) e
  refine ⟨?_, by rw [Dev.rx_setRxEq]; simp only [unadapted]⟩
  rw [Dev.setRxEq_eq]
  exact .setRx (.trans (.trans (.trans (.trans (hw d _ _ (by decide)) (hw _ _ _ (by decide))) (htaps _ _)) (hw _ _ _ (by decide)))
    (hw _ _ _ (by decide))) _ _

/-- Outside expert level the values are those asked for, within their bounds. -/
theorem Dev.rd_setRxEq (hx : d.on (rxPage n) F.PAGE_CTRL_level = false) :
    (d.setRxEq n vs).rd (rxPage n) F.RXL_EQ_NOW_peak = min 48 (vs.getD 0 0).toNat ∧
      (d.setRxEq n vs).rd (rxPage n) F.RXL_EQ_NOW_vga = min 40 (vs.getD 1 0).toNat ∧
      (d.setRxEq n vs).rd (rxPage n) F.RXL_EQ_NOW_eye_mv = (vs.getD 10 0).toNat := by
  have hp : min 48 (vs.getD 0 0).toNat < 2 ^ F.RXL_EQ_NOW_peak.w := by simp only [F.RXL_EQ_NOW_peak]; omega
  have hv : min 40 (vs.getD 1 0).toNat < 2 ^ F.RXL_EQ_NOW_vga.w := by simp only [F.RXL_EQ_NOW_vga]; omega
  rw [Dev.setRxEq_eq, Dev.rd_setRx, Dev.rd_setRx, Dev.rd_setRx]
  unfold Dev.writeEq
  simp only [hx, Bool.false_and, Bool.false_eq_true, if_false]
  refine ⟨?_, ?_, ?_⟩
  · rw [Dev.rd_wr_apart _ _ _ _ _ (by decide) (by decide), Dev.rd_wr_apart _ _ _ _ _ (by decide) (by decide),
      Dev.rd_writeTaps _ _ _ _ rfl, Dev.rd_wr_apart _ _ _ _ _ (by decide) (by decide)]
    exact Dev.rd_wr_fit _ _ _ _ (by decide) hp
  · rw [Dev.rd_wr_apart _ _ _ _ _ (by decide) (by decide), Dev.rd_wr_apart _ _ _ _ _ (by decide) (by decide),
      Dev.rd_writeTaps _ _ _ _ rfl]
    exact Dev.rd_wr_fit _ _ _ _ (by decide) hv
  · rw [Dev.rd_wr_apart _ _ _ _ _ (by decide) (by decide)]
    exact Dev.rd_wr_fit _ _ _ _ (by decide) (BitVec.isLt _)

/-- A burst's end: without its data, and with what waited for it. -/
theorem Dev.rxBurstEnd_eq : d.rxBurstEnd n =
    if (d.rx n).eqWait then
      (d.setRx n { d.rx n with burst := false, eqWait := false }).setRxEq n
        ((d.setRx n { d.rx n with burst := false, eqWait := false }).rxEq n)
    else d.setRx n { d.rx n with burst := false, eqWait := false } := rfl

theorem Dev.adapts_rxBurstEnd : Adapts n d (d.rxBurstEnd n) := by
  have h : Adapts n d (d.setRx n { d.rx n with burst := false, eqWait := false }) := (Adapts.refl d).setRx
  rw [Dev.rxBurstEnd_eq]
  split
  · exact h.trans (Dev.adapts_setRxEq _ n _)
  · exact h

theorem Dev.burst_rxBurstEnd : ((d.rxBurstEnd n).rx n).burst = false := by
  rw [Dev.rxBurstEnd_eq]
  split
  · rw [Dev.rx_setRxEq, Dev.setRx_rx]
  · rw [Dev.setRx_rx]

end

end Sys2Proof.Machine
end

section
/-! SUPPORT. The aligner's moves, the end of forwarding, and arrivals in a state of a receiver (R227, R231, R233, R235, R241). -/
namespace Sys2Proof.Machine

open Sys2Proof.Safety

/-! ## Registers of a receiver -/

section
variable (d : Dev) {n : Nat} (hn : n < 16)
include hn

/-- A status bit leaves the other registers of a receive lane's page. -/
theorem Dev.rd_rx_stat (q b : Nat) (f : Field) (hf : f.off < 65536 ∧ f.off ≠ 0x00C) :
    (d.stat q b).rd (rxPage n) f = d.rd (rxPage n) f :=
  (d.same_stat q b).rd _ f (not_mem_statAddrs q _ _ hf.1 hf.2 fun e => absurd e (by unfold rxPage; omega))

end

section
variable (d : Dev) (n s : Nat)

theorem Dev.rxState_setRxState (hs : s < 8) : (d.setRxState n s).rxState n = s := d.rd_wr_fit _ F.RXL_STAT_state s (by decide) hs

theorem Dev.rd_setRxState (f : Field) (hf : f.lo + f.w ≤ 32 ∧ (f.off ≠ 0x420 ∨ 3 ≤ f.lo)) :
    (d.setRxState n s).rd (rxPage n) f = d.rd (rxPage n) f :=
  d.rd_wr_apart _ F.RXL_STAT_state f s hf.1 (hf.2.imp_right .inr)

/-- Another state leaves the aligner's. -/
theorem Dev.aligned_setRxState : (d.setRxState n s).aligned n = d.aligned n :=
  congrArg (· == 2) (d.rd_setRxState n s F.RXL_STAT_align (by decide))

end

/-! ## What the loss of a receiver's lock or of its alignment tells -/

/-- lock_lost is set where `lock`, and lost_ev is raised where `ev`. -/
def Dev.lostTold (d : Dev) (n : Nat) (lock ev : Prop) [Decidable lock] [Decidable ev] : Dev :=
  let d := if lock then d.stat (rxPage n) 17 else d
  if ev then d.raiseIf (rxPage n) F.RXL_EV_lost_en F.RXL_EV_lost_ev else d

section
variable (d : Dev) (n : Nat) (lock ev : Prop) [Decidable lock] [Decidable ev]

theorem Dev.reg_lostTold (a : Nat) : (d.lostTold n lock ev).reg a = (if lock then d.stat (rxPage n) 17 else d).reg a := by
  unfold Dev.lostTold
  simp only
  split
  · exact Dev.reg_raiseIf _ _ _ _ a
  · rfl

theorem Dev.forwards_lostTold : Forwards d (d.lostTold n lock ev) := by
  have h : Forwards d (if lock then d.stat (rxPage n) 17 else d) := .ite (.stat <| .refl d) (.refl d)
  unfold Dev.lostTold
  exact .ite h.raiseIf h

theorem Dev.bit_lostTold (hl : lock) : (d.lostTold n lock ev).bit (rxPage n) 0x00C 17 = true := by
  unfold Dev.bit
  rw [Dev.reg_lostTold, if_pos hl]
  exact Dev.stat_bit _ _ 17 (by decide)

end

/-! ## The aligner returns to HUNT (R235) -/

/-- Fields that a return to HUNT leaves. -/
def Field.unhunted (f : Field) : Bool :=
  f.rxOwn && decide (f.lo + f.w ≤ 32) && (f.off != 0x420 || decide (f.lo + f.w ≤ 4) || decide (6 ≤ f.lo)) &&
    (f.off != 0x438 || decide (f.lo + f.w ≤ 8) || decide (16 ≤ f.lo))

/-- An aligner that was ALIGNED counts its loss, and the splice is cut. -/
def Dev.alignLost (d : Dev) (n : Nat) : Dev :=
  if d.aligned n then ((d.bump (rxPage n) F.RXL_CNT_align_lost).stat (rxPage n) 18).cutSplice n 2 else d

section
variable (d : Dev) (n : Nat)

theorem Dev.hunt_eq : d.hunt n = ((d.alignLost n).wr (rxPage n) F.RXL_STAT_align 0).setRx n
    { (d.alignLost n).rx n with good := 0, off := 0, recent := [] } := rfl

theorem Dev.aligned_hunt : (d.hunt n).aligned n = false := by
  rw [Dev.hunt_eq]
  unfold Dev.aligned
  rw [Dev.rd_setRx, Dev.rd_wr_fit _ _ _ _ (by decide) (by decide)]
  rfl

theorem Dev.rx_alignLost : received ((d.alignLost n).rx n) = received (d.rx n) := by
  unfold Dev.alignLost
  split
  · refine ((Dev.forwards_cutSplice _ n 2).rx n).trans ?_
    rw [Dev.rx_stat, Dev.rx_bump]
  · rfl

theorem Dev.rx_hunt : received ((d.hunt n).rx n) = { received (d.rx n) with good := 0, off := 0, recent := [] } := by
  rw [← d.rx_alignLost n, Dev.hunt_eq, Dev.setRx_rx]
  rfl

theorem Dev.rd_hunt (hn : n < 16) (f : Field) (hf : f.unhunted = true) : (d.hunt n).rd (rxPage n) f = d.rd (rxPage n) f := by
  simp only [Field.unhunted, Bool.and_eq_true, Bool.or_eq_true, decide_eq_true_eq, bne_iff_ne] at hf
  obtain ⟨⟨⟨hown, hw⟩, halign⟩, hcount⟩ := hf
  have ho : f.off < 65536 ∧ f.off ≠ 0x00C := by
    simp only [Field.rxOwn, Bool.and_eq_true, decide_eq_true_eq, bne_iff_ne] at hown
    exact ⟨hown.1.1.1, hown.1.1.2⟩
  rw [Dev.hunt_eq, Dev.rd_setRx, Dev.rd_wr_apart _ _ F.RXL_STAT_align f _ hw (by simp only [F.RXL_STAT_align]; omega)]
  unfold Dev.alignLost
  split
  · rw [(Dev.forwards_cutSplice _ n 2).rd hn f hown, Dev.rd_rx_stat _ hn _ _ f ho]
    exact Dev.rd_wr_apart _ _ F.RXL_CNT_align_lost f _ hw (by simp only [F.RXL_CNT_align_lost]; omega)
  · rfl

end

/-! ## No block is held or in progress (R241) -/

/-- A lane's forwarder holds no block, and no spliced one is in progress. -/
def Dev.lacksBlocks (d : Dev) (n : Nat) : Prop := (d.rx n).held = [] ∧ (d.rx n).part = []

section
variable {d : Dev} {n : Nat}

theorem Dev.lacksBlocks_congr {e : Dev} (h : d.lacksBlocks n) (hh : (e.rx n).held = (d.rx n).held) (hp : (e.rx n).part = (d.rx n).part) :
    e.lacksBlocks n := ⟨hh.trans h.1, hp.trans h.2⟩

theorem Dev.rx_driveOut (d : Dev) (n m : Nat) : (d.driveOut n).rx m = d.rx m := by
  unfold Dev.driveOut
  simp only
  split <;> rfl

section
variable (h : d.lacksBlocks n)
include h

theorem Dev.lacksBlocks_fwdQuiet : (d.fwdQuiet n).lacksBlocks n := by
  unfold Dev.lacksBlocks Dev.fwdQuiet
  rw [Dev.setRx_rx]
  simp only [Dev.rx_driveOut, Dev.rx_wr]
  exact h

theorem Dev.lacksBlocks_showHeld : (d.showHeld n).lacksBlocks n := by
  unfold Dev.showHeld
  simp only
  split
  · exact h
  · exact h

theorem Dev.lacksBlocks_sendHeld (k : Nat) : (d.sendHeld n k).lacksBlocks n := by
  obtain ⟨hheld, hpart⟩ := h
  unfold Dev.sendHeld
  simp only [hheld, List.take_nil, List.drop_nil, List.foldl_nil]
  refine Dev.lacksBlocks_showHeld ?_
  unfold Dev.lacksBlocks
  rw [Dev.setRx_rx]
  exact ⟨rfl, hpart⟩

theorem Dev.lacksBlocks_spliceOver : (d.spliceOver n).lacksBlocks n := by
  have hsent (k : Nat) {t : Rx} (ht : t.held = (d.rx n).held ∧ t.part = (d.rx n).part) : ((d.setRx n t).sendHeld n k).lacksBlocks n :=
    Dev.lacksBlocks_sendHeld (by
      unfold Dev.lacksBlocks
      rw [Dev.setRx_rx]
      exact ⟨ht.1.trans h.1, ht.2.trans h.2⟩) k
  unfold Dev.spliceOver
  simp only
  split
  · exact hsent _ ⟨rfl, rfl⟩
  · split
    · exact Dev.lacksBlocks_fwdQuiet (hsent _ ⟨rfl, rfl⟩)
    · exact hsent _ ⟨rfl, rfl⟩

theorem Dev.lacksBlocks_cutSplice (cause : Nat) : (d.cutSplice n cause).lacksBlocks n := by
  unfold Dev.cutSplice
  simp only
  split
  · have hcut (e : Dev) (he : e.lacksBlocks n) : (e.setRx n { e.rx n with cut := true }).lacksBlocks n := by
      unfold Dev.lacksBlocks
      rw [Dev.setRx_rx]
      exact he
    split
    · refine Dev.lacksBlocks_spliceOver (hcut _ (Dev.lacksBlocks_congr h ?_ ?_)) <;> simp
    · refine hcut _ (Dev.lacksBlocks_congr h ?_ ?_) <;> simp
  · exact h

theorem Dev.lacksBlocks_hunt : (d.hunt n).lacksBlocks n := by
  have hlost : (d.alignLost n).lacksBlocks n := by
    unfold Dev.alignLost
    split
    · refine Dev.lacksBlocks_cutSplice (Dev.lacksBlocks_congr h ?_ ?_) 2 <;> simp
    · exact h
  rw [Dev.hunt_eq]
  unfold Dev.lacksBlocks
  rw [Dev.setRx_rx]
  exact hlost

/-- Forwarding ends at once. -/
theorem Dev.fwd_fwdStop : (d.fwdStop n).on (rxPage n) F.RXL_FWD_STAT_fwd = false := by
  unfold Dev.fwdStop
  simp only [h.1, h.2, List.isEmpty_nil, Bool.and_self, if_true]
  split
  next hf => simpa using hf
  · unfold Dev.fwdQuiet Dev.on
    rw [Dev.rd_setRx]
    refine bne_eq_false_iff_eq.mpr ((congrArg F.RXL_FWD_STAT_fwd.get (Dev.reg_driveOut _ (fwdTx n) _)).trans ?_)
    exact Dev.rd_wr_fit _ _ _ _ (by decide) (by decide)

end

/-- Forwarding is to end behind the blocks that are held or in progress. -/
theorem Dev.ending_fwdStop (h : ¬d.lacksBlocks n) (hf : d.on (rxPage n) F.RXL_FWD_STAT_fwd = true) :
    ((d.fwdStop n).rx n).ending = true := by
  have hb : ((d.rx n).held.isEmpty && (d.rx n).part.isEmpty) = false := by
    rw [Bool.eq_false_iff]
    intro hc
    rw [Bool.and_eq_true, List.isEmpty_iff, List.isEmpty_iff] at hc
    exact h hc
  unfold Dev.fwdStop
  simp only [hf, hb, Bool.not_true, Bool.false_eq_true, if_false, Dev.setRx_rx]

end

/-! ## No splice runs -/

section
variable {d : Dev} {n : Nat} (h : d.splicing n = false)
include h

theorem Dev.cutSplice_unspliced (cause : Nat) : d.cutSplice n cause = d := by
  unfold Dev.cutSplice
  simp only [h, Bool.false_eq_true, if_false]

/-- A return to HUNT changes nothing of the forwarder then. -/
theorem Dev.hunt_unspliced (hn : n < 16) : ((d.hunt n).rx n).held = (d.rx n).held ∧ ((d.hunt n).rx n).part = (d.rx n).part ∧
    (d.hunt n).on (rxPage n) F.RXL_FWD_STAT_fwd = d.on (rxPage n) F.RXL_FWD_STAT_fwd := by
  have hlost (f : Field) (hf : f.off = 0x460) : (d.alignLost n).rd (rxPage n) f = d.rd (rxPage n) f ∧ (d.alignLost n).rx n = d.rx n := by
    have hcount (g : Field) (hg : g.off = 0x460) :
        ((d.bump (rxPage n) F.RXL_CNT_align_lost).stat (rxPage n) 18).rd (rxPage n) g = d.rd (rxPage n) g := by
      rw [Dev.rd_rx_stat _ hn _ _ g (by omega)]
      exact Dev.rd_wr_off _ _ _ _ _ (by simp only [F.RXL_CNT_align_lost]; omega)
    unfold Dev.alignLost
    split
    · rw [Dev.cutSplice_unspliced ((congrArg (· != 0) (hcount F.RXL_FWD_STAT_splice rfl)).trans h), hcount f hf, Dev.rx_stat, Dev.rx_bump]
      exact ⟨rfl, rfl⟩
    · exact ⟨rfl, rfl⟩
  rw [Dev.hunt_eq, Dev.setRx_rx, (hlost F.RXL_FWD_STAT_fwd rfl).2]
  refine ⟨rfl, rfl, ?_⟩
  unfold Dev.on
  rw [Dev.rd_setRx, Dev.rd_wr_off _ _ _ _ _ (by decide), (hlost F.RXL_FWD_STAT_fwd rfl).1]

end

/-! ## Arrivals in TRACK and HOLD (Table 8.1) -/

section
variable (d : Dev) (n : Nat)

theorem Dev.rx_align : ∃ w, (d.align n).rx n = { d.rx n with recent := [], key := w } := ⟨_, Dev.setRx_rx _ _ _⟩

theorem Dev.aligned_align : (d.align n).aligned n = true := by
  unfold Dev.align Dev.aligned
  simp only [Dev.rd_setRx]
  rw [Dev.rd_wr_fit _ _ _ _ (by decide) (by decide)]
  rfl

theorem Dev.rd_align (f : Field) (hf : f.lo + f.w ≤ 32 ∧ (f.off ≠ 0x420 ∨ f.lo + f.w ≤ 4 ∨ 6 ≤ f.lo)) :
    (d.align n).rd (rxPage n) f = d.rd (rxPage n) f :=
  Dev.rd_wr_apart _ _ F.RXL_STAT_align f _ hf.1 hf.2

/-- A switch that has yet to arrive is done. -/
def Dev.switchDone (d : Dev) (n : Nat) : Dev :=
  if (d.rx n).switching then (d.setRx n { d.rx n with switching := false }).stat (rxPage n) 23 else d

theorem Dev.rxArrive_eq (s : Nat) : d.rxArrive n s =
    (if (d.setRxState n s).rd (rxPage n) F.RXL_FRAME_framing = 0 then (d.setRxState n s).align n else d.setRxState n s).switchDone n :=
  rfl

theorem Dev.rd_switchDone (hn : n < 16) (f : Field) (hf : f.off < 65536 ∧ f.off ≠ 0x00C) :
    (d.switchDone n).rd (rxPage n) f = d.rd (rxPage n) f := by
  unfold Dev.switchDone
  split
  · rw [Dev.rd_rx_stat _ hn _ _ f hf, Dev.rd_setRx]
  · rfl

theorem Dev.burst_switchDone : ((d.switchDone n).rx n).burst = (d.rx n).burst := by
  unfold Dev.switchDone
  split
  · rw [Dev.rx_stat, Dev.setRx_rx]
  · rfl

/-- The lane is in the state, a RAW one ALIGNED. -/
theorem Dev.rxArrive_arrives (hn : n < 16) (s : Nat) (hs : s < 8) : (d.rxArrive n s).rxState n = s ∧
    ((d.rxArrive n s).rx n).burst = (d.rx n).burst ∧ (d.rd (rxPage n) F.RXL_FRAME_framing = 0 → (d.rxArrive n s).aligned n = true) := by
  have hframe : (d.setRxState n s).rd (rxPage n) F.RXL_FRAME_framing = d.rd (rxPage n) F.RXL_FRAME_framing :=
    d.rd_setRxState n s _ (by decide)
  obtain ⟨w, hw⟩ := (d.setRxState n s).rx_align n
  rw [Dev.rxArrive_eq, hframe, Dev.burst_switchDone]
  unfold Dev.rxState Dev.aligned
  rw [Dev.rd_switchDone _ n hn _ (by decide), Dev.rd_switchDone _ n hn _ (by decide)]
  split
  · rw [Dev.rd_align _ n _ (by decide), hw]
    exact ⟨d.rxState_setRxState n s hs, rfl, fun _ => Dev.aligned_align _ n⟩
  next hf => exact ⟨d.rxState_setRxState n s hs, rfl, fun h => absurd h hf⟩

theorem Dev.rd_rxArrive (hn : n < 16) (s : Nat) (f : Field)
    (hf : f.off < 65536 ∧ f.off ≠ 0x00C ∧ f.lo + f.w ≤ 32 ∧ (f.off ≠ 0x420 ∨ 6 ≤ f.lo)) :
    (d.rxArrive n s).rd (rxPage n) f = d.rd (rxPage n) f := by
  obtain ⟨ho, h0, hw, hs⟩ := hf
  have hset := d.rd_setRxState n s f ⟨hw, hs.imp_right (by omega)⟩
  rw [Dev.rxArrive_eq, Dev.rd_switchDone _ n hn f ⟨ho, h0⟩]
  split
  · rw [Dev.rd_align _ n f ⟨hw, hs.imp_right .inr⟩, hset]
  · exact hset

end

end Sys2Proof.Machine
end

section
/-! SUPPORT. The states of a receiver after each of its events (R226 to R231, R241, Table 8.1), and the statement about them. -/
namespace Sys2Proof.Machine

open Sys2Proof.Safety

/-! ## Lock, loss of lock and convergence -/

section
variable (d : Dev) {n : Nat} (hn : n < 16)

theorem Dev.rxAcquire_eq (n : Nat) : d.rxAcquire n =
    (((((d.rxStore n).hunt n).rxBurstEnd n).fwdStop n).setRxState n 2).lostTold n (3 ≤ d.rxState n ∧ d.rxState n ≤ 5)
      ((d.aligned n || (decide (3 ≤ d.rxState n) && decide (d.rxState n ≤ 5))) = true) := rfl

include hn

/-- A receiver that reacquires is in ACQUIRE, its aligner not ALIGNED, and its losses of lock are as counted. -/
theorem Dev.rxAcquire_acquires : (d.rxAcquire n).rxState n = 2 ∧ (d.rxAcquire n).aligned n = false ∧
    (3 ≤ d.rxState n ∧ d.rxState n ≤ 5 → (d.rxAcquire n).bit (rxPage n) 0x00C 17 = true) ∧
    (d.rxAcquire n).rd (rxPage n) F.RXL_CNT_lock_lost = d.rd (rxPage n) F.RXL_CNT_lock_lost := by
  have hkeep (f : Field) (hf : f.rxOwn = true) (heq : f.off < 0x424 ∨ 0x438 ≤ f.off ∧ f.off < 65536) :
      ((((d.rxStore n).hunt n).rxBurstEnd n).fwdStop n).rd (rxPage n) f = ((d.rxStore n).hunt n).rd (rxPage n) f :=
    ((Dev.forwards_fwdStop _ n).rd hn f hf).trans ((Dev.adapts_rxBurstEnd _ n).rd _ f heq)
  have htold (e : Dev) (p q : Prop) [Decidable p] [Decidable q] (f : Field) (hf : f.rxOwn = true) :
      (e.lostTold n p q).rd (rxPage n) f = e.rd (rxPage n) f := (e.forwards_lostTold n p q).rd hn f hf
  rw [Dev.rxAcquire_eq]
  refine ⟨(htold _ _ _ F.RXL_STAT_state (by decide)).trans (Dev.rxState_setRxState _ n 2 (by decide)), ?_,
    Dev.bit_lostTold _ n _ _, ?_⟩
  · refine (congrArg (· == 2) ((htold _ _ _ F.RXL_STAT_align (by decide)).trans
      ((Dev.rd_setRxState _ n 2 _ (by decide)).trans (hkeep _ (by decide) (by decide))))).trans (Dev.aligned_hunt _ n)
  · rw [htold _ _ _ _ (by decide), Dev.rd_setRxState _ n 2 _ (by decide), hkeep _ (by decide) (by decide),
      Dev.rd_hunt _ n hn _ (by decide), (d.adapts_rxStore n).rd _ _ (by decide)]

/-- A loss of lock is counted, and the receiver reacquires. -/
theorem Dev.rxUnlock_acquires (h3 : 3 ≤ d.rxState n) (h5 : d.rxState n ≤ 5) : (d.rxUnlock n).rxState n = 2 ∧
    (d.rxUnlock n).aligned n = false ∧ (d.rxUnlock n).bit (rxPage n) 0x00C 17 = true ∧
    (d.rxUnlock n).rd (rxPage n) F.RXL_CNT_lock_lost =
      min (d.rd (rxPage n) F.RXL_CNT_lock_lost + 1) (2 ^ F.RXL_CNT_lock_lost.w - 1) := by
  have hstate : (d.bump (rxPage n) F.RXL_CNT_lock_lost).rxState n = d.rxState n := d.rd_wr_off _ _ _ _ (by decide)
  obtain ⟨hs, ha, hb, hc⟩ := (d.bump (rxPage n) F.RXL_CNT_lock_lost).rxAcquire_acquires hn
  unfold Dev.rxUnlock
  rw [if_pos ⟨h3, h5⟩]
  exact ⟨hs, ha, hb (by rw [hstate]; exact ⟨h3, h5⟩), hc.trans (d.rd_bump_same _ _ 1 (by decide))⟩

/-- CDR lock in the lock range shows the offset, and goes on to ADAPT or past it. -/
theorem Dev.rxLock_locks (ppm : BitVec 16) (hp : ppmOk ppm = true) :
    (d.rxLock n ppm).rd (rxPage n) F.RXL_STAT_ppm = ppm.toNat ∧
      (d.rxLock n ppm).rxState n = (match d.rxStored n with
        | some _ => if d.rd (rxPage n) F.RXL_ADAPT_mode = 0 then 4 else 5
        | none => if d.rd (rxPage n) F.RXL_ADAPT_mode = 2 then 5 else 3) := by
  have hppm : (d.wr (rxPage n) F.RXL_STAT_ppm ppm.toNat).rd (rxPage n) F.RXL_STAT_ppm = ppm.toNat :=
    d.rd_wr_fit _ _ _ (by decide) ppm.isLt
  have hstored : (d.wr (rxPage n) F.RXL_STAT_ppm ppm.toNat).rxStored n = d.rxStored n := by
    unfold Dev.rxStored Dev.rxProf Dev.on
    rw [Dev.rd_wr_apart _ _ _ _ _ (by decide) (by decide), Dev.rx_wr]
  have harrive (e : Dev) (s : Nat) (hs : s < 8) (he : e.rd (rxPage n) F.RXL_STAT_ppm = ppm.toNat) :
      (e.rxArrive n s).rd (rxPage n) F.RXL_STAT_ppm = ppm.toNat ∧ (e.rxArrive n s).rxState n = s :=
    ⟨(e.rd_rxArrive n hn s _ (by decide)).trans he, (e.rxArrive_arrives n hn s hs).1⟩
  unfold Dev.rxLock
  simp only [hp, Bool.not_true, Bool.false_eq_true, if_false, hstored]
  generalize d.wr (rxPage n) F.RXL_STAT_ppm ppm.toNat = e at hppm
  cases d.rxStored n with
  | some vs => exact harrive _ _ (by split <;> decide) (((e.adapts_setRxEq n vs).rd _ _ (by decide)).trans hppm)
  | none =>
    simp only
    split
    · exact harrive e 5 (by decide) hppm
    · exact ⟨(e.rd_setRxState n 3 _ (by decide)).trans hppm, e.rxState_setRxState n 3 (by decide)⟩

omit hn in
theorem Dev.rxLock_refuses (ppm : BitVec 16) (hp : ppmOk ppm = false) : d.rxLock n ppm = d := by
  unfold Dev.rxLock
  simp only [hp, Bool.not_false, if_true]

/-- Adaptation that has converged ends its burst, and arrives. -/
theorem Dev.rxConverged_arrives (h : d.rxState n = 3) :
    (d.rxConverged n).rxState n = (if d.rd (rxPage n) F.RXL_ADAPT_mode = 0 then 4 else 5) ∧
      ((d.rxConverged n).rx n).burst = false ∧ (d.rd (rxPage n) F.RXL_FRAME_framing = 0 → (d.rxConverged n).aligned n = true) := by
  unfold Dev.rxConverged
  rw [if_pos h]
  obtain ⟨hs, hb, ha⟩ := (d.rxBurstEnd n).rxArrive_arrives n hn (if d.rd (rxPage n) F.RXL_ADAPT_mode = 0 then 4 else 5)
    (by split <;> decide)
  exact ⟨hs, hb.trans (d.burst_rxBurstEnd n), fun hf => ha (((d.adapts_rxBurstEnd n).rd _ _ (by decide)).trans hf)⟩

end

/-! ## Signal -/

/-- The lane's alignment is lost at a loss of signal. -/
def Dev.quietHunt (d : Dev) (n : Nat) : Dev := (((d.rxStore n).cutSplice n 3).hunt n).rxBurstEnd n

/-- The lane is QUIET, and remembers the state that it left. -/
def Dev.quieted (d : Dev) (n was : Nat) : Dev :=
  ((d.setRx n { d.rx n with back := was }).setRxState n 6).wr (rxPage n) F.RXL_STAT_sigdet 0

section
variable (d : Dev) {n : Nat} (hn : n < 16)

theorem Dev.rxQuiet_eq (h1 : 1 ≤ d.rxState n) (h5 : d.rxState n ≤ 5) : d.rxQuiet n =
    (if d.aligned n then
      ((((d.quietHunt n).quieted n (d.rxState n)).fwdStop n).stat (rxPage n) 21).raiseIf (rxPage n) F.RXL_EV_lost_en F.RXL_EV_lost_ev
    else (((d.quietHunt n).quieted n (d.rxState n)).fwdStop n).stat (rxPage n) 21) :=
  if_neg (by omega)

theorem Dev.aligned_quietHunt (n : Nat) : (d.quietHunt n).aligned n = false :=
  (congrArg (· == 2) ((Dev.adapts_rxBurstEnd _ n).rd _ F.RXL_STAT_align (by decide))).trans (Dev.aligned_hunt _ n)

end

/-- What a lane without signal shows, and the state that it remembers. -/
structure Quieted (n was : Nat) (e : Dev) : Prop where
  state : e.rxState n = 6
  aligned : e.aligned n = false
  sigdet : e.on (rxPage n) F.RXL_STAT_sigdet = false
  back : (e.rx n).back = was

theorem Dev.quieted_quieted (d : Dev) (n was : Nat) (h : d.aligned n = false) : Quieted n was (d.quieted n was) := by
  constructor
  case state => exact (Dev.rd_wr_apart _ _ _ F.RXL_STAT_state _ (by decide) (by decide)).trans (Dev.rxState_setRxState _ n 6 (by decide))
  case aligned =>
    refine (congrArg (· == 2) (Dev.rd_wr_apart _ _ _ F.RXL_STAT_align _ (by decide) (by decide))).trans ?_
    exact (Dev.aligned_setRxState _ n 6).trans h
  case sigdet => exact congrArg (· != 0) (Dev.rd_wr_fit _ _ F.RXL_STAT_sigdet 0 (by decide) (by decide))
  case back =>
    unfold Dev.quieted
    rw [Dev.rx_wr, Dev.rx_setRxState, Dev.setRx_rx]

theorem Quieted.forwards {n was : Nat} {d e : Dev} (h : Quieted n was d) (k : Forwards d e) (hn : n < 16) : Quieted n was e :=
  ⟨(k.rxState hn).trans h.state, (k.aligned hn).trans h.aligned, (k.on hn _ (by decide)).trans h.sigdet,
    Eq.trans (by simpa only [received] using congrArg Rx.back (k.rx n)) h.back⟩

/-- A change of the equaliser's values keeps the forwarder's part. -/
theorem Adapts.blocks {n : Nat} {d e : Dev} (h : Adapts n d e) : (e.rx n).held = (d.rx n).held ∧ (e.rx n).part = (d.rx n).part :=
  ⟨by simpa only [unadapted] using congrArg Rx.held h.rx, by simpa only [unadapted] using congrArg Rx.part h.rx⟩

theorem Adapts.lacksBlocks {n : Nat} {d e : Dev} (h : Adapts n d e) (hb : d.lacksBlocks n) : e.lacksBlocks n :=
  Dev.lacksBlocks_congr hb h.blocks.1 h.blocks.2

section
variable (d : Dev) {n : Nat}

theorem Dev.blocks_quieted (was : Nat) : ((d.quieted n was).rx n).held = (d.rx n).held ∧ ((d.quieted n was).rx n).part = (d.rx n).part ∧
    (d.quieted n was).on (rxPage n) F.RXL_FWD_STAT_fwd = d.on (rxPage n) F.RXL_FWD_STAT_fwd := by
  unfold Dev.quieted
  rw [Dev.rx_wr, Dev.rx_setRxState, Dev.setRx_rx]
  refine ⟨rfl, rfl, congrArg (· != 0) ?_⟩
  rw [Dev.rd_wr_off _ _ _ _ _ (by decide), Dev.rd_setRxState _ _ _ _ (by decide), Dev.rd_setRx]

/-- Nothing held stays nothing held. -/
theorem Dev.lacksBlocks_quiet (was : Nat) (h : d.lacksBlocks n) : ((d.quietHunt n).quieted n was).lacksBlocks n := by
  have hhunt : (d.quietHunt n).lacksBlocks n :=
    (Dev.adapts_rxBurstEnd _ n).lacksBlocks (Dev.lacksBlocks_hunt (Dev.lacksBlocks_cutSplice ((d.adapts_rxStore n).lacksBlocks h) 3))
  obtain ⟨hheld, hpart, -⟩ := (d.quietHunt n).blocks_quieted (n := n) was
  exact Dev.lacksBlocks_congr hhunt hheld hpart

/-- With no splice running, what is held stays, and forwarding goes on so far. -/
theorem Dev.quiet_unspliced (hn : n < 16) (was : Nat) (h : d.splicing n = false) :
    (((d.quietHunt n).quieted n was).rx n).held = (d.rx n).held ∧ (((d.quietHunt n).quieted n was).rx n).part = (d.rx n).part ∧
      ((d.quietHunt n).quieted n was).on (rxPage n) F.RXL_FWD_STAT_fwd = d.on (rxPage n) F.RXL_FWD_STAT_fwd := by
  have hstore := d.adapts_rxStore n
  have hend := ((d.rxStore n).hunt n).adapts_rxBurstEnd n
  have hs : (d.rxStore n).splicing n = false := (congrArg (· != 0) (hstore.rd _ F.RXL_FWD_STAT_splice (by decide))).trans h
  obtain ⟨hheld, hpart, hfwd⟩ := Dev.hunt_unspliced hs hn
  obtain ⟨hheld', hpart', hfwd'⟩ := (d.quietHunt n).blocks_quieted (n := n) was
  unfold Dev.quietHunt at hheld' hpart' hfwd' ⊢
  rw [Dev.cutSplice_unspliced hs] at hheld' hpart' hfwd' ⊢
  refine ⟨hheld'.trans (hend.blocks.1.trans (hheld.trans hstore.blocks.1)),
    hpart'.trans (hend.blocks.2.trans (hpart.trans hstore.blocks.2)), hfwd'.trans ?_⟩
  exact (congrArg (· != 0) (hend.rd _ F.RXL_FWD_STAT_fwd (by decide))).trans
    (hfwd.trans (congrArg (· != 0) (hstore.rd _ F.RXL_FWD_STAT_fwd (by decide))))

/-- A lane whose signal goes is QUIET; forwarding ends, at once where no block is held or in progress. -/
theorem Dev.rxQuiet_quiets (hn : n < 16) (h1 : 1 ≤ d.rxState n) (h5 : d.rxState n ≤ 5) :
    Quieted n (d.rxState n) (d.rxQuiet n) ∧ (d.rxQuiet n).bit (rxPage n) 0x00C 21 = true ∧
      (d.lacksBlocks n → (d.rxQuiet n).on (rxPage n) F.RXL_FWD_STAT_fwd = false) ∧
      (¬d.lacksBlocks n → d.on (rxPage n) F.RXL_FWD_STAT_fwd = true → d.splicing n = false → ((d.rxQuiet n).rx n).ending = true) := by
  have hq := (d.quietHunt n).quieted_quieted n (d.rxState n) (d.aligned_quietHunt n)
  have hlacks := d.lacksBlocks_quiet (n := n) (d.rxState n)
  have hfwd := d.quiet_unspliced hn (d.rxState n)
  rw [d.rxQuiet_eq h1 h5]
  generalize (d.quietHunt n).quieted n (d.rxState n) = c at hq hlacks hfwd
  have hstop := hq.forwards ((c.forwards_fwdStop n).stat (p := rxPage n) (i := 21)) hn
  have hbit : ((c.fwdStop n).stat (rxPage n) 21).bit (rxPage n) 0x00C 21 = true := Dev.stat_bit _ _ 21 (by decide)
  have hon : ((c.fwdStop n).stat (rxPage n) 21).on (rxPage n) F.RXL_FWD_STAT_fwd = (c.fwdStop n).on (rxPage n) F.RXL_FWD_STAT_fwd :=
    congrArg (· != 0) (Dev.rd_rx_stat _ hn _ _ _ (by decide))
  have hend (h : ¬d.lacksBlocks n) (hf : d.on (rxPage n) F.RXL_FWD_STAT_fwd = true) (hs : d.splicing n = false) :
      ((c.fwdStop n).rx n).ending = true := by
    obtain ⟨hheld, hpart, hsame⟩ := hfwd hs
    exact Dev.ending_fwdStop (fun hc => h (Dev.lacksBlocks_congr hc hheld.symm hpart.symm)) (hsame.trans hf)
  split
  · refine ⟨hstop.forwards (Forwards.refl _).raiseIf hn, ?_, fun h => ?_, fun h hf hs => ?_⟩
    · exact (congrArg (·.getLsbD 21) (Dev.reg_raiseIf _ _ _ _ _)).trans hbit
    · exact (congrArg (fun w => F.RXL_FWD_STAT_fwd.get w != 0) (Dev.reg_raiseIf _ _ _ _ _)).trans
        (hon.trans (Dev.fwd_fwdStop (hlacks h)))
    · rw [Dev.rx_raiseIf, Dev.rx_stat]
      exact hend h hf hs
  · refine ⟨hstop, hbit, fun h => hon.trans (Dev.fwd_fwdStop (hlacks h)), fun h hf hs => ?_⟩
    rw [Dev.rx_stat]
    exact hend h hf hs

/-- A lane whose signal is back returns to the state that it left, or reacquires. -/
theorem Dev.rxReturn_returns (hn : n < 16) (us : Nat) (h : d.rxState n = 6) :
    (d.rxReturn n us).on (rxPage n) F.RXL_STAT_sigdet = true ∧
      (d.rxReturn n us).rxState n =
        if us ≤ d.rd (rxPage n) F.RXL_SIGDET_hold_us ∧ 3 ≤ (d.rx n).back ∧ (d.rx n).back ≤ 5 then (d.rx n).back else 2 := by
  have hhold : ((d.hunt n).wr (rxPage n) F.RXL_STAT_sigdet 1).rd (rxPage n) F.RXL_SIGDET_hold_us =
      d.rd (rxPage n) F.RXL_SIGDET_hold_us := by
    rw [Dev.rd_wr_off _ _ _ _ _ (by decide), Dev.rd_hunt _ n hn _ (by decide)]
  have hback : (((d.hunt n).wr (rxPage n) F.RXL_STAT_sigdet 1).rx n).back = (d.rx n).back := by
    rw [Dev.rx_wr]
    simpa only [received] using congrArg Rx.back (d.rx_hunt n)
  have hdet : ((d.hunt n).wr (rxPage n) F.RXL_STAT_sigdet 1).rd (rxPage n) F.RXL_STAT_sigdet = 1 :=
    Dev.rd_wr_fit _ _ _ _ (by decide) (by decide)
  have hset (e : Dev) (s : Nat) (hs : s < 8) (he : e.rd (rxPage n) F.RXL_STAT_sigdet = 1) :
      (e.setRxState n s).on (rxPage n) F.RXL_STAT_sigdet = true ∧ (e.setRxState n s).rxState n = s :=
    ⟨bne_iff_ne.mpr (by rw [e.rd_setRxState n s _ (by decide), he]; decide), e.rxState_setRxState n s hs⟩
  have harrive (e : Dev) (s : Nat) (hs : s < 8) (he : e.rd (rxPage n) F.RXL_STAT_sigdet = 1) :
      (e.rxArrive n s).on (rxPage n) F.RXL_STAT_sigdet = true ∧ (e.rxArrive n s).rxState n = s :=
    ⟨bne_iff_ne.mpr (by rw [e.rd_rxArrive n hn s _ (by decide), he]; decide), (e.rxArrive_arrives n hn s hs).1⟩
  unfold Dev.rxReturn
  simp only [h, if_true, hhold, hback]
  generalize (d.hunt n).wr (rxPage n) F.RXL_STAT_sigdet 1 = e at hdet
  split
  next hus =>
    simp only [hus, true_and]
    split
    next hb => rw [hb]; exact harrive e 4 (by decide) hdet
    next hb => rw [hb]; exact harrive e 5 (by decide) hdet
    next hb => rw [hb]; exact hset e 3 (by decide) hdet
    next h4 h5 h3 =>
      have hne : (d.rx n).back ≠ 4 ∧ (d.rx n).back ≠ 5 ∧ (d.rx n).back ≠ 3 := ⟨h4, h5, h3⟩
      rw [if_neg (by omega)]
      exact hset e 2 (by decide) hdet
  next hus =>
    rw [if_neg (fun c => hus c.1)]
    exact hset e 2 (by decide) hdet

end

/-! ## Bursts (R226, R229, R230) -/

section
variable (d : Dev) {n : Nat}

theorem Dev.rxBurst_gathers (eq : List (BitVec 10)) (hs : d.rxState n = 3 ∨ d.rxState n = 4) (hl : (d.rx n).latched = false) :
    d.rxBurst n false eq = d.setRx n { d.rx n with burst := true } := by
  unfold Dev.rxBurst
  simp only [Bool.false_eq_true, if_false, hl, Bool.not_false, and_true]
  exact if_pos hs

/-- A burst behind which a change is latched ends without its update. -/
theorem Dev.rxBurst_discards (eq : List (BitVec 10)) (hb : (d.rx n).burst = true) (hl : (d.rx n).latched = true) :
    d.rxBurst n true eq = d.rxBurstEnd n := by
  unfold Dev.rxBurst
  simp only [hb, hl, if_true]

theorem Dev.rxBurst_updates (eq : List (BitVec 10)) (hb : (d.rx n).burst = true) (hl : (d.rx n).latched = false) :
    d.rxBurst n true eq = (d.setRxEq n eq).rxBurstEnd n := by
  unfold Dev.rxBurst
  simp only [hb, hl, if_true, Bool.false_eq_true, if_false]

theorem Dev.same_rxBurstEnd (h : (d.rx n).eqWait = false) : SameRegs [] d (d.rxBurstEnd n) := by
  rw [Dev.rxBurstEnd_eq, h]
  exact fun _ _ => rfl

/-- The values in use begin with the peaking and the gain, and the eye's height follows the eight taps. -/
theorem Dev.getD_rxEq (n : Nat) : (d.rxEq n).getD 0 0 = BitVec.ofNat 10 (d.rd (rxPage n) F.RXL_EQ_NOW_peak) ∧
    (d.rxEq n).getD 1 0 = BitVec.ofNat 10 (d.rd (rxPage n) F.RXL_EQ_NOW_vga) ∧
    (d.rxEq n).getD 10 0 = BitVec.ofNat 10 (d.rd (rxPage n) F.RXL_EQ_NOW_eye_mv) := by
  unfold Dev.rxEq
  refine ⟨?_, ?_, ?_⟩ <;> simp

/-- Values in use that are written once more stay as they are, within their bounds. -/
theorem Dev.rd_setRxEq_rxEq (hx : d.on (rxPage n) F.PAGE_CTRL_level = false) :
    (d.setRxEq n (d.rxEq n)).rd (rxPage n) F.RXL_EQ_NOW_peak = min 48 (d.rd (rxPage n) F.RXL_EQ_NOW_peak) ∧
      (d.setRxEq n (d.rxEq n)).rd (rxPage n) F.RXL_EQ_NOW_vga = min 40 (d.rd (rxPage n) F.RXL_EQ_NOW_vga) ∧
      (d.setRxEq n (d.rxEq n)).rd (rxPage n) F.RXL_EQ_NOW_eye_mv = d.rd (rxPage n) F.RXL_EQ_NOW_eye_mv := by
  obtain ⟨hp, hv, he⟩ := d.rd_setRxEq n (d.rxEq n) hx
  obtain ⟨g0, g1, g10⟩ := d.getD_rxEq n
  have lp : d.rd (rxPage n) F.RXL_EQ_NOW_peak < 2 ^ 6 := d.rd_lt _ _
  have lv : d.rd (rxPage n) F.RXL_EQ_NOW_vga < 2 ^ 6 := d.rd_lt _ _
  have le : d.rd (rxPage n) F.RXL_EQ_NOW_eye_mv < 2 ^ 10 := d.rd_lt _ _
  rw [hp, hv, he, g0, g1, g10, BitVec.toNat_ofNat, BitVec.toNat_ofNat, BitVec.toNat_ofNat, Nat.mod_eq_of_lt (by omega),
    Nat.mod_eq_of_lt (by omega), Nat.mod_eq_of_lt le]
  exact ⟨rfl, rfl, rfl⟩

/-- At basic level the update's values show, within their bounds, and a write that waited for the burst's end changes none. -/
theorem Dev.rd_rxBurst_updates (eq : List (BitVec 10)) (hx : d.on (rxPage n) F.PAGE_CTRL_level = false) :
    ((d.setRxEq n eq).rxBurstEnd n).rd (rxPage n) F.RXL_EQ_NOW_peak = min 48 (eq.getD 0 0).toNat ∧
      ((d.setRxEq n eq).rxBurstEnd n).rd (rxPage n) F.RXL_EQ_NOW_vga = min 40 (eq.getD 1 0).toNat ∧
      ((d.setRxEq n eq).rxBurstEnd n).rd (rxPage n) F.RXL_EQ_NOW_eye_mv = (eq.getD 10 0).toNat := by
  obtain ⟨hp, hv, he⟩ := d.rd_setRxEq n eq hx
  have hx' : (d.setRxEq n eq).on (rxPage n) F.PAGE_CTRL_level = false :=
    (congrArg (· != 0) ((d.adapts_setRxEq n eq).rd _ F.PAGE_CTRL_level (by decide))).trans hx
  generalize d.setRxEq n eq = c at hp hv he hx' ⊢
  rw [Dev.rxBurstEnd_eq]
  split
  · obtain ⟨hp', hv', he'⟩ := Dev.rd_setRxEq_rxEq (n := n) (c.setRx n { c.rx n with burst := false, eqWait := false })
      (by rwa [Dev.on, Dev.rd_setRx])
    rw [Dev.rd_setRx] at hp' hv' he'
    rw [hp', hv', he', hp, hv, he]
    exact ⟨by omega, by omega, rfl⟩
  · simp only [Dev.rd_setRx]
    exact ⟨hp, hv, he⟩

end

end Sys2Proof.Machine

namespace Sys2Proof.Safety

open Sys2Proof.Machine

theorem exec_signalDetect (lane : Fin 16) (s : State) : exec (.signalDetect lane) s = onLive s fun d => d.rxDetect lane.val := rfl
theorem exec_cdrLock (lane : Fin 16) (ppm : BitVec 16) (s : State) : exec (.cdrLock lane ppm) s =
    onLive s fun d => if d.rxState lane.val = 2 then d.rxLock lane.val ppm else d := rfl
theorem exec_adaptConverged (lane : Fin 16) (s : State) :
    exec (.adaptConverged lane) s = onLive s fun d => d.rxConverged lane.val := rfl
theorem exec_cdrLockLoss (lane : Fin 16) (s : State) : exec (.cdrLockLoss lane) s = onLive s fun d => d.rxUnlock lane.val := rfl
theorem exec_signalLoss (lane : Fin 16) (s : State) : exec (.signalLoss lane) s = onLive s fun d => d.rxQuiet lane.val := rfl
theorem exec_signalReturn (lane : Fin 16) (us : Nat) (s : State) :
    exec (.signalReturn lane us) s = onLive s fun d => d.rxReturn lane.val us := rfl
theorem exec_adaptBurst (lane : Fin 16) (done : Bool) (eq : List (BitVec 10)) (s : State) :
    exec (.adaptBurst lane done eq) s = onLive s fun d => d.rxBurst lane.val done eq := rfl

/-- Settles O45: a receiver goes from state to state as its signal, its lock and its adaptation come and go. -/
theorem receiverStates : Obligations.ReceiverStates := by
  intro s lane ppm us eq d n p hs
  have hn : n < 16 := lane.isLt
  refine ⟨fun h => ?_, fun h hp => ?_, fun h hp => ?_, fun h => ?_, fun h3 h5 => ?_, fun h1 h5 => ?_, fun h => ?_, fun h hl => ?_,
    fun hb hl => ?_, fun hb hl hx => ?_⟩
  · refine ⟨_, gives_onLive (exec_signalDetect lane s) hs (if_pos h), ?_, ?_, ?_⟩
    · exact (Dev.rd_wr_apart _ _ _ F.RXL_STAT_state _ (by decide) (by decide)).trans (d.rxState_setRxState n 2 (by decide))
    · exact congrArg (· != 0) (Dev.rd_wr_fit _ _ F.RXL_STAT_sigdet 1 (by decide) (by decide))
    · exact ((SameRegs.refl _ d).wr p F.RXL_STAT_state 2 (List.mem_singleton.mpr rfl)).wr p F.RXL_STAT_sigdet 1
        (List.mem_singleton.mpr rfl)
  · exact ⟨_, gives_onLive (exec_cdrLock lane ppm s) hs (if_pos h), d.rxLock_locks hn ppm hp⟩
  · exact gives_onLive (exec_cdrLock lane ppm s) hs ((if_pos h).trans (d.rxLock_refuses ppm hp))
  · exact ⟨_, gives_onLive (exec_adaptConverged lane s) hs rfl, d.rxConverged_arrives hn h⟩
  · exact ⟨_, gives_onLive (exec_cdrLockLoss lane s) hs rfl, d.rxUnlock_acquires hn h3 h5⟩
  · obtain ⟨hq, hbit, hfwd, hend⟩ := d.rxQuiet_quiets hn h1 h5
    refine ⟨_, gives_onLive (exec_signalLoss lane s) hs rfl, hq.state, hq.aligned, hq.sigdet, hq.back, hbit,
      fun hh hp => hfwd ⟨hh, hp⟩, fun hh => hend fun hc => ?_⟩
    exact hh.elim (fun h => h hc.1) fun h => h hc.2
  · exact ⟨_, gives_onLive (exec_signalReturn lane us s) hs rfl, d.rxReturn_returns hn us h⟩
  · exact ⟨_, gives_onLive (exec_adaptBurst lane false eq s) hs (d.rxBurst_gathers eq h hl), Dev.setRx_rx _ _ _, fun _ _ => rfl⟩
  · exact ⟨_, gives_onLive (exec_adaptBurst lane true eq s) hs (d.rxBurst_discards eq hb hl), d.burst_rxBurstEnd n,
      d.same_rxBurstEnd⟩
  · obtain ⟨hpeak, hvga, heye⟩ := d.rd_rxBurst_updates eq hx
    exact ⟨_, gives_onLive (exec_adaptBurst lane true eq s) hs (d.rxBurst_updates eq hb hl), Dev.burst_rxBurstEnd _ n, hpeak, hvga,
      heye.trans (Nat.mod_eq_of_lt (BitVec.isLt _)).symm⟩

end Sys2Proof.Safety
end

section
/-! SUPPORT. Changes of rate and profile, and what a forwarding lane's TX side does with them (R230, R232, R233). -/
namespace Sys2Proof.Machine

open Sys2Proof.Safety

/-! ## A TX lane's handoff -/

section
variable (d : Dev) (i : Nat)

/-- A step of the synthesizers or of power keeps every lane's record. -/
def LanesKept (d e : Dev) : Prop := e.txs = d.txs ∧ e.rxs = d.rxs

theorem Dev.lanes_endRecal : LanesKept d (d.endRecal i) := by
  unfold Dev.endRecal
  split <;> exact ⟨rfl, rfl⟩

theorem Dev.lanes_retune (t : Tune) : LanesKept d (d.retune i t) := by
  rcases d.retune_cases i t with h | ⟨-, h⟩ | h <;> rw [h] <;> exact ⟨rfl, rfl⟩

theorem Dev.lanes_synStart : LanesKept d (d.synStart i) := by
  unfold Dev.synStart
  split <;> exact ⟨rfl, rfl⟩

theorem Dev.lanes_armSynth : LanesKept d (d.armSynth i) := by
  unfold Dev.armSynth
  split
  · exact d.lanes_synStart i
  · exact Dev.lanes_synStart _ i

theorem not_rxOwn_synReg (a : Nat) (h : SynReg a) : ¬RxOwn a := by
  rintro ⟨h1, -⟩
  rcases h with rfl | rfl | h
  · exact absurd h1 (by decide)
  · exact absurd h1 (by decide)
  · omega

theorem Dev.forwards_armSynth : Forwards d (d.armSynth i) := by
  have hstart (e : Dev) : Forwards e (e.synStart i) := (e.within_synStart i).forwards not_rxOwn_synReg (e.lanes_synStart i).2
  unfold Dev.armSynth
  refine .ite (hstart d) (.trans ?_ (hstart _))
  exact .wrPage (by decide) (by decide) <| .wrPage (by decide) (show 0x048 < 65536 by decide) <| .refl d

variable (lane bd : Nat) (pam : Bool) (plays : Nat)

/-- A handoff that begins is pending. -/
theorem Dev.handoff_beginHandoff : ((d.beginHandoff lane bd pam plays).tx lane).handoff.isSome = true := by
  unfold Dev.beginHandoff
  simp only
  rw [Dev.tx_congr (Dev.lanes_armSynth _ _).1, Dev.tx_congr (Dev.lanes_retune _ _ _).1, Dev.tx_congr (Dev.lanes_endRecal _ _).1,
    Dev.tx_congr (Dev.fbit_txs _ _ _ _ _), Dev.tx_congr (Dev.fbit_txs _ _ _ _ _), Dev.setTx_tx]
  rfl

theorem Dev.forwards_beginHandoff (hl : lane < 16) : Forwards d (d.beginHandoff lane bd pam plays) := by
  have hp := groupPage_beside hl
  unfold Dev.beginHandoff
  refine .trans (.trans (.trans (.fbitPage hp (by decide) <| .fbitPage hp (by decide) <| .setTx <| .refl d)
    ((Dev.within_endRecal _ _).forwards not_rxOwn_synReg (Dev.lanes_endRecal _ _).2))
    ((Dev.within_retune _ _ _).forwards not_rxOwn_synReg (Dev.lanes_retune _ _ _).2)) (Dev.forwards_armSynth _ _)

/-- A TX lane that follows a switch hands off or goes quiet. -/
theorem Dev.fwdFollow_follows (n : Nat) (h : d.forwarding n = true) :
    ((d.fwdFollow n).tx (fwdTx n)).handoff.isSome = true ∨ ((d.fwdFollow n).tx (fwdTx n)).quiet = true := by
  unfold Dev.fwdFollow
  simp only [h, if_true]
  split
  · exact .inl (Dev.handoff_beginHandoff _ _ _ _ _)
  · rw [Dev.tx_congr (Dev.stat_txs _ _ _), Dev.setTx_tx]
    exact .inr rfl

theorem Dev.forwards_fwdFollow (n : Nat) : Forwards d (d.fwdFollow n) := by
  unfold Dev.fwdFollow
  exact .ite (.ite ((d.forwards_fwdStop n).trans (Dev.forwards_beginHandoff _ _ _ _ _ (fwdTx_lt n)))
    (.stat <| .setTx (d.forwards_fwdStop n))) (.refl d)

end

/-! ## The acts stay -/

theorem SameActs.forwarding {d e : Dev} (h : SameActs d e) (r : Nat) : e.forwarding r = d.forwarding r := by
  have hsources (s : Nat) (hs : s < 16) : e.fwdSources s = d.fwdSources s := by
    unfold Dev.fwdSources Dev.on Dev.names Dev.has
    rw [h.rd F.ACT_AUX_fwd_ab s hs (by decide), h.rd F.ACT_AUX_fwd_ba s hs (by decide), h.rd F.ACT_LANES_rx s hs (by decide),
      h.rd F.ACT_LANES_tx s hs (by decide)]
  unfold Dev.forwarding
  rw [h.runSlots, Bool.eq_iff_iff, List.any_eq_true, List.any_eq_true]
  exact exists_congr fun s => and_congr_right fun hs => by rw [hsources s (List.mem_range.mp (List.mem_filter.mp hs).1)]

section
variable (d : Dev) {n : Nat} (hn : n < 16)
include hn

theorem Dev.within_setRxEq (vs : List (BitVec 10)) : Within LaneReg d (d.setRxEq n vs) :=
  (d.adapts_setRxEq n vs).regs.mono fun a ha => .inr (by unfold EqReg rxPage at ha; omega)

theorem Dev.within_hunt : Within LaneReg d (d.hunt n) := by
  have hlost : Within LaneReg d (d.alignLost n) := by
    unfold Dev.alignLost
    split
    · exact .trans (((Within.refl d).bumpRx hn _ _ (by decide)).statRx hn 18) (Dev.within_cutSplice _ n hn 2)
    · exact .refl d
  rw [Dev.hunt_eq]
  exact (hlost.wrRx hn _ _ (by decide)).setRx _ _

theorem Dev.within_lostTold (p q : Prop) [Decidable p] [Decidable q] : Within LaneReg d (d.lostTold n p q) := by
  have h : Within LaneReg d (if p then d.stat (rxPage n) 17 else d) := by
    split
    · exact (Within.refl d).statRx hn 17
    · exact .refl d
  unfold Dev.lostTold
  simp only
  split
  · exact h.raiseIf _ _ _
  · exact h

end

/-! ## A change of rate or profile (R230, R232) -/

/-- The profile in effect is the other one where a switch is latched. -/
def Dev.toggled (d : Dev) (n : Nat) (toggle : Bool) : Dev :=
  if toggle then d.wr (rxPage n) F.RXL_STAT_prof (!d.rxProf n).toNat else d

/-- A lane's change is no longer latched. -/
def unlatched (r : Rx) (toggle switching : Bool) : Rx :=
  { r with latched := false, toggle := false, burst := false, eqWait := false, switching := toggle || switching }

/-- The stored values of the profile in effect are in use where it has changed. -/
def Dev.recalled (d : Dev) (n : Nat) (toggle : Bool) : Dev :=
  if toggle then (match d.rxStored n with | some vs => d.setRxEq n vs | none => d) else d

/-- The profile in effect has stored its values, and the new one is in use. -/
def Dev.profiled (d : Dev) (n : Nat) : Dev :=
  let c := (d.rxStore n).toggled n (d.rx n).toggle
  ((c.setRx n (unlatched (c.rx n) (d.rx n).toggle (d.rx n).switching)).rxFollow n).recalled n (d.rx n).toggle

/-- The part of a lane's record that a change of rate or profile sets. -/
def profile (r : Rx) : Bool × Bool × Nat × Bool := (r.latched, r.toggle, r.rate, r.pam)

/-- No change is latched any more, and the lane is at the rate and format of the profile now in effect. -/
structure Changed (d : Dev) (n : Nat) (e : Dev) : Prop where
  prof : e.rxProf n = if (d.rx n).toggle then !d.rxProf n else d.rxProf n
  rx : profile (e.rx n) = (false, false, d.rxPageRate n (e.rxProf n), d.rxPageFmt n (e.rxProf n))

theorem Changed.keep {d e f : Dev} {n : Nat} (h : Changed d n e) (hp : f.rxProf n = e.rxProf n)
    (hx : profile (f.rx n) = profile (e.rx n)) : Changed d n f := ⟨hp.trans h.prof, by rw [hx, hp, h.rx]⟩

theorem profile_received (r : Rx) : profile (received r) = profile r := rfl
theorem profile_unadapted (r : Rx) : profile (unadapted r) = profile r := rfl

theorem Forwards.profile {d e : Dev} (h : Forwards d e) (n : Nat) : profile (e.rx n) = profile (d.rx n) := by
  rw [← profile_received, h.rx, profile_received]

theorem Changed.forwards {d e f : Dev} {n : Nat} (h : Changed d n e) (hn : n < 16) (k : Forwards e f) : Changed d n f :=
  h.keep (k.on hn _ (by decide)) (k.profile n)

section
variable (d : Dev) {n : Nat}

theorem Dev.rd_toggled (toggle : Bool) (f : Field) (hf : f.lo + f.w ≤ 32 ∧ (f.off ≠ 0x420 ∨ f.lo + f.w ≤ 6 ∨ 7 ≤ f.lo)) :
    (d.toggled n toggle).rd (rxPage n) f = d.rd (rxPage n) f := by
  unfold Dev.toggled
  split
  · exact d.rd_wr_apart _ F.RXL_STAT_prof f _ hf.1 hf.2
  · rfl

theorem Dev.rxProf_toggled (toggle : Bool) : (d.toggled n toggle).rxProf n = if toggle then !d.rxProf n else d.rxProf n := by
  unfold Dev.toggled
  cases toggle with
  | false => rfl
  | true =>
    refine (congrArg (· != 0) (d.rd_wr_fit _ F.RXL_STAT_prof _ (by decide) (Bool.toNat_lt _))).trans ?_
    cases d.rxProf n <;> rfl

/-- The rates and formats of a page are fields below its RXL_STAT. -/
theorem Dev.rxPage_congr {e : Dev} (h : ∀ f : Field, f.off < 0x420 → f.lo + f.w ≤ 32 → e.rd (rxPage n) f = d.rd (rxPage n) f) (alt : Bool) :
    e.rxPageRate n alt = d.rxPageRate n alt ∧ e.rxPageFmt n alt = d.rxPageFmt n alt := by
  have hon (f : Field) (h1 : f.off < 0x420) (h2 : f.lo + f.w ≤ 32) : e.on (rxPage n) f = d.on (rxPage n) f := congrArg (· != 0) (h f h1 h2)
  unfold Dev.rxPageRate Dev.rxPageFmt
  rw [show 0x30 + n = rxPage n from rfl, hon F.PAGE_CTRL_level (by decide) (by decide)]
  cases alt <;> cases d.on (rxPage n) F.PAGE_CTRL_level <;>
    simp only [if_true, if_false, Bool.false_eq_true] <;>
    exact ⟨by rw [h _ (by decide) (by decide)], hon _ (by decide) (by decide)⟩

theorem Dev.adapts_recalled (toggle : Bool) : Adapts n d (d.recalled n toggle) := by
  unfold Dev.recalled
  split
  · split
    · exact d.adapts_setRxEq n _
    · exact .refl d
  · exact .refl d

/-- The registers of the page before the rate follows. -/
theorem Dev.rd_profiledRegs (f : Field) (hf : f.lo + f.w ≤ 32 ∧ f.off < 0x424 ∧ (f.off ≠ 0x420 ∨ f.lo + f.w ≤ 6 ∨ 7 ≤ f.lo)) :
    ((d.rxStore n).toggled n (d.rx n).toggle).rd (rxPage n) f = d.rd (rxPage n) f :=
  (Dev.rd_toggled _ _ f ⟨hf.1, hf.2.2⟩).trans ((d.adapts_rxStore n).rd _ f (.inl hf.2.1))

theorem Dev.forwards_errRecheck (old : Dev) (m : Nat) : Forwards d (d.errRecheck old m) := by
  unfold Dev.errRecheck
  exact .ite (.stat <| .refl d) (.refl d)

/-- A lane that follows its page keeps its registers, and its rate and format are those of the profile in effect. -/
theorem Dev.rxFollow_follows (n : Nat) :
    (n < 16 → ∀ f : Field, f.rxOwn = true → (d.rxFollow n).rd (rxPage n) f = d.rd (rxPage n) f) ∧
    profile ((d.rxFollow n).rx n) = ((d.rx n).latched, (d.rx n).toggle, d.rxPageRate n (d.rxProf n), d.rxPageFmt n (d.rxProf n)) := by
  unfold Dev.rxFollow
  have hset := d.setRx_rx n { d.rx n with rate := d.rxPageRate n (d.rxProf n), pam := d.rxPageFmt n (d.rxProf n) }
  have hrd (f : Field) := d.rd_setRx n { d.rx n with rate := d.rxPageRate n (d.rxProf n), pam := d.rxPageFmt n (d.rxProf n) } (rxPage n) f
  generalize d.setRx n _ = e at hset hrd
  have hkeep := e.forwards_errRecheck d (fwdTx n)
  exact ⟨fun hn f hf => (hkeep.rd hn f hf).trans (hrd f), by rw [hkeep.profile, hset]; rfl⟩

theorem Dev.changed_profiled (hn : n < 16) : Changed d n (d.profiled n) ∧ (d.profiled n).rxState n = d.rxState n := by
  have hprof : ((d.rxStore n).toggled n (d.rx n).toggle).rxProf n = if (d.rx n).toggle then !d.rxProf n else d.rxProf n := by
    rw [Dev.rxProf_toggled, show (d.rxStore n).rxProf n = d.rxProf n from
      congrArg (· != 0) ((d.adapts_rxStore n).rd _ F.RXL_STAT_prof (by decide))]
  have hpage (alt : Bool) := d.rxPage_congr (n := n) (e := (d.rxStore n).toggled n (d.rx n).toggle)
    (fun f h1 h2 => d.rd_profiledRegs f ⟨h2, by omega, .inl (by omega)⟩) alt
  have hstate : ((d.rxStore n).toggled n (d.rx n).toggle).rxState n = d.rxState n := d.rd_profiledRegs _ (by decide)
  unfold Dev.profiled
  simp only
  generalize (d.rxStore n).toggled n (d.rx n).toggle = c at hprof hpage hstate
  generalize hu : unlatched (c.rx n) (d.rx n).toggle (d.rx n).switching = u
  obtain ⟨hkeep, hrx⟩ := (c.setRx n u).rxFollow_follows n
  have hrecall := ((c.setRx n u).rxFollow n).adapts_recalled (n := n) (d.rx n).toggle
  generalize (c.setRx n u).rxFollow n = g at hkeep hrx hrecall
  have hreg (f : Field) (hf : f.rxOwn = true) (ho : f.off < 0x424) :
      (g.recalled n (d.rx n).toggle).rd (rxPage n) f = c.rd (rxPage n) f := (hrecall.rd _ f (.inl ho)).trans (hkeep hn f hf)
  have hp : (g.recalled n (d.rx n).toggle).rxProf n = c.rxProf n := congrArg (· != 0) (hreg F.RXL_STAT_prof (by decide) (by decide))
  refine ⟨⟨hp.trans hprof, ?_⟩, (hreg F.RXL_STAT_state (by decide) (by decide)).trans hstate⟩
  have hset (alt : Bool) := c.rxPage_congr (n := n) (e := c.setRx n u) (fun f _ _ => c.rd_setRx n u _ f) alt
  have hsetp : (c.setRx n u).rxProf n = c.rxProf n := congrArg (· != 0) (c.rd_setRx n u _ F.RXL_STAT_prof)
  rw [← profile_unadapted, hrecall.rx, profile_unadapted, hrx, hp, hsetp, (hset _).1, (hset _).2, (hpage _).1, (hpage _).2,
    Dev.setRx_rx, ← hu]
  rfl

end

end Sys2Proof.Machine
end

section
/-! SUPPORT. A change of rate or profile as it takes effect (R230, R232, R233), and the writes and events that ask for one. -/
namespace Sys2Proof.Machine

open Sys2Proof.Safety

section
variable (d : Dev) {n : Nat}

/-- A lane that acquires again hunts, and says that it lost its lock or its alignment. -/
def Dev.reacquired (d : Dev) (n st : Nat) : Dev :=
  ((d.hunt n).setRxState n 2).lostTold n (3 ≤ st) ((d.aligned n || decide (3 ≤ st)) = true)

theorem Dev.rxChange_eq : d.rxChange n =
    if 2 ≤ d.rxState n ∧ d.rxState n ≤ 5 then (d.profiled n).reacquired n (d.rxState n)
    else if d.rxState n = 6 then (d.profiled n).setRx n { (d.profiled n).rx n with back := 2 } else d.profiled n := rfl

theorem Changed.keepRx {d e f : Dev} (h : Changed d n e) (hp : f.rd (rxPage n) F.RXL_STAT_prof = e.rd (rxPage n) F.RXL_STAT_prof)
    (hx : profile (f.rx n) = profile (e.rx n)) : Changed d n f := h.keep (congrArg (· != 0) hp) hx

theorem Dev.profile_hunt : profile ((d.hunt n).rx n) = profile (d.rx n) := by
  rw [← profile_received, d.rx_hunt, ← profile_received (d.rx n)]
  rfl

theorem Dev.changed_rxChange (hn : n < 16) : Changed d n (d.rxChange n) := by
  obtain ⟨hc, -⟩ := d.changed_profiled hn
  rw [Dev.rxChange_eq]
  generalize d.profiled n = c at hc
  split
  · have hh := hc.keepRx (c.rd_hunt n hn F.RXL_STAT_prof (by decide)) c.profile_hunt
    have hs := hh.keepRx (f := (c.hunt n).setRxState n 2) (Dev.rd_setRxState _ _ _ F.RXL_STAT_prof (by decide))
      (by rw [Dev.rx_setRxState])
    exact hs.forwards hn (Dev.forwards_lostTold _ _ _ _)
  · split
    · exact hc.keepRx (Dev.rd_setRx _ _ _ _ _) (by rw [Dev.setRx_rx]; rfl)
    · exact hc

/-- A lane that receives acquires again (R230). -/
theorem Dev.rxChange_acquires (hn : n < 16) (h2 : 2 ≤ d.rxState n) (h5 : d.rxState n ≤ 5) :
    (d.rxChange n).rxState n = 2 ∧ (d.rxChange n).aligned n = false := by
  rw [Dev.rxChange_eq, if_pos ⟨h2, h5⟩]
  have hlost := Dev.forwards_lostTold (((d.profiled n).hunt n).setRxState n 2) n (3 ≤ d.rxState n)
    (((d.profiled n).aligned n || decide (3 ≤ d.rxState n)) = true)
  exact ⟨(hlost.rxState hn).trans (Dev.rxState_setRxState _ _ _ (by decide)),
    (hlost.aligned hn).trans ((Dev.aligned_setRxState _ _ _).trans (Dev.aligned_hunt _ _))⟩

theorem Dev.within_profiled (hn : n < 16) : Within LaneReg d (d.profiled n) := by
  have htoggled (c : Dev) (toggle : Bool) : Within LaneReg c (c.toggled n toggle) := by
    unfold Dev.toggled
    split
    · exact (Within.refl c).wrRx hn _ _ (by decide)
    · exact .refl c
  have hrecalled (c : Dev) (toggle : Bool) : Within LaneReg c (c.recalled n toggle) := by
    unfold Dev.recalled
    split
    · split
      · exact c.within_setRxEq hn _
      · exact .refl c
    · exact .refl c
  exact (((d.within_rxStore n).trans (htoggled _ _)).setRx _ _).trans (Dev.within_rxFollow _ n) |>.trans (hrecalled _ _)

theorem Dev.within_rxChange (hn : n < 16) : Within LaneReg d (d.rxChange n) := by
  have hc := d.within_profiled hn
  rw [Dev.rxChange_eq]
  split
  · exact ((hc.trans (Dev.within_hunt _ hn)).wrRx hn _ _ (by decide)).trans (Dev.within_lostTold _ hn _ _)
  · split
    · exact hc.setRx _ _
    · exact hc

theorem Dev.forwarding_rxChange (hn : n < 16) (r : Nat) : (d.rxChange n).forwarding r = d.forwarding r :=
  ((d.within_rxChange hn).sameActs fun off ho => not_laneReg 0x03 off ho (by decide) (by decide)).forwarding r

end

/-! ## What a write of RXL_ADAPT or RXL_SWITCH does -/

theorem blkOf_rx (lane : Fin 16) : blkOf (rxPage lane.val) = some .rxl := by
  revert lane
  decide

theorem wo_rxCommands (lane : Fin 16) : bitsWhere (rxPage lane.val) 0x410 Field.ky = 0 ∧ bitsWhere (rxPage lane.val) 0x418 Field.ky = 0 := by
  revert lane
  decide +kernel

section
variable (d old : Dev) {x : Wr}

theorem Dev.blockEffect_rx (lane : Fin 16) (hp : x.p = rxPage lane.val) : Dev.blockEffect old d x = d.rxEffect old lane x := by
  unfold Dev.blockEffect
  rw [hp, blkOf_rx, show rxPage lane.val - 0x30 = lane.val from Nat.add_sub_cancel_left _ _]

theorem Dev.rxEffect_restart (n : Nat) (ho : x.off = 0x410) (hr : x.cmd F.RXL_ADAPT_restart = 1) (h3 : 3 ≤ d.rxState n)
    (h5 : d.rxState n ≤ 5) : d.rxEffect old n x = d.rxAcquire n := by
  unfold Dev.rxEffect
  simp only [ho, hr, h3, h5, and_self, if_true, show decide (0x410 < 0x100) = false from rfl, Bool.and_false, Bool.false_and,
    Bool.false_eq_true, if_false]

theorem Dev.rxEffect_switch (n : Nat) (ho : x.off = 0x418) (hg : x.cmd F.RXL_SWITCH_go = 1) : d.rxEffect old n x = d.rxSwitch n := by
  unfold Dev.rxEffect
  simp only [ho, hg, if_true, show decide (0x418 < 0x100) = false from rfl, Bool.and_false, Bool.false_and, Bool.false_eq_true,
    if_false]

end

end Sys2Proof.Machine

namespace Sys2Proof.Safety

open Sys2Proof.Machine

theorem exec_adaptRestart (lane : Fin 16) (w : BusWrite) (s : State) :
    exec (.adaptRestart lane w) s = onDev s fun d => d.writeAt (rxPage lane.val) 0x410 w := rfl
theorem exec_profileSwitchGo (lane : Fin 16) (w : BusWrite) (s : State) :
    exec (.profileSwitchGo lane w) s = onDev s fun d => d.writeAt (rxPage lane.val) 0x418 w := rfl
theorem exec_profileSwitchEvent (lane : Fin 16) (s : State) :
    exec (.profileSwitchEvent lane) s = execProfileSwitchEvent lane s := rfl
theorem exec_switchApply (lane : Fin 16) (s : State) : exec (.switchApply lane) s = onLive s fun d =>
    if (d.rx lane.val).latched && !(d.rx lane.val).burst then (d.rxChange lane.val).fwdFollow lane.val else d := rfl

/-- An accepted restart takes the lane back to ACQUIRE (R228). -/
theorem performs_adaptRestart (lane : Fin 16) (w : BusWrite) (s : State) (ha : accepted s.dev (rxPage lane.val) 0x410 w = true)
    (hr : (seen s.dev (rxPage lane.val) 0x410 w).cmd F.RXL_ADAPT_restart = 1) (h3 : 3 ≤ s.dev.rxState lane.val)
    (h5 : s.dev.rxState lane.val ≤ 5) :
    Performs (.adaptRestart lane w) s ((s.dev.store (seen s.dev (rxPage lane.val) 0x410 w)).rxAcquire lane.val) := by
  have hne : addrOf (rxPage lane.val) 0x420 ≠ addrOf (rxPage lane.val) 0x410 := fun e => absurd (Nat.add_left_cancel e) (by decide)
  have hstate : (s.dev.store (seen s.dev (rxPage lane.val) 0x410 w)).rxState lane.val = s.dev.rxState lane.val :=
    congrArg F.RXL_STAT_state.get (s.dev.reg_store_other (seen s.dev (rxPage lane.val) 0x410 w) _ hne)
  exact performs_block (exec_adaptRestart lane w s) (by decide) (by decide) ha (by decide) (wo_rxCommands lane).1
    ((Dev.blockEffect_rx _ _ lane rfl).trans
      (Dev.rxEffect_restart _ _ _ rfl hr (hstate.symm ▸ h3) (hstate.symm ▸ h5)))

/-- An accepted switch is latched (R232). -/
theorem performs_profileSwitchGo (lane : Fin 16) (w : BusWrite) (s : State) (ha : accepted s.dev (rxPage lane.val) 0x418 w = true)
    (hg : (seen s.dev (rxPage lane.val) 0x418 w).cmd F.RXL_SWITCH_go = 1) :
    Performs (.profileSwitchGo lane w) s ((s.dev.store (seen s.dev (rxPage lane.val) 0x418 w)).rxSwitch lane.val) :=
  performs_block (exec_profileSwitchGo lane w s) (by decide) (by decide) ha (by decide) (wo_rxCommands lane).2
    ((Dev.blockEffect_rx _ _ lane rfl).trans (Dev.rxEffect_switch _ _ _ rfl hg))

/-- A delivered event latches a switch where they are enabled (R232). -/
theorem gives_profileSwitchEvent (lane : Fin 16) (s : State) (hs : s.dev.serving = true)
    (hin : s.dev.mw.inbox.contains (.rxSwitch lane.val) = true) (hen : s.dev.on (rxPage lane.val) F.RXL_SWITCH_en = true) :
    Gives (.profileSwitchEvent lane) s
      (Dev.rxSwitch { s.dev with mw := { s.dev.mw with inbox := s.dev.mw.inbox.erase (.rxSwitch lane.val) } } lane.val) := by
  refine gives_onLive (exec_profileSwitchEvent lane s) hs ?_
  simp only [s.dev.take_delivered _ hin]
  exact if_pos hen

/-- A latched change takes effect at a boundary outside a burst (R230, R232, R233). -/
theorem gives_switchApply (lane : Fin 16) (s : State) (hs : s.dev.serving = true) (hl : (s.dev.rx lane.val).latched = true)
    (hb : (s.dev.rx lane.val).burst = false) :
    Gives (.switchApply lane) s ((s.dev.rxChange lane.val).fwdFollow lane.val) :=
  gives_onLive (exec_switchApply lane s) hs (if_pos (by rw [hl, hb]; rfl))

end Sys2Proof.Safety
end

section
/-! SUPPORT. Blocks of a lane that is not yet ALIGNED (R224, R228, R235), and the statement about restarts, switches and alignment. -/
namespace Sys2Proof.Machine

open Sys2Proof.Safety

section
variable (d : Dev) (n : Nat)

/-! ## Tracking (R228) -/

theorem Dev.rd_rxTrack (ppm : Option (BitVec 16)) (f : Field) (hf : f.lo + f.w ≤ 32 ∧ (f.off ≠ 0x420 ∨ f.lo + f.w ≤ 16)) :
    (d.rxTrack n ppm).rd (rxPage n) f = d.rd (rxPage n) f := by
  unfold Dev.rxTrack
  split
  · split
    · exact d.rd_wr_apart _ F.RXL_STAT_ppm f _ hf.1 (by simp only [F.RXL_STAT_ppm]; omega)
    · rfl
  · rfl

theorem Dev.rx_rxTrack (ppm : Option (BitVec 16)) (m : Nat) : (d.rxTrack n ppm).rx m = d.rx m := by
  unfold Dev.rxTrack
  split
  · split
    · exact Dev.rx_wr ..
    · rfl
  · rfl

/-- A measured offset within the CDR's range shows. -/
theorem Dev.ppm_rxTrack (ppm : BitVec 16) (hp : ppmOk ppm = true) :
    (d.rxTrack n (some ppm)).rd (rxPage n) F.RXL_STAT_ppm = ppm.toNat := by
  unfold Dev.rxTrack
  simp only [hp, if_true]
  exact d.rd_wr_fit _ F.RXL_STAT_ppm _ (by decide) ppm.isLt

/-- A lane that tracks reads its blocks as before. -/
theorem Dev.reads_rxTrack (ppm : Option (BitVec 16)) :
    (∀ odd next bits, (d.rxTrack n ppm).lineBits n odd next bits = d.lineBits n odd next bits) ∧
    (∀ b, (d.rxTrack n ppm).blockOdd n b = d.blockOdd n b) ∧ (∀ bits, (d.rxTrack n ppm).rxPolarity n bits = d.rxPolarity n bits) ∧
    (d.rxTrack n ppm).on (rxPage n) F.RXL_POL_invert = d.on (rxPage n) F.RXL_POL_invert ∧
    (d.rxTrack n ppm).aligned n = d.aligned n ∧ (d.rxTrack n ppm).rxBlockBits n = d.rxBlockBits n := by
  have hon (f : Field) (hf : f.lo + f.w ≤ 32 ∧ (f.off ≠ 0x420 ∨ f.lo + f.w ≤ 16)) :
      (d.rxTrack n ppm).on (rxPage n) f = d.on (rxPage n) f := congrArg (· != 0) (d.rd_rxTrack n ppm f hf)
  have hframing := d.rd_rxTrack n ppm F.RXL_FRAME_framing (by decide)
  have hinvert := hon F.RXL_POL_invert (by decide)
  refine ⟨fun _ _ _ => ?_, fun _ => ?_, fun _ => ?_, hinvert, congrArg (· == 2) (d.rd_rxTrack n ppm F.RXL_STAT_align (by decide)), ?_⟩
  · unfold Dev.lineBits
    rw [hon F.RXL_FRAME_gray (by decide), d.rx_rxTrack]
  · unfold Dev.blockOdd
    rw [hframing, d.rx_rxTrack]
  · unfold Dev.rxPolarity
    rw [hinvert]
  · unfold Dev.rxBlockBits
    rw [hframing, d.rx_rxTrack]

/-! ## A block of a lane (R224) -/

/-- The bits of a block as the lane's framing reads them. -/
def Dev.blockLine (d : Dev) (n : Nat) (b : RxBlock) : List Bool :=
  d.lineBits n (d.blockOdd n b) (b.next != d.on (rxPage n) F.RXL_POL_invert) (d.rxPolarity n b.bits)

theorem Dev.rxTake_deaf (b : RxBlock) (h : d.rxState n < 3 ∨ d.rxState n = 6) : d.rxTake n b = (none, d) := if_pos h

/-- A block of a lane that receives and is not ALIGNED moves the aligner, and then at most the lane's forwarder. -/
theorem Dev.rxTake_unaligned {b : RxBlock} (h3 : 3 ≤ d.rxState n) (h5 : d.rxState n ≤ 5) (hlen : b.bits.length = d.rxBlockBits n)
    (hoff : d.alignOff n b.off = true) (ha : d.aligned n = false) : (d.rxTake n b).1 = none ∧
      Forwards ((d.rxTrack n b.ppm).alignStep n b.off (d.blockLine n b)) (d.rxTake n b).2 := by
  obtain ⟨hline, hodd, hpol, hinvert, haligned, -⟩ := d.reads_rxTrack n b.ppm
  have hodd' : d.blockOdd n { b with bits := d.rxPolarity n b.bits } = d.blockOdd n b := rfl
  unfold Dev.rxTake Dev.blockLine
  simp only [show ¬(d.rxState n < 3 ∨ d.rxState n = 6) by omega, if_false, hlen, hoff, ne_eq, not_true_eq_false, decide_false,
    Bool.not_true, Bool.or_self, Bool.false_eq_true, hpol, hodd, hodd', hinvert, hline, haligned, ha, Bool.false_or]
  generalize (d.rxTrack n b.ppm).alignStep n b.off _ = e
  have hfwd (c : RxBlock) (line : List Bool) : Forwards e
      (if e.on (rxPage n) F.RXL_FWD_STAT_fwd = true then (e.blockPull n).forwardBlock n c line else (false, e)).2 :=
    .iteSnd ((Dev.forwards_blockPull _ _).trans (Dev.forwards_forwardBlock _ _ _ _)) (.refl e)
  exact ⟨trivial, .ite (.bumpPage (by unfold cePage; omega) (by decide) (hfwd _ _)) (hfwd _ _)⟩

theorem Dev.rxCycle_alone {b : RxBlock} (h : (d.rxTake n b).1 = none) : d.rxCycle n ⟨b, []⟩ = (d.rxTake n b).2 := by
  unfold Dev.rxCycle
  simp only [List.map_nil, List.foldl_cons, List.foldl_nil, h, Option.toList_none, List.append_nil, List.isEmpty_nil, if_true]

/-! ## The aligner (R235) -/

/-- The marks or headers in a row that align a lane. -/
def alignRun (framing : Nat) : Nat := if framing = 1 then 3 else if framing = 2 then 64 else 32

section
variable {d n} {off : Nat} {line : List Bool} (hf : d.rd (rxPage n) F.RXL_FRAME_framing ≠ 0)
include hf

theorem Dev.alignStep_mark (ha : d.rd (rxPage n) F.RXL_STAT_align = 0)
    (hm : blockMark (d.rd (rxPage n) F.RXL_FRAME_framing) line = true) :
    d.alignStep n off line = (d.wr (rxPage n) F.RXL_STAT_align 1).setRx n { d.rx n with good := 0, off := off } := by
  unfold Dev.alignStep
  simp only [if_neg hf, ha, hm, if_true]

theorem Dev.alignStep_slip (ha : d.rd (rxPage n) F.RXL_STAT_align = 1)
    (hv : blockValid (d.rd (rxPage n) F.RXL_FRAME_framing) line = false) :
    d.alignStep n off line =
      (d.wr (rxPage n) F.RXL_STAT_align 0).setRx n { d.rx n with good := 0, off := ((d.rx n).off + 1) % d.rxBlockBits n } := by
  unfold Dev.alignStep
  simp only [if_neg hf, ha, hv, Bool.not_false, if_true]

theorem Dev.alignStep_good (ha : d.rd (rxPage n) F.RXL_STAT_align = 1)
    (hv : blockValid (d.rd (rxPage n) F.RXL_FRAME_framing) line = true)
    (hm : blockMark (d.rd (rxPage n) F.RXL_FRAME_framing) line = true) :
    d.alignStep n off line = if (d.rx n).good + 1 = alignRun (d.rd (rxPage n) F.RXL_FRAME_framing) then d.align n
      else d.setRx n { d.rx n with good := (d.rx n).good + 1 } := by
  unfold Dev.alignStep
  simp only [if_neg hf, ha, hv, hm, Bool.not_true, Bool.false_eq_true, if_false, if_true]
  rfl

end

end

end Sys2Proof.Machine

namespace Sys2Proof.Safety

open Sys2Proof.Machine

theorem exec_rxBlock (lane : Fin 16) (b : RxCycle) (s : State) :
    exec (.rxBlock lane b) s = onLive s fun d => d.rxCycle lane.val b := rfl

section
variable (lane : Fin 16) {b : RxBlock} {s : State} (hs : s.dev.serving = true) (h3 : 3 ≤ s.dev.rxState lane.val)
  (h5 : s.dev.rxState lane.val ≤ 5) (hlen : b.bits.length = s.dev.rxBlockBits lane.val)
  (hoff : s.dev.alignOff lane.val b.off = true)
include hs h3 h5 hlen hoff

/-- A block of a lane that receives and is not ALIGNED gives what its aligner makes of it, but for the lane's forwarder. -/
theorem gives_rxBlock (ha : s.dev.aligned lane.val = false) : ∃ e, Gives (.rxBlock lane ⟨b, []⟩) s e ∧
    Forwards ((s.dev.rxTrack lane.val b.ppm).alignStep lane.val b.off (s.dev.blockLine lane.val b)) e := by
  obtain ⟨hnone, hkeep⟩ := s.dev.rxTake_unaligned lane.val h3 h5 hlen hoff ha
  exact ⟨_, gives_onLive (exec_rxBlock lane ⟨b, []⟩ s) hs (s.dev.rxCycle_alone lane.val hnone), hkeep⟩

variable (hf : s.dev.rd (rxPage lane.val) F.RXL_FRAME_framing ≠ 0)
include hf

/-- A mark or header starts the count at its offset. -/
theorem gives_rxBlock_mark (ppm : BitVec 16) (h0 : s.dev.rd (rxPage lane.val) F.RXL_STAT_align = 0)
    (hm : blockMark (s.dev.rd (rxPage lane.val) F.RXL_FRAME_framing) (s.dev.blockLine lane.val b) = true) :
    ∃ e, Gives (.rxBlock lane ⟨b, []⟩) s e ∧ e.rd (rxPage lane.val) F.RXL_STAT_align = 1 ∧ (e.rx lane.val).off = b.off ∧
      (e.rx lane.val).good = 0 ∧
      (b.ppm = some ppm → ppmOk ppm = true → e.rd (rxPage lane.val) F.RXL_STAT_ppm = ppm.toNat) := by
  have hframing := s.dev.rd_rxTrack lane.val b.ppm F.RXL_FRAME_framing (by decide)
  have halign := s.dev.rd_rxTrack lane.val b.ppm F.RXL_STAT_align (by decide)
  obtain ⟨e, hgives, hkeep⟩ := gives_rxBlock lane hs h3 h5 hlen hoff (congrArg (· == 2) h0)
  rw [Dev.alignStep_mark (hframing.symm ▸ hf) (halign.trans h0) (hframing.symm ▸ hm)] at hkeep
  have hset := (hkeep.rx lane.val).trans (congrArg received (Dev.setRx_rx _ _ _))
  refine ⟨e, hgives, ?_, congrArg Rx.off hset, congrArg Rx.good hset, fun hb hp => ?_⟩
  · rw [hkeep.rd lane.isLt F.RXL_STAT_align (by decide), Dev.rd_setRx]
    exact Dev.rd_wr_fit _ _ _ _ (by decide) (by decide)
  · rw [hkeep.rd lane.isLt F.RXL_STAT_ppm (by decide), Dev.rd_setRx, Dev.rd_wr_apart _ _ _ _ _ (by decide) (by decide), hb]
    exact s.dev.ppm_rxTrack lane.val ppm hp

/-- An invalid block has the aligner slip by a bit. -/
theorem gives_rxBlock_slip (h1 : s.dev.rd (rxPage lane.val) F.RXL_STAT_align = 1)
    (hv : blockValid (s.dev.rd (rxPage lane.val) F.RXL_FRAME_framing) (s.dev.blockLine lane.val b) = false) :
    ∃ e, Gives (.rxBlock lane ⟨b, []⟩) s e ∧ e.rd (rxPage lane.val) F.RXL_STAT_align = 0 ∧
      (e.rx lane.val).off = ((s.dev.rx lane.val).off + 1) % s.dev.rxBlockBits lane.val := by
  have hframing := s.dev.rd_rxTrack lane.val b.ppm F.RXL_FRAME_framing (by decide)
  have halign := s.dev.rd_rxTrack lane.val b.ppm F.RXL_STAT_align (by decide)
  obtain ⟨-, -, -, -, -, hbits⟩ := s.dev.reads_rxTrack lane.val b.ppm
  obtain ⟨e, hgives, hkeep⟩ := gives_rxBlock lane hs h3 h5 hlen hoff (congrArg (· == 2) h1)
  rw [Dev.alignStep_slip (hframing.symm ▸ hf) (halign.trans h1) (hframing.symm ▸ hv), Dev.rx_rxTrack, hbits] at hkeep
  refine ⟨e, hgives, ?_, congrArg Rx.off ((hkeep.rx lane.val).trans (congrArg received (Dev.setRx_rx _ _ _)))⟩
  rw [hkeep.rd lane.isLt F.RXL_STAT_align (by decide), Dev.rd_setRx]
  exact Dev.rd_wr_fit _ _ _ _ (by decide) (by decide)

/-- A valid mark or header counts, and the last of its run aligns the lane. -/
theorem gives_rxBlock_good (h1 : s.dev.rd (rxPage lane.val) F.RXL_STAT_align = 1)
    (hv : blockValid (s.dev.rd (rxPage lane.val) F.RXL_FRAME_framing) (s.dev.blockLine lane.val b) = true)
    (hm : blockMark (s.dev.rd (rxPage lane.val) F.RXL_FRAME_framing) (s.dev.blockLine lane.val b) = true) :
    ∃ e, Gives (.rxBlock lane ⟨b, []⟩) s e ∧
      if (s.dev.rx lane.val).good + 1 = alignRun (s.dev.rd (rxPage lane.val) F.RXL_FRAME_framing) then e.aligned lane.val = true
      else e.rd (rxPage lane.val) F.RXL_STAT_align = 1 ∧ (e.rx lane.val).good = (s.dev.rx lane.val).good + 1 := by
  have hframing := s.dev.rd_rxTrack lane.val b.ppm F.RXL_FRAME_framing (by decide)
  have halign := s.dev.rd_rxTrack lane.val b.ppm F.RXL_STAT_align (by decide)
  obtain ⟨e, hgives, hkeep⟩ := gives_rxBlock lane hs h3 h5 hlen hoff (congrArg (· == 2) h1)
  rw [Dev.alignStep_good (hframing.symm ▸ hf) (halign.trans h1) (hframing.symm ▸ hv) (hframing.symm ▸ hm), Dev.rx_rxTrack,
    hframing] at hkeep
  refine ⟨e, hgives, ?_⟩
  split_ifs with hrun
  · rw [if_pos hrun] at hkeep
    exact (hkeep.aligned lane.isLt).trans (Dev.aligned_align _ _)
  · rw [if_neg hrun] at hkeep
    refine ⟨?_, congrArg Rx.good ((hkeep.rx lane.val).trans (congrArg received (Dev.setRx_rx _ _ _)))⟩
    rw [hkeep.rd lane.isLt F.RXL_STAT_align (by decide), Dev.rd_setRx]
    exact halign.trans h1

end

/-- Settles O46: a restart and a change of profile have the lane acquire again, and a block of a lane that is not ALIGNED does what
the aligner's state and the block's mark or header ask for. -/
theorem receiverSwitches : Obligations.ReceiverSwitches := by
  intro s lane w b ppm d n p f line full
  have hn : n < 16 := lane.isLt
  refine ⟨fun ha hr h3 h5 => ?_, fun ha hg => ?_, fun hs hin hen => ?_, fun hs hl hb => ?_, fun hs h3 h5 hlen hoff hf => ?_,
    fun hs h => ?_⟩
  · obtain ⟨hstate, haligned, -⟩ := Dev.rxAcquire_acquires (d.store (seen d p 0x410 w)) hn
    exact ⟨_, performs_adaptRestart lane w s ha hr h3 h5, hstate, haligned⟩
  · refine ⟨_, performs_profileSwitchGo lane w s ha hg, (Dev.setRx_rx _ _ _).trans ?_⟩
    rw [Dev.rx_congr (Dev.store_rxs d _)]
  · exact ⟨_, gives_profileSwitchEvent lane s hs hin hen, Dev.setRx_rx _ _ _, fun _ _ => rfl, rfl⟩
  · have hc := (d.changed_rxChange hn).forwards hn (Dev.forwards_fwdFollow _ n)
    have hrx := hc.rx
    simp only [profile, Prod.mk.injEq] at hrx
    obtain ⟨hlatched, htoggle, hrate, hpam⟩ := hrx
    refine ⟨_, gives_switchApply lane s hs hl hb, hlatched, htoggle, hc.prof, hrate, hpam, fun h2 h5 => ?_, fun hfwd => ?_⟩
    · obtain ⟨hstate, haligned⟩ := d.rxChange_acquires hn h2 h5
      exact ⟨((Dev.forwards_fwdFollow _ n).rxState hn).trans hstate, ((Dev.forwards_fwdFollow _ n).aligned hn).trans haligned⟩
    · exact Dev.fwdFollow_follows _ n ((d.forwarding_rxChange hn n).trans hfwd)
  · exact ⟨gives_rxBlock_mark lane hs h3 h5 hlen hoff hf ppm, gives_rxBlock_slip lane hs h3 h5 hlen hoff hf,
      gives_rxBlock_good lane hs h3 h5 hlen hoff hf⟩
  · have htake := d.rxTake_deaf n b h
    exact gives_onLive (exec_rxBlock lane ⟨b, []⟩ s) hs
      ((d.rxCycle_alone n (congrArg Prod.fst htake)).trans (congrArg Prod.snd htake))

end Sys2Proof.Safety
end
